-- ==== Sys2Proof/Word.lean ====
section
/-! DEFINITION. Plain arithmetic on the numbers the manual works with: wrapping at a width, saturating counts, signed
readings of a bit pattern, serial-number comparison (R24, R27, R66, R220) and durations in the model's time unit. -/

namespace Sys2Proof

/-- A 64-bit bit pattern kept as the number it spells. -/
abbrev Word64 := Nat

/-- `n` cut to its low `w` bits. -/
def wrap (w n : Nat) : Nat := n % 2 ^ w

/-- `a + b` held at the largest number of `w` bits (the manual's "saturates"). -/
def satAdd (w a b : Nat) : Nat := min (a + b) (2 ^ w - 1)

/-- Bits `[lo + w - 1 : lo]` of `n`. -/
def bitField (lo w n : Nat) : Nat := n / 2 ^ lo % 2 ^ w

/-- `n` with bits `[lo + w - 1 : lo]` replaced by the low `w` bits of `v`. -/
def putField (lo w n v : Nat) : Nat :=
  n - bitField lo w n * 2 ^ lo + wrap w v * 2 ^ lo

/-- Bit `i` of `n`. -/
def bitOf (i n : Nat) : Bool := n / 2 ^ i % 2 == 1

/-- The number of a Boolean: 1 for true. -/
def bn (b : Bool) : Nat := if b then 1 else 0

/-- The two's complement reading of the low `w` bits of `n`. -/
def toSigned (w n : Nat) : Int :=
  if wrap w n < 2 ^ (w - 1) then (wrap w n : Int) else (wrap w n : Int) - (2 ^ w : Int)

/-- The `w`-bit two's complement pattern of `i`. -/
def ofSigned (w : Nat) (i : Int) : Nat := (i % (2 ^ w : Int)).toNat

/-- `i` held within the signed range of `w` bits, as a pattern (R27: "saturated to 32 bits"). -/
def satSigned (w : Nat) (i : Int) : Nat :=
  ofSigned w (max (-(2 ^ (w - 1) : Int)) (min i ((2 ^ (w - 1) : Int) - 1)))

/-- `(a - b) mod 2^w`. -/
def diffMod (w a b : Nat) : Nat := (wrap w a + 2 ^ w - wrap w b) % 2 ^ w

/-- R24: the target `t` is reached by the 64-bit value `v`. -/
def reached (v t : Nat) : Bool := decide (diffMod 64 v t < 2 ^ 63)

/-- Serial-number comparison over `w` bits: `a` is later than `b` (R27, R66, R220). -/
def laterMod (w a b : Nat) : Bool := decide (diffMod w a b ≠ 0 ∧ diffMod w a b < 2 ^ (w - 1))

/-- Floor of `a / b` on integers with a positive divisor. -/
def floorDiv (a : Int) (b : Nat) : Int := a / (b : Int)

/-- Durations in the model's unit of time, one quarter of a nanosecond (R25: the finest grain the manual records). -/
def ns (n : Nat) : Nat := 4 * n
def us (n : Nat) : Nat := 4000 * n
def msec (n : Nat) : Nat := 4000000 * n
def sec (n : Nat) : Nat := 4000000000 * n

/-- The first multiple of `k` at or after `n` (R30: the start of a tick). -/
def roundUp (k n : Nat) : Nat := (n + k - 1) / k * k

/-- The position of the leading one of `n`, 0 for 0 (log2 histograms, R472). -/
def log2Bin (n : Nat) : Nat := min (Nat.log2 n) 31

end Sys2Proof
end

