-- ==== Sys2Proof/Machine/Types.lean ====
section
/-! DEFINITION. The data the block works with: sparse tables in one canonical form, modes, slots, directory entries,
forces, capture entries, recorder records, mirror records. Plain data throughout. -/

namespace Sys2Proof.Machine

/-- A sparse table: keys strictly rising, no entry equal to the default value, which is what an unlisted key reads as. -/
abbrev Tab (α : Type) := List (Nat × α)

/-- The value at key `k`. -/
def Tab.get {α : Type} [Inhabited α] : Tab α → Nat → α
  | [], _ => default
  | (j, v) :: t, k => if j = k then v else Tab.get t k

/-- The table without an entry at `k`. -/
def Tab.erase {α : Type} : Tab α → Nat → Tab α
  | [], _ => []
  | (j, v) :: t, k => if j = k then Tab.erase t k else (j, v) :: Tab.erase t k

/-- The table with `v` listed at `k`. -/
def Tab.insert {α : Type} : Tab α → Nat → α → Tab α
  | [], k, v => [(k, v)]
  | (j, w) :: t, k, v =>
    if j = k then (k, v) :: t else if k < j then (k, v) :: (j, w) :: t else (j, w) :: Tab.insert t k v

/-- The table that reads `v` at `k` and is unchanged elsewhere; writing the default value removes the entry. -/
def Tab.set {α : Type} [Inhabited α] [DecidableEq α] (t : Tab α) (k : Nat) (v : α) : Tab α :=
  if v = default then Tab.erase t k else Tab.insert t k v

/-- The table with the value at `k` changed by `f`. -/
def Tab.upd {α : Type} [Inhabited α] [DecidableEq α] (t : Tab α) (k : Nat) (f : α → α) : Tab α :=
  Tab.set t k (f (Tab.get t k))

/-- The listed keys, rising. -/
def Tab.keys {α : Type} (t : Tab α) : List Nat := t.map Prod.fst

/-- The canonical form: keys strictly rising from above `lo`, no entry equal to the default. -/
def Tab.wfFrom {α : Type} [Inhabited α] [DecidableEq α] : Option Nat → Tab α → Bool
  | _, [] => true
  | lo, (k, v) :: t =>
    (match lo with | none => true | some l => decide (l < k)) && decide (v ≠ default) && Tab.wfFrom (some k) t

/-- The canonical form of a table. -/
def Tab.wf {α : Type} [Inhabited α] [DecidableEq α] (t : Tab α) : Bool := Tab.wfFrom none t

/-- The twelve modes of R476. -/
inductive Mode where
  | boot | off | recovery | load | commission | sync | standby | active | degraded | hold | service | halt
  deriving DecidableEq, Repr, Inhabited

/-- The code of SYS.MODE (R476). -/
def Mode.code : Mode → Nat
  | .off => 0 | .boot => 1 | .recovery => 2 | .load => 3 | .commission => 4 | .sync => 5
  | .standby => 6 | .active => 7 | .degraded => 8 | .hold => 9 | .service => 10 | .halt => 11

/-- The severities of R458. -/
inductive Severity where
  | info | warning | fault | safety
  deriving DecidableEq, Repr, Inhabited

/-- The severity bits of CODEW (R458). -/
def Severity.code : Severity → Nat
  | .info => 0 | .warning => 1 | .fault => 2 | .safety => 3

/-- One logical recorder record (R458). `param` holds up to twelve packed bytes; `cont` says that a CONTINUED record
follows it with bytes 6 to 11 (R460). `recno` is 0 until the record enters the Caddy ring. -/
structure Record where
  recno : Nat
  optime : Nat
  repeats : Nat
  pcyc : Nat
  seq : Nat
  source : Nat
  code : Nat
  sev : Severity
  injected : Bool
  last : Nat
  param : Nat
  cont : Bool
  deriving DecidableEq, Repr, Inhabited

/-- An entry of the retirement map (R468), with the CLEAR_PENDING mark of R469. -/
structure RetEntry where
  kind : Nat
  index : Nat
  optime : Nat
  pcyc : Nat
  code : Nat
  clearPending : Bool
  deriving DecidableEq, Repr, Inhabited

/-- One slot of the image (R55, R57). `flag7` is the reserved bit, 0 but for a flipped word (R285). -/
structure Slot where
  value : Nat
  seq : Nat
  source : Nat
  qual : Nat
  detail : Nat
  type : Nat
  aged : Bool
  changed : Bool
  stamped : Bool
  mirrored : Bool
  flag7 : Bool
  deriving DecidableEq, Repr, Inhabited

/-- Quality codes of R58. -/
def Quality.good : Nat := 0
def Quality.uncertain : Nat := 1
def Quality.bad : Nat := 2
def Quality.substitute : Nat := 3
def Quality.forced : Nat := 4
def Quality.poison : Nat := 5
def Quality.stale : Nat := 6

/-- A directory entry (R54): value type, owner, mirroring, stamp base, remote-operable, safety, staleness limit in ms,
and the configured substitute value of a station input (R202). -/
structure DirEntry where
  type : Nat
  owner : Nat
  mirrored : Bool
  stampBase : Option Nat
  remoteOp : Bool
  safety : Bool
  staleMs : Nat
  fixed : Nat
  deriving DecidableEq, Repr, Inhabited

/-- An entry of the force table with its RAW record (R81, R82) and its place in the table (R75). -/
structure Force where
  place : Nat
  value : Nat
  port : Nat
  rawValue : Nat
  rawQual : Nat
  rawDetail : Nat
  rawSeq : Nat
  deriving DecidableEq, Repr, Inhabited

/-- A capture queue entry (R73). -/
structure CapEntry where
  seq64 : Nat
  stamp : Nat
  signal : Nat
  epoch : Nat
  base : Nat
  subNs : Nat
  late : Bool
  queueLoss : Bool
  measure : Bool
  source : Nat
  deriving DecidableEq, Repr, Inhabited

/-- A MOVE sample that waits for its grant (R63, R139): the sample, whether the firing was LATE, and its instant. -/
structure HeldMove where
  value : Nat
  late : Bool
  at_ : Nat
  deriving DecidableEq, Repr, Inhabited

/-- A field that a read clears, in the fabric cycle of its latest event (R20): the cycle plus one, the value before that cycle, and what the
cycle's events alone make of it. -/
structure CycleEvents where
  cycle : Nat
  before : Nat
  fresh : Nat
  deriving DecidableEq, Repr, Inhabited

/-- The SIGNAL field of an entry that belongs to no slot (R73). -/
def noSignal : Nat := 0x1FFFF

/-- What a source's own sequence has shown so far (R69 to R72): whether `last` is set, the last accepted sequence, and
the run of discarded deliveries (its last sequence and its length). -/
structure SrcSeq where
  valid : Bool
  last : Nat
  runSeq : Nat
  runLen : Nat
  deriving DecidableEq, Repr, Inhabited

/-- The body of a mirror record (R223), with the poison flags of the words it copies (R281): `marks` is a mask of the words of a slot or an
entry, and the words of a line or a chunk carry theirs at bit 64. -/
inductive MBody where
  | hb (flags counter epoch mseq variant proto bumpless : Nat)
  | ack (applied staged : Nat)
  | commit (task block slots lines : Nat)
  | slot (sig : Nat) (s : Slot) (marks : Nat)
  | line (addr : Nat) (data : List Nat)
  | grant (mseq : Nat)
  | ingress (source : Nat) (slots : List (Nat × Nat × Nat))
  | capture (e : CapEntry) (marks : Nat)
  | force (sig : Nat) (set : Bool) (value port : Nat)
  | taskst (task state cause ovrrun readPos : Nat)
  | regw (addr value : Nat)
  | cellw (cell off value : Nat)
  | safety (bytes : List Nat)
  | time (pb1 epoch1 pb12 epoch12 linkTime : Nat)
  | step (base value epoch cause : Nat)
  | resign (epoch mseq : Nat)
  | bulk (addr : Nat) (data : List Nat)
  | struct (imageId : Nat) (last : Bool)
  deriving DecidableEq, Repr, Inhabited

/-- A mirror record: header flags SYNC, LAST and BULK, MSEQ, SEQ64 and body (R222). -/
structure MRec where
  sync : Bool
  last : Bool
  bulk : Bool
  mseq : Nat
  seq64 : Nat
  body : MBody
  deriving DecidableEq, Repr, Inhabited

/-- What comes with a record beside its body (R222, R281): MSEQ, SEQ64, SYNC, LAST and BULK, and the sideband poison flags of the words of a
slot or a capture entry. -/
structure RecHead where
  mseq : Nat
  seq64 : Nat
  sync : Bool
  last : Bool
  bulk : Bool
  marks : Nat
  deriving DecidableEq, Repr, Inhabited

/-- A record with its body. -/
def RecHead.record (h : RecHead) (b : MBody) : MRec := { sync := h.sync, last := h.last, bulk := h.bulk, mseq := wrap 32 h.mseq, seq64 := wrap 64 h.seq64, body := b }

/-- The shares of the mirror queue (R226). -/
inductive Share where
  | sync | ingress | async | bulk
  deriving DecidableEq, Repr, Inhabited

/-- A record that waits in the mirror queue for its acknowledgement: size in bytes, share, instant sent, and the task whose
commit set it closes. -/
structure MQEntry where
  mseq : Nat
  size : Nat
  share : Share
  sentAt : Nat
  task : Option Nat
  deriving DecidableEq, Repr, Inhabited

/-- A prepared set (R225): the MSEQ of its last record and its records in order. -/
structure PSet where
  mseq : Nat
  recs : List MRec
  deriving DecidableEq, Repr, Inhabited

/-- An invocation of an ERROR task (R103, R113): the failed task (none when the cause is not a task), cause and detail. -/
structure Invocation where
  failed : Option Nat
  cause : Nat
  detail : Nat
  deriving DecidableEq, Repr, Inhabited

/-- One slot of a task's view as the input read delivered it (R80, R101). -/
structure ViewSlot where
  sig : Nat
  value : Nat
  seq : Nat
  source : Nat
  qual : Nat
  detail : Nat
  poison : Bool
  deriving DecidableEq, Repr, Inhabited

/-- A wait of PWAIT (R119): the base, the target, the given epoch and the instant on PB0 at which the timeout ends it. -/
structure PWaitSt where
  base : Nat
  target : Nat
  epoch : Option Nat
  deadline : Nat
  deriving DecidableEq, Repr, Inhabited

/-- Where a task's cycle stands (R101, R120). -/
inductive CyclePhase where
  | none | reading | running | committing
  deriving DecidableEq, Repr, Inhabited

/-- What a task declares in the structure image beside its registers (R77, R101, R102, R105): inputs and outputs in list
order, capture subscriptions, the state area in DRAM (64-byte line addresses) and whether the task is mirrored. -/
structure TaskCfg where
  inputs : List Nat
  outputs : List Nat
  cqSigs : List Nat
  cqCells : List Nat
  mirrored : Bool
  stateBase : Nat
  stateLines : Nat
  viewAddr : Nat
  deriving DecidableEq, Repr, Inhabited

/-- What the structure image says of a cell beside its descriptor (R131, R141, R143): the number of the pin or net it drives,
the owner task of its run-time fields, and the wake-triggered task its block interrupt counts toward. -/
structure CellCfg where
  dest : Nat
  owner : Option Nat
  wake : Option Nat
  deriving DecidableEq, Repr, Inhabited

/-- A station input segment layout and its outputs (R184, R185): the input signals and output signals in slot order. -/
structure StationCfg where
  inputs : List Nat
  outputs : List Nat
  deriving DecidableEq, Repr, Inhabited

/-- An input pair's parameters (R354). -/
structure SafePair where
  use : Nat
  mode : Nat
  disc : Nat
  outs : Nat
  deriving DecidableEq, Repr, Inhabited

/-- A safety function's parameters (R354). -/
structure SafeFun where
  type : Nat
  enc : Nat
  outs : Nat
  act : Nat
  win : Nat
  actdly : Nat
  lim1 : Nat
  lim2 : Nat
  cpt : Nat
  xtol : Nat
  deriving DecidableEq, Repr, Inhabited

/-- A safety output's parameters (R354). -/
structure SafeOut where
  use : Nat
  restart : Nat
  tpw : Nat
  tpp : Nat
  req : Nat
  deriving DecidableEq, Repr, Inhabited

/-- The SAFETY section (R354) with its check value (R356). -/
structure SafeParams where
  pairs : Tab SafePair
  funs : Tab SafeFun
  outs : Tab SafeOut
  status : Nat
  statusEn : Bool
  check : Nat
  deriving DecidableEq, Repr, Inhabited

/-- A remote-operable signal (R427): its limits and step limit as REAL64 patterns. -/
structure RemoteLim where
  sig : Nat
  lo : Nat
  hi : Nat
  maxStep : Nat
  deriving DecidableEq, Repr, Inhabited

/-- What a full structure image declares (R251), as the module holds it: build number, hash (R249), optional units and versions of
the header (R247), the identifiers of its sections (R248), the register settings of code N, the directory, the tasks with the identity of their CODE entries, the
STATE_INIT flags and initial state words (by DRAM word), cells, stations, the colour map, safety parameters, acknowledge and
remote-operable signals of PORTS, and the public key of KEYS. -/
structure Image where
  id : Nat
  hash : Nat
  units : Nat
  rtmin : Nat
  mproto : Nat
  sects : List Nat
  settings : Tab Nat
  dir : Tab (Option DirEntry)
  tasks : Tab TaskCfg
  code : Tab Nat
  stateInit : Tab Bool
  init : Tab Nat
  cells : Tab CellCfg
  stations : Tab StationCfg
  colours : Tab Nat
  safety : SafeParams
  acks : List Nat
  remote : List RemoteLim
  key : Option Nat
  deriving DecidableEq, Repr, Inhabited

/-- A Dreave container as it arrives (R246 to R250): KIND, the key identifier of its signature block, the key under which the
signature verifies, the hashes of a DELTA, the image it holds or produces, and the failures of R252 that its bytes show or that lie in
section content the model does not carry, as (reason, section identifier, item index). -/
structure Container where
  kind : Nat
  keyId : Nat
  signer : Option Nat
  baseHash : Nat
  resultHash : Nat
  image : Image
  faults : List (Nat × Nat × Nat)
  deriving DecidableEq, Repr, Inhabited

/-- A firmware image (R435 to R437): its header, whether its layout holds, whether its key has the fused digest, whether its signature
verifies, and whether the slot read back as written. Versions are major × 2^32 + minor × 2^16 + patch. -/
structure FwImage where
  part : Nat
  version : Nat
  mproto : Nat
  psfmt : Nat
  psmigMin : Nat
  compat : List (Nat × Nat × Nat)
  layoutOk : Bool
  rootOk : Bool
  signed : Bool
  deriving DecidableEq, Repr, Inhabited

/-- What XFER_END finds in the content of its session beyond its header and tables, which the received bytes give: what a structure
container declares and whether its signature verifies, whether a firmware image's key and signature do, or nothing. -/
inductive Content where
  | container (c : Container)
  | firmware (f : FwImage)
  | plain
  deriving DecidableEq, Repr, Inhabited

/-- Who asks (R417): the arrival port (0 ENG, 1 PLANT A, 2 PLANT B, 3 CELL), CLIENT, SEQ and SESSION of the header. -/
structure Req where
  port : Nat
  client : Nat
  seq : Nat
  session : Nat
  deriving DecidableEq, Repr, Inhabited

/-- A command's write that waits for its grant (R63, R416): the fabric cycle of its request, the arrival port, the signal and the value. -/
structure HeldWrite where
  cycle : Nat
  port : Nat
  sig : Nat
  value : Nat
  deriving DecidableEq, Repr, Inhabited

/-- The open session (R425): kind (1 STRUCT, 2 FW, 3 KEY, 4 OLC), port, client, identity, total length, the part word or key
position of its open, the bytes received and the instant of its latest traffic. -/
structure Session where
  kind : Nat
  port : Nat
  client : Nat
  id : Nat
  total : Nat
  arg : Nat
  got : Tab Nat
  lastAt : Nat
  deriving DecidableEq, Repr, Inhabited

/-- A received frame as a FIFO or a high-priority buffer holds it (R374). -/
structure CanEntry where
  idw : Nat
  dlc : Nat
  elem : Nat
  epoch : Nat
  stamp : Nat
  seq64 : Nat
  data : List Nat
  deriving DecidableEq, Repr, Inhabited

/-- How a frame of the port's own failed (R381, R383): the code LEC takes, 0 for lost arbitration, and the loop delay the port measured in the
frame, if it reached the edge that is measured (R372). -/
structure TxFault where
  lec : Nat
  tdcv : Option Nat
  deriving DecidableEq, Repr, Inhabited

/-- The content of a transmit buffer or queue entry (R378): IDW, DLC, DATA, and the start-of-frame stamp of a successful sending. -/
structure CanFrame where
  idw : Nat
  dlc : Nat
  data : List Nat
  stamp : Nat
  deriving DecidableEq, Repr, Inhabited

/-- An Announce message a track holds (R394): its port, its sender, the data set of its grandmaster, the steps removed, its
logMessageInterval, the timescale flag, the UTC word in the layout of PTP.UTC and the instant it arrived. -/
structure Ann where
  port : Nat
  sender : Nat
  gm : Nat
  prio1 : Nat
  cls : Nat
  acc : Nat
  var : Nat
  prio2 : Nat
  steps : Nat
  logInt : Int
  ptpts : Bool
  utc : Nat
  at_ : Nat
  deriving DecidableEq, Repr, Inhabited

/-- A signed response or frame the unit sends. Every observable emission of the block is one of these (newest first in
`State.out`). -/
inductive Out where
  | mirror (r : MRec)
  | heartbeat2 (b0 counter epochLow crc : Nat)
  | releasePin (pin : Nat)
  | claim (epoch : Nat)
  | latchRefresh
  | latchRelease
  | ringFrame (ring : Nat) (rev : Bool) (bytes : List Nat)
  | forward (ring : Nat) (rev : Bool) (hops : Nat)
  | coreResult (block rd : Nat)
  | entry (task : Nat) (args : List Nat)
  | response (port client seq op session status : Nat) (items : List (Nat × List Nat))
  | canFrame (port id : Nat) (data : List Nat)
  | ptp (track kind : Nat) (data : List Nat)
  | hart (channel : Nat) (data : List Nat)
  | arpReply (port addr : Nat)
  | icmpReply (port : Nat) (data : List Nat)
  | readData (master addr value : Nat)
  | moduleReset
  | memory (master addr value : Nat) (poison denied : Bool)
  deriving DecidableEq, Repr, Inhabited

/-- An entry of the client table (R420): H, the bitmap of the 63 sequences below it (bit j: H − 1 − j), and the responses held, newest
first. -/
structure Client where
  id : Nat
  high : Nat
  seen : Nat
  resp : List (Nat × Out)
  deriving DecidableEq, Repr, Inhabited

end Sys2Proof.Machine
end

