-- ==== Sys2Proof/Syntax.lean ====
section
/-! DEFINITION. The commands of the block: one constructor per row of spec/opcode_table.json, in the table's order. The first operand `t`
is the instant at which the command happens, in quarter nanoseconds of PB0; the others are what the command brings with it. The docstrings
cite the rule that gives the row its meaning. -/

namespace Sys2Proof

open Sys2Proof.Machine

/-- The commands (spec/opcode_table.json). -/
inductive Instr where
  /-- R26: A read of PHASE.BASEn_VAL_LO latches VAL_HI, EPOCH and STATUS of that base for the reading master. -/
  | baseValLoRead (t master base : Nat)
  /-- R41: The mains tracking loop locks or re-locks, and the angle error is slewed out or removed by a step. -/
  | mainsLock (t m angle freq rms perr : Nat)
  /-- R39: The AC sense input is lost for 2 consecutive cycles, and the base enters HOLDOVER. -/
  | mainsLoss (t m : Nat) (freqOut : Bool)
  /-- R39: After 2 s in HOLDOVER the mains base becomes UNLOCKED. -/
  | mainsHoldoverTimeout (t m : Nat)
  /-- R44: A counted quadrature edge updates the count and the velocity estimate, or counts an illegal transition. -/
  | encoderEdge (t e : Nat) (forward illegal a b : Bool)
  /-- R43: A Z edge aligns the shaft base, checks it against ENCe_ZOFF, or brings the base out of FAULT. -/
  | encoderZEdge (t e : Nat) (forward : Bool)
  /-- R44: No edge arrives within the stall time, and the velocity estimate falls to zero. -/
  | encoderStall (t e : Nat)
  /-- R309: A differential pair stays below 200 mV for 10 µs, and the base enters FAULT. -/
  | encoderSignalLoss (t e : Nat)
  /-- R44: The encoder signal returns, and under IGNORE the base leaves FAULT at once by a step of zero size. -/
  | encoderSignalReturn (t e : Nat)
  /-- R49: A write of VIRTv_OFF_HI applies the staged 64-bit offset as a step of the virtual base. -/
  | virtOffHiWrite (t master v value : Nat)
  /-- R49: A permitted write of VIRTv_SRC, NUM or DEN that changes the virtual base's value steps that base. -/
  | virtSettingWrite (t master v which value : Nat)
  /-- R49: A permitted write of MAINSm_OFFSET steps its mains base, with the cause setting write. -/
  | mainsOffsetWrite (t master m value : Nat)
  /-- R65: Once every second the active unit writes the current module sequence to the Caddy. -/
  | sequenceSave (t : Nat)
  /-- R67: The image engine visits slots, sets AGED on slots far behind the module sequence and updates AGEDCNT. -/
  | ageingSweep (t : Nat)
  /-- R79: The staleness limit of a signal runs out, and a module write gives it quality STALE with detail 0xB. -/
  | staleMark (t sig : Nat)
  /-- R87: A read of IMAGE.SEQ_LO latches SEQ_HI for the reading master. -/
  | imageSeqLoRead (t master : Nat)
  /-- R87: A write of IMAGE.PROBE_ID copies the slot, or its RAW record, into the master's probe latch. -/
  | probeIdWrite (t master sig : Nat) (raw : Bool)
  /-- R98: The core dispatcher resumes or starts the highest-class task whose cost the block account covers. -/
  | dispatch (t block : Nat)
  /-- R101: The view is filled with inputs and capture entries, S is taken, and the core enters the task. -/
  | inputReadDone (t task : Nat)
  /-- R119: PWAIT waits until a base reaches a target, or returns a status at once. -/
  | pwait (t block pc word rs1 rs2 energy : Nat)
  /-- R119: The wait of PWAIT ends by reaching the target, by timeout or by a step, and the task becomes resumable. -/
  | pwaitEnd (t task : Nat)
  /-- R120: SCOMMIT ends the cycle with its flags, and the commit engine starts the commit. -/
  | scommit (t block pc word flags energy : Nat)
  /-- R106: The partner has not acknowledged a SYNC commit within 20 µs, so the commit proceeds and the pair reports NOT BUMPLESS. -/
  | syncAckTimeout (t task : Nat)
  /-- R77: A commit is granted and copied, and its outputs, state lines and staged requests become visible. -/
  | commitComplete (t task : Nat)
  /-- R109: One ceiling interval after an overrun the skip ends, and the task may become ready. -/
  | skipEnd (t task : Nat)
  /-- R110: A cycle reaches 4 × its ceiling before SCOMMIT, and it is aborted and the task faults. -/
  | hang (t task energy : Nat)
  /-- R121: BYIELD yields the core with an energy estimate for the remaining work. -/
  | byield (t block pc word estimate energy : Nat)
  /-- R122: SEQREAD returns the module sequence, the snapshot S or the last commit sequence. -/
  | seqread (t block pc rest sel energy : Nat)
  /-- R111: A task exception aborts the cycle and faults the task, and the task's error task is invoked. -/
  | taskException (t block cause mcause pc tval energy : Nat)
  /-- R114: A write of a task number to TASK.RESTART restarts that task if it is FAULTED. -/
  | taskRestartWrite (t master value : Nat)
  /-- R96: A write of TASKt_FLOOR or TASKt_CEIL takes effect at the task's next dispatch. -/
  | taskTimingWrite (t master task : Nat) (ceil : Bool) (value : Nat)
  /-- R115: The core watchdog is not served for 10 ms, and the block restarts. -/
  | coreWatchdogExpiry (t block : Nat)
  /-- R115: A block restarts, reloads its runtime and task code, loses the uncommitted cycle and invokes CYCLE_LOST. -/
  | blockRestart (t block cause mcause energy : Nat)
  /-- R117: A moved task starts its first cycle on its new block. -/
  | taskMoveDone (t task : Nat)
  /-- R123: A read of TASKt_LSEQ_LO latches LSEQ_HI for the reading master. -/
  | taskLseqLoRead (t master task : Nat)
  /-- R124: A read of BLKn.EPC_LO or BLKn.TVAL_LO latches the matching HI register. -/
  | blkEpcLoRead (t master block : Nat) (tval : Bool)
  /-- R135: A compare cell reaches its target on its base and performs its action on its destination. -/
  | compareFire (t cell : Nat)
  /-- R139: A MOVE cell fires and copies a pin into a signal, or a signal into a pin latch. -/
  | moveFire (t cell : Nat)
  /-- R144: An edge at a fast input pin passes through the input stage, and the reflex cells act on it. -/
  | fastPinEdge (t pin : Nat) (level : Bool)
  /-- R137: A CAPTURE cell stamps a selected edge into RESULT and into the capture queue. `busy`: at that instant the FIFO of the strand
  passes nothing on to the queue. -/
  | captureEdge (t cell at_ : Nat) (rising busy : Bool)
  /-- R138: A WINDOW cell starts or completes a width or period measurement at a selected edge. -/
  | windowEdge (t cell at_ : Nat) (rising busy : Bool)
  /-- R138: No completing edge arrives within PERIOD, and the result is the over-range value. -/
  | windowTimeout (t cell : Nat) (busy : Bool)
  /-- R140: A PULSE action clears its latch after STRETCH frames. -/
  | pulseEnd (t latch : Nat)
  /-- R136: The minimum high time of a REFLEX output runs out. -/
  | stretchEnd (t cell : Nat)
  /-- R132: Writes to TARGET, WSTART, WWIDTH, PERIOD or PERIOD_HI go to the cell's staging copy. -/
  | cellStageWrite (t master cell off value pc : Nat)
  /-- R132: A write of CTRL applies the staging copy and arms or disarms the cell, with the arm check. -/
  | cellCtrlWrite (t master cell value pc : Nat)
  /-- R136: A write of 1 to RULE.CLR clears the cell latch at the next frame. -/
  | ruleClrWrite (t master cell value pc : Nat)
  /-- R147: The duplicate evaluator of a cell disagrees, so the cell keeps its state and counts a failure. -/
  | selfCheckFail (t cell : Nat)
  /-- R147: At a safe point, or after 1 ms, a retired cell's state is copied to a spare. -/
  | cellRemap (t cell : Nat)
  /-- R148: A microsequencer parity error restarts the strand, and its outputs hold. -/
  | strandParityError (t strand : Nat)
  /-- R148: A strand restart completes, and the held input edges are evaluated. -/
  | strandRestartDone (t strand : Nat)
  /-- R149: A retired strand moves its cells and pins to its backup strand, or its cells become DEAD. -/
  | strandMove (t strand : Nat)
  /-- R159: Every 100 µs the Kettle refills the block and SYSD accounts by class. -/
  | kettleRefill (t nonblk sysdUsed : Nat) (power busy : List Nat)
  /-- R154: The temperature sensors are sampled each 1 ms, and sensor faults, heat levels, clock levels and derating are set. -/
  | sensorSample (t : Nat) (a b : List Int) (interior : Int)
  /-- R168: After 1 s below its leave value the region leaves its heat level. -/
  | heatLevelLeave (t r : Nat)
  /-- R169: After 1 s below its leave value the region moves one clock level cooler. -/
  | clockLevelLeave (t r : Nat)
  /-- R156: After 1 s at 3.0 °C below its threshold the interior derate step is left. -/
  | derateLeave (t : Nat)
  /-- R171: The 1 ms commit window of a stopping region ends, and its remaining cycles are lost. -/
  | regionStopWindowEnd (t r : Nat)
  /-- R171: When the last task has moved, or 50 ms after the stop, the region is powered off. -/
  | regionPowerOff (t r : Nat)
  /-- R172: After 60 s below 90.0 °C an OFF region is powered on at F0 and NORMAL. -/
  | regionPowerOn (t r : Nat)
  /-- R172: A write of bit r to KETTLE.REHOME moves region r's tasks back to their home blocks. -/
  | rehomeWrite (t master value : Nat)
  /-- R164: A write of BLKb_QUOTA clips the account and checks tasks for STARVED. -/
  | quotaWrite (t master b value : Nat)
  /-- R155: A run-time write of KETTLE.BUDGET lowers the budget from the next tick, or is refused. -/
  | budgetWrite (t master value : Nat)
  /-- R173: Every 10 µs the pool current is measured, and overload limiting starts. -/
  | poolMeasure (t total safe : Nat)
  /-- R173: After 100 ms of limiting, L rises by 5 mA every 10 ms until 50 mA. -/
  | poolLimitRise (t : Nat)
  /-- R189: At a period start the active unit takes a snapshot, sends CYCLE, OUTPUT and CONFIG frames, and judges misses and admissions. -/
  | periodStart (t ring : Nat)
  /-- R191: The late guard of 1.5 periods on PB0 places a period start and re-anchors the grid. -/
  | periodGuard (t ring : Nat)
  /-- R195: An INPUT segment is received, checked for period and epoch, and collected into a station delivery. -/
  | inputSegmentRx (t ring : Nat) (rev : Bool) (station epoch period seq seg first hops : Nat) (vals : List (Nat × Nat))
  /-- R199: A received IDENT moves a station to ADMITTING or to REJECTED. -/
  | identRx (t ring : Nat) (rev : Bool) (station period nin nout layout version hops : Nat)
  /-- R197: A received CYCLE frame is followed by the standby, or raises EPOCH_HIGH on an active unit. -/
  | cycleRx (t ring : Nat) (rev : Bool) (epoch period pstart bepoch base hops : Nat)
  /-- R178: An originated frame returns to its source and is removed, and its return time is noted. -/
  | moduleFrameReturn (t ring period : Nat) (last : Bool)
  /-- R180: A frame with another EtherType, a VLAN tag or another destination is discarded and counted. -/
  | foreignFrameRx (t : Nat)
  /-- R215: Every 50 µs the unit sends a heartbeat on both paths while its checks pass. -/
  | heartbeatSend (t : Nat) (checks : Bool)
  /-- R216: A 4-byte path 2 heartbeat frame is received and judged valid. -/
  | path2HeartbeatRx (t b0 b1 b2 b3 : Nat)
  /-- R217: 200 µs pass without a valid heartbeat on a path, giving a warning or, with both paths lost, a partner failure. -/
  | pathLoss (t path : Nat)
  /-- R218: One Vorvy lane fails, and the link runs at half rate. -/
  | laneDown (t : Nat)
  /-- R218: The Vorvy link is lost for 200 µs while path 2 holds, so a STANDBY enters SYNC. -/
  | vorvyLinkLoss (t : Nat)
  /-- R219: Every 25 µs the holder refreshes its claim at the ownership latch. -/
  | latchRefresh (t : Nat)
  /-- R233: The latch grants or refuses a claim, and the unit takes over or enters SYNC with CLAIM REFUSED. -/
  | claimResult (t : Nat) (granted : Bool) (epoch : Nat)
  /-- R221: An ACTIVE unit finds that the latch released its claim, or finds a higher epoch, and demotes to HALT. -/
  | claimReleased (t : Nat) (released : Bool)
  /-- R223: An HB record is received on the Vorvy link. -/
  | hbRecord (t b0 counter epoch variant proto b13 : Nat) (peer : Option FwImage)
  /-- R225: An ACK record from the standby reports applied and staged MSEQ values. -/
  | ackRecord (t applied staged : Nat)
  /-- R224: A COMMIT record opens a commit set on the standby. -/
  | commitRecord (t : Nat) (h : RecHead) (task block slots lines : Nat)
  /-- R224: A SLOT record carries one published slot of a commit set. -/
  | slotRecord (t : Nat) (h : RecHead) (sig : Nat) (slot : Slot)
  /-- R224: A LINE record carries one dirty state line of a commit set. -/
  | lineRecord (t : Nat) (h : RecHead) (addr : Nat) (data : List Nat)
  /-- R225: A GRANT record makes the standby apply a staged prepared set under its number. -/
  | grantRecord (t : Nat) (h : RecHead) (mseq : Nat)
  /-- R224: An INGRESS record carries an ingress delivery to mirrored signals. -/
  | ingressRecord (t : Nat) (h : RecHead) (source : Nat) (slots : List (Nat × Nat × Nat))
  /-- R223: A CAPTURE record carries one capture queue entry to the standby. -/
  | captureRecord (t : Nat) (h : RecHead) (e : CapEntry)
  /-- R229: A FORCE record sets or clears a force on the standby and is acknowledged. -/
  | forceRecord (t : Nat) (h : RecHead) (sig : Nat) (set : Bool) (value port : Nat)
  /-- R223: A TASKST record carries a task's state to the standby. -/
  | taskstRecord (t : Nat) (h : RecHead) (task state cause ovrrun readPos : Nat)
  /-- R259: A REGW record applies a run-time register write on the partner. -/
  | regwRecord (t : Nat) (h : RecHead) (addr value : Nat)
  /-- R231: A CELLW record applies a descriptor write at the next frame boundary on the standby. -/
  | cellwRecord (t : Nat) (h : RecHead) (cell off value : Nat)
  /-- R362: A SAFETY record carries the mirrored safety state bytes. -/
  | safetyRecord (t : Nat) (h : RecHead) (bytes : List Nat)
  /-- R230: A TIME record slaves the standby's PB1 and PB12 to the active unit. -/
  | timeRecord (t : Nat) (h : RecHead) (pb1 epoch1 pb12 epoch12 age : Nat)
  /-- R230: A STEP record makes the standby take a base's new epoch, and for PB1 and PB12 its value. -/
  | stepRecord (t : Nat) (h : RecHead) (base value epoch cause : Nat)
  /-- R239: A RESIGN record makes the standby claim the authority line as a resignation. -/
  | resignRecord (t : Nat) (h : RecHead) (epoch mseq : Nat)
  /-- R242: A BULK record carries 1 KiB of the mirrored area to a unit in SYNC. -/
  | bulkRecord (t : Nat) (h : RecHead) (addr : Nat) (data : List Nat)
  /-- R242: A STRUCT record carries a chunk of the structure image or delta to the partner. -/
  | structRecord (t : Nat) (h : RecHead) (c : Container)
  /-- R223: A record of another TYPE is discarded, counted and recorded once. -/
  | unknownRecord (t type : Nat)
  /-- R230: Every 1 ms the active unit sends a TIME record. -/
  | timeRecordSend (t : Nat)
  /-- R225: The standby sends an ACK at least every 10 µs. -/
  | standbyAckSend (t : Nat)
  /-- R228: The bumpless conditions have held for 10 ms, and the pair becomes bumpless. -/
  | bumplessSettle (t : Nat)
  /-- R214: A terminal stays energised for 2 ms while both units command it off, so the standby releases the pin. -/
  | shadowFault (t pin : Nat)
  /-- R238: A write of RESIGN to PAIR.CMD starts a resignation, or is refused with NOT_READY. -/
  | pairCmdResign (t master : Nat)
  /-- R239: The commit window of a resignation ends, and uncommitted cycles are aborted. -/
  | resignWindowEnd (t : Nat)
  /-- R239: The standby has acknowledged every record, so the unit sends RESIGN and releases the latch. -/
  | resignRelease (t : Nat)
  /-- R241: The early-break contact breaks, LEAVING is set, and an active unit starts a shortened resignation. -/
  | earlyBreak (t : Nat)
  /-- R241: After 2 ms of waiting for bumpless a leaving unit resigns anyway. -/
  | leavingBumplessWaitEnd (t : Nat)
  /-- R244: With both paths lost and LEAVING seen, the standby claims after waiting 5 ms for RESIGN. -/
  | leavingResignWaitEnd (t : Nat)
  /-- R242: The bulk transfer completes and R228 is met, so the unit enters STANDBY. -/
  | syncComplete (t : Nat)
  /-- R256: The unit enters LOAD, switches the active slot and applies the full image. -/
  | fullLoadApply (t : Nat)
  /-- R263: The checked change is stored, sent to the partner, and the unit enters PREPARED. -/
  | changePrepared (t : Nat)
  /-- R265: COMMIT written to STRUCT.OLC_CMD starts the hold of the affected tasks. -/
  | olcCmdCommit (t master : Nat)
  /-- R262: ABORT written to STRUCT.OLC_CMD discards the prepared change. -/
  | olcCmdAbort (t master : Nat)
  /-- R266: RETRACT in a REGW record drops a staged change commit set and keeps the prepared change. -/
  | olcCmdRetract (t : Nat)
  /-- R266: When every affected task is HELD, the change commit is prepared to the partner and granted. -/
  | changeCommit (t : Nat)
  /-- R265: HOLDMAX passes before every affected task is HELD, so the tasks are released with TIMEOUT. -/
  | holdmaxExpiry (t : Nat)
  /-- R266: No staging acknowledgement arrives in 20 µs, so the commit ends with PARTNER_NOT_READY. -/
  | changeAckTimeout (t : Nat)
  /-- R262: A transfer or prepared change sees no command traffic for 10 minutes and lapses. -/
  | transferLapse (t : Nat)
  /-- R294: A master's memory access is checked by its guard, then read or written with Leaf code decoding. -/
  | guardedAccess (t master serves kind addr len value pc energy dmask cmask : Nat)
  /-- R299: A tag parity error holds the access while the colour group is reloaded from the sealed copy. -/
  | tagReload (t master addr : Nat) (copyOk : Bool)
  /-- R290: A retired DRAM page is copied to a spare page, or PAGE_FULL is set. -/
  | pageRetireCopy (t page : Nat)
  /-- R297: RUNTIME calls the ROM gate to sign a report or install the SAFETY section. -/
  | romGateCall (t block : Nat) (install : Bool)
  /-- R286: GO written to LEAF.SCRUB_CMD starts a scrub pass, or is refused. -/
  | scrubGo (t : Nat)
  /-- R286: ABORT written to LEAF.SCRUB_CMD ends a running pass. -/
  | scrubAbort (t checked : Nat)
  /-- R287: A scrub pass completes over its range, with its summary. -/
  | scrubDone (t : Nat)
  /-- R301: A read of LEAF.LASTADDR_LO latches LASTADDR_HI, LASTERR and LASTSYN. -/
  | leafLastaddrLoRead (t master : Nat)
  /-- R302: A read of GUARD.LAST_ADDR_LO latches LAST_ADDR_HI and LAST_MASTER. -/
  | guardLastAddrLoRead (t master : Nat)
  /-- R302: A write of GUARD.PROBE_ADDR_HI looks up the colour of the granule into PROBE_COL. -/
  | probeAddrHiWrite (t master value : Nat)
  /-- R314: All loop channels sample at a 10 ms instant, damp, judge quality, adjust supplies and deliver. -/
  | loopSample (t : Nat) (xs temps : List Nat) (input : Nat)
  /-- R320: The common loop ceiling falls by 0.5 V per 100 ms or rises back by 0.5 V per second. -/
  | powerCapStep (t : Nat)
  /-- R321: A PROBE command on CHc_CMD, or a periodic or entry probe, starts a voltage-stepping probe of the line. -/
  | probe (t channel : Nat)
  /-- R321: PARK in a REGW record drops the partner's channel supply to 8 V. -/
  | park (t channel : Nat)
  /-- R321: UNPARK in a REGW record restores the partner's channel supply. -/
  | unpark (t channel : Nat)
  /-- R321: A parked channel restores its supply by itself after 1.5 s. -/
  | parkTimeout (t channel : Nat)
  /-- R323: TRIP in a REGW record opens the partner's pass element for 2 s. -/
  | trip (t channel : Nat)
  /-- R323: A pass element reaches 125 °C and opens, and the channel delivers BAD with detail 0x6. -/
  | thermalTrip (t channel : Nat)
  /-- R323: After 2 s a tripped channel retries. -/
  | thermalRetry (t channel : Nat)
  /-- R325: A HART response from a device delivers its variables and status. -/
  | hartResponse (t channel device uid status : Nat) (vars : List Nat)
  /-- R325: No response begins within 28 character times, and the transaction fails or is retried. -/
  | hartTimeout (t channel device : Nat)
  /-- R328: The front-end watchdog expires, deliveries stop and the front end is restarted. -/
  | frontendWatchdogExpiry (t : Nat)
  /-- R306: An output held at its short limit for 1 ms switches off. -/
  | pinShort (t pin : Nat)
  /-- R306: After 100 ms a shorted output switches on again if still commanded on. -/
  | pinShortRetry (t pin : Nat)
  /-- R332: Every 1 ms the safety unit evaluates pairs, functions and outputs. -/
  | safetyCycle (t : Nat) (offSeen onSeen : List Bool) (deltas : List Int) (zs : List (Option Int)) (losses exts : List Bool) (reaction : Nat)
  /-- R335: A periodic diagnostic fails, is repeated, and is recorded as transient or puts the unit in FAILSAFE. -/
  | safetyDiagnostic (t : Nat) (repeatPassed : Bool)
  /-- R334: The window watchdog expires, and every safety output opens in hardware. -/
  | safetyWatchdogExpiry (t : Nat)
  /-- R345: Every 10 ms the safety count is compared with ENCe_COUNT, and ENC_FAULT may arise. -/
  | encoderCrossCheck (t : Nat)
  /-- R350: Before a switch-on each switch closes alone for TPW, and the readback is checked. -/
  | preEnergiseTest (t out : Nat) (passed : Bool)
  /-- R351: Every TPP an energised output opens one switch for TPW, and the pulse is judged. -/
  | testPulse (t out : Nat) (fell rose : Bool)
  /-- R353: A safety output exceeds its overcurrent trip, and a FAULT is latched. -/
  | outputOvercurrent (t out : Nat)
  /-- R361: The safety unit delivers its 16 status signals on a change or every 100 ms. -/
  | safeStatusDelivery (t : Nat)
  /-- R349: RESTART written to SAFE.MBOX_CMD arms outputs in WAIT_RESTART. -/
  | safeMboxRestart (t master cls port : Nat)
  /-- R360: CLEAR written to SAFE.MBOX_CMD clears an output or function fault whose cause has gone. -/
  | safeMboxClear (t master cls port : Nat)
  /-- R358: CONFIRM written to SAFE.MBOX_CMD confirms the check value, or counts a mismatch. -/
  | safeMboxConfirm (t master cls port : Nat)
  /-- R358: The 10-minute CONFIRM lockout ends. -/
  | confirmLockEnd (t : Nat)
  /-- R373: A received CAN frame is filtered by the Strainer into a FIFO, an HP buffer or a map delivery. -/
  | canFrameRx (t port sof idw dlc : Nat) (remote : Bool) (data : List Nat)
  /-- R389: A reference message is received and paired with a capture to discipline PB12. -/
  | ctsReferenceRx (t port sof mseq prevSof bepoch base flags : Nat)
  /-- R389: No pair arrives for 3 periods, so PB12 enters HOLDOVER, or after HOLDTO becomes UNLOCKED. -/
  | ctsHoldover (t port : Nat)
  /-- R388: The time master sends a reference message from TXB31 at each period multiple. -/
  | ctsReferenceSend (t port : Nat)
  /-- R379: A write of 1 to a TXREQ bit stages a DIRECT transmission for the owner's next commit. -/
  | txreqWrite (t block port mask pc energy : Nat) (areas : List (Option CanFrame))
  /-- R379: A write of TXQSTAT.PUSH stages a queue frame for the owner's next commit. -/
  | txqPush (t block port pc energy : Nat) (area : Option CanFrame)
  /-- R382: A write of 1 to a TXCANCEL bit cancels a buffer's request. -/
  | txcancelWrite (t master port mask : Nat)
  /-- R381: A CAN frame is sent and acknowledged, and its buffer becomes SENT. -/
  | txSuccess (t port sof tdcv : Nat)
  /-- R381: A frame loses arbitration or meets an error, and it is retried or ends FAILED. -/
  | txError (t port : Nat) (err : TxFault) (passiveAck : Bool)
  /-- R385: The NO_PARTNER pause ends, and the port resumes sending. -/
  | noPartnerPauseEnd (t port : Nat)
  /-- R384: A CAN port goes bus-off, writes a record and keeps its pending requests. -/
  | busOff (t port : Nat)
  /-- R384: After BOCFG.DELAY an AUTO port starts the recovery sequence. -/
  | busOffDelayEnd (t port : Nat)
  /-- R384: RECOVER written to CANn.CMD starts the bus-off recovery sequence. -/
  | recover (t master port : Nat)
  /-- R384: The recovery sequence of 128 × 11 recessive bits completes, and the port resumes. -/
  | recoveryDone (t port : Nat)
  /-- R394: A PTP Announce message feeds the BMCA of a domain track. -/
  | announceRx (t port trans dom : Nat) (a : Ann)
  /-- R396: No valid Announce arrives within the receipt timeout, and the track is INVALID. -/
  | announceTimeout (t track : Nat)
  /-- R396: A PTP Sync updates a domain track's offset, and plant time's offset is judged. -/
  | syncRx (t port trans dom sender seq rx : Nat) (twoStep : Bool) (origin : Nat) (corr logInt acq : Int)
  /-- R396: 3 Sync intervals pass without a valid Sync, and the track enters HOLDOVER. -/
  | syncTimeout (t track : Nat)
  /-- R396: After 10 s in HOLDOVER the track becomes UNLOCKED. -/
  | domainHoldoverTimeout (t track : Nat)
  /-- R393: Every 2^LOGDREQ s the track sends a Delay_Req or Pdelay_Req. -/
  | delayReqSend (t track : Nat)
  /-- R393: A delay response updates the path delay of a track. -/
  | delayRespRx (t port trans dom sender rx stamp : Nat) (corr minLog : Int)
  /-- R393: A Pdelay_Req is answered with Pdelay_Resp and Pdelay_Resp_Follow_Up. -/
  | pdelayReqRx (t port trans dom seq : Nat)
  /-- R404: The primary has been qualified for REVERT seconds, and PB1 returns to it. -/
  | plantRevert (t : Nat)
  /-- R405: After HOLDTO seconds without a qualified track PB1 becomes UNLOCKED. -/
  | plantHoldoverTimeout (t : Nat)
  /-- R400: A write of PLANT_SET_HI applies a plant-time step in MANUAL, or is ignored and recorded. -/
  | plantSetHiWrite (t master hi : Nat)
  /-- R410: A read of DOMk_GMID_LO latches GMID_HI. -/
  | ptpGmidLoRead (t master track : Nat)
  /-- R418: READ_SIG returns signals with their 16-byte slots. -/
  | readSig (t port client seq session : Nat) (sigs : List Nat)
  /-- R428: READ_STAT returns the 64-byte status summary. -/
  | readStat (t port client seq session : Nat) (selectors : List Nat)
  /-- R466: READ_REC returns up to 44 records from a start number. -/
  | readRec (t port client seq session : Nat) (items : List (Nat × Nat))
  /-- R429: ATTEST queues a request for a signed attestation report over a nonce. -/
  | attest (t port client seq session : Nat) (nonces : List Nat)
  /-- R430: The ROM gate finishes signing a report, and the response is sent. -/
  | attestSigned (t : Nat)
  /-- R429: READ_IDKEY returns a piece of the identity public key. -/
  | readIdkey (t port client seq session : Nat) (items : List (Nat × Nat))
  /-- R424: WRITE_SIG writes a command-owned signal as an ingress delivery. -/
  | writeSig (t port client seq session : Nat) (items : List (Nat × Nat))
  /-- R424: ACK_ALARM increments an acknowledge signal. -/
  | ackAlarm (t port client seq session : Nat) (indices : List Nat)
  /-- R360: SAFE_RESTART posts a RESTART request to the safety unit. -/
  | safeRestart (t port client seq session : Nat) (masks : List Nat)
  /-- R82: FORCE_SET places or replaces a force and writes the slot FORCED. -/
  | forceSet (t port client seq session : Nat) (items : List (Nat × Nat))
  /-- R83: FORCE_CLEAR removes a force and writes the slot from RAW. -/
  | forceClear (t port client seq session : Nat) (sigs : List Nat)
  /-- R424: WRITE_RT writes a run-time setting. -/
  | writeRt (t port client seq session : Nat) (items : List (Nat × Nat))
  /-- R360: SAFE_CLEAR posts a CLEAR request to the safety unit. -/
  | safeClear (t port client seq session : Nat) (args : List Nat)
  /-- R325: HART_PASS sends a pass-through HART request in the group's next turn. -/
  | hartPass (t port client seq session : Nat) (items : List (Nat × List Nat))
  /-- R261: OLC_OPEN opens an on-line change session. -/
  | olcOpen (t port client seq session : Nat) (lengths : List Nat)
  /-- R527: OLC_COMMIT starts the commit of the prepared change and returns its result. -/
  | olcCommit (t port client seq session : Nat) (ids : List Nat)
  /-- R527: OLC_ABORT discards the prepared change. -/
  | olcAbort (t port client seq session : Nat) (ids : List Nat)
  /-- R238: The RESIGN command asks the active unit to resign. -/
  | resign (t port client seq session : Nat) (items : List Nat)
  /-- R255: STRUCT_OPEN opens a full-load session. -/
  | structOpen (t port client seq session : Nat) (lengths : List Nat)
  /-- R439: FW_OPEN opens a firmware update session for a part. -/
  | fwOpen (t port client seq session : Nat) (items : List (Nat × Nat))
  /-- R250: KEY_OPEN opens a session to install a project key. -/
  | keyOpen (t port client seq session : Nat) (positions : List Nat)
  /-- R425: XFER places data at an offset of the open session. -/
  | xfer (t port client seq session : Nat) (items : List (Nat × List Nat))
  /-- R425: XFER_END checks the CRC and hands the content to the structure, key or firmware check. -/
  | xferEnd (t port client seq session : Nat) (crcs : List Nat) (content : Content) (peer : Option FwImage)
  /-- R422: REGWIN performs register reads and writes through the engineering-port bridge. -/
  | regwin (t port client seq session : Nat) (items : List (Nat × Nat × Nat × Nat))
  /-- R358: SAFE_CONFIRM posts a CONFIRM of the check value. -/
  | safeConfirm (t port client seq session : Nat) (values : List Nat)
  /-- R250: KEY_REMOVE removes a project key. -/
  | keyRemove (t port client seq session : Nat) (positions : List Nat)
  /-- R466: REC_CLEAR flushes and writes a CLEAR_HORIZON record. -/
  | recClear (t port client seq session : Nat) (values : List Nat)
  /-- R469: RETIRE_CLEAR sets a retired item CLEAR_PENDING for the next module reset. -/
  | retireClear (t port client seq session : Nat) (items : List (Nat × Nat))
  /-- R480: MODE RUN leaves HOLD for ACTIVE or DEGRADED. -/
  | modeRun (t port client seq session : Nat) (items : List Nat)
  /-- R480: MODE HOLD enters HOLD once cycles in progress have committed. -/
  | modeHold (t port client seq session : Nat) (items : List Nat)
  /-- R484: MODE SERVICE enters SERVICE from HOLD or COMMISSION. -/
  | modeService (t port client seq session : Nat) (items : List Nat)
  /-- R485: MODE HALT flushes the recorder and enters HALT with REQUEST. -/
  | modeHalt (t port client seq session : Nat) (items : List Nat)
  /-- R484: MODE RESET flushes the recorder and performs a module reset. -/
  | modeReset (t port client seq session : Nat) (items : List Nat)
  /-- R298: DEBUG performs a debug access port read or write. -/
  | debug (t port client seq session : Nat) (items : List (Nat × Nat × Nat))
  /-- R415: The key switch changes position, and sessions no longer allowed are ended. -/
  | keySwitchChange (t position : Nat)
  /-- R425: A session without traffic for 10 minutes lapses. -/
  | sessionLapse (t : Nat)
  /-- R426: An ARP request is answered for the unit or the pair address. -/
  | arpRequest (t port addr : Nat)
  /-- R426: An ICMP echo request is answered. -/
  | icmpEcho (t port addr : Nat) (data : List Nat)
  /-- R441: START written to UPD.CMD starts the trial of a staged image. -/
  | updStart (t master : Nat)
  /-- R447: ABANDON written to UPD.CMD discards a staged image or fails the trial. -/
  | updAbandon (t master : Nat)
  /-- R446: The dwell completes, and the part's control word confirms the trial. -/
  | trialConfirm (t : Nat)
  /-- R447: The trial window ends without confirmation, and the trial fails. -/
  | trialWindowEnd (t : Nat)
  /-- R454: A RUNTIME cannot read or migrate the live area and declares the trial failed. -/
  | migrationFail (t : Nat)
  /-- R463: FLUSH written to REC.CMD starts a flush of the buffer. -/
  | flush (t master : Nat)
  /-- R463: A flush completes, and the buffered records are numbered into the Caddy ring. -/
  | flushDone (t : Nat) (ok : Bool)
  /-- R465: A write of REC.CURSOR loads the master's window with that record. -/
  | cursorWrite (t master value : Nat)
  /-- R465: A read of REC.WIN7 advances the cursor and loads the next record. -/
  | win7Read (t master : Nat)
  /-- R474: A read of REC.OPTIME_LO latches OPTIME_HI. -/
  | optimeLoRead (t master : Nat)
  /-- R475: A write of CSEL, HSEL or RSEL loads the master's lifetime latch. -/
  | lifeSelectWrite (t master which value : Nat)
  /-- R470: Every 10 minutes of operating time the lifetime evidence is saved to one Caddy copy. -/
  | lifetimeSave (t : Nat) (ok : Bool)
  /-- R20: A read of an RC field returns its value and clears it. -/
  | rcRead (t master addr width pc : Nat)
  /-- R18: A write to a register without a row of its own acts as its access code and R523 allow. -/
  | registerWrite (t master addr width value pc : Nat)
  /-- R482: The supply stands at or above 19.2 V for 10 ms, and the unit leaves OFF for BOOT. -/
  | powerUp (t : Nat)
  /-- R483: The 2 ms heartbeat window ends, and the unit enters SYNC or LOAD and claims the line. -/
  | bootEnd (t : Nat)
  /-- R494: The hold-up bank is charged, so BOOT may end. -/
  | holdupCharged (t : Nat) (ok : Bool)
  /-- R486: A module reset restarts the cores, fabrics, safety unit and front end and passes BOOT. -/
  | moduleReset (t cause : Nat)
  /-- R487: The module watchdog or the boot hand-over timer expires, giving a WATCHDOG reset or HALT. -/
  | moduleWatchdogExpiry (t : Nat) (rom : Bool)
  /-- R486: CRST_N is held low for 1 ms, giving a CARRIER reset. -/
  | carrierReset (t : Nat)
  /-- R485: A DEMOTE-halted unit resets itself after 60 s of valid heartbeats from an active partner. -/
  | haltSelfReset (t : Nat)
  /-- R491: The supply stands below 18.0 V for 50 µs, so outputs are shed, dispatch stops, and the unit resigns and flushes. -/
  | powerFailWarning (t : Nat)
  /-- R493: The supply stands at or above 19.2 V for 100 ms after a warning, giving a BROWNOUT reset. -/
  | supplyReturn (t : Nat)
  /-- R493: The hold-up bank is exhausted, and the unit reaches OFF. -/
  | holdupExhausted (t : Nat)
  /-- R498: The hot-swap controller opens on overvoltage or overcurrent. -/
  | hotswapTrip (t case_ value : Nat)
  /-- R498: The hot-swap switch recloses under its rule, and the unit starts from OFF. -/
  | hotswapReclose (t : Nat) (low : Bool)
  /-- R502: EARLY makes and is debounced, and the hot-swap switch ramps up the internal bus. -/
  | earlyMake (t : Nat)
  /-- R504: EARLY has made again with supply present for 10 s, so the unit performs a module reset. -/
  | reinserted (t : Nat)
  /-- R511: Removing the SIM takes the CELL bearer down and writes a record. -/
  | simRemoved (t : Nat)
  /-- R511: Inserting the SIM starts registration again. -/
  | simInserted (t : Nat)
  /-- R5: An access to the register page of an absent unit reads zero or is ignored and sets SYS.ABSENT_HIT and ABSENT_ADDR. -/
  | absentUnitAccess (t master addr : Nat) (write : Bool)
  /-- R97: The floor of a task elapses since the start of its last cycle, and the task may become ready. -/
  | taskFloorElapsed (t task : Nat)
  /-- R115: A block restart completes within 5 ms, the core leaves RESTARTING and dispatch resumes. -/
  | blockRestartDone (t block : Nat)
  /-- R135: A cell's base enters or leaves its PHASEWIN window, and the REFLEX result changes. -/
  | phasewinChange (t cell : Nat)
  /-- R305: The raw level of a filtered input has held for the filter time, and the change passes to the cells. -/
  | inputFilterElapsed (t pin : Nat)
  /-- R191: The early guard of 0.5 period on PB0 places a deferred period start and re-anchors the grid. -/
  | periodEarlyGuard (t ring : Nat)
  /-- R182: A ring frame with a bad FCS, or with a good FCS but invalid content, is discarded and counted, and is forwarded in the second case only. -/
  | ringFrameInvalid (t port : Nat) (fcsOk : Bool) (hops : Nat)
  /-- R179: A station port link goes down or negotiates another rate, and the loss counts toward its retry budget. -/
  | stationPortLinkDown (t port : Nat)
  /-- R179: A station port link comes up at 1000BASE-T full duplex, and PORTp_STAT.LINK is set. -/
  | stationPortLinkUp (t port : Nat)
  /-- R243: The Vorvy link returns, and a unit in SYNC with LINK LOST or CLAIM REFUSED starts a new transfer. -/
  | vorvyLinkReturn (t : Nat)
  /-- R228: The oldest unacknowledged mirror record becomes more than 1 ms old, and the pair becomes NOT BUMPLESS at once. -/
  | streamLag (t : Nat)
  /-- R328: The loop front end restarts within 1 s, FE_OK is set and deliveries resume. -/
  | frontendRestartDone (t : Nat)
  /-- R324: A HART burst frame is received, ignored and counted in CHc_HCNT.FAIL. -/
  | hartBurstRx (t channel : Nat)
  /-- R310: An AC sense input rises above 120 % of nominal, or falls back below it, and ACm_STAT.OVERV changes. -/
  | acOvervoltage (t m : Nat) (above : Bool)
  /-- R335: The safety unit completes its full start-up self-tests and leaves STARTING for RUN or WATCH. -/
  | safetySelftestDone (t : Nat)
  /-- R383: A frame on the bus ends in an error during reception, REC and the error state change, and a pending time-service capture is discarded. -/
  | canRxError (t port lec : Nat) (primary : Bool)
  /-- R393: A two-step PTP Follow_Up arrives and completes the offset of its Sync for the track. -/
  | followUpRx (t port trans dom sender seq origin : Nat) (corr acq : Int)
  /-- R409: A plant or engineering port link goes down, and a track enabled on both plant ports continues its BMCA on the other port. -/
  | portLinkDown (t port : Nat)
  /-- R432: A plant or engineering port link comes up, and the STAT link bit is set. -/
  | portLinkUp (t port : Nat)
  /-- R417: A command datagram that breaks the frame layout is discarded, counted in PORT.FRAMEERR and not answered. -/
  | commandFrameError (t port : Nat)
  /-- R418: A valid command frame with an OP that is not defined is refused with UNKNOWN_OP. -/
  | unknownOp (t port client seq session op nitem : Nat)
  /-- R426: Traffic on ENG or a plant port that is neither ARP, ICMP echo, the command protocol nor PTP is discarded and counted in PORT.FOREIGN. -/
  | foreignTraffic (t port : Nat)
  /-- R427: The modem gains or loses network registration or its data bearer, and CELL_STAT changes. -/
  | cellRegistration (t reg rat rsrp : Nat) (bearer : Bool)
  /-- R472: Each second, or each 100 ms for stream lag, the sampled quantities enter their lifetime histograms. -/
  | histogramSample (t : Nat) (lagOnly : Bool) (vbus iin vbank elec : Nat)
  deriving DecidableEq, Repr, Inhabited

end Sys2Proof
end

