-- ==== Sys2Proof/Config.lean ====
section
/-! DEFINITION. What the manual fixes for every unit (periods, limits) and the free values: constants without a body, which
no proof can see, for results the manual leaves open (notes/assumptions/4.md). -/

namespace Sys2Proof

/-- A pace at or below a bound the manual gives and not stated otherwise (slewing of a base, R41, R43, R402): the model takes
one plus this number modulo the bound. Free value, by base number. -/
opaque Config.slewPace : Nat → Nat

/-- The bits an undefined or opaque result carries, by the model's counter of free values. -/
opaque Config.freeWord : Nat → Nat

/-- What `cycle` and `instret` of a core read (R90), by core, CSR and instant: they count for the core as a whole, and no command carries a
count. -/
opaque Config.coreCount : Nat → Nat → Nat → Nat

/-- The SHAKE256 output over a content (R249, R437, R429), as a number, by the number the content's bytes spell. Its value is not computed:
free. -/
opaque Config.digest : Nat → Nat

/-- The ROM gate's Falcon signature over a report (R297, R430), by the report's digest. -/
opaque Config.signature : Nat → Nat

/-- The value of a loop current between scale ends of which one is an infinity or a NaN (R316): the manual states none. Free value, by current,
LO and HI. -/
opaque Config.scaleReal : Nat → Nat → Nat → Nat

/-- Where a memory and the mirrored area of DRAM lie: the manual fixes their sizes (R242, R273) and not their places. Free value, by
memory; 38 is the mirrored area. -/
opaque Config.place : Nat → Nat

/-- The physical address of the first 64-bit word of memory `m` (R273), in words. A word address has the 36 bits A3 to A38 (R275), and the
largest memory has 2^29 words. -/
def Config.memBase (m : Nat) : Nat := Config.place m % (2 ^ 36 - 2 ^ 29 + 1)

/-- The first 64-bit word of the mirrored area within DRAM (R242): 2^27 of the 2^29 words are mirrored. -/
def Config.mirrorBase : Nat := Config.place 38 % (2 ^ 29 - 2 ^ 27 + 1)

/-- The unicast address of a station port, from the identity record (R180). Free value, by port. -/
opaque Config.portAddress : Nat → Nat

/-- The time one hop of the mesh between two blocks takes, in quarter nanoseconds: at most 10 ns (R142). Free value, by the two blocks. -/
opaque Config.hopDelay : Nat → Nat → Nat

/-- The bytes of the unit's identity public key (R429), by offset. -/
opaque Config.identityKey : Nat → Nat

/-- PB0 ticks, frames and periods the manual states, in quarter nanoseconds. -/
def Config.refTick : Nat := 40
def Config.frame : Nat := 50
def Config.cellClock : Nat := 10
def Config.pathLost : Nat := us 200
def Config.latchHold : Nat := us 100
def Config.bumplessSettle : Nat := msec 10
def Config.syncAckLimit : Nat := us 20
def Config.streamLagLimit : Nat := msec 1
def Config.resignWindow : Nat := msec 1
def Config.resignWindowShort : Nat := us 500
def Config.leavingBumplessWait : Nat := msec 2
def Config.leavingResignWait : Nat := msec 5

/-- Sizes: the force table (R81), the capture queue (R102), the recorder buffer and ring (R462, R463), prepared sets (R225),
invocations (R113), tasks per block (R94). -/
def Config.forceMax : Nat := 8192
def Config.cqSize : Nat := 16384
def Config.recShared : Nat := 1792
def Config.recReserve : Nat := 256
def Config.recFlushAt : Nat := 1536
def Config.recRing : Nat := 524288
def Config.preparedMax : Nat := 64
def Config.invocationMax : Nat := 16
def Config.tasksPerBlock : Nat := 32
def Config.strandFifo : Nat := 16

end Sys2Proof
end

