-- ==== Sys2Proof/Machine/Registers.lean ====
section
/-! DEFINITION. The register map of the control space: one `Fld` per register field of the manual's tables, named as
the manual names it (`PHASE.BASEn_EPOCH.EPOCH`), with its address, the spacing of its instances, its bits, its access
code (R18), its reset code (R19) and the reset value the manual states (0 where it states none; see notes/assumptions/2.md).
Reserved bits have no field: they read 0 and ignore writes (R16). -/

namespace Sys2Proof.Machine

/-- The access codes of R18. -/
inductive Access where
  | RW | RO | WO | W1C | W1S | RC | RWL
  deriving DecidableEq, Repr, Inhabited

/-- The reset codes of R19. -/
inductive ResetCode where
  | P | M | K | N
  deriving DecidableEq, Repr, Inhabited

/-- One field of one register. Instance `i = i1 * n2 + i2` lies at `addr + i1 * s1 + i2 * s2`. -/
structure Fld where
  id : Nat
  addr : Nat
  n1 : Nat
  s1 : Nat
  n2 : Nat
  s2 : Nat
  lo : Nat
  width : Nat
  acc : Access
  rst : ResetCode
  dflt : Nat
  deriving DecidableEq, Repr, Inhabited

/-- The number of instances of a field. -/
def Fld.count (f : Fld) : Nat := f.n1 * f.n2

/-- The address of the register that holds instance `i` of the field. -/
def Fld.addrOf (f : Fld) (i : Nat) : Nat := f.addr + (i / f.n2) * f.s1 + (i % f.n2) * f.s2

/-- The instance of the field that lies in the register at address `a`, if one does. -/
def Fld.instanceAt (f : Fld) (a : Nat) : Option Nat :=
  if a < f.addr then none else
  let d := a - f.addr
  let i1 := if f.s1 = 0 then 0 else d / f.s1
  let r := if f.s1 = 0 then d else d % f.s1
  let i2 := if f.s2 = 0 then 0 else r / f.s2
  let z := if f.s2 = 0 then r else r % f.s2
  if z = 0 ∧ i1 < f.n1 ∧ i2 < f.n2 then some (i1 * f.n2 + i2) else none

/-- The key of instance `i` of the field in the register table of State. -/
def Fld.key (f : Fld) (i : Nat) : Nat := f.id * 2 ^ 20 + i

/-- PHASE.BASEn_VAL_LO.VAL [31:0] RO, reset M, 0 (01_phase_bases.md R52): Value bits [31:0]; a read latches VAL_HI, EPOCH and STATUS (R26) -/
def PHASE.BASEn_VAL_LO.VAL : Fld := ⟨0, 0x40020000, 1, 0x0, 16, 0x40, 0, 32, .RO, .M, 0⟩
/-- PHASE.BASEn_VAL_HI.VAL [31:0] RO, reset M, 0 (01_phase_bases.md R52): Value bits [63:32]; the turn count for an angle base -/
def PHASE.BASEn_VAL_HI.VAL : Fld := ⟨1, 0x40020004, 1, 0x0, 16, 0x40, 0, 32, .RO, .M, 0⟩
/-- PHASE.BASEn_EPOCH.EPOCH [15:0] RO, reset K (01_phase_bases.md R52): Epoch (R27, R28); at power-up 0 for PB1–PB15, and the low 16 bits of the power-cycle count for PB0 -/
def PHASE.BASEn_EPOCH.EPOCH : Fld := ⟨2, 0x40020008, 1, 0x0, 16, 0x40, 0, 16, .RO, .K, 0⟩
/-- PHASE.BASEn_STATUS.STATE [2:0] RO, reset M, 0 (01_phase_bases.md R52): 0 INVALID, 1 ACQUIRING, 2 LOCKED, 3 HOLDOVER, 4 UNLOCKED, 5 FAULT, 6 NOT_FITTED, 7 UNUSED -/
def PHASE.BASEn_STATUS.STATE : Fld := ⟨3, 0x4002000C, 1, 0x0, 16, 0x40, 0, 3, .RO, .M, 0⟩
/-- PHASE.BASEn_STATUS.KIND [3:3] RO, reset N (01_phase_bases.md R52): 0 TIME, 1 ANGLE -/
def PHASE.BASEn_STATUS.KIND : Fld := ⟨4, 0x4002000C, 1, 0x0, 16, 0x40, 3, 1, .RO, .N, 0⟩
/-- PHASE.BASEn_STATUS.DIR [4:4] RO, reset M, 0 (01_phase_bases.md R52): Angle bases: 0 forward, 1 reverse -/
def PHASE.BASEn_STATUS.DIR : Fld := ⟨5, 0x4002000C, 1, 0x0, 16, 0x40, 4, 1, .RO, .M, 0⟩
/-- PHASE.BASEn_STATUS.LATE [5:5] W1C, reset M, 0 (01_phase_bases.md R52): An event fired LATE on this base -/
def PHASE.BASEn_STATUS.LATE : Fld := ⟨6, 0x4002000C, 1, 0x0, 16, 0x40, 5, 1, .W1C, .M, 0⟩
/-- PHASE.BASEn_STATUS.STEPPED [6:6] W1C, reset M, 0 (01_phase_bases.md R52): The base has stepped -/
def PHASE.BASEn_STATUS.STEPPED : Fld := ⟨7, 0x4002000C, 1, 0x0, 16, 0x40, 6, 1, .W1C, .M, 0⟩
/-- PHASE.BASEn_RATE.RATE [31:0] RO, reset M, 0 (01_phase_bases.md R52): Time bases: signed rate relative to the reference tick, in 2^-40 (1 ppm = 1,099,512); angle bases read 0 -/
def PHASE.BASEn_RATE.RATE : Fld := ⟨8, 0x40020010, 1, 0x0, 16, 0x40, 0, 32, .RO, .M, 0⟩
/-- PHASE.BASEn_SPEED.SPEED [31:0] RO, reset M, 0 (01_phase_bases.md R52): Angle bases: signed speed in 2^-16 turn/s; time bases read 0 -/
def PHASE.BASEn_SPEED.SPEED : Fld := ⟨9, 0x40020014, 1, 0x0, 16, 0x40, 0, 32, .RO, .M, 0⟩
/-- PHASE.BASEn_STEPCNT.COUNT [15:0] RO, reset M, 0 (01_phase_bases.md R52): Steps since the last module reset; saturates at 0xFFFF -/
def PHASE.BASEn_STEPCNT.COUNT : Fld := ⟨10, 0x40020018, 1, 0x0, 16, 0x40, 0, 16, .RO, .M, 0⟩
/-- PHASE.ENCe_CFG.CPT [15:0] RWL, reset N (01_phase_bases.md R53): Counts per turn, 4–65,532 in steps of 4; 0 leaves the encoder unused (base UNUSED); other values are rejected at load -/
def PHASE.ENCe_CFG.CPT : Fld := ⟨11, 0x40020400, 1, 0x0, 4, 0x20, 0, 16, .RWL, .N, 0⟩
/-- PHASE.ENCe_CFG.ZMODE [17:16] RWL, reset N (01_phase_bases.md R53): 0 IGNORE, 1 ALIGN, 2 CHECK; 3 is rejected at load -/
def PHASE.ENCe_CFG.ZMODE : Fld := ⟨12, 0x40020400, 1, 0x0, 4, 0x20, 16, 2, .RWL, .N, 0⟩
/-- PHASE.ENCe_CFG.VELN [21:18] RWL, reset N (01_phase_bases.md R53): Edges in the velocity estimate minus 1 (1–16 edges) -/
def PHASE.ENCe_CFG.VELN : Fld := ⟨13, 0x40020400, 1, 0x0, 4, 0x20, 18, 4, .RWL, .N, 0⟩
/-- PHASE.ENCe_CFG.SLIP [29:22] RWL, reset N (01_phase_bases.md R53): Slip tolerance, 0–255 counts -/
def PHASE.ENCe_CFG.SLIP : Fld := ⟨14, 0x40020400, 1, 0x0, 4, 0x20, 22, 8, .RWL, .N, 0⟩
/-- PHASE.ENCe_CFG.INVERT [30:30] RWL, reset N (01_phase_bases.md R53): 1 swaps the forward direction -/
def PHASE.ENCe_CFG.INVERT : Fld := ⟨15, 0x40020400, 1, 0x0, 4, 0x20, 30, 1, .RWL, .N, 0⟩
/-- PHASE.ENCe_ZOFF.ZOFF [31:0] RWL, reset N (01_phase_bases.md R53): Fraction of a turn assigned to Z, in 2^-32 turn -/
def PHASE.ENCe_ZOFF.ZOFF : Fld := ⟨16, 0x40020404, 1, 0x0, 4, 0x20, 0, 32, .RWL, .N, 0⟩
/-- PHASE.ENCe_STALL.STALL [15:0] RWL, reset N (01_phase_bases.md R53): Stall time, 1–65,535 in 0.1 ms; 0 is rejected at load -/
def PHASE.ENCe_STALL.STALL : Fld := ⟨17, 0x40020408, 1, 0x0, 4, 0x20, 0, 16, .RWL, .N, 0⟩
/-- PHASE.ENCe_SLIPCNT.SLIP [15:0] RO, reset M, 0 (01_phase_bases.md R53): Absorbed Z mismatches; saturates -/
def PHASE.ENCe_SLIPCNT.SLIP : Fld := ⟨18, 0x4002040C, 1, 0x0, 4, 0x20, 0, 16, .RO, .M, 0⟩
/-- PHASE.ENCe_SLIPCNT.ILLEGAL [31:16] RO, reset M, 0 (01_phase_bases.md R53): Illegal quadrature transitions; saturates -/
def PHASE.ENCe_SLIPCNT.ILLEGAL : Fld := ⟨19, 0x4002040C, 1, 0x0, 4, 0x20, 16, 16, .RO, .M, 0⟩
/-- PHASE.MAINSm_CFG.NOMV [11:0] RWL, reset N (01_phase_bases.md R53): Nominal secondary RMS, 1,000–2,400 in 0.1 V -/
def PHASE.MAINSm_CFG.NOMV : Fld := ⟨20, 0x40020500, 1, 0x0, 2, 0x20, 0, 12, .RWL, .N, 0⟩
/-- PHASE.MAINSm_CFG.NOMF [12:12] RWL, reset N (01_phase_bases.md R53): 0 = 50 Hz, 1 = 60 Hz; sets the starting frequency of acquisition -/
def PHASE.MAINSm_CFG.NOMF : Fld := ⟨21, 0x40020500, 1, 0x0, 2, 0x20, 12, 1, .RWL, .N, 0⟩
/-- PHASE.MAINSm_CFG.STEP_THR [23:16] RWL, reset N (01_phase_bases.md R53): Re-lock step threshold, 1–255 in 0.1°; 0 is rejected at load -/
def PHASE.MAINSm_CFG.STEP_THR : Fld := ⟨22, 0x40020500, 1, 0x0, 2, 0x20, 16, 8, .RWL, .N, 0⟩
/-- PHASE.MAINSm_OFFSET.OFFSET [31:0] RWL, reset N (01_phase_bases.md R53): Angle offset in 2^-32 turn -/
def PHASE.MAINSm_OFFSET.OFFSET : Fld := ⟨23, 0x40020504, 1, 0x0, 2, 0x20, 0, 32, .RWL, .N, 0⟩
/-- PHASE.MAINSm_QUAL.RMS [15:0] RO, reset M, 0 (01_phase_bases.md R53): Measured RMS in 0.1 V -/
def PHASE.MAINSm_QUAL.RMS : Fld := ⟨24, 0x40020508, 1, 0x0, 2, 0x20, 0, 16, .RO, .M, 0⟩
/-- PHASE.MAINSm_QUAL.PERR [31:16] RO, reset M, 0 (01_phase_bases.md R53): Estimated angle error in 0.001°, unsigned, saturating -/
def PHASE.MAINSm_QUAL.PERR : Fld := ⟨25, 0x40020508, 1, 0x0, 2, 0x20, 16, 16, .RO, .M, 0⟩
/-- PHASE.VIRTv_SRC.SRC [3:0] RWL, reset N (01_phase_bases.md R53): Source base number (R48) -/
def PHASE.VIRTv_SRC.SRC : Fld := ⟨26, 0x40020600, 1, 0x0, 3, 0x20, 0, 4, .RWL, .N, 0⟩
/-- PHASE.VIRTv_NUM.NUM [31:0] RWL, reset N (01_phase_bases.md R53): Signed ratio numerator -/
def PHASE.VIRTv_NUM.NUM : Fld := ⟨27, 0x40020604, 1, 0x0, 3, 0x20, 0, 32, .RWL, .N, 0⟩
/-- PHASE.VIRTv_DEN.DEN [31:0] RWL, reset N (01_phase_bases.md R53): Unsigned ratio denominator -/
def PHASE.VIRTv_DEN.DEN : Fld := ⟨28, 0x40020608, 1, 0x0, 3, 0x20, 0, 32, .RWL, .N, 0⟩
/-- PHASE.VIRTv_OFF_LO.OFF [31:0] RW, reset N (01_phase_bases.md R53): Offset bits [31:0]; staged until OFF_HI is written -/
def PHASE.VIRTv_OFF_LO.OFF : Fld := ⟨29, 0x4002060C, 1, 0x0, 3, 0x20, 0, 32, .RW, .N, 0⟩
/-- PHASE.VIRTv_OFF_HI.OFF [31:0] RW, reset N (01_phase_bases.md R53): Offset bits [63:32]; the write applies the staged 64-bit offset as a step (R49) -/
def PHASE.VIRTv_OFF_HI.OFF : Fld := ⟨30, 0x40020610, 1, 0x0, 3, 0x20, 0, 32, .RW, .N, 0⟩
/-- PHASE.REF_CFG.SRC [1:0] RWL, reset N (01_phase_bases.md R53): 0 none, 1 PB1, 2 PB12; 3 is rejected at load -/
def PHASE.REF_CFG.SRC : Fld := ⟨31, 0x40020800, 1, 0x0, 1, 0x0, 0, 2, .RWL, .N, 0⟩
/-- PHASE.REF_STAT.STEER [15:0] RO, reset M, 0 (01_phase_bases.md R53): Signed steering applied, in 0.001 ppm -/
def PHASE.REF_STAT.STEER : Fld := ⟨32, 0x40020804, 1, 0x0, 1, 0x0, 0, 16, .RO, .M, 0⟩
/-- PHASE.STEP_PEND.BASE [15:0] W1C, reset M, 0 (01_phase_bases.md R53): Bit n: base n has stepped since the bit was cleared -/
def PHASE.STEP_PEND.BASE : Fld := ⟨33, 0x40020808, 1, 0x0, 1, 0x0, 0, 16, .W1C, .M, 0⟩
/-- PHASE.LATECNT.COUNT [31:0] RC, reset M, 0 (01_phase_bases.md R53): LATE firings on all bases; saturates at 0xFFFF_FFFF -/
def PHASE.LATECNT.COUNT : Fld := ⟨34, 0x4002080C, 1, 0x0, 1, 0x0, 0, 32, .RC, .M, 0⟩
/-- IMAGE.SEQ_LO.SEQ [31:0] RO, reset N (02_signal_image.md R88): Module sequence bits [31:0]; a read latches SEQ_HI (R87) -/
def IMAGE.SEQ_LO.SEQ : Fld := ⟨35, 0x40030000, 1, 0x0, 1, 0x0, 0, 32, .RO, .N, 0⟩
/-- IMAGE.SEQ_HI.SEQ [31:0] RO, reset N (02_signal_image.md R88): Module sequence bits [63:32] -/
def IMAGE.SEQ_HI.SEQ : Fld := ⟨36, 0x40030004, 1, 0x0, 1, 0x0, 0, 32, .RO, .N, 0⟩
/-- IMAGE.STATUS.SWEEP_OK [0:0] RO, reset M, 0 (02_signal_image.md R88): The ageing sweep completed a full pass within 10 ms -/
def IMAGE.STATUS.SWEEP_OK : Fld := ⟨37, 0x40030008, 1, 0x0, 1, 0x0, 0, 1, .RO, .M, 0⟩
/-- IMAGE.STATUS.FORCES_ACTIVE [1:1] RO, reset K, 0 (02_signal_image.md R88): At least one force stands -/
def IMAGE.STATUS.FORCES_ACTIVE : Fld := ⟨38, 0x40030008, 1, 0x0, 1, 0x0, 1, 1, .RO, .K, 0⟩
/-- IMAGE.STATUS.FORCES_LOST [2:2] W1C, reset M, 0 (02_signal_image.md R88): Set under R85 -/
def IMAGE.STATUS.FORCES_LOST : Fld := ⟨39, 0x40030008, 1, 0x0, 1, 0x0, 2, 1, .W1C, .M, 0⟩
/-- IMAGE.STATUS.SEQ_JUMP [3:3] W1C, reset M, 0 (02_signal_image.md R88): Set under R65 at takeover -/
def IMAGE.STATUS.SEQ_JUMP : Fld := ⟨40, 0x40030008, 1, 0x0, 1, 0x0, 3, 1, .W1C, .M, 0⟩
/-- IMAGE.FORCECNT.COUNT [13:0] RO, reset K, 0 (02_signal_image.md R88): Active forces, 0–8,192 -/
def IMAGE.FORCECNT.COUNT : Fld := ⟨41, 0x4003000C, 1, 0x0, 1, 0x0, 0, 14, .RO, .K, 0⟩
/-- IMAGE.DUPCNT.COUNT [31:0] RC, reset M, 0 (02_signal_image.md R88): Discarded copies and late deliveries (R69); saturates at 0xFFFF_FFFF -/
def IMAGE.DUPCNT.COUNT : Fld := ⟨42, 0x40030010, 1, 0x0, 1, 0x0, 0, 32, .RC, .M, 0⟩
/-- IMAGE.LOSSCNT.COUNT [31:0] RC, reset M, 0 (02_signal_image.md R88): Source deliveries detected as lost (R69, R70); saturates -/
def IMAGE.LOSSCNT.COUNT : Fld := ⟨43, 0x40030014, 1, 0x0, 1, 0x0, 0, 32, .RC, .M, 0⟩
/-- IMAGE.OWNERR.COUNT [31:0] RC, reset M, 0 (02_signal_image.md R88): Writes refused under R61; saturates -/
def IMAGE.OWNERR.COUNT : Fld := ⟨44, 0x40030018, 1, 0x0, 1, 0x0, 0, 32, .RC, .M, 0⟩
/-- IMAGE.QUALERR.COUNT [31:0] RC, reset M, 0 (02_signal_image.md R88): Invalid quality codes replaced under R76; saturates -/
def IMAGE.QUALERR.COUNT : Fld := ⟨45, 0x4003001C, 1, 0x0, 1, 0x0, 0, 32, .RC, .M, 0⟩
/-- IMAGE.AGEDCNT.COUNT [17:0] RO, reset M, 0 (02_signal_image.md R88): Slots currently AGED, 0–131,072 -/
def IMAGE.AGEDCNT.COUNT : Fld := ⟨46, 0x40030020, 1, 0x0, 1, 0x0, 0, 18, .RO, .M, 0⟩
/-- IMAGE.SWEEP.LAST [15:0] RO, reset M, 0 (02_signal_image.md R88): Duration of the last sweep pass in 1 µs; saturates -/
def IMAGE.SWEEP.LAST : Fld := ⟨47, 0x40030024, 1, 0x0, 1, 0x0, 0, 16, .RO, .M, 0⟩
/-- IMAGE.SWEEP.PASSES [31:16] RO, reset M, 0 (02_signal_image.md R88): Completed passes, wrapping -/
def IMAGE.SWEEP.PASSES : Fld := ⟨48, 0x40030024, 1, 0x0, 1, 0x0, 16, 16, .RO, .M, 0⟩
/-- IMAGE.PROBE_ID.SIGNAL [16:0] RW, reset M, 0 (02_signal_image.md R88): Signal to probe; the write loads the latch -/
def IMAGE.PROBE_ID.SIGNAL : Fld := ⟨49, 0x40030040, 1, 0x0, 1, 0x0, 0, 17, .RW, .M, 0⟩
/-- IMAGE.PROBE_ID.RAW [31:31] RW, reset M, 0 (02_signal_image.md R88): 1 probes the force entry's RAW record instead of the slot -/
def IMAGE.PROBE_ID.RAW : Fld := ⟨50, 0x40030040, 1, 0x0, 1, 0x0, 31, 1, .RW, .M, 0⟩
/-- IMAGE.PROBE_W0.DATA [31:0] RO, reset M, 0 (02_signal_image.md R88): Slot bytes of the probe latch -/
def IMAGE.PROBE_W0.DATA : Fld := ⟨51, 0x40030044, 1, 0x0, 1, 0x0, 0, 32, .RO, .M, 0⟩
/-- IMAGE.PROBE_W1.DATA [31:0] RO, reset M, 0 (02_signal_image.md R88): Slot bytes of the probe latch -/
def IMAGE.PROBE_W1.DATA : Fld := ⟨52, 0x40030048, 1, 0x0, 1, 0x0, 0, 32, .RO, .M, 0⟩
/-- IMAGE.PROBE_W2.DATA [31:0] RO, reset M, 0 (02_signal_image.md R88): Slot bytes of the probe latch -/
def IMAGE.PROBE_W2.DATA : Fld := ⟨53, 0x4003004C, 1, 0x0, 1, 0x0, 0, 32, .RO, .M, 0⟩
/-- IMAGE.PROBE_W3.DATA [31:0] RO, reset M, 0 (02_signal_image.md R88): Slot bytes of the probe latch -/
def IMAGE.PROBE_W3.DATA : Fld := ⟨54, 0x40030050, 1, 0x0, 1, 0x0, 0, 32, .RO, .M, 0⟩
/-- IMAGE.PROBE_SEQHI.SEQ [31:0] RO, reset M, 0 (02_signal_image.md R88): Bits [63:32] of the slot's full sequence, reconstructed from SEQ and the module sequence; 0 when AGED -/
def IMAGE.PROBE_SEQHI.SEQ : Fld := ⟨55, 0x40030054, 1, 0x0, 1, 0x0, 0, 32, .RO, .M, 0⟩
/-- IMAGE.PROBE_STAT.VALID [0:0] RO, reset M, 0 (02_signal_image.md R88): The latch holds a probed slot -/
def IMAGE.PROBE_STAT.VALID : Fld := ⟨56, 0x40030058, 1, 0x0, 1, 0x0, 0, 1, .RO, .M, 0⟩
/-- IMAGE.PROBE_STAT.UNUSED [1:1] RO, reset M, 0 (02_signal_image.md R88): The identity has no directory entry -/
def IMAGE.PROBE_STAT.UNUSED : Fld := ⟨57, 0x40030058, 1, 0x0, 1, 0x0, 1, 1, .RO, .M, 0⟩
/-- IMAGE.PROBE_STAT.POISON [2:2] RO, reset M, 0 (02_signal_image.md R88): A probed word carried poison -/
def IMAGE.PROBE_STAT.POISON : Fld := ⟨58, 0x40030058, 1, 0x0, 1, 0x0, 2, 1, .RO, .M, 0⟩
/-- IMAGE.PROBE_STAT.NOFORCE [3:3] RO, reset M, 0 (02_signal_image.md R88): RAW was asked for and the signal is not forced -/
def IMAGE.PROBE_STAT.NOFORCE : Fld := ⟨59, 0x40030058, 1, 0x0, 1, 0x0, 3, 1, .RO, .M, 0⟩
/-- TASK.TASKt_CFG.CLASS [1:0] RWL, reset N (03_cycle_and_tasks.md R123): 0 A, 1 B, 2 C, 3 D -/
def TASK.TASKt_CFG.CLASS : Fld := ⟨60, 0x40040000, 1, 0x0, 256, 0x40, 0, 2, .RWL, .N, 0⟩
/-- TASK.TASKt_CFG.KIND [3:2] RWL, reset N (03_cycle_and_tasks.md R123): 0 unused, 1 CYCLIC, 2 ERROR, 3 START -/
def TASK.TASKt_CFG.KIND : Fld := ⟨61, 0x40040000, 1, 0x0, 256, 0x40, 2, 2, .RWL, .N, 0⟩
/-- TASK.TASKt_CFG.HOME [7:4] RWL, reset N (03_cycle_and_tasks.md R123): Home block (R94) -/
def TASK.TASKt_CFG.HOME : Fld := ⟨62, 0x40040000, 1, 0x0, 256, 0x40, 4, 4, .RWL, .N, 0⟩
/-- TASK.TASKt_CFG.ASYNC [8:8] RWL, reset N (03_cycle_and_tasks.md R123): 0 SYNC, 1 ASYNC (R93, R106) -/
def TASK.TASKt_CFG.ASYNC : Fld := ⟨63, 0x40040000, 1, 0x0, 256, 0x40, 8, 1, .RWL, .N, 0⟩
/-- TASK.TASKt_CFG.WAKE [9:9] RWL, reset N (03_cycle_and_tasks.md R123): 0 free-running, 1 wake-triggered (R97, R104) -/
def TASK.TASKt_CFG.WAKE : Fld := ⟨64, 0x40040000, 1, 0x0, 256, 0x40, 9, 1, .RWL, .N, 0⟩
/-- TASK.TASKt_CFG.ERRTASK [23:16] RWL, reset N (03_cycle_and_tasks.md R123): Error task (R112) -/
def TASK.TASKt_CFG.ERRTASK : Fld := ⟨65, 0x40040000, 1, 0x0, 256, 0x40, 16, 8, .RWL, .N, 0⟩
/-- TASK.TASKt_CFG.FAULT_LIM [31:24] RWL, reset N (03_cycle_and_tasks.md R123): 1–255; 0 is rejected at load (R110) -/
def TASK.TASKt_CFG.FAULT_LIM : Fld := ⟨66, 0x40040000, 1, 0x0, 256, 0x40, 24, 8, .RWL, .N, 0⟩
/-- TASK.TASKt_START.TASK [7:0] RWL, reset N (03_cycle_and_tasks.md R123): Start task -/
def TASK.TASKt_START.TASK : Fld := ⟨67, 0x40040004, 1, 0x0, 256, 0x40, 0, 8, .RWL, .N, 0⟩
/-- TASK.TASKt_START.EN [8:8] RWL, reset N (03_cycle_and_tasks.md R123): 1: a start task is named -/
def TASK.TASKt_START.EN : Fld := ⟨68, 0x40040004, 1, 0x0, 256, 0x40, 8, 1, .RWL, .N, 0⟩
/-- TASK.TASKt_FLOOR.FLOOR [31:0] RW, reset N (03_cycle_and_tasks.md R123): Floor in µs (R95, R96) -/
def TASK.TASKt_FLOOR.FLOOR : Fld := ⟨69, 0x40040008, 1, 0x0, 256, 0x40, 0, 32, .RW, .N, 0⟩
/-- TASK.TASKt_CEIL.CEIL [31:0] RW, reset N (03_cycle_and_tasks.md R123): Ceiling in µs (R95, R96) -/
def TASK.TASKt_CEIL.CEIL : Fld := ⟨70, 0x4004000C, 1, 0x0, 256, 0x40, 0, 32, .RW, .N, 0⟩
/-- TASK.TASKt_FOOT.ITCM [15:0] RO, reset N (03_cycle_and_tasks.md R123): Instruction TCM footprint in 64 B -/
def TASK.TASKt_FOOT.ITCM : Fld := ⟨71, 0x40040010, 1, 0x0, 256, 0x40, 0, 16, .RO, .N, 0⟩
/-- TASK.TASKt_FOOT.DTCM [31:16] RO, reset N (03_cycle_and_tasks.md R123): Data TCM footprint (view and stack) in 64 B -/
def TASK.TASKt_FOOT.DTCM : Fld := ⟨72, 0x40040010, 1, 0x0, 256, 0x40, 16, 16, .RO, .N, 0⟩
/-- TASK.TASKt_STATE.STATE [3:0] RO, reset M, 0 (03_cycle_and_tasks.md R123): 0 UNUSED, 1 IDLE, 2 READY, 3 RUNNING, 4 PREEMPTED, 5 WAITING, 6 YIELDED, 7 SKIP, 8 FAULTED, 9 STARVED, 10 HELD, 11 DORMANT, 12 MOVING; 13–15 do not... -/
def TASK.TASKt_STATE.STATE : Fld := ⟨73, 0x40040014, 1, 0x0, 256, 0x40, 0, 4, .RO, .M, 0⟩
/-- TASK.TASKt_STATE.CURBLK [7:4] RO, reset M (03_cycle_and_tasks.md R123): Current block (R117) -/
def TASK.TASKt_STATE.CURBLK : Fld := ⟨74, 0x40040014, 1, 0x0, 256, 0x40, 4, 4, .RO, .M, 0⟩
/-- TASK.TASKt_STATE.OVRRUN [15:8] RO, reset M, 0 (03_cycle_and_tasks.md R123): Consecutive overruns -/
def TASK.TASKt_STATE.OVRRUN : Fld := ⟨75, 0x40040014, 1, 0x0, 256, 0x40, 8, 8, .RO, .M, 0⟩
/-- TASK.TASKt_STATE.CAUSE [23:16] RO, reset M, 0 (03_cycle_and_tasks.md R123): Last cause code (R111) -/
def TASK.TASKt_STATE.CAUSE : Fld := ⟨76, 0x40040014, 1, 0x0, 256, 0x40, 16, 8, .RO, .M, 0⟩
/-- TASK.TASKt_STATE.OVR [24:24] W1C, reset M, 0 (03_cycle_and_tasks.md R123): An overrun has occurred -/
def TASK.TASKt_STATE.OVR : Fld := ⟨77, 0x40040014, 1, 0x0, 256, 0x40, 24, 1, .W1C, .M, 0⟩
/-- TASK.TASKt_STATE.REHOMED [25:25] RO, reset M, 0 (03_cycle_and_tasks.md R123): Running away from home (R117) -/
def TASK.TASKt_STATE.REHOMED : Fld := ⟨78, 0x40040014, 1, 0x0, 256, 0x40, 25, 1, .RO, .M, 0⟩
/-- TASK.TASKt_LAST.TIME [31:0] RO, reset M, 0 (03_cycle_and_tasks.md R123): Cycle time of the last cycle in µs (R100); saturates -/
def TASK.TASKt_LAST.TIME : Fld := ⟨79, 0x40040018, 1, 0x0, 256, 0x40, 0, 32, .RO, .M, 0⟩
/-- TASK.TASKt_MAX.TIME [31:0] RC, reset M, 0 (03_cycle_and_tasks.md R123): Longest cycle time since the last read in µs; saturates -/
def TASK.TASKt_MAX.TIME : Fld := ⟨80, 0x4004001C, 1, 0x0, 256, 0x40, 0, 32, .RC, .M, 0⟩
/-- TASK.TASKt_CYCLES.COUNT [31:0] RO, reset M, 0 (03_cycle_and_tasks.md R123): Cycles completed, EMPTY included; wraps -/
def TASK.TASKt_CYCLES.COUNT : Fld := ⟨81, 0x40040020, 1, 0x0, 256, 0x40, 0, 32, .RO, .M, 0⟩
/-- TASK.TASKt_OVRTOT.COUNT [31:0] RO, reset M, 0 (03_cycle_and_tasks.md R123): Overruns and HANGs; saturates -/
def TASK.TASKt_OVRTOT.COUNT : Fld := ⟨82, 0x40040024, 1, 0x0, 256, 0x40, 0, 32, .RO, .M, 0⟩
/-- TASK.TASKt_WAKE.PENDING [15:0] RO, reset M, 0 (03_cycle_and_tasks.md R123): Pending wake events; saturates -/
def TASK.TASKt_WAKE.PENDING : Fld := ⟨83, 0x40040028, 1, 0x0, 256, 0x40, 0, 16, .RO, .M, 0⟩
/-- TASK.TASKt_LSEQ_LO.SEQ [31:0] RO, reset M, 0 (03_cycle_and_tasks.md R123): Last non-EMPTY commit sequence bits [31:0]; the read latches LSEQ_HI -/
def TASK.TASKt_LSEQ_LO.SEQ : Fld := ⟨84, 0x4004002C, 1, 0x0, 256, 0x40, 0, 32, .RO, .M, 0⟩
/-- TASK.TASKt_LSEQ_HI.SEQ [31:0] RO, reset M, 0 (03_cycle_and_tasks.md R123): Bits [63:32] -/
def TASK.TASKt_LSEQ_HI.SEQ : Fld := ⟨85, 0x40040030, 1, 0x0, 256, 0x40, 0, 32, .RO, .M, 0⟩
/-- TASK.TASKt_CQ.CQMAX [10:0] RO, reset N (03_cycle_and_tasks.md R123): 0–1,024 capture entries per cycle (R102) -/
def TASK.TASKt_CQ.CQMAX : Fld := ⟨86, 0x40040034, 1, 0x0, 256, 0x40, 0, 11, .RO, .N, 0⟩
/-- TASK.RESTART.TASK [7:0] WO, reset M, 0 (03_cycle_and_tasks.md R123): Task to restart (R114) -/
def TASK.RESTART.TASK : Fld := ⟨87, 0x40044000, 1, 0x0, 1, 0x0, 0, 8, .WO, .M, 0⟩
/-- TASK.OVRCNT.COUNT [31:0] RC, reset M, 0 (03_cycle_and_tasks.md R123): Overruns of all tasks; saturates -/
def TASK.OVRCNT.COUNT : Fld := ⟨88, 0x40044004, 1, 0x0, 1, 0x0, 0, 32, .RC, .M, 0⟩
/-- TASK.FAULTCNT.COUNT [8:0] RO, reset M, 0 (03_cycle_and_tasks.md R123): Tasks now FAULTED, 0–256 -/
def TASK.FAULTCNT.COUNT : Fld := ⟨89, 0x40044008, 1, 0x0, 1, 0x0, 0, 9, .RO, .M, 0⟩
/-- TASK.FAULTMAPk.MAP [31:0] RO, reset M, 0 (03_cycle_and_tasks.md R123): Bit i: task 32k + i is FAULTED -/
def TASK.FAULTMAPk.MAP : Fld := ⟨90, 0x40044010, 1, 0x0, 8, 0x4, 0, 32, .RO, .M, 0⟩
/-- BLK.STATUS.STATE [2:0] RO, reset M, 0 (03_cycle_and_tasks.md R124): 0 RUN, 1 IDLE, 2 RESTARTING, 3 MOVING_OUT, 4 STOPPED, 5 RETIRED; 6–7 do not occur -/
def BLK.STATUS.STATE : Fld := ⟨91, 0x40200000, 1, 0x0, 16, 0x10000, 0, 3, .RO, .M, 0⟩
/-- BLK.STATUS.CURTASK [15:8] RO, reset M, 0 (03_cycle_and_tasks.md R124): Task on the core -/
def BLK.STATUS.CURTASK : Fld := ⟨92, 0x40200000, 1, 0x0, 16, 0x10000, 8, 8, .RO, .M, 0⟩
/-- BLK.STATUS.CURVALID [16:16] RO, reset M, 0 (03_cycle_and_tasks.md R124): CURTASK is valid -/
def BLK.STATUS.CURVALID : Fld := ⟨93, 0x40200000, 1, 0x0, 16, 0x10000, 16, 1, .RO, .M, 0⟩
/-- BLK.STATUS.CURCLASS [18:17] RO, reset M, 0 (03_cycle_and_tasks.md R124): Class of CURTASK -/
def BLK.STATUS.CURCLASS : Fld := ⟨94, 0x40200000, 1, 0x0, 16, 0x10000, 17, 2, .RO, .M, 0⟩
/-- BLK.CFG.FALLBACK [3:0] RO, reset N (03_cycle_and_tasks.md R124): Fallback block of this block's region; the same in all four blocks of the region (R116) -/
def BLK.CFG.FALLBACK : Fld := ⟨95, 0x40200004, 1, 0x0, 16, 0x10000, 0, 4, .RO, .N, 0⟩
/-- BLK.HOMED.COUNT [5:0] RO, reset M, 0 (03_cycle_and_tasks.md R124): Tasks now on this block, 0–32 -/
def BLK.HOMED.COUNT : Fld := ⟨96, 0x40200008, 1, 0x0, 16, 0x10000, 0, 6, .RO, .M, 0⟩
/-- BLK.CAUSE.MCAUSE [31:0] RO, reset M, 0 (03_cycle_and_tasks.md R124): mcause of the last task exception -/
def BLK.CAUSE.MCAUSE : Fld := ⟨97, 0x4020000C, 1, 0x0, 16, 0x10000, 0, 32, .RO, .M, 0⟩
/-- BLK.EPC_LO.EPC [31:0] RO, reset M, 0 (03_cycle_and_tasks.md R124): Program counter of the last task exception, bits [31:0] -/
def BLK.EPC_LO.EPC : Fld := ⟨98, 0x40200010, 1, 0x0, 16, 0x10000, 0, 32, .RO, .M, 0⟩
/-- BLK.EPC_HI.EPC [31:0] RO, reset M, 0 (03_cycle_and_tasks.md R124): Bits [63:32] -/
def BLK.EPC_HI.EPC : Fld := ⟨99, 0x40200014, 1, 0x0, 16, 0x10000, 0, 32, .RO, .M, 0⟩
/-- BLK.TVAL_LO.TVAL [31:0] RO, reset M, 0 (03_cycle_and_tasks.md R124): mtval of the last task exception, bits [31:0] -/
def BLK.TVAL_LO.TVAL : Fld := ⟨100, 0x40200018, 1, 0x0, 16, 0x10000, 0, 32, .RO, .M, 0⟩
/-- BLK.TVAL_HI.TVAL [31:0] RO, reset M, 0 (03_cycle_and_tasks.md R124): Bits [63:32] -/
def BLK.TVAL_HI.TVAL : Fld := ⟨101, 0x4020001C, 1, 0x0, 16, 0x10000, 0, 32, .RO, .M, 0⟩
/-- BLK.EXCCNT.COUNT [31:0] RC, reset M, 0 (03_cycle_and_tasks.md R124): Task exceptions; saturates -/
def BLK.EXCCNT.COUNT : Fld := ⟨102, 0x40200020, 1, 0x0, 16, 0x10000, 0, 32, .RC, .M, 0⟩
/-- BLK.RESTARTS.COUNT [15:0] RO, reset K, 0 (03_cycle_and_tasks.md R124): Block restarts since power-up; saturates -/
def BLK.RESTARTS.COUNT : Fld := ⟨103, 0x40200024, 1, 0x0, 16, 0x10000, 0, 16, .RO, .K, 0⟩
/-- BLK.TCMFREE.ITCM [15:0] RO, reset M (03_cycle_and_tasks.md R124): Free instruction TCM in 64 B -/
def BLK.TCMFREE.ITCM : Fld := ⟨104, 0x40200028, 1, 0x0, 16, 0x10000, 0, 16, .RO, .M, 0⟩
/-- BLK.TCMFREE.DTCM [31:16] RO, reset M (03_cycle_and_tasks.md R124): Free data TCM in 64 B -/
def BLK.TCMFREE.DTCM : Fld := ⟨105, 0x40200028, 1, 0x0, 16, 0x10000, 16, 16, .RO, .M, 0⟩
/-- BLK.LOAD.BUSY [13:0] RO, reset M, 0 (03_cycle_and_tasks.md R124): Core busy time over the last 100 ms, in 0.01 %, 0–10,000 -/
def BLK.LOAD.BUSY : Fld := ⟨106, 0x4020002C, 1, 0x0, 16, 0x10000, 0, 14, .RO, .M, 0⟩
/-- CELL.CELLc_CTRL.MODE [2:0] RO, reset N (04_reflex_cells.md R129): 0 OFF, 1 CAPTURE, 2 COMPARE_ONCE, 3 COMPARE_PERIODIC, 4 REFLEX, 5 MOVE, 6 WINDOW; 7 is rejected at load -/
def CELL.CELLc_CTRL.MODE : Fld := ⟨107, 0x40400000, 1, 0x0, 4096, 0x20, 0, 3, .RO, .N, 0⟩
/-- CELL.CELLc_CTRL.BASE [6:3] RO, reset N (04_reflex_cells.md R129): Phase base of the cell -/
def CELL.CELLc_CTRL.BASE : Fld := ⟨108, 0x40400000, 1, 0x0, 4096, 0x20, 3, 4, .RO, .N, 0⟩
/-- CELL.CELLc_CTRL.ARM [7:7] RW, reset N (04_reflex_cells.md R129): Write 1: apply the staged words and arm. Write 0: disarm. Reads 1 while armed. What ARM does in each mode is given in R526 -/
def CELL.CELLc_CTRL.ARM : Fld := ⟨109, 0x40400000, 1, 0x0, 4096, 0x20, 7, 1, .RW, .N, 0⟩
/-- CELL.CELLc_CTRL.OUTDST [9:8] RO, reset N (04_reflex_cells.md R129): 0 none, 1 fast pin, 2 reflex net, 3 block interrupt -/
def CELL.CELLc_CTRL.OUTDST : Fld := ⟨110, 0x40400000, 1, 0x0, 4096, 0x20, 8, 2, .RO, .N, 0⟩
/-- CELL.CELLc_CTRL.OUTACT [11:10] RW, reset N (04_reflex_cells.md R129): Compare and MOVE actions: 0 SET, 1 CLEAR, 2 TOGGLE, 3 PULSE -/
def CELL.CELLc_CTRL.OUTACT : Fld := ⟨111, 0x40400000, 1, 0x0, 4096, 0x20, 10, 2, .RW, .N, 0⟩
/-- CELL.CELLc_CTRL.EPOCHV [12:12] RW, reset N (04_reflex_cells.md R129): 1: EPOCH is given for the target -/
def CELL.CELLc_CTRL.EPOCHV : Fld := ⟨112, 0x40400000, 1, 0x0, 4096, 0x20, 12, 1, .RW, .N, 0⟩
/-- CELL.CELLc_CTRL.INVOUT [13:13] RO, reset N (04_reflex_cells.md R129): 1 inverts a REFLEX output -/
def CELL.CELLc_CTRL.INVOUT : Fld := ⟨113, 0x40400000, 1, 0x0, 4096, 0x20, 13, 1, .RO, .N, 0⟩
/-- CELL.CELLc_CTRL.EPOCH [31:16] RW, reset N (04_reflex_cells.md R129): Epoch of the target when EPOCHV is 1 -/
def CELL.CELLc_CTRL.EPOCH : Fld := ⟨114, 0x40400000, 1, 0x0, 4096, 0x20, 16, 16, .RW, .N, 0⟩
/-- CELL.CELLc_TARGET_LO.TARGET [31:0] RW, reset N (04_reflex_cells.md R129): COMPARE and MOVE: target bits [31:0] -/
def CELL.CELLc_TARGET_LO.TARGET : Fld := ⟨115, 0x40400004, 1, 0x0, 4096, 0x20, 0, 32, .RW, .N, 0⟩
/-- CELL.CELLc_TARGET_LO.WSTART [31:0] RW, reset N (04_reflex_cells.md R129): REFLEX: phase window start, in base units -/
def CELL.CELLc_TARGET_LO.WSTART : Fld := ⟨116, 0x40400004, 1, 0x0, 4096, 0x20, 0, 32, .RW, .N, 0⟩
/-- CELL.CELLc_TARGET_LO.RESULT [31:0] RO, reset M, 0 (04_reflex_cells.md R129): CAPTURE: last stamp bits [31:0]. WINDOW: last measurement bits [31:0] -/
def CELL.CELLc_TARGET_LO.RESULT : Fld := ⟨117, 0x40400004, 1, 0x0, 4096, 0x20, 0, 32, .RO, .M, 0⟩
/-- CELL.CELLc_TARGET_HI.TARGET [31:0] RW, reset N (04_reflex_cells.md R129): COMPARE and MOVE: target bits [63:32] -/
def CELL.CELLc_TARGET_HI.TARGET : Fld := ⟨118, 0x40400008, 1, 0x0, 4096, 0x20, 0, 32, .RW, .N, 0⟩
/-- CELL.CELLc_TARGET_HI.WWIDTH [31:0] RW, reset N (04_reflex_cells.md R129): REFLEX: phase window width, in base units -/
def CELL.CELLc_TARGET_HI.WWIDTH : Fld := ⟨119, 0x40400008, 1, 0x0, 4096, 0x20, 0, 32, .RW, .N, 0⟩
/-- CELL.CELLc_TARGET_HI.RESULT [31:0] RO, reset M, 0 (04_reflex_cells.md R129): CAPTURE and WINDOW: result bits [63:32] -/
def CELL.CELLc_TARGET_HI.RESULT : Fld := ⟨120, 0x40400008, 1, 0x0, 4096, 0x20, 0, 32, .RO, .M, 0⟩
/-- CELL.CELLc_PERIOD.PERIOD [31:0] RW, reset N (04_reflex_cells.md R129): Period bits [31:0]: grid for COMPARE_PERIODIC and MOVE, window repeat for REFLEX, timeout for WINDOW -/
def CELL.CELLc_PERIOD.PERIOD : Fld := ⟨121, 0x4040000C, 1, 0x0, 4096, 0x20, 0, 32, .RW, .N, 0⟩
/-- CELL.CELLc_IN01.IN0 [15:0] RO, reset N (04_reflex_cells.md R129): Input 0 selector (R130) -/
def CELL.CELLc_IN01.IN0 : Fld := ⟨122, 0x40400010, 1, 0x0, 4096, 0x20, 0, 16, .RO, .N, 0⟩
/-- CELL.CELLc_IN01.IN1 [31:16] RO, reset N (04_reflex_cells.md R129): Input 1 selector -/
def CELL.CELLc_IN01.IN1 : Fld := ⟨123, 0x40400010, 1, 0x0, 4096, 0x20, 16, 16, .RO, .N, 0⟩
/-- CELL.CELLc_IN23.IN2 [15:0] RO, reset N (04_reflex_cells.md R129): Input 2 selector; in MOVE mode, see SIGNAL -/
def CELL.CELLc_IN23.IN2 : Fld := ⟨124, 0x40400014, 1, 0x0, 4096, 0x20, 0, 16, .RO, .N, 0⟩
/-- CELL.CELLc_IN23.IN3 [31:16] RO, reset N (04_reflex_cells.md R129): Input 3 selector; in MOVE mode, see DIR -/
def CELL.CELLc_IN23.IN3 : Fld := ⟨125, 0x40400014, 1, 0x0, 4096, 0x20, 16, 16, .RO, .N, 0⟩
/-- CELL.CELLc_IN23.SIGNAL [16:0] RO, reset N (04_reflex_cells.md R129): MOVE: signal identity -/
def CELL.CELLc_IN23.SIGNAL : Fld := ⟨126, 0x40400014, 1, 0x0, 4096, 0x20, 0, 17, .RO, .N, 0⟩
/-- CELL.CELLc_IN23.DIR [17:17] RO, reset N (04_reflex_cells.md R129): MOVE: 0 pin or net into signal, 1 signal into pin -/
def CELL.CELLc_IN23.DIR : Fld := ⟨127, 0x40400014, 1, 0x0, 4096, 0x20, 17, 1, .RO, .N, 0⟩
/-- CELL.CELLc_RULE.OP [2:0] RO, reset N (04_reflex_cells.md R129): 0 AND, 1 OR, 2 XOR, 3 NOT; 4–7 are rejected at load -/
def CELL.CELLc_RULE.OP : Fld := ⟨128, 0x40400018, 1, 0x0, 4096, 0x20, 0, 3, .RO, .N, 0⟩
/-- CELL.CELLc_RULE.STORE [4:3] RO, reset N (04_reflex_cells.md R129): 0 NONE, 1 LATCH, 2 SR; 3 is rejected at load -/
def CELL.CELLc_RULE.STORE : Fld := ⟨129, 0x40400018, 1, 0x0, 4096, 0x20, 3, 2, .RO, .N, 0⟩
/-- CELL.CELLc_RULE.CLR [5:5] WO, reset M, 0 (04_reflex_cells.md R129): Write 1: clear the latch at the next frame -/
def CELL.CELLc_RULE.CLR : Fld := ⟨130, 0x40400018, 1, 0x0, 4096, 0x20, 5, 1, .WO, .M, 0⟩
/-- CELL.CELLc_RULE.EDGE [7:6] RO, reset N (04_reflex_cells.md R129): CAPTURE: 0 rising, 1 falling, 2 both. WINDOW: 0 high width, 1 low width, 2 period rising to rising, 3 period falling to falling -/
def CELL.CELLc_RULE.EDGE : Fld := ⟨131, 0x40400018, 1, 0x0, 4096, 0x20, 6, 2, .RO, .N, 0⟩
/-- CELL.CELLc_RULE.STRETCH [23:8] RO, reset N (04_reflex_cells.md R129): In frames of 12.5 ns, 0–65,535. For a REFLEX output: minimum pulse, where 0 means no stretch. For a PULSE action: pulse width, where 0 gives a puls... -/
def CELL.CELLc_RULE.STRETCH : Fld := ⟨132, 0x40400018, 1, 0x0, 4096, 0x20, 8, 16, .RO, .N, 0⟩
/-- CELL.CELLc_STAT.PERIOD_HI [7:0] RW, reset N (04_reflex_cells.md R129): Period bits [39:32] -/
def CELL.CELLc_STAT.PERIOD_HI : Fld := ⟨133, 0x4040001C, 1, 0x0, 4096, 0x20, 0, 8, .RW, .N, 0⟩
/-- CELL.CELLc_STAT.RTW [8:8] RO, reset N (04_reflex_cells.md R129): 1: the run-time fields of the cell are writable (R131) -/
def CELL.CELLc_STAT.RTW : Fld := ⟨134, 0x4040001C, 1, 0x0, 4096, 0x20, 8, 1, .RO, .N, 0⟩
/-- CELL.CELLc_STAT.CQ [9:9] RO, reset N (04_reflex_cells.md R129): 1: CAPTURE and WINDOW results enter the capture queue -/
def CELL.CELLc_STAT.CQ : Fld := ⟨135, 0x4040001C, 1, 0x0, 4096, 0x20, 9, 1, .RO, .N, 0⟩
/-- CELL.CELLc_STAT.OUT [10:10] RO, reset K, 0 (04_reflex_cells.md R129): Current output of the cell; live at every instant, also through a module reset (R134) -/
def CELL.CELLc_STAT.OUT : Fld := ⟨136, 0x4040001C, 1, 0x0, 4096, 0x20, 10, 1, .RO, .K, 0⟩
/-- CELL.CELLc_STAT.FIRED [12:12] W1C, reset M, 0 (04_reflex_cells.md R129): A compare, MOVE, capture or measurement has completed -/
def CELL.CELLc_STAT.FIRED : Fld := ⟨137, 0x4040001C, 1, 0x0, 4096, 0x20, 12, 1, .W1C, .M, 0⟩
/-- CELL.CELLc_STAT.LATE [13:13] W1C, reset M, 0 (04_reflex_cells.md R129): An event fired LATE (R32, R34, R36) -/
def CELL.CELLc_STAT.LATE : Fld := ⟨138, 0x4040001C, 1, 0x0, 4096, 0x20, 13, 1, .W1C, .M, 0⟩
/-- CELL.CELLc_STAT.OVF [14:14] W1C, reset M, 0 (04_reflex_cells.md R129): An edge or a capture was lost (R137), or grid points of a periodic cell were merged (R522) -/
def CELL.CELLc_STAT.OVF : Fld := ⟨139, 0x4040001C, 1, 0x0, 4096, 0x20, 14, 1, .W1C, .M, 0⟩
/-- CELL.CELLc_STAT.ARMERR [16:15] RO, reset M, 0 (04_reflex_cells.md R129): Result of the last arm: 0 none, 1 EPOCH_PASSED, 2 BADBASE -/
def CELL.CELLc_STAT.ARMERR : Fld := ⟨140, 0x4040001C, 1, 0x0, 4096, 0x20, 15, 2, .RO, .M, 0⟩
/-- CELL.CELLc_STAT.CHKFAIL [20:17] RO, reset M, 0 (04_reflex_cells.md R129): Self-check failures within the window W of the cell budget (R467), 0 to N -/
def CELL.CELLc_STAT.CHKFAIL : Fld := ⟨141, 0x4040001C, 1, 0x0, 4096, 0x20, 17, 4, .RO, .M, 0⟩
/-- CELL.CELLc_STAT.REMAPPED [21:21] RO, reset N (04_reflex_cells.md R129): The cell runs on a spare or on a backup strand -/
def CELL.CELLc_STAT.REMAPPED : Fld := ⟨142, 0x4040001C, 1, 0x0, 4096, 0x20, 21, 1, .RO, .N, 0⟩
/-- CELL.CELLc_STAT.DEAD [22:22] RO, reset N (04_reflex_cells.md R129): The cell is out of service (R147) -/
def CELL.CELLc_STAT.DEAD : Fld := ⟨143, 0x4040001C, 1, 0x0, 4096, 0x20, 22, 1, .RO, .N, 0⟩
/-- CELL.STRANDs_STAT.STATE [1:0] RO, reset N (04_reflex_cells.md R150): 0 RUN, 1 RESTARTING, 2 RETIRED; 3 does not occur -/
def CELL.STRANDs_STAT.STATE : Fld := ⟨144, 0x40420000, 1, 0x0, 128, 0x10, 0, 2, .RO, .N, 0⟩
/-- CELL.STRANDs_STAT.SPARES [4:2] RO, reset N (04_reflex_cells.md R150): Spares in use, 0–4 -/
def CELL.STRANDs_STAT.SPARES : Fld := ⟨145, 0x40420000, 1, 0x0, 128, 0x10, 2, 3, .RO, .N, 0⟩
/-- CELL.STRANDs_STAT.LIVE [10:5] RO, reset N (04_reflex_cells.md R150): Usable cells not in OFF mode, 0–32 -/
def CELL.STRANDs_STAT.LIVE : Fld := ⟨146, 0x40420000, 1, 0x0, 128, 0x10, 5, 6, .RO, .N, 0⟩
/-- CELL.STRANDs_STAT.RESTARTS [31:16] RO, reset M, 0 (04_reflex_cells.md R150): Restarts since the last module reset; saturates -/
def CELL.STRANDs_STAT.RESTARTS : Fld := ⟨147, 0x40420000, 1, 0x0, 128, 0x10, 16, 16, .RO, .M, 0⟩
/-- CELL.STRANDs_CFG.BACKUP [6:0] RO, reset N (04_reflex_cells.md R150): Backup strand number -/
def CELL.STRANDs_CFG.BACKUP : Fld := ⟨148, 0x40420004, 1, 0x0, 128, 0x10, 0, 7, .RO, .N, 0⟩
/-- CELL.STRANDs_CFG.BACKUP_EN [7:7] RO, reset N (04_reflex_cells.md R150): 1: a backup is named -/
def CELL.STRANDs_CFG.BACKUP_EN : Fld := ⟨149, 0x40420004, 1, 0x0, 128, 0x10, 7, 1, .RO, .N, 0⟩
/-- CELL.STRANDs_HOST.HOST [6:0] RO, reset N (04_reflex_cells.md R150): Strand that now runs this strand's cells; equal to s unless moved -/
def CELL.STRANDs_HOST.HOST : Fld := ⟨150, 0x40420008, 1, 0x0, 128, 0x10, 0, 7, .RO, .N, 0⟩
/-- CELL.NETLVLk.LEVEL [31:0] RO, reset M, 0 (04_reflex_cells.md R150): Bit i: level of net 32k + i, as seen by the module fabric -/
def CELL.NETLVLk.LEVEL : Fld := ⟨151, 0x40421000, 1, 0x0, 32, 0x4, 0, 32, .RO, .M, 0⟩
/-- CELL.PINp_ROUTE.HOME [6:0] RO, reset N (04_reflex_cells.md R150): Home strand of pin p -/
def CELL.PINp_ROUTE.HOME : Fld := ⟨152, 0x40421100, 1, 0x0, 64, 0x4, 0, 7, .RO, .N, 0⟩
/-- CELL.PINp_ROUTE.ROUTED [7:7] RO, reset N (04_reflex_cells.md R150): 1: the pin is routed to a strand -/
def CELL.PINp_ROUTE.ROUTED : Fld := ⟨153, 0x40421100, 1, 0x0, 64, 0x4, 7, 1, .RO, .N, 0⟩
/-- CELL.PINp_ROUTE.CUR [14:8] RO, reset N (04_reflex_cells.md R150): Strand the pin is now routed to -/
def CELL.PINp_ROUTE.CUR : Fld := ⟨154, 0x40421100, 1, 0x0, 64, 0x4, 8, 7, .RO, .N, 0⟩
/-- CELL.PINp_ROUTE.MOVED [15:15] RO, reset N (04_reflex_cells.md R150): CUR differs from HOME -/
def CELL.PINp_ROUTE.MOVED : Fld := ⟨155, 0x40421100, 1, 0x0, 64, 0x4, 15, 1, .RO, .N, 0⟩
/-- CELL.CHKCNT.COUNT [31:0] RC, reset M, 0 (04_reflex_cells.md R150): Cell self-check failures; saturates -/
def CELL.CHKCNT.COUNT : Fld := ⟨156, 0x40421200, 1, 0x0, 1, 0x0, 0, 32, .RC, .M, 0⟩
/-- CELL.REMAPS.COUNT [15:0] RO, reset N (04_reflex_cells.md R150): Cells running on spares or on backup strands -/
def CELL.REMAPS.COUNT : Fld := ⟨157, 0x40421204, 1, 0x0, 1, 0x0, 0, 16, .RO, .N, 0⟩
/-- CELL.DEADCNT.COUNT [12:0] RO, reset N (04_reflex_cells.md R150): Cells that are DEAD, 0–4,096 -/
def CELL.DEADCNT.COUNT : Fld := ⟨158, 0x40421208, 1, 0x0, 1, 0x0, 0, 13, .RO, .N, 0⟩
/-- CELL.CQLOST.COUNT [31:0] RC, reset M, 0 (04_reflex_cells.md R150): Captures lost at a full strand FIFO; saturates -/
def CELL.CQLOST.COUNT : Fld := ⟨159, 0x4042120C, 1, 0x0, 1, 0x0, 0, 32, .RC, .M, 0⟩
/-- CELL.MOVEHOLD.COUNT [31:0] RC, reset M, 0 (04_reflex_cells.md R150): MOVE firings that held a pin under R139, and MOVE writes replaced while they waited for a grant (R63); saturates -/
def CELL.MOVEHOLD.COUNT : Fld := ⟨160, 0x40421210, 1, 0x0, 1, 0x0, 0, 32, .RC, .M, 0⟩
/-- KETTLE.BUDGET.BUDGET [9:0] RW, reset N (05_kettle_budget.md R176): Budget in 0.1 W, 100–300 (R155) -/
def KETTLE.BUDGET.BUDGET : Fld := ⟨161, 0x40010000, 1, 0x0, 1, 0x0, 0, 10, .RW, .N, 0⟩
/-- KETTLE.BUDGET.IMAGE [25:16] RO, reset N (05_kettle_budget.md R176): Budget set by the structure image -/
def KETTLE.BUDGET.IMAGE : Fld := ⟨162, 0x40010000, 1, 0x0, 1, 0x0, 16, 10, .RO, .N, 0⟩
/-- KETTLE.BUDGET_EFF.EFF [9:0] RO, reset M (05_kettle_budget.md R176): Effective budget in 0.1 W (R156) -/
def KETTLE.BUDGET_EFF.EFF : Fld := ⟨163, 0x40010004, 1, 0x0, 1, 0x0, 0, 10, .RO, .M, 0⟩
/-- KETTLE.BUDGET_EFF.DERATE [11:10] RO, reset M, 0 (05_kettle_budget.md R176): 0 none, 1 80 %, 2 60 %; 3 does not occur -/
def KETTLE.BUDGET_EFF.DERATE : Fld := ⟨164, 0x40010004, 1, 0x0, 1, 0x0, 10, 2, .RO, .M, 0⟩
/-- KETTLE.STAT.SHORT_B [0:0] W1C, reset M, 0 (05_kettle_budget.md R176): A class B need was not paid in full (R160) -/
def KETTLE.STAT.SHORT_B : Fld := ⟨165, 0x40010008, 1, 0x0, 1, 0x0, 0, 1, .W1C, .M, 0⟩
/-- KETTLE.STAT.SHORT_C [1:1] W1C, reset M, 0 (05_kettle_budget.md R176): A class C need was not paid in full -/
def KETTLE.STAT.SHORT_C : Fld := ⟨166, 0x40010008, 1, 0x0, 1, 0x0, 1, 1, .W1C, .M, 0⟩
/-- KETTLE.STAT.SHORT_D [2:2] W1C, reset M, 0 (05_kettle_budget.md R176): A class D or SYSD need was not paid in full -/
def KETTLE.STAT.SHORT_D : Fld := ⟨167, 0x40010008, 1, 0x0, 1, 0x0, 2, 1, .W1C, .M, 0⟩
/-- KETTLE.STAT.NEG_DIST [3:3] W1C, reset M, 0 (05_kettle_budget.md R176): D fell below the class A total (R160) -/
def KETTLE.STAT.NEG_DIST : Fld := ⟨168, 0x40010008, 1, 0x0, 1, 0x0, 3, 1, .W1C, .M, 0⟩
/-- KETTLE.STAT.POOL_LIMITING [4:4] RO, reset M, 0 (05_kettle_budget.md R176): Fast outputs are being limited (R173) -/
def KETTLE.STAT.POOL_LIMITING : Fld := ⟨169, 0x40010008, 1, 0x0, 1, 0x0, 4, 1, .RO, .M, 0⟩
/-- KETTLE.STAT.ANY_WARM [5:5] RO, reset M, 0 (05_kettle_budget.md R176): Some region is above NORMAL -/
def KETTLE.STAT.ANY_WARM : Fld := ⟨170, 0x40010008, 1, 0x0, 1, 0x0, 5, 1, .RO, .M, 0⟩
/-- KETTLE.STAT.REGION_OFF [6:6] RO, reset M, 0 (05_kettle_budget.md R176): Some region is STOPPING or OFF -/
def KETTLE.STAT.REGION_OFF : Fld := ⟨171, 0x40010008, 1, 0x0, 1, 0x0, 6, 1, .RO, .M, 0⟩
/-- KETTLE.STAT.SENSOR_FAULT [7:7] W1C, reset M, 0 (05_kettle_budget.md R176): A sensor was found invalid (R154) -/
def KETTLE.STAT.SENSOR_FAULT : Fld := ⟨172, 0x40010008, 1, 0x0, 1, 0x0, 7, 1, .W1C, .M, 0⟩
/-- KETTLE.DIST.D [31:0] RO, reset M, 0 (05_kettle_budget.md R176): Signed D of the last tick after class A, in 0.1 µJ -/
def KETTLE.DIST.D : Fld := ⟨173, 0x4001000C, 1, 0x0, 1, 0x0, 0, 32, .RO, .M, 0⟩
/-- KETTLE.NONBLK.E [31:0] RO, reset M, 0 (05_kettle_budget.md R176): Non-block energy of the last tick, in 0.1 µJ (R153) -/
def KETTLE.NONBLK.E : Fld := ⟨174, 0x40010010, 1, 0x0, 1, 0x0, 0, 32, .RO, .M, 0⟩
/-- KETTLE.COSTCFG.SHIFT [2:0] RWL, reset N (05_kettle_budget.md R176): 1–6; 0 and 7 are rejected at load (R162) -/
def KETTLE.COSTCFG.SHIFT : Fld := ⟨175, 0x40010014, 1, 0x0, 1, 0x0, 0, 3, .RWL, .N, 0⟩
/-- KETTLE.INT_TEMP.TEMP [15:0] RO, reset M, 0 (05_kettle_budget.md R176): Signed interior temperature in 0.25 °C -/
def KETTLE.INT_TEMP.TEMP : Fld := ⟨176, 0x40010018, 1, 0x0, 1, 0x0, 0, 16, .RO, .M, 0⟩
/-- KETTLE.TICKS.COUNT [31:0] RO, reset M, 0 (05_kettle_budget.md R176): Refill ticks; wraps -/
def KETTLE.TICKS.COUNT : Fld := ⟨177, 0x4001001C, 1, 0x0, 1, 0x0, 0, 32, .RO, .M, 0⟩
/-- KETTLE.SYSD_ACCT.ACCT [31:0] RO, reset M, 0 (05_kettle_budget.md R176): Signed SYSD account in 0.1 µJ (R158) -/
def KETTLE.SYSD_ACCT.ACCT : Fld := ⟨178, 0x40010020, 1, 0x0, 1, 0x0, 0, 32, .RO, .M, 0⟩
/-- KETTLE.SYSD_CFG.WEIGHT [7:0] RO, reset N (05_kettle_budget.md R176): Class D weight of SYSD -/
def KETTLE.SYSD_CFG.WEIGHT : Fld := ⟨179, 0x40010024, 1, 0x0, 1, 0x0, 0, 8, .RO, .N, 0⟩
/-- KETTLE.SHORTCNT.COUNT [31:0] RC, reset M, 0 (05_kettle_budget.md R176): Ticks with an unpaid need; saturates -/
def KETTLE.SHORTCNT.COUNT : Fld := ⟨180, 0x40010028, 1, 0x0, 1, 0x0, 0, 32, .RC, .M, 0⟩
/-- KETTLE.POOL_I.TOTAL [11:0] RO, reset M, 0 (05_kettle_budget.md R176): Pool current in mA -/
def KETTLE.POOL_I.TOTAL : Fld := ⟨181, 0x40010040, 1, 0x0, 1, 0x0, 0, 12, .RO, .M, 0⟩
/-- KETTLE.POOL_I.SAFE [27:16] RO, reset M, 0 (05_kettle_budget.md R176): Safety output current in mA -/
def KETTLE.POOL_I.SAFE : Fld := ⟨182, 0x40010040, 1, 0x0, 1, 0x0, 16, 12, .RO, .M, 0⟩
/-- KETTLE.POOL_STAT.LIMIT [5:0] RO, reset M, 50 (05_kettle_budget.md R176): Current limit L in mA (R173) -/
def KETTLE.POOL_STAT.LIMIT : Fld := ⟨183, 0x40010044, 1, 0x0, 1, 0x0, 0, 6, .RO, .M, 50⟩
/-- KETTLE.POOL_STAT.LIMITING [6:6] RO, reset M, 0 (05_kettle_budget.md R176): Limiting in force -/
def KETTLE.POOL_STAT.LIMITING : Fld := ⟨184, 0x40010044, 1, 0x0, 1, 0x0, 6, 1, .RO, .M, 0⟩
/-- KETTLE.POOL_STAT.SAFE_HIGH [7:7] RO, reset M, 0 (05_kettle_budget.md R176): Safety current at or above 720 mA (R174) -/
def KETTLE.POOL_STAT.SAFE_HIGH : Fld := ⟨185, 0x40010044, 1, 0x0, 1, 0x0, 7, 1, .RO, .M, 0⟩
/-- KETTLE.POOL_EVENTS.COUNT [31:0] RC, reset M, 0 (05_kettle_budget.md R176): Limiting episodes; saturates -/
def KETTLE.POOL_EVENTS.COUNT : Fld := ⟨186, 0x40010048, 1, 0x0, 1, 0x0, 0, 32, .RC, .M, 0⟩
/-- KETTLE.BLKb_ACCT.ACCT [31:0] RO, reset M, 0 (05_kettle_budget.md R176): Signed account in 0.1 µJ (R161) -/
def KETTLE.BLKb_ACCT.ACCT : Fld := ⟨187, 0x40010100, 1, 0x0, 16, 0x20, 0, 32, .RO, .M, 0⟩
/-- KETTLE.BLKb_QUOTA.QUOTA [31:0] RW, reset N (05_kettle_budget.md R176): Account capacity in 0.1 µJ (R164) -/
def KETTLE.BLKb_QUOTA.QUOTA : Fld := ⟨188, 0x40010104, 1, 0x0, 16, 0x20, 0, 32, .RW, .N, 0⟩
/-- KETTLE.BLKb_RA.RA [15:0] RO, reset N (05_kettle_budget.md R176): Class A reserve per tick in 0.1 µJ (R157) -/
def KETTLE.BLKb_RA.RA : Fld := ⟨189, 0x40010108, 1, 0x0, 16, 0x20, 0, 16, .RO, .N, 0⟩
/-- KETTLE.BLKb_WEIGHT.WB [7:0] RO, reset N (05_kettle_budget.md R176): Class B weight -/
def KETTLE.BLKb_WEIGHT.WB : Fld := ⟨190, 0x4001010C, 1, 0x0, 16, 0x20, 0, 8, .RO, .N, 0⟩
/-- KETTLE.BLKb_WEIGHT.WC [15:8] RO, reset N (05_kettle_budget.md R176): Class C weight -/
def KETTLE.BLKb_WEIGHT.WC : Fld := ⟨191, 0x4001010C, 1, 0x0, 16, 0x20, 8, 8, .RO, .N, 0⟩
/-- KETTLE.BLKb_WEIGHT.WD [23:16] RO, reset N (05_kettle_budget.md R176): Class D weight -/
def KETTLE.BLKb_WEIGHT.WD : Fld := ⟨192, 0x4001010C, 1, 0x0, 16, 0x20, 16, 8, .RO, .N, 0⟩
/-- KETTLE.BLKb_POWER.MW [15:0] RO, reset M, 0 (05_kettle_budget.md R176): Block power averaged over 100 ms, in mW -/
def KETTLE.BLKb_POWER.MW : Fld := ⟨193, 0x40010110, 1, 0x0, 16, 0x20, 0, 16, .RO, .M, 0⟩
/-- KETTLE.BLKb_STARVED.COUNT [5:0] RO, reset M, 0 (05_kettle_budget.md R176): STARVED tasks on the block, 0–32 -/
def KETTLE.BLKb_STARVED.COUNT : Fld := ⟨194, 0x40010114, 1, 0x0, 16, 0x20, 0, 6, .RO, .M, 0⟩
/-- KETTLE.RGNr_TEMP.SENS0 [15:0] RO, reset M, 0 (05_kettle_budget.md R176): Signed sensor 0 in 0.25 °C -/
def KETTLE.RGNr_TEMP.SENS0 : Fld := ⟨195, 0x40010400, 1, 0x0, 4, 0x10, 0, 16, .RO, .M, 0⟩
/-- KETTLE.RGNr_TEMP.SENS1 [31:16] RO, reset M, 0 (05_kettle_budget.md R176): Signed sensor 1 in 0.25 °C -/
def KETTLE.RGNr_TEMP.SENS1 : Fld := ⟨196, 0x40010400, 1, 0x0, 4, 0x10, 16, 16, .RO, .M, 0⟩
/-- KETTLE.RGNr_STATE.HEAT [1:0] RO, reset M, 0 (05_kettle_budget.md R176): 0 NORMAL, 1 WARM1, 2 WARM2, 3 WARM3 (R168) -/
def KETTLE.RGNr_STATE.HEAT : Fld := ⟨197, 0x40010404, 1, 0x0, 4, 0x10, 0, 2, .RO, .M, 0⟩
/-- KETTLE.RGNr_STATE.FLEVEL [3:2] RO, reset M, 0 (05_kettle_budget.md R176): 0 F0, 1 F1, 2 F2, 3 F3 (R169) -/
def KETTLE.RGNr_STATE.FLEVEL : Fld := ⟨198, 0x40010404, 1, 0x0, 4, 0x10, 2, 2, .RO, .M, 0⟩
/-- KETTLE.RGNr_STATE.POWER [5:4] RO, reset K, 0 (05_kettle_budget.md R176): 0 ON, 1 STOPPING, 2 OFF; 3 does not occur; kept through a module reset (R172) -/
def KETTLE.RGNr_STATE.POWER : Fld := ⟨199, 0x40010404, 1, 0x0, 4, 0x10, 4, 2, .RO, .K, 0⟩
/-- KETTLE.RGNr_STATE.S0FAIL [6:6] RO, reset M, 0 (05_kettle_budget.md R176): Sensor 0 invalid -/
def KETTLE.RGNr_STATE.S0FAIL : Fld := ⟨200, 0x40010404, 1, 0x0, 4, 0x10, 6, 1, .RO, .M, 0⟩
/-- KETTLE.RGNr_STATE.S1FAIL [7:7] RO, reset M, 0 (05_kettle_budget.md R176): Sensor 1 invalid -/
def KETTLE.RGNr_STATE.S1FAIL : Fld := ⟨201, 0x40010404, 1, 0x0, 4, 0x10, 7, 1, .RO, .M, 0⟩
/-- KETTLE.RGNr_FCAP.FMAX [1:0] RW, reset N (05_kettle_budget.md R176): Fastest allowed clock level, 0 F0 to 3 F3 -/
def KETTLE.RGNr_FCAP.FMAX : Fld := ⟨202, 0x40010408, 1, 0x0, 4, 0x10, 0, 2, .RW, .N, 0⟩
/-- KETTLE.RGNr_STEPS.SLOWS [15:0] RO, reset M, 0 (05_kettle_budget.md R176): Clock steps to a slower level; saturates -/
def KETTLE.RGNr_STEPS.SLOWS : Fld := ⟨203, 0x4001040C, 1, 0x0, 4, 0x10, 0, 16, .RO, .M, 0⟩
/-- KETTLE.RGNr_STEPS.STOPS [31:16] RO, reset M, 0 (05_kettle_budget.md R176): Region stops; saturates -/
def KETTLE.RGNr_STEPS.STOPS : Fld := ⟨204, 0x4001040C, 1, 0x0, 4, 0x10, 16, 16, .RO, .M, 0⟩
/-- KETTLE.REHOME.REGION [3:0] WO, reset M, 0 (05_kettle_budget.md R176): Bit r: move region r's tasks home (R172) -/
def KETTLE.REHOME.REGION : Fld := ⟨205, 0x40010500, 1, 0x0, 1, 0x0, 0, 4, .WO, .M, 0⟩
/-- KETTLE.TASKt_COST.COST [31:0] RO, reset N (05_kettle_budget.md R176): Cost estimate in 0.1 µJ (R162) -/
def KETTLE.TASKt_COST.COST : Fld := ⟨206, 0x40010800, 1, 0x0, 256, 0x4, 0, 32, .RO, .N, 0⟩
/-- STN.FRAMEERR.COUNT [31:0] RC, reset M, 0 (06_station_rings.md R208): Invalid frames discarded (R182); saturates -/
def STN.FRAMEERR.COUNT : Fld := ⟨207, 0x400E0000, 1, 0x0, 1, 0x0, 0, 32, .RC, .M, 0⟩
/-- STN.FOREIGN.COUNT [31:0] RC, reset M, 0 (06_station_rings.md R208): Foreign frames discarded (R180); saturates -/
def STN.FOREIGN.COUNT : Fld := ⟨208, 0x400E0004, 1, 0x0, 1, 0x0, 0, 32, .RC, .M, 0⟩
/-- STN.PORTp_STAT.LINK [0:0] RO, reset M, 0 (06_station_rings.md R208): Link up at 1000BASE-T full duplex -/
def STN.PORTp_STAT.LINK : Fld := ⟨209, 0x400E0010, 1, 0x0, 4, 0x4, 0, 1, .RO, .M, 0⟩
/-- STN.PORTp_STAT.RETIRED [1:1] RO, reset N (06_station_rings.md R208): Port retired -/
def STN.PORTp_STAT.RETIRED : Fld := ⟨210, 0x400E0010, 1, 0x0, 4, 0x4, 1, 1, .RO, .N, 0⟩
/-- STN.PORTp_STAT.FCS [31:16] RO, reset M, 0 (06_station_rings.md R208): Frames with a bad FCS; saturates -/
def STN.PORTp_STAT.FCS : Fld := ⟨211, 0x400E0010, 1, 0x0, 4, 0x4, 16, 16, .RO, .M, 0⟩
/-- STN.RINGr_CFG.BASE [3:0] RWL, reset N (06_station_rings.md R208): Base of the link period (R188) -/
def STN.RINGr_CFG.BASE : Fld := ⟨212, 0x400E0100, 1, 0x0, 2, 0x40, 0, 4, .RWL, .N, 0⟩
/-- STN.RINGr_CFG.DROPN [7:4] RWL, reset N (06_station_rings.md R208): 1–15; 0 is rejected at load (R201) -/
def STN.RINGr_CFG.DROPN : Fld := ⟨213, 0x400E0100, 1, 0x0, 2, 0x40, 4, 4, .RWL, .N, 0⟩
/-- STN.RINGr_CFG.EN [8:8] RWL, reset N (06_station_rings.md R208): 1: the ring is in use -/
def STN.RINGr_CFG.EN : Fld := ⟨214, 0x400E0100, 1, 0x0, 2, 0x40, 8, 1, .RWL, .N, 0⟩
/-- STN.RINGr_PLEN_LO.PLEN [31:0] RWL, reset N (06_station_rings.md R208): Period in base units, bits [31:0] -/
def STN.RINGr_PLEN_LO.PLEN : Fld := ⟨215, 0x400E0104, 1, 0x0, 2, 0x40, 0, 32, .RWL, .N, 0⟩
/-- STN.RINGr_PLEN_HI.PLEN [31:0] RWL, reset N (06_station_rings.md R208): Bits [63:32] -/
def STN.RINGr_PLEN_HI.PLEN : Fld := ⟨216, 0x400E0108, 1, 0x0, 2, 0x40, 0, 32, .RWL, .N, 0⟩
/-- STN.RINGr_ANCH_LO.ANCH [31:0] RWL, reset N (06_station_rings.md R208): Grid anchor, bits [31:0] -/
def STN.RINGr_ANCH_LO.ANCH : Fld := ⟨217, 0x400E010C, 1, 0x0, 2, 0x40, 0, 32, .RWL, .N, 0⟩
/-- STN.RINGr_ANCH_HI.ANCH [31:0] RWL, reset N (06_station_rings.md R208): Bits [63:32] -/
def STN.RINGr_ANCH_HI.ANCH : Fld := ⟨218, 0x400E0110, 1, 0x0, 2, 0x40, 0, 32, .RWL, .N, 0⟩
/-- STN.RINGr_STAT.STATE [1:0] RO, reset M, 0 (06_station_rings.md R208): 0 OFF, 1 RING, 2 LINE (R206); 3 does not occur -/
def STN.RINGr_STAT.STATE : Fld := ⟨219, 0x400E0114, 1, 0x0, 2, 0x40, 0, 2, .RO, .M, 0⟩
/-- STN.RINGr_STAT.OVERRUN [2:2] W1C, reset M, 0 (06_station_rings.md R208): R194 -/
def STN.RINGr_STAT.OVERRUN : Fld := ⟨220, 0x400E0114, 1, 0x0, 2, 0x40, 2, 1, .W1C, .M, 0⟩
/-- STN.RINGr_STAT.STEP [3:3] W1C, reset M, 0 (06_station_rings.md R208): Grid re-anchored after a step (R191) -/
def STN.RINGr_STAT.STEP : Fld := ⟨221, 0x400E0114, 1, 0x0, 2, 0x40, 3, 1, .W1C, .M, 0⟩
/-- STN.RINGr_STAT.GUARD [4:4] W1C, reset M, 0 (06_station_rings.md R208): A guard placed a start (R191) -/
def STN.RINGr_STAT.GUARD : Fld := ⟨222, 0x400E0114, 1, 0x0, 2, 0x40, 4, 1, .W1C, .M, 0⟩
/-- STN.RINGr_STAT.EPOCH_HIGH [5:5] W1C, reset M, 0 (06_station_rings.md R208): R197 -/
def STN.RINGr_STAT.EPOCH_HIGH : Fld := ⟨223, 0x400E0114, 1, 0x0, 2, 0x40, 5, 1, .W1C, .M, 0⟩
/-- STN.RINGr_STAT.ORIGIN [6:6] RO, reset M, 0 (06_station_rings.md R208): This unit originates module frames -/
def STN.RINGr_STAT.ORIGIN : Fld := ⟨224, 0x400E0114, 1, 0x0, 2, 0x40, 6, 1, .RO, .M, 0⟩
/-- STN.RINGr_STAT.GOOD [15:8] RO, reset M, 0 (06_station_rings.md R208): GOOD stations, 0–128 -/
def STN.RINGr_STAT.GOOD : Fld := ⟨225, 0x400E0114, 1, 0x0, 2, 0x40, 8, 8, .RO, .M, 0⟩
/-- STN.RINGr_PERIOD.NUM [31:0] RO, reset M, 0 (06_station_rings.md R208): Current period number -/
def STN.RINGr_PERIOD.NUM : Fld := ⟨226, 0x400E0118, 1, 0x0, 2, 0x40, 0, 32, .RO, .M, 0⟩
/-- STN.RINGr_MINP.MINP [15:0] RO, reset N (06_station_rings.md R208): Shortest period in µs, rounded up (R193) -/
def STN.RINGr_MINP.MINP : Fld := ⟨227, 0x400E011C, 1, 0x0, 2, 0x40, 0, 16, .RO, .N, 0⟩
/-- STN.RINGr_RETURN.TIME [15:0] RO, reset M, 0 (06_station_rings.md R208): Last frame return after period start, in 0.1 µs; saturates -/
def STN.RINGr_RETURN.TIME : Fld := ⟨228, 0x400E0120, 1, 0x0, 2, 0x40, 0, 16, .RO, .M, 0⟩
/-- STN.RINGr_LATE.COUNT [31:0] RC, reset M, 0 (06_station_rings.md R208): INPUT segments late or of a wrong period; saturates -/
def STN.RINGr_LATE.COUNT : Fld := ⟨229, 0x400E0124, 1, 0x0, 2, 0x40, 0, 32, .RC, .M, 0⟩
/-- STN.RINGr_OLDEP.COUNT [31:0] RC, reset M, 0 (06_station_rings.md R208): Segments of another epoch (R195); saturates -/
def STN.RINGr_OLDEP.COUNT : Fld := ⟨230, 0x400E0128, 1, 0x0, 2, 0x40, 0, 32, .RC, .M, 0⟩
/-- STN.RINGr_DROPS.DROPS [15:0] RO, reset M, 0 (06_station_rings.md R208): Station drops; saturates -/
def STN.RINGr_DROPS.DROPS : Fld := ⟨231, 0x400E012C, 1, 0x0, 2, 0x40, 0, 16, .RO, .M, 0⟩
/-- STN.RINGr_DROPS.ADMITS [31:16] RO, reset M, 0 (06_station_rings.md R208): Admissions to GOOD; saturates -/
def STN.RINGr_DROPS.ADMITS : Fld := ⟨232, 0x400E012C, 1, 0x0, 2, 0x40, 16, 16, .RO, .M, 0⟩
/-- STN.RINGr_STAa_CFG.PRESENT [0:0] RWL, reset N (06_station_rings.md R208): 1: station configured -/
def STN.RINGr_STAa_CFG.PRESENT : Fld := ⟨233, 0x400E0400, 2, 0x800, 128, 0x10, 0, 1, .RWL, .N, 0⟩
/-- STN.RINGr_STAa_CFG.SUBST [2:1] RWL, reset N (06_station_rings.md R208): 0 LAST, 1 ZERO, 2 FIXED, 3 BAD (R202) -/
def STN.RINGr_STAa_CFG.SUBST : Fld := ⟨234, 0x400E0400, 2, 0x800, 128, 0x10, 1, 2, .RWL, .N, 0⟩
/-- STN.RINGr_STAa_CFG.ERRTASK [15:8] RWL, reset N (06_station_rings.md R208): Error task for STATION_DROP -/
def STN.RINGr_STAa_CFG.ERRTASK : Fld := ⟨235, 0x400E0400, 2, 0x800, 128, 0x10, 8, 8, .RWL, .N, 0⟩
/-- STN.RINGr_STAa_CFG.HOLD [31:16] RWL, reset N (06_station_rings.md R208): Hold time in 0.1 ms (R204) -/
def STN.RINGr_STAa_CFG.HOLD : Fld := ⟨236, 0x400E0400, 2, 0x800, 128, 0x10, 16, 16, .RWL, .N, 0⟩
/-- STN.RINGr_STAa_LAYOUT.LAYOUT [31:0] RO, reset N (06_station_rings.md R208): Expected LAYOUT (R187) -/
def STN.RINGr_STAa_LAYOUT.LAYOUT : Fld := ⟨237, 0x400E0404, 2, 0x800, 128, 0x10, 0, 32, .RO, .N, 0⟩
/-- STN.RINGr_STAa_STAT.STATE [2:0] RO, reset M, 0 (06_station_rings.md R208): 0 UNUSED, 1 ABSENT, 2 ADMITTING, 3 GOOD, 4 DROPPED, 5 REJECTED; 6–7 do not occur -/
def STN.RINGr_STAa_STAT.STATE : Fld := ⟨238, 0x400E0408, 2, 0x800, 128, 0x10, 0, 3, .RO, .M, 0⟩
/-- STN.RINGr_STAa_STAT.FWD [3:3] RO, reset M, 0 (06_station_rings.md R208): Input arrived FWD in the last counted period -/
def STN.RINGr_STAa_STAT.FWD : Fld := ⟨239, 0x400E0408, 2, 0x800, 128, 0x10, 3, 1, .RO, .M, 0⟩
/-- STN.RINGr_STAa_STAT.REV [4:4] RO, reset M, 0 (06_station_rings.md R208): Input arrived REV in the last counted period -/
def STN.RINGr_STAa_STAT.REV : Fld := ⟨240, 0x400E0408, 2, 0x800, 128, 0x10, 4, 1, .RO, .M, 0⟩
/-- STN.RINGr_STAa_STAT.MISS [11:8] RO, reset M, 0 (06_station_rings.md R208): Consecutive missed counted periods, 0–15 -/
def STN.RINGr_STAa_STAT.MISS : Fld := ⟨241, 0x400E0408, 2, 0x800, 128, 0x10, 8, 4, .RO, .M, 0⟩
/-- STN.RINGr_STAa_STAT.ADMIT [15:12] RO, reset M, 0 (06_station_rings.md R208): Admission count, 0–8 -/
def STN.RINGr_STAa_STAT.ADMIT : Fld := ⟨242, 0x400E0408, 2, 0x800, 128, 0x10, 12, 4, .RO, .M, 0⟩
/-- STN.RINGr_STAa_STAT.DROPS [31:16] RO, reset M, 0 (06_station_rings.md R208): Drops of this station; saturates -/
def STN.RINGr_STAa_STAT.DROPS : Fld := ⟨243, 0x400E0408, 2, 0x800, 128, 0x10, 16, 16, .RO, .M, 0⟩
/-- STN.RINGr_STAa_CNT.LOSS [15:0] RC, reset M, 0 (06_station_rings.md R208): Deliveries lost under R69; saturates -/
def STN.RINGr_STAa_CNT.LOSS : Fld := ⟨244, 0x400E040C, 2, 0x800, 128, 0x10, 0, 16, .RC, .M, 0⟩
/-- STN.RINGr_STAa_CNT.LATE [31:16] RC, reset M, 0 (06_station_rings.md R208): Late segments of this station; saturates -/
def STN.RINGr_STAa_CNT.LATE : Fld := ⟨245, 0x400E040C, 2, 0x800, 128, 0x10, 16, 16, .RC, .M, 0⟩
/-- PAIR.STAT.ROLE [1:0] RO, reset M, 0 (07_pair_and_takeover.md R245): 0 none, 1 CATCHING UP, 2 STANDBY, 3 ACTIVE (R209) -/
def PAIR.STAT.ROLE : Fld := ⟨246, 0x40050000, 1, 0x0, 1, 0x0, 0, 2, .RO, .M, 0⟩
/-- PAIR.STAT.BUMPLESS [2:2] RO, reset M, 0 (07_pair_and_takeover.md R245): The pair is bumpless (R228) -/
def PAIR.STAT.BUMPLESS : Fld := ⟨247, 0x40050000, 1, 0x0, 1, 0x0, 2, 1, .RO, .M, 0⟩
/-- PAIR.STAT.AUTH [3:3] RO, reset M, 0 (07_pair_and_takeover.md R245): This unit holds the authority line -/
def PAIR.STAT.AUTH : Fld := ⟨248, 0x40050000, 1, 0x0, 1, 0x0, 3, 1, .RO, .M, 0⟩
/-- PAIR.STAT.PATH1_LOST [4:4] RO, reset M, 0 (07_pair_and_takeover.md R245): Path 1 is lost (R217) -/
def PAIR.STAT.PATH1_LOST : Fld := ⟨249, 0x40050000, 1, 0x0, 1, 0x0, 4, 1, .RO, .M, 0⟩
/-- PAIR.STAT.PATH2_LOST [5:5] RO, reset M, 0 (07_pair_and_takeover.md R245): Path 2 is lost -/
def PAIR.STAT.PATH2_LOST : Fld := ⟨250, 0x40050000, 1, 0x0, 1, 0x0, 5, 1, .RO, .M, 0⟩
/-- PAIR.STAT.LANE_DOWN [6:6] RO, reset M, 0 (07_pair_and_takeover.md R245): One Vorvy lane is down (R218) -/
def PAIR.STAT.LANE_DOWN : Fld := ⟨251, 0x40050000, 1, 0x0, 1, 0x0, 6, 1, .RO, .M, 0⟩
/-- PAIR.STAT.SHADOW_FAULT [7:7] W1C, reset M, 0 (07_pair_and_takeover.md R245): R214 -/
def PAIR.STAT.SHADOW_FAULT : Fld := ⟨252, 0x40050000, 1, 0x0, 1, 0x0, 7, 1, .W1C, .M, 0⟩
/-- PAIR.STAT.SYNCWHY [11:8] RO, reset M, 0 (07_pair_and_takeover.md R245): Reason while in SYNC (R243); 0 none; 11–15 do not occur -/
def PAIR.STAT.SYNCWHY : Fld := ⟨253, 0x40050000, 1, 0x0, 1, 0x0, 8, 4, .RO, .M, 0⟩
/-- PAIR.STAT.NBWHY [15:12] RO, reset M, 0 (07_pair_and_takeover.md R245): 0 none, 1 NO_PARTNER, 2 TASK_LAG, 3 STREAM_LAG, 4 ACK_TIMEOUT, 5 SETTLING (the 10 ms of R228); 6–15 do not occur -/
def PAIR.STAT.NBWHY : Fld := ⟨254, 0x40050000, 1, 0x0, 1, 0x0, 12, 4, .RO, .M, 0⟩
/-- PAIR.STAT.LEAVING [16:16] RO, reset M, 0 (07_pair_and_takeover.md R245): This unit sets LEAVING in its heartbeats: its own early-break contact has broken (R241) or a power-fail warning has been raised (R491) -/
def PAIR.STAT.LEAVING : Fld := ⟨255, 0x40050000, 1, 0x0, 1, 0x0, 16, 1, .RO, .M, 0⟩
/-- PAIR.CFG.PREFER_PARTNER [0:0] RWL, reset N (07_pair_and_takeover.md R245): 1: resign when DEGRADED under R238 -/
def PAIR.CFG.PREFER_PARTNER : Fld := ⟨256, 0x40050004, 1, 0x0, 1, 0x0, 0, 1, .RWL, .N, 0⟩
/-- PAIR.CFG.SYNCLOST [1:1] RWL, reset N (07_pair_and_takeover.md R245): 0 RESTART, 1 WAIT (R232) -/
def PAIR.CFG.SYNCLOST : Fld := ⟨257, 0x40050004, 1, 0x0, 1, 0x0, 1, 1, .RWL, .N, 0⟩
/-- PAIR.CFG.SLOT [2:2] RO, reset K (07_pair_and_takeover.md R245): 0 left slot, 1 right slot, from the carrier -/
def PAIR.CFG.SLOT : Fld := ⟨258, 0x40050004, 1, 0x0, 1, 0x0, 2, 1, .RO, .K, 0⟩
/-- PAIR.EPOCH.EPOCH [31:0] RO, reset K (07_pair_and_takeover.md R245): Authority epoch (R220) -/
def PAIR.EPOCH.EPOCH : Fld := ⟨259, 0x40050008, 1, 0x0, 1, 0x0, 0, 32, .RO, .K, 0⟩
/-- PAIR.PARTNER.MODE [3:0] RO, reset M, 0 (07_pair_and_takeover.md R245): Partner's mode from its last valid heartbeat -/
def PAIR.PARTNER.MODE : Fld := ⟨260, 0x4005000C, 1, 0x0, 1, 0x0, 0, 4, .RO, .M, 0⟩
/-- PAIR.PARTNER.VARIANT [5:4] RO, reset M, 0 (07_pair_and_takeover.md R245): 0 X, 1 N, 2 P, 3 B -/
def PAIR.PARTNER.VARIANT : Fld := ⟨261, 0x4005000C, 1, 0x0, 1, 0x0, 4, 2, .RO, .M, 0⟩
/-- PAIR.PARTNER.VALID [6:6] RO, reset M, 0 (07_pair_and_takeover.md R245): A valid heartbeat arrived within the last 200 µs -/
def PAIR.PARTNER.VALID : Fld := ⟨262, 0x4005000C, 1, 0x0, 1, 0x0, 6, 1, .RO, .M, 0⟩
/-- PAIR.PARTNER.LEAVING [7:7] RO, reset M, 0 (07_pair_and_takeover.md R245): The partner signals LEAVING -/
def PAIR.PARTNER.LEAVING : Fld := ⟨263, 0x4005000C, 1, 0x0, 1, 0x0, 7, 1, .RO, .M, 0⟩
/-- PAIR.PARTNER.PROTO [23:8] RO, reset M, 0 (07_pair_and_takeover.md R245): The partner's mirror protocol version -/
def PAIR.PARTNER.PROTO : Fld := ⟨264, 0x4005000C, 1, 0x0, 1, 0x0, 8, 16, .RO, .M, 0⟩
/-- PAIR.PATHS.P1LOSS [15:0] RC, reset M, 0 (07_pair_and_takeover.md R245): Losses of path 1; saturates -/
def PAIR.PATHS.P1LOSS : Fld := ⟨265, 0x40050010, 1, 0x0, 1, 0x0, 0, 16, .RC, .M, 0⟩
/-- PAIR.PATHS.P2LOSS [31:16] RC, reset M, 0 (07_pair_and_takeover.md R245): Losses of path 2; saturates -/
def PAIR.PATHS.P2LOSS : Fld := ⟨266, 0x40050010, 1, 0x0, 1, 0x0, 16, 16, .RC, .M, 0⟩
/-- PAIR.LAG.STREAM [15:0] RO, reset M, 0 (07_pair_and_takeover.md R245): Age of the oldest unacknowledged record in µs; saturates -/
def PAIR.LAG.STREAM : Fld := ⟨267, 0x40050014, 1, 0x0, 1, 0x0, 0, 16, .RO, .M, 0⟩
/-- PAIR.LAG.TASKS [24:16] RO, reset M, 0 (07_pair_and_takeover.md R245): Tasks that lag, 0–256 -/
def PAIR.LAG.TASKS : Fld := ⟨268, 0x40050014, 1, 0x0, 1, 0x0, 16, 9, .RO, .M, 0⟩
/-- PAIR.LAGMAX.STREAM [15:0] RC, reset M, 0 (07_pair_and_takeover.md R245): Largest LAG.STREAM since the last read, in µs -/
def PAIR.LAGMAX.STREAM : Fld := ⟨269, 0x40050018, 1, 0x0, 1, 0x0, 0, 16, .RC, .M, 0⟩
/-- PAIR.SYNCACK.MAX [15:0] RC, reset M, 0 (07_pair_and_takeover.md R245): Longest SYNC acknowledgement in 0.1 µs; saturates -/
def PAIR.SYNCACK.MAX : Fld := ⟨270, 0x4005001C, 1, 0x0, 1, 0x0, 0, 16, .RC, .M, 0⟩
/-- PAIR.SYNCACK.TIMEOUTS [31:16] RC, reset M, 0 (07_pair_and_takeover.md R245): SYNC acknowledgements timed out; saturates -/
def PAIR.SYNCACK.TIMEOUTS : Fld := ⟨271, 0x4005001C, 1, 0x0, 1, 0x0, 16, 16, .RC, .M, 0⟩
/-- PAIR.MQFILL.USED [10:0] RO, reset M, 0 (07_pair_and_takeover.md R245): Mirror queue in use, in KiB, 0–1,536 -/
def PAIR.MQFILL.USED : Fld := ⟨272, 0x40050020, 1, 0x0, 1, 0x0, 0, 11, .RO, .M, 0⟩
/-- PAIR.MQFILL.FULL [11:11] W1C, reset M, 0 (07_pair_and_takeover.md R245): A share was found full (R226) -/
def PAIR.MQFILL.FULL : Fld := ⟨273, 0x40050020, 1, 0x0, 1, 0x0, 11, 1, .W1C, .M, 0⟩
/-- PAIR.BULK.MIB [10:0] RO, reset M, 0 (07_pair_and_takeover.md R245): Mirrored area received, in MiB, 0–1,024 -/
def PAIR.BULK.MIB : Fld := ⟨274, 0x40050024, 1, 0x0, 1, 0x0, 0, 11, .RO, .M, 0⟩
/-- PAIR.BULK.PHASE [13:11] RO, reset M, 0 (07_pair_and_takeover.md R245): 0 none, 1 CHECK, 2 STRUCTURE, 3 STATE, 4 MEMORY, 5 DONE (R242); 6–7 do not occur -/
def PAIR.BULK.PHASE : Fld := ⟨275, 0x40050024, 1, 0x0, 1, 0x0, 11, 3, .RO, .M, 0⟩
/-- PAIR.EVENTS.TAKEOVERS [15:0] RO, reset K, 0 (07_pair_and_takeover.md R245): Takeovers by this unit since power-up; saturates -/
def PAIR.EVENTS.TAKEOVERS : Fld := ⟨276, 0x40050028, 1, 0x0, 1, 0x0, 0, 16, .RO, .K, 0⟩
/-- PAIR.EVENTS.RESIGNS [31:16] RO, reset K, 0 (07_pair_and_takeover.md R245): Resignations by this unit since power-up; saturates -/
def PAIR.EVENTS.RESIGNS : Fld := ⟨277, 0x40050028, 1, 0x0, 1, 0x0, 16, 16, .RO, .K, 0⟩
/-- PAIR.LASTGAP.TIME [31:0] RO, reset K, 0 (07_pair_and_takeover.md R245): On the unit that became active: gap of its last takeover, from step 1 to step 5 of R235 (R237), or of its last claim after a resignation, from rece... -/
def PAIR.LASTGAP.TIME : Fld := ⟨278, 0x4005002C, 1, 0x0, 1, 0x0, 0, 32, .RO, .K, 0⟩
/-- PAIR.MSEQ_SENT.MSEQ [31:0] RO, reset M, 0 (07_pair_and_takeover.md R245): Last record sent -/
def PAIR.MSEQ_SENT.MSEQ : Fld := ⟨279, 0x40050030, 1, 0x0, 1, 0x0, 0, 32, .RO, .M, 0⟩
/-- PAIR.MSEQ_APPLIED.MSEQ [31:0] RO, reset M, 0 (07_pair_and_takeover.md R245): Last record applied; on the active unit, as acknowledged -/
def PAIR.MSEQ_APPLIED.MSEQ : Fld := ⟨280, 0x40050034, 1, 0x0, 1, 0x0, 0, 32, .RO, .M, 0⟩
/-- PAIR.CMD.OP [1:0] WO, reset M, 0 (07_pair_and_takeover.md R245): 1 RESIGN; 0, 2 and 3 are ignored -/
def PAIR.CMD.OP : Fld := ⟨281, 0x40050038, 1, 0x0, 1, 0x0, 0, 2, .WO, .M, 0⟩
/-- PAIR.CMDSTAT.RESULT [2:0] RO, reset M, 0 (07_pair_and_takeover.md R245): 0 none, 1 DONE, 2 NOT_READY, 3 NOT_ACTIVE, 4 BUSY; 5–7 do not occur -/
def PAIR.CMDSTAT.RESULT : Fld := ⟨282, 0x4005003C, 1, 0x0, 1, 0x0, 0, 3, .RO, .M, 0⟩
/-- PAIR.SHADOW.PIN [5:0] RO, reset M, 0 (07_pair_and_takeover.md R245): Pin of the last shadow fault (R214) -/
def PAIR.SHADOW.PIN : Fld := ⟨283, 0x40050040, 1, 0x0, 1, 0x0, 0, 6, .RO, .M, 0⟩
/-- PAIR.SHADOW.VALID [6:6] RO, reset M, 0 (07_pair_and_takeover.md R245): PIN is valid -/
def PAIR.SHADOW.VALID : Fld := ⟨284, 0x40050040, 1, 0x0, 1, 0x0, 6, 1, .RO, .M, 0⟩
/-- PAIR.LAGMAPk.MAP [31:0] RO, reset M, 0 (07_pair_and_takeover.md R245): Bit i: task 32k + i lags -/
def PAIR.LAGMAPk.MAP : Fld := ⟨285, 0x40050080, 1, 0x0, 8, 0x4, 0, 32, .RO, .M, 0⟩
/-- STRUCT.STAT.STATE [2:0] RO, reset M, 0 (08_structure_image.md R272): 0 IDLE, 1 RECEIVING, 2 CHECKING, 3 PREPARED, 4 HOLDING, 5 LOADING; 6–7 do not occur -/
def STRUCT.STAT.STATE : Fld := ⟨286, 0x40060000, 1, 0x0, 1, 0x0, 0, 3, .RO, .M, 0⟩
/-- STRUCT.STAT.DIVERGED [3:3] RO, reset M, 0 (08_structure_image.md R272): An RWL field differs from its image value (R260) -/
def STRUCT.STAT.DIVERGED : Fld := ⟨287, 0x40060000, 1, 0x0, 1, 0x0, 3, 1, .RO, .M, 0⟩
/-- STRUCT.STAT.FALLBACK [4:4] W1C, reset K, 0 (08_structure_image.md R272): Start-up used the other slot (R254) -/
def STRUCT.STAT.FALLBACK : Fld := ⟨288, 0x40060000, 1, 0x0, 1, 0x0, 4, 1, .W1C, .K, 0⟩
/-- STRUCT.STAT.RESULT [11:8] RO, reset M, 0 (08_structure_image.md R272): Last change: 0 none, 1 COMMITTED, 2 REJECTED, 3 ABORTED, 4 TIMEOUT, 5 PARTNER_NOT_READY, 6 LAPSED; 7–15 do not occur -/
def STRUCT.STAT.RESULT : Fld := ⟨289, 0x40060000, 1, 0x0, 1, 0x0, 8, 4, .RO, .M, 0⟩
/-- STRUCT.SLOT.ACTIVE [0:0] RO, reset N (08_structure_image.md R272): 0 slot A, 1 slot B -/
def STRUCT.SLOT.ACTIVE : Fld := ⟨290, 0x40060004, 1, 0x0, 1, 0x0, 0, 1, .RO, .N, 0⟩
/-- STRUCT.SLOT.VALID_A [1:1] RO, reset N (08_structure_image.md R272): Slot A holds an image that passed R252 -/
def STRUCT.SLOT.VALID_A : Fld := ⟨291, 0x40060004, 1, 0x0, 1, 0x0, 1, 1, .RO, .N, 0⟩
/-- STRUCT.SLOT.VALID_B [2:2] RO, reset N (08_structure_image.md R272): Slot B holds an image that passed R252 -/
def STRUCT.SLOT.VALID_B : Fld := ⟨292, 0x40060004, 1, 0x0, 1, 0x0, 2, 1, .RO, .N, 0⟩
/-- STRUCT.IMAGE_ID.ID [31:0] RO, reset N (08_structure_image.md R272): IMAGE_ID of the running image -/
def STRUCT.IMAGE_ID.ID : Fld := ⟨293, 0x40060008, 1, 0x0, 1, 0x0, 0, 32, .RO, .N, 0⟩
/-- STRUCT.REJECT.REASON [7:0] RO, reset M, 0 (08_structure_image.md R272): Reason code of the last rejection (R252) -/
def STRUCT.REJECT.REASON : Fld := ⟨294, 0x4006000C, 1, 0x0, 1, 0x0, 0, 8, .RO, .M, 0⟩
/-- STRUCT.REJECT.SECTION [23:8] RO, reset M, 0 (08_structure_image.md R272): Section identifier; 0 when no section applies -/
def STRUCT.REJECT.SECTION : Fld := ⟨295, 0x4006000C, 1, 0x0, 1, 0x0, 8, 16, .RO, .M, 0⟩
/-- STRUCT.REJITEM.ITEM [31:0] RO, reset M, 0 (08_structure_image.md R272): Item index within the section -/
def STRUCT.REJITEM.ITEM : Fld := ⟨296, 0x40060010, 1, 0x0, 1, 0x0, 0, 32, .RO, .M, 0⟩
/-- STRUCT.OLC_CMD.OP [1:0] WO, reset M, 0 (08_structure_image.md R272): 1 COMMIT (R265); 2 ABORT: discard the prepared change, also when written by a REGW record from the partner (R262); 3 RETRACT: drop a staged change ... -/
def STRUCT.OLC_CMD.OP : Fld := ⟨297, 0x40060014, 1, 0x0, 1, 0x0, 0, 2, .WO, .M, 0⟩
/-- STRUCT.OLC_CFG.HOLDMAX [9:0] RWL, reset N (08_structure_image.md R272): 1–1,000 ms; 0 and values above 1,000 are rejected at load -/
def STRUCT.OLC_CFG.HOLDMAX : Fld := ⟨298, 0x40060018, 1, 0x0, 1, 0x0, 0, 10, .RWL, .N, 0⟩
/-- STRUCT.OLC_COMMIT.ID [31:0] RO, reset N (08_structure_image.md R272): IMAGE_ID that the last change commit installed -/
def STRUCT.OLC_COMMIT.ID : Fld := ⟨299, 0x4006001C, 1, 0x0, 1, 0x0, 0, 32, .RO, .N, 0⟩
/-- STRUCT.OLC_SEQ_LO.SEQ [31:0] RO, reset N (08_structure_image.md R272): Sequence of the last change commit, bits [31:0]; the read latches OLC_SEQ_HI -/
def STRUCT.OLC_SEQ_LO.SEQ : Fld := ⟨300, 0x40060020, 1, 0x0, 1, 0x0, 0, 32, .RO, .N, 0⟩
/-- STRUCT.OLC_SEQ_HI.SEQ [31:0] RO, reset N (08_structure_image.md R272): Bits [63:32] -/
def STRUCT.OLC_SEQ_HI.SEQ : Fld := ⟨301, 0x40060024, 1, 0x0, 1, 0x0, 0, 32, .RO, .N, 0⟩
/-- STRUCT.OLC_LASTHOLD.TIME [31:0] RO, reset M, 0 (08_structure_image.md R272): Time from COMMIT to the grant of the last change, in µs; saturates -/
def STRUCT.OLC_LASTHOLD.TIME : Fld := ⟨302, 0x40060028, 1, 0x0, 1, 0x0, 0, 32, .RO, .M, 0⟩
/-- STRUCT.COUNTS.LOADS [15:0] RO, reset K, 0 (08_structure_image.md R272): Full loads since power-up; saturates -/
def STRUCT.COUNTS.LOADS : Fld := ⟨303, 0x4006002C, 1, 0x0, 1, 0x0, 0, 16, .RO, .K, 0⟩
/-- STRUCT.COUNTS.CHANGES [31:16] RO, reset K, 0 (08_structure_image.md R272): Committed on-line changes since power-up; saturates -/
def STRUCT.COUNTS.CHANGES : Fld := ⟨304, 0x4006002C, 1, 0x0, 1, 0x0, 16, 16, .RO, .K, 0⟩
/-- STRUCT.PEND_ID.ID [31:0] RO, reset M, 0 (08_structure_image.md R272): IMAGE_ID of the prepared result; 0 when none -/
def STRUCT.PEND_ID.ID : Fld := ⟨305, 0x40060030, 1, 0x0, 1, 0x0, 0, 32, .RO, .M, 0⟩
/-- STRUCT.KEYS.COUNT [2:0] RO, reset N (08_structure_image.md R272): Project keys installed, 0–4 (R250) -/
def STRUCT.KEYS.COUNT : Fld := ⟨306, 0x40060034, 1, 0x0, 1, 0x0, 0, 3, .RO, .N, 0⟩
/-- STRUCT.KEYS.MASK [7:4] RO, reset N (08_structure_image.md R272): Bit i: key position i holds a key -/
def STRUCT.KEYS.MASK : Fld := ⟨307, 0x40060034, 1, 0x0, 1, 0x0, 4, 4, .RO, .N, 0⟩
/-- STRUCT.HASHk.HASH [31:0] RO, reset N (08_structure_image.md R272): Hash of the running image, bytes 4k to 4k+3 (R249) -/
def STRUCT.HASHk.HASH : Fld := ⟨308, 0x40060040, 1, 0x0, 8, 0x4, 0, 32, .RO, .N, 0⟩
/-- STRUCT.PHASHk.HASH [31:0] RO, reset M, 0 (08_structure_image.md R272): Hash of the prepared result, bytes 4k to 4k+3 -/
def STRUCT.PHASHk.HASH : Fld := ⟨309, 0x40060060, 1, 0x0, 8, 0x4, 0, 32, .RO, .M, 0⟩
/-- LEAF.STAT.CORR_SEEN [0:0] W1C, reset M, 0 (09_leaf_code_and_guards.md R301): A CORRECTED result occurred -/
def LEAF.STAT.CORR_SEEN : Fld := ⟨310, 0x40070000, 1, 0x0, 1, 0x0, 0, 1, .W1C, .M, 0⟩
/-- LEAF.STAT.UNC_SEEN [1:1] W1C, reset M, 0 (09_leaf_code_and_guards.md R301): An UNCORRECTABLE result occurred -/
def LEAF.STAT.UNC_SEEN : Fld := ⟨311, 0x40070000, 1, 0x0, 1, 0x0, 1, 1, .W1C, .M, 0⟩
/-- LEAF.STAT.ADDRF_SEEN [2:2] W1C, reset M, 0 (09_leaf_code_and_guards.md R301): An ADDRESS FAULT occurred -/
def LEAF.STAT.ADDRF_SEEN : Fld := ⟨312, 0x40070000, 1, 0x0, 1, 0x0, 2, 1, .W1C, .M, 0⟩
/-- LEAF.STAT.PAGE_FULL [3:3] RO, reset N (09_leaf_code_and_guards.md R301): All spare pages are in use (R290) -/
def LEAF.STAT.PAGE_FULL : Fld := ⟨313, 0x40070000, 1, 0x0, 1, 0x0, 3, 1, .RO, .N, 0⟩
/-- LEAF.LASTERR.MEM [5:0] RO, reset M, 0 (09_leaf_code_and_guards.md R301): Memory of the last result (R273) -/
def LEAF.LASTERR.MEM : Fld := ⟨314, 0x40070004, 1, 0x0, 1, 0x0, 0, 6, .RO, .M, 0⟩
/-- LEAF.LASTERR.KIND [7:6] RO, reset M, 0 (09_leaf_code_and_guards.md R301): 0 none, 1 CORRECTED, 2 UNCORRECTABLE, 3 ADDRESS FAULT -/
def LEAF.LASTERR.KIND : Fld := ⟨315, 0x40070004, 1, 0x0, 1, 0x0, 6, 2, .RO, .M, 0⟩
/-- LEAF.LASTERR.MASTER [13:8] RO, reset M, 0 (09_leaf_code_and_guards.md R301): Reading master (R291); 0x3F the scrubber -/
def LEAF.LASTERR.MASTER : Fld := ⟨316, 0x40070004, 1, 0x0, 1, 0x0, 8, 6, .RO, .M, 0⟩
/-- LEAF.LASTERR.INJECTED [14:14] RO, reset M, 0 (09_leaf_code_and_guards.md R301): The word was a flip target (R285) -/
def LEAF.LASTERR.INJECTED : Fld := ⟨317, 0x40070004, 1, 0x0, 1, 0x0, 14, 1, .RO, .M, 0⟩
/-- LEAF.LASTADDR_LO.ADDR [31:0] RO, reset M, 0 (09_leaf_code_and_guards.md R301): Word address bits [31:0]; the read latches (R301) -/
def LEAF.LASTADDR_LO.ADDR : Fld := ⟨318, 0x40070008, 1, 0x0, 1, 0x0, 0, 32, .RO, .M, 0⟩
/-- LEAF.LASTADDR_HI.ADDR [3:0] RO, reset M, 0 (09_leaf_code_and_guards.md R301): Word address bits [35:32] -/
def LEAF.LASTADDR_HI.ADDR : Fld := ⟨319, 0x4007000C, 1, 0x0, 1, 0x0, 0, 4, .RO, .M, 0⟩
/-- LEAF.LASTSYN.SYN [7:0] RO, reset M, 0 (09_leaf_code_and_guards.md R301): Syndrome of the last result -/
def LEAF.LASTSYN.SYN : Fld := ⟨320, 0x40070010, 1, 0x0, 1, 0x0, 0, 8, .RO, .M, 0⟩
/-- LEAF.SCRUB_CMD.OP [1:0] WO, reset M, 0 (09_leaf_code_and_guards.md R301): 1 GO, 2 ABORT; 0 and 3 are ignored (R286) -/
def LEAF.SCRUB_CMD.OP : Fld := ⟨321, 0x40070020, 1, 0x0, 1, 0x0, 0, 2, .WO, .M, 0⟩
/-- LEAF.SCRUB_MEM.MEM [5:0] RW, reset M, 0 (09_leaf_code_and_guards.md R301): Memory to scrub -/
def LEAF.SCRUB_MEM.MEM : Fld := ⟨322, 0x40070024, 1, 0x0, 1, 0x0, 0, 6, .RW, .M, 0⟩
/-- LEAF.SCRUB_START_LO.ADDR [31:0] RW, reset M, 0 (09_leaf_code_and_guards.md R301): First word address, bits [31:0] -/
def LEAF.SCRUB_START_LO.ADDR : Fld := ⟨323, 0x40070028, 1, 0x0, 1, 0x0, 0, 32, .RW, .M, 0⟩
/-- LEAF.SCRUB_START_HI.ADDR [3:0] RW, reset M, 0 (09_leaf_code_and_guards.md R301): Bits [35:32] -/
def LEAF.SCRUB_START_HI.ADDR : Fld := ⟨324, 0x4007002C, 1, 0x0, 1, 0x0, 0, 4, .RW, .M, 0⟩
/-- LEAF.SCRUB_LEN.WORDS [31:0] RW, reset M, 0 (09_leaf_code_and_guards.md R301): Words to scrub; 0 gives EMPTY -/
def LEAF.SCRUB_LEN.WORDS : Fld := ⟨325, 0x40070030, 1, 0x0, 1, 0x0, 0, 32, .RW, .M, 0⟩
/-- LEAF.SCRUB_STAT.STATE [1:0] RO, reset M, 0 (09_leaf_code_and_guards.md R301): 0 IDLE, 1 RUNNING, 2 PAUSED; 3 does not occur -/
def LEAF.SCRUB_STAT.STATE : Fld := ⟨326, 0x40070034, 1, 0x0, 1, 0x0, 0, 2, .RO, .M, 0⟩
/-- LEAF.SCRUB_STAT.RESULT [5:2] RO, reset M, 0 (09_leaf_code_and_guards.md R301): 0 none, 1 DONE, 2 EMPTY, 3 ABORTED, 4 ERR_RANGE, 5 ERR_OFF, 6 BUSY, 7 ERR_MEM; 8–15 do not occur -/
def LEAF.SCRUB_STAT.RESULT : Fld := ⟨327, 0x40070034, 1, 0x0, 1, 0x0, 2, 4, .RO, .M, 0⟩
/-- LEAF.SCRUB_STAT.BADV [6:6] RO, reset M, 0 (09_leaf_code_and_guards.md R301): FIRST and LAST are valid -/
def LEAF.SCRUB_STAT.BADV : Fld := ⟨328, 0x40070034, 1, 0x0, 1, 0x0, 6, 1, .RO, .M, 0⟩
/-- LEAF.SCRUB_STAT.MIRRORED [7:7] RO, reset M, 0 (09_leaf_code_and_guards.md R301): The pass was started by the partner (R289) -/
def LEAF.SCRUB_STAT.MIRRORED : Fld := ⟨329, 0x40070034, 1, 0x0, 1, 0x0, 7, 1, .RO, .M, 0⟩
/-- LEAF.SCRUB_CHECKED.COUNT [31:0] RO, reset M, 0 (09_leaf_code_and_guards.md R301): Words checked in the last pass -/
def LEAF.SCRUB_CHECKED.COUNT : Fld := ⟨330, 0x40070038, 1, 0x0, 1, 0x0, 0, 32, .RO, .M, 0⟩
/-- LEAF.SCRUB_CORR.COUNT [31:0] RO, reset M, 0 (09_leaf_code_and_guards.md R301): Words corrected and written back -/
def LEAF.SCRUB_CORR.COUNT : Fld := ⟨331, 0x4007003C, 1, 0x0, 1, 0x0, 0, 32, .RO, .M, 0⟩
/-- LEAF.SCRUB_UNC.COUNT [31:0] RO, reset M, 0 (09_leaf_code_and_guards.md R301): Words found uncorrectable and marked -/
def LEAF.SCRUB_UNC.COUNT : Fld := ⟨332, 0x40070040, 1, 0x0, 1, 0x0, 0, 32, .RO, .M, 0⟩
/-- LEAF.SCRUB_ADDRF.COUNT [31:0] RO, reset M, 0 (09_leaf_code_and_guards.md R301): Words with an address fault -/
def LEAF.SCRUB_ADDRF.COUNT : Fld := ⟨333, 0x40070044, 1, 0x0, 1, 0x0, 0, 32, .RO, .M, 0⟩
/-- LEAF.SCRUB_POISON.COUNT [31:0] RO, reset M, 0 (09_leaf_code_and_guards.md R301): Words found already poisoned -/
def LEAF.SCRUB_POISON.COUNT : Fld := ⟨334, 0x40070048, 1, 0x0, 1, 0x0, 0, 32, .RO, .M, 0⟩
/-- LEAF.SCRUB_FIRST_LO.ADDR [31:0] RO, reset M, 0 (09_leaf_code_and_guards.md R301): Lowest word address not CLEAN, bits [31:0] -/
def LEAF.SCRUB_FIRST_LO.ADDR : Fld := ⟨335, 0x4007004C, 1, 0x0, 1, 0x0, 0, 32, .RO, .M, 0⟩
/-- LEAF.SCRUB_FIRST_HI.ADDR [3:0] RO, reset M, 0 (09_leaf_code_and_guards.md R301): Bits [35:32] -/
def LEAF.SCRUB_FIRST_HI.ADDR : Fld := ⟨336, 0x40070050, 1, 0x0, 1, 0x0, 0, 4, .RO, .M, 0⟩
/-- LEAF.SCRUB_LAST_LO.ADDR [31:0] RO, reset M, 0 (09_leaf_code_and_guards.md R301): Highest word address not CLEAN, bits [31:0] -/
def LEAF.SCRUB_LAST_LO.ADDR : Fld := ⟨337, 0x40070054, 1, 0x0, 1, 0x0, 0, 32, .RO, .M, 0⟩
/-- LEAF.SCRUB_LAST_HI.ADDR [3:0] RO, reset M, 0 (09_leaf_code_and_guards.md R301): Bits [35:32] -/
def LEAF.SCRUB_LAST_HI.ADDR : Fld := ⟨338, 0x40070058, 1, 0x0, 1, 0x0, 0, 4, .RO, .M, 0⟩
/-- LEAF.SCRUB_TIME.TIME [31:0] RO, reset M, 0 (09_leaf_code_and_guards.md R301): Duration of the last pass in µs; saturates -/
def LEAF.SCRUB_TIME.TIME : Fld := ⟨339, 0x4007005C, 1, 0x0, 1, 0x0, 0, 32, .RO, .M, 0⟩
/-- LEAF.PAGES.COUNT [8:0] RO, reset N (09_leaf_code_and_guards.md R301): Retired DRAM pages, 0–256 (R290) -/
def LEAF.PAGES.COUNT : Fld := ⟨340, 0x40070060, 1, 0x0, 1, 0x0, 0, 9, .RO, .N, 0⟩
/-- LEAF.MEMm_CORR.COUNT [31:0] RO, reset K, 0 (09_leaf_code_and_guards.md R301): CORRECTED results in memory m; saturates -/
def LEAF.MEMm_CORR.COUNT : Fld := ⟨341, 0x40070100, 1, 0x0, 38, 0x10, 0, 32, .RO, .K, 0⟩
/-- LEAF.MEMm_UNC.COUNT [31:0] RO, reset K, 0 (09_leaf_code_and_guards.md R301): UNCORRECTABLE results; saturates -/
def LEAF.MEMm_UNC.COUNT : Fld := ⟨342, 0x40070104, 1, 0x0, 38, 0x10, 0, 32, .RO, .K, 0⟩
/-- LEAF.MEMm_ADDRF.COUNT [31:0] RO, reset K, 0 (09_leaf_code_and_guards.md R301): ADDRESS FAULT results; saturates -/
def LEAF.MEMm_ADDRF.COUNT : Fld := ⟨343, 0x40070108, 1, 0x0, 38, 0x10, 0, 32, .RO, .K, 0⟩
/-- LEAF.FLIPm_TGT_LO.ADDR [31:0] RW, reset M, 0 (09_leaf_code_and_guards.md R301): Target word address bits [31:0] (R284) -/
def LEAF.FLIPm_TGT_LO.ADDR : Fld := ⟨344, 0x40070400, 1, 0x0, 38, 0x20, 0, 32, .RW, .M, 0⟩
/-- LEAF.FLIPm_TGT_HI.ADDR [3:0] RW, reset M, 0 (09_leaf_code_and_guards.md R301): Bits [35:32] -/
def LEAF.FLIPm_TGT_HI.ADDR : Fld := ⟨345, 0x40070404, 1, 0x0, 38, 0x20, 0, 4, .RW, .M, 0⟩
/-- LEAF.FLIPm_D_LO.MASK [31:0] RW, reset M, 0 (09_leaf_code_and_guards.md R301): Data flip mask, bits [31:0] -/
def LEAF.FLIPm_D_LO.MASK : Fld := ⟨346, 0x40070408, 1, 0x0, 38, 0x20, 0, 32, .RW, .M, 0⟩
/-- LEAF.FLIPm_D_HI.MASK [31:0] RW, reset M, 0 (09_leaf_code_and_guards.md R301): Data flip mask, bits [63:32] -/
def LEAF.FLIPm_D_HI.MASK : Fld := ⟨347, 0x4007040C, 1, 0x0, 38, 0x20, 0, 32, .RW, .M, 0⟩
/-- LEAF.FLIPm_AF_LO.MASK [31:0] RW, reset M, 0 (09_leaf_code_and_guards.md R301): Address flip field bits [31:0]; bit k acts on A(k+3) -/
def LEAF.FLIPm_AF_LO.MASK : Fld := ⟨348, 0x40070410, 1, 0x0, 38, 0x20, 0, 32, .RW, .M, 0⟩
/-- LEAF.FLIPm_CTRL.CHK [7:0] RW, reset M, 0 (09_leaf_code_and_guards.md R301): Check flip mask -/
def LEAF.FLIPm_CTRL.CHK : Fld := ⟨349, 0x40070414, 1, 0x0, 38, 0x20, 0, 8, .RW, .M, 0⟩
/-- LEAF.FLIPm_CTRL.AFHI [11:8] RW, reset M, 0 (09_leaf_code_and_guards.md R301): Address flip field bits [35:32] -/
def LEAF.FLIPm_CTRL.AFHI : Fld := ⟨350, 0x40070414, 1, 0x0, 38, 0x20, 8, 4, .RW, .M, 0⟩
/-- LEAF.FLIPm_CTRL.ARM [12:12] RW, reset M, 0 (09_leaf_code_and_guards.md R301): 1: the flip acts on the next write to the target -/
def LEAF.FLIPm_CTRL.ARM : Fld := ⟨351, 0x40070414, 1, 0x0, 38, 0x20, 12, 1, .RW, .M, 0⟩
/-- LEAF.FLIPm_CTRL.DONE [13:13] W1C, reset M, 0 (09_leaf_code_and_guards.md R301): A flip has acted -/
def LEAF.FLIPm_CTRL.DONE : Fld := ⟨352, 0x40070414, 1, 0x0, 38, 0x20, 13, 1, .W1C, .M, 0⟩
/-- GUARD.STAT.FAULT [0:0] W1C, reset M, 0 (09_leaf_code_and_guards.md R302): A guard refused an access (R295) -/
def GUARD.STAT.FAULT : Fld := ⟨353, 0x40080000, 1, 0x0, 1, 0x0, 0, 1, .W1C, .M, 0⟩
/-- GUARD.STAT.TAGERR [1:1] W1C, reset M, 0 (09_leaf_code_and_guards.md R302): A tag parity error occurred (R299) -/
def GUARD.STAT.TAGERR : Fld := ⟨354, 0x40080000, 1, 0x0, 1, 0x0, 1, 1, .W1C, .M, 0⟩
/-- GUARD.STAT.DEBUG_DENIED [2:2] W1C, reset M, 0 (09_leaf_code_and_guards.md R302): A debug access was denied (R298) -/
def GUARD.STAT.DEBUG_DENIED : Fld := ⟨355, 0x40080000, 1, 0x0, 1, 0x0, 2, 1, .W1C, .M, 0⟩
/-- GUARD.STAT.TAG_DEGRADED [3:3] RO, reset M, 0 (09_leaf_code_and_guards.md R302): Granules are treated as colour 15 (R299) -/
def GUARD.STAT.TAG_DEGRADED : Fld := ⟨356, 0x40080000, 1, 0x0, 1, 0x0, 3, 1, .RO, .M, 0⟩
/-- GUARD.FAULTCNT.COUNT [31:0] RC, reset M, 0 (09_leaf_code_and_guards.md R302): Refused accesses; saturates -/
def GUARD.FAULTCNT.COUNT : Fld := ⟨357, 0x40080004, 1, 0x0, 1, 0x0, 0, 32, .RC, .M, 0⟩
/-- GUARD.LAST_MASTER.MASTER [5:0] RO, reset M, 0 (09_leaf_code_and_guards.md R302): Master of the last refusal (R291) -/
def GUARD.LAST_MASTER.MASTER : Fld := ⟨358, 0x40080008, 1, 0x0, 1, 0x0, 0, 6, .RO, .M, 0⟩
/-- GUARD.LAST_MASTER.KIND [7:6] RO, reset M, 0 (09_leaf_code_and_guards.md R302): 0 read, 1 write, 2 execute, 3 AMO -/
def GUARD.LAST_MASTER.KIND : Fld := ⟨359, 0x40080008, 1, 0x0, 1, 0x0, 6, 2, .RO, .M, 0⟩
/-- GUARD.LAST_MASTER.COLOUR [11:8] RO, reset M, 0 (09_leaf_code_and_guards.md R302): Colour of the refused granule -/
def GUARD.LAST_MASTER.COLOUR : Fld := ⟨360, 0x40080008, 1, 0x0, 1, 0x0, 8, 4, .RO, .M, 0⟩
/-- GUARD.LAST_MASTER.PARTIAL [12:12] RO, reset M, 0 (09_leaf_code_and_guards.md R302): Earlier parts were performed (R296) -/
def GUARD.LAST_MASTER.PARTIAL : Fld := ⟨361, 0x40080008, 1, 0x0, 1, 0x0, 12, 1, .RO, .M, 0⟩
/-- GUARD.LAST_ADDR_LO.ADDR [31:0] RO, reset M, 0 (09_leaf_code_and_guards.md R302): Byte address of the refused part, bits [31:0] -/
def GUARD.LAST_ADDR_LO.ADDR : Fld := ⟨362, 0x4008000C, 1, 0x0, 1, 0x0, 0, 32, .RO, .M, 0⟩
/-- GUARD.LAST_ADDR_HI.ADDR [6:0] RO, reset M, 0 (09_leaf_code_and_guards.md R302): Bits [38:32] -/
def GUARD.LAST_ADDR_HI.ADDR : Fld := ⟨363, 0x40080010, 1, 0x0, 1, 0x0, 0, 7, .RO, .M, 0⟩
/-- GUARD.DENIEDCNT.COUNT [31:0] RC, reset M, 0 (09_leaf_code_and_guards.md R302): Denied debug accesses; saturates -/
def GUARD.DENIEDCNT.COUNT : Fld := ⟨364, 0x40080018, 1, 0x0, 1, 0x0, 0, 32, .RC, .M, 0⟩
/-- GUARD.PROBE_ADDR_LO.ADDR [31:0] RW, reset M, 0 (09_leaf_code_and_guards.md R302): Probe byte address bits [31:0]; staged -/
def GUARD.PROBE_ADDR_LO.ADDR : Fld := ⟨365, 0x40080020, 1, 0x0, 1, 0x0, 0, 32, .RW, .M, 0⟩
/-- GUARD.PROBE_ADDR_HI.ADDR [6:0] RW, reset M, 0 (09_leaf_code_and_guards.md R302): Bits [38:32]; the write performs the lookup -/
def GUARD.PROBE_ADDR_HI.ADDR : Fld := ⟨366, 0x40080024, 1, 0x0, 1, 0x0, 0, 7, .RW, .M, 0⟩
/-- GUARD.PROBE_COL.COLOUR [3:0] RO, reset M, 0 (09_leaf_code_and_guards.md R302): Colour of the probed granule -/
def GUARD.PROBE_COL.COLOUR : Fld := ⟨367, 0x40080028, 1, 0x0, 1, 0x0, 0, 4, .RO, .M, 0⟩
/-- GUARD.PROBE_COL.VALID [4:4] RO, reset M, 0 (09_leaf_code_and_guards.md R302): The address lies in a memory of R273 -/
def GUARD.PROBE_COL.VALID : Fld := ⟨368, 0x40080028, 1, 0x0, 1, 0x0, 4, 1, .RO, .M, 0⟩
/-- GUARD.TAGERR.COUNT [31:0] RC, reset M, 0 (09_leaf_code_and_guards.md R302): Tag parity errors; saturates -/
def GUARD.TAGERR.COUNT : Fld := ⟨369, 0x4008002C, 1, 0x0, 1, 0x0, 0, 32, .RC, .M, 0⟩
/-- GUARD.RKEY_RW.READ [15:0] RO, reset N (09_leaf_code_and_guards.md R302): RUNTIME key READ set; bit 15 reads 0 -/
def GUARD.RKEY_RW.READ : Fld := ⟨370, 0x400800C0, 1, 0x0, 1, 0x0, 0, 16, .RO, .N, 0⟩
/-- GUARD.RKEY_RW.WRITE [31:16] RO, reset N (09_leaf_code_and_guards.md R302): RUNTIME key WRITE set; bit 31 reads 0 -/
def GUARD.RKEY_RW.WRITE : Fld := ⟨371, 0x400800C0, 1, 0x0, 1, 0x0, 16, 16, .RO, .N, 0⟩
/-- GUARD.RKEY_X.EXEC [15:0] RO, reset N (09_leaf_code_and_guards.md R302): RUNTIME key EXECUTE set; bit 15 reads 0 -/
def GUARD.RKEY_X.EXEC : Fld := ⟨372, 0x400800C4, 1, 0x0, 1, 0x0, 0, 16, .RO, .N, 0⟩
/-- GUARD.MKEYm_RW.READ [15:0] RO, reset N (09_leaf_code_and_guards.md R302): Master m READ set; bit 15 reads 1 only for a core that executes boot ROM code at the moment of the read (R297), and 0 otherwise -/
def GUARD.MKEYm_RW.READ : Fld := ⟨373, 0x40080100, 1, 0x0, 38, 0x8, 0, 16, .RO, .N, 0⟩
/-- GUARD.MKEYm_RW.WRITE [31:16] RO, reset N (09_leaf_code_and_guards.md R302): Master m WRITE set; bit 31 reads 1 only for a core that executes boot ROM code at the moment of the read (R297), and 0 otherwise -/
def GUARD.MKEYm_RW.WRITE : Fld := ⟨374, 0x40080100, 1, 0x0, 38, 0x8, 16, 16, .RO, .N, 0⟩
/-- GUARD.MKEYm_X.EXEC [15:0] RO, reset N (09_leaf_code_and_guards.md R302): Master m EXECUTE set; bit 15 reads 0 -/
def GUARD.MKEYm_X.EXEC : Fld := ⟨375, 0x40080104, 1, 0x0, 38, 0x8, 0, 16, .RO, .N, 0⟩
/-- GUARD.TKEYt_RW.READ [15:0] RO, reset N (09_leaf_code_and_guards.md R302): Task t READ set; bit 15 reads 0 -/
def GUARD.TKEYt_RW.READ : Fld := ⟨376, 0x40080400, 1, 0x0, 256, 0x8, 0, 16, .RO, .N, 0⟩
/-- GUARD.TKEYt_RW.WRITE [31:16] RO, reset N (09_leaf_code_and_guards.md R302): Task t WRITE set; bit 31 reads 0 -/
def GUARD.TKEYt_RW.WRITE : Fld := ⟨377, 0x40080400, 1, 0x0, 256, 0x8, 16, 16, .RO, .N, 0⟩
/-- GUARD.TKEYt_X.EXEC [15:0] RO, reset N (09_leaf_code_and_guards.md R302): Task t EXECUTE set; bit 15 reads 0 -/
def GUARD.TKEYt_X.EXEC : Fld := ⟨378, 0x40080404, 1, 0x0, 256, 0x8, 0, 16, .RO, .N, 0⟩
/-- LOOP.CHc_CFG.MODE [1:0] RWL, reset N (10_loops_and_fast_pins.md R330): 0 OFF, 1 ANALOG, 2 ANALOG_HART, 3 MULTIDROP -/
def LOOP.CHc_CFG.MODE : Fld := ⟨379, 0x40140000, 1, 0x0, 32, 0x40, 0, 2, .RWL, .N, 0⟩
/-- LOOP.CHc_CFG.VMIN [15:8] RWL, reset N (10_loops_and_fast_pins.md R330): Minimum terminal voltage, 50–200 in 0.1 V; other values are rejected at load -/
def LOOP.CHc_CFG.VMIN : Fld := ⟨380, 0x40140000, 1, 0x0, 32, 0x40, 8, 8, .RWL, .N, 0⟩
/-- LOOP.CHc_CFG.PROBE_INT [23:16] RWL, reset N (10_loops_and_fast_pins.md R330): Probe interval in minutes; 0 means no periodic probe (R321) -/
def LOOP.CHc_CFG.PROBE_INT : Fld := ⟨381, 0x40140000, 1, 0x0, 32, 0x40, 16, 8, .RWL, .N, 0⟩
/-- LOOP.CHc_CFG.HPRE [26:24] RWL, reset N (10_loops_and_fast_pins.md R330): HART preambles − 5, 0–7 -/
def LOOP.CHc_CFG.HPRE : Fld := ⟨382, 0x40140000, 1, 0x0, 32, 0x40, 24, 3, .RWL, .N, 0⟩
/-- LOOP.CHc_DAMP.TAU [8:0] RW, reset N (10_loops_and_fast_pins.md R330): Damping, 0–320 in 0.1 s (R315); above 320: rejected at load, and a run-time write is ignored and recorded -/
def LOOP.CHc_DAMP.TAU : Fld := ⟨383, 0x40140004, 1, 0x0, 32, 0x40, 0, 9, .RW, .N, 0⟩
/-- LOOP.CHc_SCALE_LO.LO [31:0] RWL, reset N (10_loops_and_fast_pins.md R330): REAL32 value at 4 mA; equal to HI is rejected at load -/
def LOOP.CHc_SCALE_LO.LO : Fld := ⟨384, 0x40140008, 1, 0x0, 32, 0x40, 0, 32, .RWL, .N, 0⟩
/-- LOOP.CHc_SCALE_HI.HI [31:0] RWL, reset N (10_loops_and_fast_pins.md R330): REAL32 value at 20 mA -/
def LOOP.CHc_SCALE_HI.HI : Fld := ⟨385, 0x4014000C, 1, 0x0, 32, 0x40, 0, 32, .RWL, .N, 0⟩
/-- LOOP.CHc_LINE.RDEF [15:0] RWL, reset N (10_loops_and_fast_pins.md R330): Line resistance used until learned, in 0.1 Ω -/
def LOOP.CHc_LINE.RDEF : Fld := ⟨386, 0x40140010, 1, 0x0, 32, 0x40, 0, 16, .RWL, .N, 0⟩
/-- LOOP.CHc_LEARN.RLINE [15:0] RO, reset M, RDEF (10_loops_and_fast_pins.md R330): Learned R_line in 0.1 Ω (R322) -/
def LOOP.CHc_LEARN.RLINE : Fld := ⟨387, 0x40140014, 1, 0x0, 32, 0x40, 0, 16, .RO, .M, 0⟩
/-- LOOP.CHc_LEARN.VLIFT [27:16] RO, reset M, 0 (10_loops_and_fast_pins.md R330): Learned lift-off voltage in 0.01 V -/
def LOOP.CHc_LEARN.VLIFT : Fld := ⟨388, 0x40140014, 1, 0x0, 32, 0x40, 16, 12, .RO, .M, 0⟩
/-- LOOP.CHc_LEARN.VALID [28:28] RO, reset M, 0 (10_loops_and_fast_pins.md R330): RLINE and VLIFT are learned -/
def LOOP.CHc_LEARN.VALID : Fld := ⟨389, 0x40140014, 1, 0x0, 32, 0x40, 28, 1, .RO, .M, 0⟩
/-- LOOP.CHc_LEARN.PROBE_FAIL [29:29] W1C, reset M, 0 (10_loops_and_fast_pins.md R330): A probe found no dropout (R321) -/
def LOOP.CHc_LEARN.PROBE_FAIL : Fld := ⟨390, 0x40140014, 1, 0x0, 32, 0x40, 29, 1, .W1C, .M, 0⟩
/-- LOOP.CHc_MEAS.I [15:0] RO, reset M, 0 (10_loops_and_fast_pins.md R330): Undamped current in µA -/
def LOOP.CHc_MEAS.I : Fld := ⟨391, 0x40140018, 1, 0x0, 32, 0x40, 0, 16, .RO, .M, 0⟩
/-- LOOP.CHc_MEAS.VSUP [31:16] RO, reset M, 0 (10_loops_and_fast_pins.md R330): Supply voltage in 0.01 V -/
def LOOP.CHc_MEAS.VSUP : Fld := ⟨392, 0x40140018, 1, 0x0, 32, 0x40, 16, 16, .RO, .M, 0⟩
/-- LOOP.CHc_VTERM.VTERM [15:0] RO, reset M, 0 (10_loops_and_fast_pins.md R330): Signed estimated terminal voltage in 0.01 V (R318) -/
def LOOP.CHc_VTERM.VTERM : Fld := ⟨393, 0x4014001C, 1, 0x0, 32, 0x40, 0, 16, .RO, .M, 0⟩
/-- LOOP.CHc_VTERM.TEMP [31:16] RO, reset M, 0 (10_loops_and_fast_pins.md R330): Signed pass-element temperature in 0.25 °C -/
def LOOP.CHc_VTERM.TEMP : Fld := ⟨394, 0x4014001C, 1, 0x0, 32, 0x40, 16, 16, .RO, .M, 0⟩
/-- LOOP.CHc_STAT.STATE [2:0] RO, reset M, 0 (10_loops_and_fast_pins.md R330): 0 OFF, 1 RUN, 2 PROBING, 3 THERMAL_OFF, 4 RETIRED, 5 PARKED; 6–7 do not occur -/
def LOOP.CHc_STAT.STATE : Fld := ⟨395, 0x40140020, 1, 0x0, 32, 0x40, 0, 3, .RO, .M, 0⟩
/-- LOOP.CHc_STAT.QUAL [6:3] RO, reset M, 0 (10_loops_and_fast_pins.md R330): Quality code of the last sample -/
def LOOP.CHc_STAT.QUAL : Fld := ⟨396, 0x40140020, 1, 0x0, 32, 0x40, 3, 4, .RO, .M, 0⟩
/-- LOOP.CHc_STAT.DETAIL [10:7] RO, reset M, 0 (10_loops_and_fast_pins.md R330): Detail of the last sample (R316) -/
def LOOP.CHc_STAT.DETAIL : Fld := ⟨397, 0x40140020, 1, 0x0, 32, 0x40, 7, 4, .RO, .M, 0⟩
/-- LOOP.CHc_STAT.HEADROOM_LOW [11:11] RO, reset M, 0 (10_loops_and_fast_pins.md R330): R319 -/
def LOOP.CHc_STAT.HEADROOM_LOW : Fld := ⟨398, 0x40140020, 1, 0x0, 32, 0x40, 11, 1, .RO, .M, 0⟩
/-- LOOP.CHc_STAT.CAPPED [12:12] RO, reset M, 0 (10_loops_and_fast_pins.md R330): Supply held at the common ceiling (R320) -/
def LOOP.CHc_STAT.CAPPED : Fld := ⟨399, 0x40140020, 1, 0x0, 32, 0x40, 12, 1, .RO, .M, 0⟩
/-- LOOP.CHc_STAT.TRIPS [17:13] RO, reset M, 0 (10_loops_and_fast_pins.md R330): Thermal trips within the window W of the budget (R467), 0 to N -/
def LOOP.CHc_STAT.TRIPS : Fld := ⟨400, 0x40140020, 1, 0x0, 32, 0x40, 13, 5, .RO, .M, 0⟩
/-- LOOP.CHc_STAT.TRIPTOT [31:18] RO, reset M, 0 (10_loops_and_fast_pins.md R330): Thermal trips since the last module reset; saturates at 16,383 -/
def LOOP.CHc_STAT.TRIPTOT : Fld := ⟨401, 0x40140020, 1, 0x0, 32, 0x40, 18, 14, .RO, .M, 0⟩
/-- LOOP.CHc_SIG.SIGNAL [16:0] RWL, reset N (10_loops_and_fast_pins.md R330): Value signal (R317) -/
def LOOP.CHc_SIG.SIGNAL : Fld := ⟨402, 0x40140024, 1, 0x0, 32, 0x40, 0, 17, .RWL, .N, 0⟩
/-- LOOP.CHc_SIG.EN [17:17] RWL, reset N (10_loops_and_fast_pins.md R330): 1: delivered -/
def LOOP.CHc_SIG.EN : Fld := ⟨403, 0x40140024, 1, 0x0, 32, 0x40, 17, 1, .RWL, .N, 0⟩
/-- LOOP.CHc_SIGMA.SIGNAL [16:0] RWL, reset N (10_loops_and_fast_pins.md R330): Current signal in mA -/
def LOOP.CHc_SIGMA.SIGNAL : Fld := ⟨404, 0x40140028, 1, 0x0, 32, 0x40, 0, 17, .RWL, .N, 0⟩
/-- LOOP.CHc_SIGMA.EN [17:17] RWL, reset N (10_loops_and_fast_pins.md R330): 1: delivered -/
def LOOP.CHc_SIGMA.EN : Fld := ⟨405, 0x40140028, 1, 0x0, 32, 0x40, 17, 1, .RWL, .N, 0⟩
/-- LOOP.CHc_HADDR.ADDR [29:0] RWL, reset N (10_loops_and_fast_pins.md R330): Five 6-bit HART addresses, device k at bits [6k+5:6k]; 0 unused in entries 1–4 (R327) -/
def LOOP.CHc_HADDR.ADDR : Fld := ⟨406, 0x4014002C, 1, 0x0, 32, 0x40, 0, 30, .RWL, .N, 0⟩
/-- LOOP.CHc_HSIG.SIGNAL [16:0] RWL, reset N (10_loops_and_fast_pins.md R330): First of 5 signals per device (R326) -/
def LOOP.CHc_HSIG.SIGNAL : Fld := ⟨407, 0x40140030, 1, 0x0, 32, 0x40, 0, 17, .RWL, .N, 0⟩
/-- LOOP.CHc_HSIG.EN [17:17] RWL, reset N (10_loops_and_fast_pins.md R330): 1: delivered -/
def LOOP.CHc_HSIG.EN : Fld := ⟨408, 0x40140030, 1, 0x0, 32, 0x40, 17, 1, .RWL, .N, 0⟩
/-- LOOP.CHc_HCNT.OK [15:0] RC, reset M, 0 (10_loops_and_fast_pins.md R330): Successful HART transactions; saturates -/
def LOOP.CHc_HCNT.OK : Fld := ⟨409, 0x40140034, 1, 0x0, 32, 0x40, 0, 16, .RC, .M, 0⟩
/-- LOOP.CHc_HCNT.FAIL [31:16] RC, reset M, 0 (10_loops_and_fast_pins.md R330): Failed transactions and ignored burst frames; saturates -/
def LOOP.CHc_HCNT.FAIL : Fld := ⟨410, 0x40140034, 1, 0x0, 32, 0x40, 16, 16, .RC, .M, 0⟩
/-- LOOP.CHc_CMD.OP [2:0] WO, reset M, 0 (10_loops_and_fast_pins.md R330): 1 PROBE; 2 PARK, 3 UNPARK and 4 TRIP act only in REGW records from the partner; other values are ignored -/
def LOOP.CHc_CMD.OP : Fld := ⟨411, 0x40140038, 1, 0x0, 32, 0x40, 0, 3, .WO, .M, 0⟩
/-- LOOP.CFG.BASE [0:0] RWL, reset N (10_loops_and_fast_pins.md R330): Sampling base: 0 PB0, 1 PB1 (R314) -/
def LOOP.CFG.BASE : Fld := ⟨412, 0x40140800, 1, 0x0, 1, 0x0, 0, 1, .RWL, .N, 0⟩
/-- LOOP.STAT.POWER_CAP [0:0] RO, reset M, 0 (10_loops_and_fast_pins.md R330): The common ceiling is below 28 V -/
def LOOP.STAT.POWER_CAP : Fld := ⟨413, 0x40140804, 1, 0x0, 1, 0x0, 0, 1, .RO, .M, 0⟩
/-- LOOP.STAT.FE_OK [1:1] RO, reset M, 0 (10_loops_and_fast_pins.md R330): The front end is running (R328) -/
def LOOP.STAT.FE_OK : Fld := ⟨414, 0x40140804, 1, 0x0, 1, 0x0, 1, 1, .RO, .M, 0⟩
/-- LOOP.CEIL.CEIL [9:0] RO, reset M, 560 (10_loops_and_fast_pins.md R330): Common supply ceiling in 0.05 V, 160–560 -/
def LOOP.CEIL.CEIL : Fld := ⟨415, 0x40140808, 1, 0x0, 1, 0x0, 0, 10, .RO, .M, 560⟩
/-- LOOP.POWER.OUT [15:0] RO, reset M, 0 (10_loops_and_fast_pins.md R330): Loop output power in mW -/
def LOOP.POWER.OUT : Fld := ⟨416, 0x4014080C, 1, 0x0, 1, 0x0, 0, 16, .RO, .M, 0⟩
/-- LOOP.POWER.IN [31:16] RO, reset M, 0 (10_loops_and_fast_pins.md R330): Loop supply input power in mW -/
def LOOP.POWER.IN : Fld := ⟨417, 0x4014080C, 1, 0x0, 1, 0x0, 16, 16, .RO, .M, 0⟩
/-- LOOP.FERST.COUNT [15:0] RO, reset K, 0 (10_loops_and_fast_pins.md R330): Front-end restarts since power-up; saturates -/
def LOOP.FERST.COUNT : Fld := ⟨418, 0x40140810, 1, 0x0, 1, 0x0, 0, 16, .RO, .K, 0⟩
/-- FPIN.PINp_CFG.DIR [1:0] RWL, reset N (10_loops_and_fast_pins.md R331): 0 UNUSED, 1 INPUT, 2 OUTPUT; 3 is rejected at load -/
def FPIN.PINp_CFG.DIR : Fld := ⟨419, 0x40150000, 1, 0x0, 64, 0x10, 0, 2, .RWL, .N, 0⟩
/-- FPIN.PINp_CFG.ITYPE [2:2] RWL, reset N (10_loops_and_fast_pins.md R331): 0 type 1, 1 type 3 -/
def FPIN.PINp_CFG.ITYPE : Fld := ⟨420, 0x40150000, 1, 0x0, 64, 0x10, 2, 1, .RWL, .N, 0⟩
/-- FPIN.PINp_CFG.SRC [3:3] RWL, reset N (10_loops_and_fast_pins.md R331): 0 CELL, 1 FOLLOW (R303) -/
def FPIN.PINp_CFG.SRC : Fld := ⟨421, 0x40150000, 1, 0x0, 64, 0x10, 3, 1, .RWL, .N, 0⟩
/-- FPIN.PINp_FILT.FILT [15:0] RWL, reset N (10_loops_and_fast_pins.md R331): Input filter in µs; 0 none (R305) -/
def FPIN.PINp_FILT.FILT : Fld := ⟨422, 0x40150004, 1, 0x0, 64, 0x10, 0, 16, .RWL, .N, 0⟩
/-- FPIN.PINp_FOLLOW.SIGNAL [16:0] RWL, reset N (10_loops_and_fast_pins.md R331): Signal for FOLLOW (R307) -/
def FPIN.PINp_FOLLOW.SIGNAL : Fld := ⟨423, 0x40150008, 1, 0x0, 64, 0x10, 0, 17, .RWL, .N, 0⟩
/-- FPIN.PINp_STAT.RAW [0:0] RO, reset M, 0 (10_loops_and_fast_pins.md R331): Level at the threshold, before the filter -/
def FPIN.PINp_STAT.RAW : Fld := ⟨424, 0x4015000C, 1, 0x0, 64, 0x10, 0, 1, .RO, .M, 0⟩
/-- FPIN.PINp_STAT.LEVEL [1:1] RO, reset M, 0 (10_loops_and_fast_pins.md R331): Filtered input level, or terminal readback of an output -/
def FPIN.PINp_STAT.LEVEL : Fld := ⟨425, 0x4015000C, 1, 0x0, 64, 0x10, 1, 1, .RO, .M, 0⟩
/-- FPIN.PINp_STAT.DRIVE [2:2] RO, reset M, 0 (10_loops_and_fast_pins.md R331): Output commanded on by this unit -/
def FPIN.PINp_STAT.DRIVE : Fld := ⟨426, 0x4015000C, 1, 0x0, 64, 0x10, 2, 1, .RO, .M, 0⟩
/-- FPIN.PINp_STAT.SHORT [3:3] RO, reset M, 0 (10_loops_and_fast_pins.md R331): Output in current limit or switched off (R306) -/
def FPIN.PINp_STAT.SHORT : Fld := ⟨427, 0x4015000C, 1, 0x0, 64, 0x10, 3, 1, .RO, .M, 0⟩
/-- FPIN.PINp_STAT.LIMITED [4:4] RO, reset M, 0 (10_loops_and_fast_pins.md R331): Output limited by the pool (R173) -/
def FPIN.PINp_STAT.LIMITED : Fld := ⟨428, 0x4015000C, 1, 0x0, 64, 0x10, 4, 1, .RO, .M, 0⟩
/-- FPIN.PINp_STAT.RELEASED [5:5] RO, reset M, 0 (10_loops_and_fast_pins.md R331): Shadow drive released (R214) -/
def FPIN.PINp_STAT.RELEASED : Fld := ⟨429, 0x4015000C, 1, 0x0, 64, 0x10, 5, 1, .RO, .M, 0⟩
/-- FPIN.PINp_STAT.RETIRED [6:6] RO, reset N (10_loops_and_fast_pins.md R331): Pin retired -/
def FPIN.PINp_STAT.RETIRED : Fld := ⟨430, 0x4015000C, 1, 0x0, 64, 0x10, 6, 1, .RO, .N, 0⟩
/-- FPIN.PINp_STAT.SHORTS [31:16] RO, reset M, 0 (10_loops_and_fast_pins.md R331): Short switch-offs; saturates -/
def FPIN.PINp_STAT.SHORTS : Fld := ⟨431, 0x4015000C, 1, 0x0, 64, 0x10, 16, 16, .RO, .M, 0⟩
/-- FPIN.ENCe_STAT.SIGOK [0:0] RO, reset M, 0 (10_loops_and_fast_pins.md R331): All three pairs valid (R309) -/
def FPIN.ENCe_STAT.SIGOK : Fld := ⟨432, 0x40150400, 1, 0x0, 4, 0x10, 0, 1, .RO, .M, 0⟩
/-- FPIN.ENCe_STAT.A [1:1] RO, reset M, 0 (10_loops_and_fast_pins.md R331): Level of A -/
def FPIN.ENCe_STAT.A : Fld := ⟨433, 0x40150400, 1, 0x0, 4, 0x10, 1, 1, .RO, .M, 0⟩
/-- FPIN.ENCe_STAT.B [2:2] RO, reset M, 0 (10_loops_and_fast_pins.md R331): Level of B -/
def FPIN.ENCe_STAT.B : Fld := ⟨434, 0x40150400, 1, 0x0, 4, 0x10, 2, 1, .RO, .M, 0⟩
/-- FPIN.ENCe_STAT.Z [3:3] RO, reset M, 0 (10_loops_and_fast_pins.md R331): Level of Z -/
def FPIN.ENCe_STAT.Z : Fld := ⟨435, 0x40150400, 1, 0x0, 4, 0x10, 3, 1, .RO, .M, 0⟩
/-- FPIN.ENCe_STAT.LOSS [31:16] RO, reset M, 0 (10_loops_and_fast_pins.md R331): Signal losses; saturates -/
def FPIN.ENCe_STAT.LOSS : Fld := ⟨436, 0x40150400, 1, 0x0, 4, 0x10, 16, 16, .RO, .M, 0⟩
/-- FPIN.ENCe_COUNT.COUNT [31:0] RO, reset M, 0 (10_loops_and_fast_pins.md R331): Raw count modulo 2^32 -/
def FPIN.ENCe_COUNT.COUNT : Fld := ⟨437, 0x40150404, 1, 0x0, 4, 0x10, 0, 32, .RO, .M, 0⟩
/-- FPIN.ACm_STAT.PRESENT [0:0] RO, reset M, 0 (10_loops_and_fast_pins.md R331): Input valid (R39) -/
def FPIN.ACm_STAT.PRESENT : Fld := ⟨438, 0x40150500, 1, 0x0, 2, 0x10, 0, 1, .RO, .M, 0⟩
/-- FPIN.ACm_STAT.OVERV [1:1] RO, reset M, 0 (10_loops_and_fast_pins.md R331): Above 120 % of nominal -/
def FPIN.ACm_STAT.OVERV : Fld := ⟨439, 0x40150500, 1, 0x0, 2, 0x10, 1, 1, .RO, .M, 0⟩
/-- FPIN.ACm_STAT.FREQ_OK [2:2] RO, reset M, 0 (10_loops_and_fast_pins.md R331): Frequency within 45–65 Hz -/
def FPIN.ACm_STAT.FREQ_OK : Fld := ⟨440, 0x40150500, 1, 0x0, 2, 0x10, 2, 1, .RO, .M, 0⟩
/-- FPIN.ACm_FREQ.FREQ [16:0] RO, reset M, 0 (10_loops_and_fast_pins.md R331): Tracked frequency in 0.001 Hz -/
def FPIN.ACm_FREQ.FREQ : Fld := ⟨441, 0x40150504, 1, 0x0, 2, 0x10, 0, 17, .RO, .M, 0⟩
/-- FPIN.LVL_LO.LEVEL [31:0] RO, reset M, 0 (10_loops_and_fast_pins.md R331): Bit p: PINp_STAT.LEVEL of pins 0–31 -/
def FPIN.LVL_LO.LEVEL : Fld := ⟨442, 0x40150600, 1, 0x0, 1, 0x0, 0, 32, .RO, .M, 0⟩
/-- FPIN.LVL_HI.LEVEL [31:0] RO, reset M, 0 (10_loops_and_fast_pins.md R331): Pins 32–63 -/
def FPIN.LVL_HI.LEVEL : Fld := ⟨443, 0x40150604, 1, 0x0, 1, 0x0, 0, 32, .RO, .M, 0⟩
/-- FPIN.TERM_LO.LEVEL [31:0] RO, reset M, 0 (10_loops_and_fast_pins.md R331): Bit p: terminal readback of output pins 0–31; 0 for inputs -/
def FPIN.TERM_LO.LEVEL : Fld := ⟨444, 0x40150608, 1, 0x0, 1, 0x0, 0, 32, .RO, .M, 0⟩
/-- FPIN.TERM_HI.LEVEL [31:0] RO, reset M, 0 (10_loops_and_fast_pins.md R331): Pins 32–63 -/
def FPIN.TERM_HI.LEVEL : Fld := ⟨445, 0x4015060C, 1, 0x0, 1, 0x0, 0, 32, .RO, .M, 0⟩
/-- FPIN.SHORTCNT.COUNT [31:0] RC, reset M, 0 (10_loops_and_fast_pins.md R331): Short switch-offs on all pins; saturates -/
def FPIN.SHORTCNT.COUNT : Fld := ⟨446, 0x40150610, 1, 0x0, 1, 0x0, 0, 32, .RC, .M, 0⟩
/-- SAFE.STAT.STATE [1:0] RO, reset M, 0 (11_safety_unit.md R367): 0 STARTING, 1 RUN, 2 WATCH (unit not active), 3 FAILSAFE (R335) -/
def SAFE.STAT.STATE : Fld := ⟨447, 0x40160000, 1, 0x0, 1, 0x0, 0, 2, .RO, .M, 0⟩
/-- SAFE.STAT.CONFIRMED [2:2] RO, reset N (11_safety_unit.md R367): The check value is confirmed (R357) -/
def SAFE.STAT.CONFIRMED : Fld := ⟨448, 0x40160000, 1, 0x0, 1, 0x0, 2, 1, .RO, .N, 0⟩
/-- SAFE.STAT.STARTUP_DONE [3:3] RO, reset K, 0 (11_safety_unit.md R367): Every GUARD pair is TESTED (R340) -/
def SAFE.STAT.STARTUP_DONE : Fld := ⟨449, 0x40160000, 1, 0x0, 1, 0x0, 3, 1, .RO, .K, 0⟩
/-- SAFE.STAT.LOCKED [4:4] RO, reset M, 0 (11_safety_unit.md R367): CONFIRM is locked out (R358) -/
def SAFE.STAT.LOCKED : Fld := ⟨450, 0x40160000, 1, 0x0, 1, 0x0, 4, 1, .RO, .M, 0⟩
/-- SAFE.STAT.EXT_HIGH [5:5] W1C, reset M, 0 (11_safety_unit.md R367): An EXT_HIGH fault occurred (R353) -/
def SAFE.STAT.EXT_HIGH : Fld := ⟨451, 0x40160000, 1, 0x0, 1, 0x0, 5, 1, .W1C, .M, 0⟩
/-- SAFE.CHECK.VALUE [31:0] RO, reset N (11_safety_unit.md R367): Check value of the loaded SAFETY section (R356) -/
def SAFE.CHECK.VALUE : Fld := ⟨452, 0x40160004, 1, 0x0, 1, 0x0, 0, 32, .RO, .N, 0⟩
/-- SAFE.CONFIRMED.VALUE [31:0] RO, reset N (11_safety_unit.md R367): Confirmed check value; valid when STAT.CONFIRMED is 1 -/
def SAFE.CONFIRMED.VALUE : Fld := ⟨453, 0x40160008, 1, 0x0, 1, 0x0, 0, 32, .RO, .N, 0⟩
/-- SAFE.OUTS.OUT0 [7:0] RO, reset M, 0 (11_safety_unit.md R367): Output 0 state byte (R366) -/
def SAFE.OUTS.OUT0 : Fld := ⟨454, 0x4016000C, 1, 0x0, 1, 0x0, 0, 8, .RO, .M, 0⟩
/-- SAFE.OUTS.OUT1 [15:8] RO, reset M, 0 (11_safety_unit.md R367): Output 1 -/
def SAFE.OUTS.OUT1 : Fld := ⟨455, 0x4016000C, 1, 0x0, 1, 0x0, 8, 8, .RO, .M, 0⟩
/-- SAFE.OUTS.OUT2 [23:16] RO, reset M, 0 (11_safety_unit.md R367): Output 2 -/
def SAFE.OUTS.OUT2 : Fld := ⟨456, 0x4016000C, 1, 0x0, 1, 0x0, 16, 8, .RO, .M, 0⟩
/-- SAFE.OUTS.OUT3 [31:24] RO, reset M, 0 (11_safety_unit.md R367): Output 3 -/
def SAFE.OUTS.OUT3 : Fld := ⟨457, 0x4016000C, 1, 0x0, 1, 0x0, 24, 8, .RO, .M, 0⟩
/-- SAFE.PAIRS.PAIRk [31:0] RO, reset M, 0 (11_safety_unit.md R367): Pair k state byte at bits [8k+7:8k] -/
def SAFE.PAIRS.PAIRk : Fld := ⟨458, 0x40160010, 1, 0x0, 1, 0x0, 0, 32, .RO, .M, 0⟩
/-- SAFE.FUNCS_LO.FUNi [31:0] RO, reset M, 0 (11_safety_unit.md R367): Function i (0–3) state byte at bits [8i+7:8i] -/
def SAFE.FUNCS_LO.FUNi : Fld := ⟨459, 0x40160014, 1, 0x0, 1, 0x0, 0, 32, .RO, .M, 0⟩
/-- SAFE.FUNCS_HI.FUNi [31:0] RO, reset M, 0 (11_safety_unit.md R367): Function 4 + i (i 0–3) at bits [8i+7:8i] -/
def SAFE.FUNCS_HI.FUNi : Fld := ⟨460, 0x40160018, 1, 0x0, 1, 0x0, 0, 32, .RO, .M, 0⟩
/-- SAFE.LASTFAULT.CODE [7:0] RO, reset M, 0 (11_safety_unit.md R367): Last fault code (R366) -/
def SAFE.LASTFAULT.CODE : Fld := ⟨461, 0x4016001C, 1, 0x0, 1, 0x0, 0, 8, .RO, .M, 0⟩
/-- SAFE.LASTFAULT.ITEM [11:8] RO, reset M, 0 (11_safety_unit.md R367): Pair, function or output index -/
def SAFE.LASTFAULT.ITEM : Fld := ⟨462, 0x4016001C, 1, 0x0, 1, 0x0, 8, 4, .RO, .M, 0⟩
/-- SAFE.MBOX_CMD.OP [1:0] WO, reset M, 0 (11_safety_unit.md R367): 1 RESTART, 2 CLEAR, 3 CONFIRM; 0 is ignored (R360) -/
def SAFE.MBOX_CMD.OP : Fld := ⟨463, 0x40160020, 1, 0x0, 1, 0x0, 0, 2, .WO, .M, 0⟩
/-- SAFE.MBOX_ARG.ARG [31:0] RW, reset M, 0 (11_safety_unit.md R367): Argument of the next request -/
def SAFE.MBOX_ARG.ARG : Fld := ⟨464, 0x40160024, 1, 0x0, 1, 0x0, 0, 32, .RW, .M, 0⟩
/-- SAFE.MBOX_STAT.RESULT [2:0] RO, reset M, 0 (11_safety_unit.md R367): 0 none, 1 DONE, 2 DENIED, 3 MISMATCH, 4 LOCKED, 5 NOT_WAITING, 6 STILL_PRESENT, 7 BUSY -/
def SAFE.MBOX_STAT.RESULT : Fld := ⟨465, 0x40160028, 1, 0x0, 1, 0x0, 0, 3, .RO, .M, 0⟩
/-- SAFE.MBOX_STAT.BUSY [3:3] RO, reset M, 0 (11_safety_unit.md R367): A request is being processed -/
def SAFE.MBOX_STAT.BUSY : Fld := ⟨466, 0x40160028, 1, 0x0, 1, 0x0, 3, 1, .RO, .M, 0⟩
/-- SAFE.STARTUP.OPEN_SEEN [3:0] RO, reset K, 0 (11_safety_unit.md R367): Bit k: pair k seen in demand on both channels (R340) -/
def SAFE.STARTUP.OPEN_SEEN : Fld := ⟨467, 0x4016002C, 1, 0x0, 1, 0x0, 0, 4, .RO, .K, 0⟩
/-- SAFE.STARTUP.TESTED [7:4] RO, reset K, 0 (11_safety_unit.md R367): Bit 4 + k: pair k TESTED -/
def SAFE.STARTUP.TESTED : Fld := ⟨468, 0x4016002C, 1, 0x0, 1, 0x0, 4, 4, .RO, .K, 0⟩
/-- SAFE.SPEEDe.SPEED [31:0] RO, reset M, 0 (11_safety_unit.md R367): Signed speed of encoder e in counts/s, from the safety unit's own decoder (R341) -/
def SAFE.SPEEDe.SPEED : Fld := ⟨469, 0x40160030, 1, 0x0, 4, 0x4, 0, 32, .RO, .M, 0⟩
/-- SAFE.POSe.POS [31:0] RO, reset M, 0 (11_safety_unit.md R367): Signed position in counts; 0 until the first Z edge -/
def SAFE.POSe.POS : Fld := ⟨470, 0x40160040, 1, 0x0, 4, 0x4, 0, 32, .RO, .M, 0⟩
/-- SAFE.DEMANDS.COUNT [31:0] RC, reset M, 0 (11_safety_unit.md R367): Transitions of outputs to DEMAND; saturates -/
def SAFE.DEMANDS.COUNT : Fld := ⟨471, 0x40160050, 1, 0x0, 1, 0x0, 0, 32, .RC, .M, 0⟩
/-- SAFE.PULSES.COUNT [31:0] RO, reset M, 0 (11_safety_unit.md R367): Pulses passed (R351); wraps -/
def SAFE.PULSES.COUNT : Fld := ⟨472, 0x40160054, 1, 0x0, 1, 0x0, 0, 32, .RO, .M, 0⟩
/-- SAFE.PULSEFAIL.COUNT [15:0] RO, reset M, 0 (11_safety_unit.md R367): PULSE_LOW, PULSE_HIGH and PRETEST faults; saturates -/
def SAFE.PULSEFAIL.COUNT : Fld := ⟨473, 0x40160058, 1, 0x0, 1, 0x0, 0, 16, .RO, .M, 0⟩
/-- SAFE.DIAG.TRANSIENT [15:0] RO, reset M, 0 (11_safety_unit.md R367): Transient diagnostic failures (R335); saturates -/
def SAFE.DIAG.TRANSIENT : Fld := ⟨474, 0x4016005C, 1, 0x0, 1, 0x0, 0, 16, .RO, .M, 0⟩
/-- SAFE.CONFAIL.COUNT [7:0] RO, reset M, 0 (11_safety_unit.md R367): CONFIRM mismatches; saturates -/
def SAFE.CONFAIL.COUNT : Fld := ⟨475, 0x40160060, 1, 0x0, 1, 0x0, 0, 8, .RO, .M, 0⟩
/-- CAN.CFG.MODE [1:0] RWL, reset N (12_can_fd_ports.md R392): 0 OFF, 1 ON (R369, R370); 2–3 are rejected at load -/
def CAN.CFG.MODE : Fld := ⟨476, 0x40100000, 1, 0x0, 4, 0x10000, 0, 2, .RWL, .N, 0⟩
/-- CAN.CFG.FDEN [2:2] RWL, reset N (12_can_fd_ports.md R392): 1: FD frames may be sent -/
def CAN.CFG.FDEN : Fld := ⟨477, 0x40100000, 1, 0x0, 4, 0x10000, 2, 1, .RWL, .N, 0⟩
/-- CAN.CFG.BRSEN [3:3] RWL, reset N (12_can_fd_ports.md R392): 1: FD frames are sent with BRS -/
def CAN.CFG.BRSEN : Fld := ⟨478, 0x40100000, 1, 0x0, 4, 0x10000, 3, 1, .RWL, .N, 0⟩
/-- CAN.CFG.FIFOPOL0 [4:4] RWL, reset N (12_can_fd_ports.md R392): FIFO0: 0 BLOCK, 1 OVERWRITE (R376) -/
def CAN.CFG.FIFOPOL0 : Fld := ⟨479, 0x40100000, 1, 0x0, 4, 0x10000, 4, 1, .RWL, .N, 0⟩
/-- CAN.CFG.FIFOPOL1 [5:5] RWL, reset N (12_can_fd_ports.md R392): FIFO1 -/
def CAN.CFG.FIFOPOL1 : Fld := ⟨480, 0x40100000, 1, 0x0, 4, 0x10000, 5, 1, .RWL, .N, 0⟩
/-- CAN.CFG.FIFO0TASK [15:8] RWL, reset N (12_can_fd_ports.md R392): Owner of FIFO0 -/
def CAN.CFG.FIFO0TASK : Fld := ⟨481, 0x40100000, 1, 0x0, 4, 0x10000, 8, 8, .RWL, .N, 0⟩
/-- CAN.CFG.FIFO1TASK [23:16] RWL, reset N (12_can_fd_ports.md R392): Owner of FIFO1 -/
def CAN.CFG.FIFO1TASK : Fld := ⟨482, 0x40100000, 1, 0x0, 4, 0x10000, 16, 8, .RWL, .N, 0⟩
/-- CAN.CFG.TXQTASK [31:24] RWL, reset N (12_can_fd_ports.md R392): Owner of the transmit queue -/
def CAN.CFG.TXQTASK : Fld := ⟨483, 0x40100000, 1, 0x0, 4, 0x10000, 24, 8, .RWL, .N, 0⟩
/-- CAN.NBT.BRP [7:0] RWL, reset N (12_can_fd_ports.md R392): BRP − 1 (R371) -/
def CAN.NBT.BRP : Fld := ⟨484, 0x40100004, 1, 0x0, 4, 0x10000, 0, 8, .RWL, .N, 0⟩
/-- CAN.NBT.TSEG1 [15:8] RWL, reset N (12_can_fd_ports.md R392): TSEG1 − 1 -/
def CAN.NBT.TSEG1 : Fld := ⟨485, 0x40100004, 1, 0x0, 4, 0x10000, 8, 8, .RWL, .N, 0⟩
/-- CAN.NBT.TSEG2 [22:16] RWL, reset N (12_can_fd_ports.md R392): TSEG2 − 1 -/
def CAN.NBT.TSEG2 : Fld := ⟨486, 0x40100004, 1, 0x0, 4, 0x10000, 16, 7, .RWL, .N, 0⟩
/-- CAN.NBT.SJW [29:23] RWL, reset N (12_can_fd_ports.md R392): SJW − 1 -/
def CAN.NBT.SJW : Fld := ⟨487, 0x40100004, 1, 0x0, 4, 0x10000, 23, 7, .RWL, .N, 0⟩
/-- CAN.DBT.BRP [4:0] RWL, reset N (12_can_fd_ports.md R392): BRP − 1 -/
def CAN.DBT.BRP : Fld := ⟨488, 0x40100008, 1, 0x0, 4, 0x10000, 0, 5, .RWL, .N, 0⟩
/-- CAN.DBT.TSEG1 [12:8] RWL, reset N (12_can_fd_ports.md R392): TSEG1 − 1 -/
def CAN.DBT.TSEG1 : Fld := ⟨489, 0x40100008, 1, 0x0, 4, 0x10000, 8, 5, .RWL, .N, 0⟩
/-- CAN.DBT.TSEG2 [19:16] RWL, reset N (12_can_fd_ports.md R392): TSEG2 − 1 -/
def CAN.DBT.TSEG2 : Fld := ⟨490, 0x40100008, 1, 0x0, 4, 0x10000, 16, 4, .RWL, .N, 0⟩
/-- CAN.DBT.SJW [27:24] RWL, reset N (12_can_fd_ports.md R392): SJW − 1 -/
def CAN.DBT.SJW : Fld := ⟨491, 0x40100008, 1, 0x0, 4, 0x10000, 24, 4, .RWL, .N, 0⟩
/-- CAN.TDC.TDCO [6:0] RWL, reset N (12_can_fd_ports.md R392): Offset in CAN clocks (R372) -/
def CAN.TDC.TDCO : Fld := ⟨492, 0x4010000C, 1, 0x0, 4, 0x10000, 0, 7, .RWL, .N, 0⟩
/-- CAN.TDC.EN [8:8] RWL, reset N (12_can_fd_ports.md R392): 1: TDC in use -/
def CAN.TDC.EN : Fld := ⟨493, 0x4010000C, 1, 0x0, 4, 0x10000, 8, 1, .RWL, .N, 0⟩
/-- CAN.TDC.CLIP [9:9] W1C, reset M, 0 (12_can_fd_ports.md R392): SSP was held at 127 -/
def CAN.TDC.CLIP : Fld := ⟨494, 0x4010000C, 1, 0x0, 4, 0x10000, 9, 1, .W1C, .M, 0⟩
/-- CAN.TDC.TDCV [22:16] RO, reset M, 0 (12_can_fd_ports.md R392): Last measured loop delay in CAN clocks -/
def CAN.TDC.TDCV : Fld := ⟨495, 0x4010000C, 1, 0x0, 4, 0x10000, 16, 7, .RO, .M, 0⟩
/-- CAN.STAT.STATE [1:0] RO, reset M, 0 (12_can_fd_ports.md R392): 0 OFF, 1 ERROR_ACTIVE, 2 ERROR_PASSIVE, 3 BUS_OFF -/
def CAN.STAT.STATE : Fld := ⟨496, 0x40100010, 1, 0x0, 4, 0x10000, 0, 2, .RO, .M, 0⟩
/-- CAN.STAT.NO_PARTNER [2:2] RO, reset M, 0 (12_can_fd_ports.md R392): R385 -/
def CAN.STAT.NO_PARTNER : Fld := ⟨497, 0x40100010, 1, 0x0, 4, 0x10000, 2, 1, .RO, .M, 0⟩
/-- CAN.STAT.PAUSED [3:3] RO, reset M, 0 (12_can_fd_ports.md R392): R385 -/
def CAN.STAT.PAUSED : Fld := ⟨498, 0x40100010, 1, 0x0, 4, 0x10000, 3, 1, .RO, .M, 0⟩
/-- CAN.STAT.MONITORING [4:4] RO, reset M, 0 (12_can_fd_ports.md R392): Bus monitoring mode (R369) -/
def CAN.STAT.MONITORING : Fld := ⟨499, 0x40100010, 1, 0x0, 4, 0x10000, 4, 1, .RO, .M, 0⟩
/-- CAN.STAT.RECOVERING [5:5] RO, reset M, 0 (12_can_fd_ports.md R392): Bus-off recovery sequence running -/
def CAN.STAT.RECOVERING : Fld := ⟨500, 0x40100010, 1, 0x0, 4, 0x10000, 5, 1, .RO, .M, 0⟩
/-- CAN.STAT.RETIRED [6:6] RO, reset N (12_can_fd_ports.md R392): Port retired (R384) -/
def CAN.STAT.RETIRED : Fld := ⟨501, 0x40100010, 1, 0x0, 4, 0x10000, 6, 1, .RO, .N, 0⟩
/-- CAN.ERR.TEC [8:0] RO, reset M, 0 (12_can_fd_ports.md R392): Transmit error counter -/
def CAN.ERR.TEC : Fld := ⟨502, 0x40100014, 1, 0x0, 4, 0x10000, 0, 9, .RO, .M, 0⟩
/-- CAN.ERR.REC [22:16] RO, reset M, 0 (12_can_fd_ports.md R392): Receive error counter -/
def CAN.ERR.REC : Fld := ⟨503, 0x40100014, 1, 0x0, 4, 0x10000, 16, 7, .RO, .M, 0⟩
/-- CAN.ERR.RP [23:23] RO, reset M, 0 (12_can_fd_ports.md R392): Receive error passive -/
def CAN.ERR.RP : Fld := ⟨504, 0x40100014, 1, 0x0, 4, 0x10000, 23, 1, .RO, .M, 0⟩
/-- CAN.ERR.LEC [26:24] RO, reset M, 0 (12_can_fd_ports.md R392): Last error: 0 none, 1 stuff, 2 form, 3 ACK, 4 bit 1, 5 bit 0, 6 CRC; 7 does not occur -/
def CAN.ERR.LEC : Fld := ⟨505, 0x40100014, 1, 0x0, 4, 0x10000, 24, 3, .RO, .M, 0⟩
/-- CAN.ERRCNT.BUSOFF [15:0] RC, reset M, 0 (12_can_fd_ports.md R392): Bus-offs; saturates -/
def CAN.ERRCNT.BUSOFF : Fld := ⟨506, 0x40100018, 1, 0x0, 4, 0x10000, 0, 16, .RC, .M, 0⟩
/-- CAN.ERRCNT.FRAMES [31:16] RC, reset M, 0 (12_can_fd_ports.md R392): Error frames sent; saturates -/
def CAN.ERRCNT.FRAMES : Fld := ⟨507, 0x40100018, 1, 0x0, 4, 0x10000, 16, 16, .RC, .M, 0⟩
/-- CAN.NPCFG.PAUSE [15:0] RWL, reset N (12_can_fd_ports.md R392): 0–60,000 ms (R385) -/
def CAN.NPCFG.PAUSE : Fld := ⟨508, 0x4010001C, 1, 0x0, 4, 0x10000, 0, 16, .RWL, .N, 0⟩
/-- CAN.BOCFG.DELAY [13:0] RWL, reset N (12_can_fd_ports.md R392): 0–10,000 ms (R384) -/
def CAN.BOCFG.DELAY : Fld := ⟨509, 0x40100020, 1, 0x0, 4, 0x10000, 0, 14, .RWL, .N, 0⟩
/-- CAN.BOCFG.AUTO [14:14] RWL, reset N (12_can_fd_ports.md R392): 1: automatic recovery -/
def CAN.BOCFG.AUTO : Fld := ⟨510, 0x40100020, 1, 0x0, 4, 0x10000, 14, 1, .RWL, .N, 0⟩
/-- CAN.CMD.OP [1:0] WO, reset M, 0 (12_can_fd_ports.md R392): 1 RECOVER; 0, 2 and 3 are ignored -/
def CAN.CMD.OP : Fld := ⟨511, 0x40100024, 1, 0x0, 4, 0x10000, 0, 2, .WO, .M, 0⟩
/-- CAN.RXCNT.NOMATCH [15:0] RC, reset M, 0 (12_can_fd_ports.md R392): Frames matched by no element; saturates -/
def CAN.RXCNT.NOMATCH : Fld := ⟨512, 0x40100028, 1, 0x0, 4, 0x10000, 0, 16, .RC, .M, 0⟩
/-- CAN.RXCNT.REMOTE [31:16] RC, reset M, 0 (12_can_fd_ports.md R392): Remote frames rejected; saturates -/
def CAN.RXCNT.REMOTE : Fld := ⟨513, 0x40100028, 1, 0x0, 4, 0x10000, 16, 16, .RC, .M, 0⟩
/-- CAN.TXCNT.COUNT [31:0] RC, reset M, 0 (12_can_fd_ports.md R392): Frames sent successfully; saturates -/
def CAN.TXCNT.COUNT : Fld := ⟨514, 0x4010002C, 1, 0x0, 4, 0x10000, 0, 32, .RC, .M, 0⟩
/-- CAN.LOST.FIFO [15:0] RC, reset M, 0 (12_can_fd_ports.md R392): Frames lost at a full FIFO; saturates -/
def CAN.LOST.FIFO : Fld := ⟨515, 0x40100030, 1, 0x0, 4, 0x10000, 0, 16, .RC, .M, 0⟩
/-- CAN.LOST.HPOVR [31:16] RC, reset M, 0 (12_can_fd_ports.md R392): HP buffer overwrites; saturates -/
def CAN.LOST.HPOVR : Fld := ⟨516, 0x40100030, 1, 0x0, 4, 0x10000, 16, 16, .RC, .M, 0⟩
/-- CAN.MAPERR.ERR [15:0] RC, reset M, 0 (12_can_fd_ports.md R392): Frames too short for their map (R375); saturates -/
def CAN.MAPERR.ERR : Fld := ⟨517, 0x40100034, 1, 0x0, 4, 0x10000, 0, 16, .RC, .M, 0⟩
/-- CAN.MAPERR.HOLD [31:16] RC, reset M, 0 (12_can_fd_ports.md R392): MAPPED frames held (R379); saturates -/
def CAN.MAPERR.HOLD : Fld := ⟨518, 0x40100034, 1, 0x0, 4, 0x10000, 16, 16, .RC, .M, 0⟩
/-- CAN.TXREQ.REQ [31:0] W1S, reset M, 0 (12_can_fd_ports.md R392): Bit b: request buffer b at the owner's next commit (R379) -/
def CAN.TXREQ.REQ : Fld := ⟨519, 0x40100040, 1, 0x0, 4, 0x10000, 0, 32, .W1S, .M, 0⟩
/-- CAN.TXCANCEL.CAN [31:0] W1S, reset M, 0 (12_can_fd_ports.md R392): Bit b: cancel buffer b (R382) -/
def CAN.TXCANCEL.CAN : Fld := ⟨520, 0x40100044, 1, 0x0, 4, 0x10000, 0, 32, .W1S, .M, 0⟩
/-- CAN.TXPEND.PEND [31:0] RO, reset M, 0 (12_can_fd_ports.md R392): Bit b: buffer b is PENDING or ACTIVE -/
def CAN.TXPEND.PEND : Fld := ⟨521, 0x40100048, 1, 0x0, 4, 0x10000, 0, 32, .RO, .M, 0⟩
/-- CAN.TXQSTAT.FILL [4:0] RO, reset M, 0 (12_can_fd_ports.md R392): Queue entries in use, 0–16 -/
def CAN.TXQSTAT.FILL : Fld := ⟨522, 0x4010004C, 1, 0x0, 4, 0x10000, 0, 5, .RO, .M, 0⟩
/-- CAN.TXQSTAT.FULL [5:5] W1C, reset M, 0 (12_can_fd_ports.md R392): A push was refused (R380) -/
def CAN.TXQSTAT.FULL : Fld := ⟨523, 0x4010004C, 1, 0x0, 4, 0x10000, 5, 1, .W1C, .M, 0⟩
/-- CAN.TXQSTAT.PUSH [6:6] W1S, reset M, 0 (12_can_fd_ports.md R392): Push the next entry at the owner's next commit -/
def CAN.TXQSTAT.PUSH : Fld := ⟨524, 0x4010004C, 1, 0x0, 4, 0x10000, 6, 1, .W1S, .M, 0⟩
/-- CAN.FIFOk_STAT.FILL [6:0] RO, reset M, 0 (12_can_fd_ports.md R392): Entries held, 0–64 -/
def CAN.FIFOk_STAT.FILL : Fld := ⟨525, 0x40100050, 4, 0x10000, 2, 0x4, 0, 7, .RO, .M, 0⟩
/-- CAN.FIFOk_STAT.FULL [7:7] W1C, reset M, 0 (12_can_fd_ports.md R392): R376 -/
def CAN.FIFOk_STAT.FULL : Fld := ⟨526, 0x40100050, 4, 0x10000, 2, 0x4, 7, 1, .W1C, .M, 0⟩
/-- CAN.FIFOk_STAT.RXMAX [14:8] RWL, reset N (12_can_fd_ports.md R392): 1–64 entries per cycle; 0 is rejected at load -/
def CAN.FIFOk_STAT.RXMAX : Fld := ⟨527, 0x40100050, 4, 0x10000, 2, 0x4, 8, 7, .RWL, .N, 0⟩
/-- CAN.HPh_CFG.TASK [7:0] RWL, reset N (12_can_fd_ports.md R392): Task woken (R377) -/
def CAN.HPh_CFG.TASK : Fld := ⟨528, 0x40100060, 4, 0x10000, 8, 0x4, 0, 8, .RWL, .N, 0⟩
/-- CAN.HPh_CFG.WAKE [8:8] RWL, reset N (12_can_fd_ports.md R392): 1: raise a wake event -/
def CAN.HPh_CFG.WAKE : Fld := ⟨529, 0x40100060, 4, 0x10000, 8, 0x4, 8, 1, .RWL, .N, 0⟩
/-- CAN.HPh_CFG.NEW [9:9] RO, reset M, 0 (12_can_fd_ports.md R392): An entry waits -/
def CAN.HPh_CFG.NEW : Fld := ⟨530, 0x40100060, 4, 0x10000, 8, 0x4, 9, 1, .RO, .M, 0⟩
/-- CAN.HPh_CFG.OVR [10:10] W1C, reset M, 0 (12_can_fd_ports.md R392): An entry was overwritten -/
def CAN.HPh_CFG.OVR : Fld := ⟨531, 0x40100060, 4, 0x10000, 8, 0x4, 10, 1, .W1C, .M, 0⟩
/-- CAN.CTS_CFG.ROLE [1:0] RWL, reset N (12_can_fd_ports.md R392): 0 none, 1 MASTER, 2 RECEIVER; 3 is rejected at load (R386) -/
def CAN.CTS_CFG.ROLE : Fld := ⟨532, 0x40100080, 1, 0x0, 4, 0x10000, 0, 2, .RWL, .N, 0⟩
/-- CAN.CTS_CFG.BASE [5:2] RWL, reset N (12_can_fd_ports.md R392): Master base, PB0–PB5 (R388) -/
def CAN.CTS_CFG.BASE : Fld := ⟨533, 0x40100080, 1, 0x0, 4, 0x10000, 2, 4, .RWL, .N, 0⟩
/-- CAN.CTS_CFG.HOLDTO [15:8] RWL, reset N (12_can_fd_ports.md R392): Holdover timeout, 1–255 s -/
def CAN.CTS_CFG.HOLDTO : Fld := ⟨534, 0x40100080, 1, 0x0, 4, 0x10000, 8, 8, .RWL, .N, 0⟩
/-- CAN.CTS_CFG.STEP_THR [31:16] RWL, reset N (12_can_fd_ports.md R392): Step threshold, 1–65,535 µs -/
def CAN.CTS_CFG.STEP_THR : Fld := ⟨535, 0x40100080, 1, 0x0, 4, 0x10000, 16, 16, .RWL, .N, 0⟩
/-- CAN.CTS_ID.ID [28:0] RWL, reset N (12_can_fd_ports.md R392): Identifier of reference messages -/
def CAN.CTS_ID.ID : Fld := ⟨536, 0x40100084, 1, 0x0, 4, 0x10000, 0, 29, .RWL, .N, 0⟩
/-- CAN.CTS_ID.IDE [29:29] RWL, reset N (12_can_fd_ports.md R392): 1: extended identifier -/
def CAN.CTS_ID.IDE : Fld := ⟨537, 0x40100084, 1, 0x0, 4, 0x10000, 29, 1, .RWL, .N, 0⟩
/-- CAN.CTS_PERIOD.MS [9:0] RWL, reset N (12_can_fd_ports.md R392): 10–1,000 ms; other values are rejected at load -/
def CAN.CTS_PERIOD.MS : Fld := ⟨538, 0x40100088, 1, 0x0, 4, 0x10000, 0, 10, .RWL, .N, 0⟩
/-- CAN.CTS_PDLY.NS [15:0] RWL, reset N (12_can_fd_ports.md R392): Propagation delay, 0–65,535 ns (R389) -/
def CAN.CTS_PDLY.NS : Fld := ⟨539, 0x4010008C, 1, 0x0, 4, 0x10000, 0, 16, .RWL, .N, 0⟩
/-- CAN.CTS_STAT.MSEQ [15:0] RO, reset M, 0 (12_can_fd_ports.md R392): MSEQ last sent or received -/
def CAN.CTS_STAT.MSEQ : Fld := ⟨540, 0x40100090, 1, 0x0, 4, 0x10000, 0, 16, .RO, .M, 0⟩
/-- CAN.CTS_STAT.PAIRED [16:16] RO, reset M, 0 (12_can_fd_ports.md R392): The last message yielded a pair -/
def CAN.CTS_STAT.PAIRED : Fld := ⟨541, 0x40100090, 1, 0x0, 4, 0x10000, 16, 1, .RO, .M, 0⟩
/-- CAN.CTS_OFFS.NS [31:0] RO, reset M, 0 (12_can_fd_ports.md R392): Signed offset of the last pair in ns; saturates -/
def CAN.CTS_OFFS.NS : Fld := ⟨542, 0x40100094, 1, 0x0, 4, 0x10000, 0, 32, .RO, .M, 0⟩
/-- CAN.TXBb_CFG.OWNER [7:0] RWL, reset N (12_can_fd_ports.md R392): Owner task -/
def CAN.TXBb_CFG.OWNER : Fld := ⟨543, 0x40100100, 4, 0x10000, 32, 0x4, 0, 8, .RWL, .N, 0⟩
/-- CAN.TXBb_CFG.MAPPED [8:8] RWL, reset N (12_can_fd_ports.md R392): 0 DIRECT, 1 MAPPED (R378) -/
def CAN.TXBb_CFG.MAPPED : Fld := ⟨544, 0x40100100, 4, 0x10000, 32, 0x4, 8, 1, .RWL, .N, 0⟩
/-- CAN.TXBb_CFG.SINGLE [9:9] RWL, reset N (12_can_fd_ports.md R392): 1: no retry (R381) -/
def CAN.TXBb_CFG.SINGLE : Fld := ⟨545, 0x40100100, 4, 0x10000, 32, 0x4, 9, 1, .RWL, .N, 0⟩
/-- CAN.TXBb_CFG.MAP [15:10] RWL, reset N (12_can_fd_ports.md R392): Map of a MAPPED buffer -/
def CAN.TXBb_CFG.MAP : Fld := ⟨546, 0x40100100, 4, 0x10000, 32, 0x4, 10, 6, .RWL, .N, 0⟩
/-- CAN.TXBb_CFG.STATUS [18:16] RO, reset M, 0 (12_can_fd_ports.md R392): 0 IDLE, 1 PENDING, 2 ACTIVE, 3 SENT, 4 CANCELLED, 5 POISON, 6 FAILED; 7 does not occur -/
def CAN.TXBb_CFG.STATUS : Fld := ⟨547, 0x40100100, 4, 0x10000, 32, 0x4, 16, 3, .RO, .M, 0⟩
/-- CAN.TXBb_CFG.CANRES [20:19] RO, reset M, 0 (12_can_fd_ports.md R392): 0 none, 1 DONE, 2 TOO_LATE, 3 NOT_PENDING (R382) -/
def CAN.TXBb_CFG.CANRES : Fld := ⟨548, 0x40100100, 4, 0x10000, 32, 0x4, 19, 2, .RO, .M, 0⟩
/-- CAN.SFk_W0.ID1 [10:0] RWL, reset N (12_can_fd_ports.md R392): First identifier (R373) -/
def CAN.SFk_W0.ID1 : Fld := ⟨549, 0x40100200, 4, 0x10000, 128, 0x8, 0, 11, .RWL, .N, 0⟩
/-- CAN.SFk_W0.ID2 [26:16] RWL, reset N (12_can_fd_ports.md R392): Second identifier or mask -/
def CAN.SFk_W0.ID2 : Fld := ⟨550, 0x40100200, 4, 0x10000, 128, 0x8, 16, 11, .RWL, .N, 0⟩
/-- CAN.SFk_W0.TYPE [29:28] RWL, reset N (12_can_fd_ports.md R392): 0 RANGE, 1 DUAL, 2 MASK, 3 OFF -/
def CAN.SFk_W0.TYPE : Fld := ⟨551, 0x40100200, 4, 0x10000, 128, 0x8, 28, 2, .RWL, .N, 0⟩
/-- CAN.SFk_W1.ACTION [3:0] RWL, reset N (12_can_fd_ports.md R392): 0 REJECT, 1 FIFO0, 2 FIFO1, 3–10 HP0–HP7; 11–15 are rejected at load -/
def CAN.SFk_W1.ACTION : Fld := ⟨552, 0x40100204, 4, 0x10000, 128, 0x8, 0, 4, .RWL, .N, 0⟩
/-- CAN.SFk_W1.MAP [9:4] RWL, reset N (12_can_fd_ports.md R392): Map index (R375) -/
def CAN.SFk_W1.MAP : Fld := ⟨553, 0x40100204, 4, 0x10000, 128, 0x8, 4, 6, .RWL, .N, 0⟩
/-- CAN.SFk_W1.MAPEN [10:10] RWL, reset N (12_can_fd_ports.md R392): 1: deliver through the map -/
def CAN.SFk_W1.MAPEN : Fld := ⟨554, 0x40100204, 4, 0x10000, 128, 0x8, 10, 1, .RWL, .N, 0⟩
/-- CAN.XFk_W0.ID1 [28:0] RWL, reset N (12_can_fd_ports.md R392): First identifier -/
def CAN.XFk_W0.ID1 : Fld := ⟨555, 0x40100600, 4, 0x10000, 64, 0x10, 0, 29, .RWL, .N, 0⟩
/-- CAN.XFk_W1.ID2 [28:0] RWL, reset N (12_can_fd_ports.md R392): Second identifier or mask -/
def CAN.XFk_W1.ID2 : Fld := ⟨556, 0x40100604, 4, 0x10000, 64, 0x10, 0, 29, .RWL, .N, 0⟩
/-- CAN.XFk_W1.TYPE [30:29] RWL, reset N (12_can_fd_ports.md R392): As SFk_W0.TYPE -/
def CAN.XFk_W1.TYPE : Fld := ⟨557, 0x40100604, 4, 0x10000, 64, 0x10, 29, 2, .RWL, .N, 0⟩
/-- CAN.XFk_W2.WORD [10:0] RWL, reset N (12_can_fd_ports.md R392): As SFk_W1 bits [10:0] -/
def CAN.XFk_W2.WORD : Fld := ⟨558, 0x40100608, 4, 0x10000, 64, 0x10, 0, 11, .RWL, .N, 0⟩
/-- CAN.MAPm_SIG.SIG [16:0] RWL, reset N (12_can_fd_ports.md R392): First signal -/
def CAN.MAPm_SIG.SIG : Fld := ⟨559, 0x40100A00, 4, 0x10000, 64, 0x8, 0, 17, .RWL, .N, 0⟩
/-- CAN.MAPm_SIG.COUNT [19:17] RWL, reset N (12_can_fd_ports.md R392): Signals − 1 (1–8) -/
def CAN.MAPm_SIG.COUNT : Fld := ⟨560, 0x40100A00, 4, 0x10000, 64, 0x8, 17, 3, .RWL, .N, 0⟩
/-- CAN.MAPm_FMT.OFF [5:0] RWL, reset N (12_can_fd_ports.md R392): First data byte, 0–63 -/
def CAN.MAPm_FMT.OFF : Fld := ⟨561, 0x40100A04, 4, 0x10000, 64, 0x8, 0, 6, .RWL, .N, 0⟩
/-- CAN.MAPm_FMT.CNTEN [6:6] RWL, reset N (12_can_fd_ports.md R392): 1: 8-bit counter in use (R70) -/
def CAN.MAPm_FMT.CNTEN : Fld := ⟨562, 0x40100A04, 4, 0x10000, 64, 0x8, 6, 1, .RWL, .N, 0⟩
/-- CAN.MAPm_FMT.CNTOFF [13:8] RWL, reset N (12_can_fd_ports.md R392): Byte of the counter -/
def CAN.MAPm_FMT.CNTOFF : Fld := ⟨563, 0x40100A04, 4, 0x10000, 64, 0x8, 8, 6, .RWL, .N, 0⟩
/-- PTP.PLANT_CFG.SRC [0:0] RWL, reset N (13_network_time.md R410): 0 MANUAL, 1 PTP (R400) -/
def PTP.PLANT_CFG.SRC : Fld := ⟨564, 0x400D0000, 1, 0x0, 1, 0x0, 0, 1, .RWL, .N, 0⟩
/-- PTP.PLANT_CFG.PRIM [2:1] RWL, reset N (13_network_time.md R410): Primary track 0–3 -/
def PTP.PLANT_CFG.PRIM : Fld := ⟨565, 0x400D0000, 1, 0x0, 1, 0x0, 1, 2, .RWL, .N, 0⟩
/-- PTP.PLANT_CFG.SEC [4:3] RWL, reset N (13_network_time.md R410): Secondary track 0–3 -/
def PTP.PLANT_CFG.SEC : Fld := ⟨566, 0x400D0000, 1, 0x0, 1, 0x0, 3, 2, .RWL, .N, 0⟩
/-- PTP.PLANT_CFG.SECEN [5:5] RWL, reset N (13_network_time.md R410): 1: a secondary is used -/
def PTP.PLANT_CFG.SECEN : Fld := ⟨567, 0x400D0000, 1, 0x0, 1, 0x0, 5, 1, .RWL, .N, 0⟩
/-- PTP.PLANT_CFG.STEPACT [6:6] RWL, reset N (13_network_time.md R410): 0 SLEW, 1 STEP (R402) -/
def PTP.PLANT_CFG.STEPACT : Fld := ⟨568, 0x400D0000, 1, 0x0, 1, 0x0, 6, 1, .RWL, .N, 0⟩
/-- PTP.PLANT_CFG.CLASSMAX [15:8] RWL, reset N (13_network_time.md R410): Worst clockClass accepted (R399) -/
def PTP.PLANT_CFG.CLASSMAX : Fld := ⟨569, 0x400D0000, 1, 0x0, 1, 0x0, 8, 8, .RWL, .N, 0⟩
/-- PTP.PLANT_CFG.REVERT [23:16] RWL, reset N (13_network_time.md R410): 0–255 s (R404) -/
def PTP.PLANT_CFG.REVERT : Fld := ⟨570, 0x400D0000, 1, 0x0, 1, 0x0, 16, 8, .RWL, .N, 0⟩
/-- PTP.PLANT_CFG.HOLDTO [31:24] RWL, reset N (13_network_time.md R410): 1–255 s; 0 is rejected at load (R405) -/
def PTP.PLANT_CFG.HOLDTO : Fld := ⟨571, 0x400D0000, 1, 0x0, 1, 0x0, 24, 8, .RWL, .N, 0⟩
/-- PTP.PLANT_STEP.THR [19:0] RWL, reset N (13_network_time.md R410): Step threshold, 1–1,000,000 µs; other values are rejected at load -/
def PTP.PLANT_STEP.THR : Fld := ⟨572, 0x400D0004, 1, 0x0, 1, 0x0, 0, 20, .RWL, .N, 0⟩
/-- PTP.PLANT_SWMAX.MAX [19:0] RWL, reset N (13_network_time.md R410): Switch limit, 1–1,000,000 µs (R403) -/
def PTP.PLANT_SWMAX.MAX : Fld := ⟨573, 0x400D0008, 1, 0x0, 1, 0x0, 0, 20, .RWL, .N, 0⟩
/-- PTP.PLANT_STAT.SEL [1:0] RO, reset M, 0 (13_network_time.md R410): Selected track -/
def PTP.PLANT_STAT.SEL : Fld := ⟨574, 0x400D000C, 1, 0x0, 1, 0x0, 0, 2, .RO, .M, 0⟩
/-- PTP.PLANT_STAT.SELVALID [2:2] RO, reset M, 0 (13_network_time.md R410): PB1 follows SEL -/
def PTP.PLANT_STAT.SELVALID : Fld := ⟨575, 0x400D000C, 1, 0x0, 1, 0x0, 2, 1, .RO, .M, 0⟩
/-- PTP.PLANT_STAT.SLEWING [3:3] RO, reset M, 0 (13_network_time.md R410): An offset is being slewed -/
def PTP.PLANT_STAT.SLEWING : Fld := ⟨576, 0x400D000C, 1, 0x0, 1, 0x0, 3, 1, .RO, .M, 0⟩
/-- PTP.PLANT_STAT.ONSEC [4:4] RO, reset M, 0 (13_network_time.md R410): PB1 follows the secondary -/
def PTP.PLANT_STAT.ONSEC : Fld := ⟨577, 0x400D000C, 1, 0x0, 1, 0x0, 4, 1, .RO, .M, 0⟩
/-- PTP.PLANT_STAT.DISAGREE [5:5] W1C, reset M, 0 (13_network_time.md R410): A switch was refused (R403) -/
def PTP.PLANT_STAT.DISAGREE : Fld := ⟨578, 0x400D000C, 1, 0x0, 1, 0x0, 5, 1, .W1C, .M, 0⟩
/-- PTP.PLANT_OFFS.NS [31:0] RO, reset M, 0 (13_network_time.md R410): Signed PB1 − selected track in ns; saturates -/
def PTP.PLANT_OFFS.NS : Fld := ⟨579, 0x400D0010, 1, 0x0, 1, 0x0, 0, 32, .RO, .M, 0⟩
/-- PTP.PLANT_SET_LO.VAL [31:0] WO, reset M, 0 (13_network_time.md R410): Plant time bits [31:0]; staged -/
def PTP.PLANT_SET_LO.VAL : Fld := ⟨580, 0x400D0014, 1, 0x0, 1, 0x0, 0, 32, .WO, .M, 0⟩
/-- PTP.PLANT_SET_HI.VAL [31:0] WO, reset M, 0 (13_network_time.md R410): Bits [63:32]; the write applies the step (R400) -/
def PTP.PLANT_SET_HI.VAL : Fld := ⟨581, 0x400D0018, 1, 0x0, 1, 0x0, 0, 32, .WO, .M, 0⟩
/-- PTP.SWITCHES.COUNT [15:0] RO, reset M, 0 (13_network_time.md R410): Seamless switches; saturates -/
def PTP.SWITCHES.COUNT : Fld := ⟨582, 0x400D001C, 1, 0x0, 1, 0x0, 0, 16, .RO, .M, 0⟩
/-- PTP.SWITCHES.DISAGREE [31:16] RO, reset M, 0 (13_network_time.md R410): Refused switches; saturates -/
def PTP.SWITCHES.DISAGREE : Fld := ⟨583, 0x400D001C, 1, 0x0, 1, 0x0, 16, 16, .RO, .M, 0⟩
/-- PTP.UTC.OFFSET [15:0] RO, reset M, 0 (13_network_time.md R410): Signed currentUtcOffset of the selected domain, in s -/
def PTP.UTC.OFFSET : Fld := ⟨584, 0x400D0020, 1, 0x0, 1, 0x0, 0, 16, .RO, .M, 0⟩
/-- PTP.UTC.VALID [16:16] RO, reset M, 0 (13_network_time.md R410): currentUtcOffsetValid -/
def PTP.UTC.VALID : Fld := ⟨585, 0x400D0020, 1, 0x0, 1, 0x0, 16, 1, .RO, .M, 0⟩
/-- PTP.UTC.LI61 [17:17] RO, reset M, 0 (13_network_time.md R410): Leap61 announced -/
def PTP.UTC.LI61 : Fld := ⟨586, 0x400D0020, 1, 0x0, 1, 0x0, 17, 1, .RO, .M, 0⟩
/-- PTP.UTC.LI59 [18:18] RO, reset M, 0 (13_network_time.md R410): Leap59 announced -/
def PTP.UTC.LI59 : Fld := ⟨587, 0x400D0020, 1, 0x0, 1, 0x0, 18, 1, .RO, .M, 0⟩
/-- PTP.DOMk_CFG.EN [0:0] RWL, reset N (13_network_time.md R410): 1: track enabled -/
def PTP.DOMk_CFG.EN : Fld := ⟨588, 0x400D0100, 1, 0x0, 4, 0x40, 0, 1, .RWL, .N, 0⟩
/-- PTP.DOMk_CFG.NUM [7:1] RWL, reset N (13_network_time.md R410): Domain number 0–127 -/
def PTP.DOMk_CFG.NUM : Fld := ⟨589, 0x400D0100, 1, 0x0, 4, 0x40, 1, 7, .RWL, .N, 0⟩
/-- PTP.DOMk_CFG.TRANS [8:8] RWL, reset N (13_network_time.md R410): 0 UDP/IPv4, 1 IEEE 802.3 -/
def PTP.DOMk_CFG.TRANS : Fld := ⟨590, 0x400D0100, 1, 0x0, 4, 0x40, 8, 1, .RWL, .N, 0⟩
/-- PTP.DOMk_CFG.DELAY [9:9] RWL, reset N (13_network_time.md R410): 0 request-response, 1 peer delay -/
def PTP.DOMk_CFG.DELAY : Fld := ⟨591, 0x400D0100, 1, 0x0, 4, 0x40, 9, 1, .RWL, .N, 0⟩
/-- PTP.DOMk_CFG.PORTS [11:10] RWL, reset N (13_network_time.md R410): Bit 10 PLANT A, bit 11 PLANT B (R394) -/
def PTP.DOMk_CFG.PORTS : Fld := ⟨592, 0x400D0100, 1, 0x0, 4, 0x40, 10, 2, .RWL, .N, 0⟩
/-- PTP.DOMk_CFG.LOGDREQ [14:12] RWL, reset N (13_network_time.md R410): 0–5; 6–7 are rejected at load -/
def PTP.DOMk_CFG.LOGDREQ : Fld := ⟨593, 0x400D0100, 1, 0x0, 4, 0x40, 12, 3, .RWL, .N, 0⟩
/-- PTP.DOMk_CFG.ANNTO [18:15] RWL, reset N (13_network_time.md R410): Announce receipt timeout, 2–10 intervals -/
def PTP.DOMk_CFG.ANNTO : Fld := ⟨594, 0x400D0100, 1, 0x0, 4, 0x40, 15, 4, .RWL, .N, 0⟩
/-- PTP.DOMk_ASYM.A [15:0] RWL, reset N (13_network_time.md R410): Signed asymmetry correction, PLANT A, in ns (R398) -/
def PTP.DOMk_ASYM.A : Fld := ⟨595, 0x400D0104, 1, 0x0, 4, 0x40, 0, 16, .RWL, .N, 0⟩
/-- PTP.DOMk_ASYM.B [31:16] RWL, reset N (13_network_time.md R410): PLANT B -/
def PTP.DOMk_ASYM.B : Fld := ⟨596, 0x400D0104, 1, 0x0, 4, 0x40, 16, 16, .RWL, .N, 0⟩
/-- PTP.DOMk_STAT.PORT [0:0] RO, reset M, 0 (13_network_time.md R410): Port of the chosen master: 0 A, 1 B -/
def PTP.DOMk_STAT.PORT : Fld := ⟨597, 0x400D0108, 1, 0x0, 4, 0x40, 0, 1, .RO, .M, 0⟩
/-- PTP.DOMk_STAT.QUAL [1:1] RO, reset M, 0 (13_network_time.md R410): Qualified (R399) -/
def PTP.DOMk_STAT.QUAL : Fld := ⟨598, 0x400D0108, 1, 0x0, 4, 0x40, 1, 1, .RO, .M, 0⟩
/-- PTP.DOMk_STAT.PTPTS [2:2] RO, reset M, 0 (13_network_time.md R410): PTP timescale (R395) -/
def PTP.DOMk_STAT.PTPTS : Fld := ⟨599, 0x400D0108, 1, 0x0, 4, 0x40, 2, 1, .RO, .M, 0⟩
/-- PTP.DOMk_STAT.GMCLASS [15:8] RO, reset M, 0 (13_network_time.md R410): clockClass of the grandmaster -/
def PTP.DOMk_STAT.GMCLASS : Fld := ⟨600, 0x400D0108, 1, 0x0, 4, 0x40, 8, 8, .RO, .M, 0⟩
/-- PTP.DOMk_STAT.LOGSYNC [19:16] RO, reset M, 0 (13_network_time.md R410): Signed master Sync logMessageInterval -/
def PTP.DOMk_STAT.LOGSYNC : Fld := ⟨601, 0x400D0108, 1, 0x0, 4, 0x40, 16, 4, .RO, .M, 0⟩
/-- PTP.DOMk_GMID_LO.ID [31:0] RO, reset M, 0 (13_network_time.md R410): Grandmaster clockIdentity bytes 4–7; the read latches GMID_HI -/
def PTP.DOMk_GMID_LO.ID : Fld := ⟨602, 0x400D010C, 1, 0x0, 4, 0x40, 0, 32, .RO, .M, 0⟩
/-- PTP.DOMk_GMID_HI.ID [31:0] RO, reset M, 0 (13_network_time.md R410): Bytes 0–3 -/
def PTP.DOMk_GMID_HI.ID : Fld := ⟨603, 0x400D0110, 1, 0x0, 4, 0x40, 0, 32, .RO, .M, 0⟩
/-- PTP.DOMk_OFFS.NS [31:0] RO, reset M, 0 (13_network_time.md R410): Signed last offset from master in ns; saturates -/
def PTP.DOMk_OFFS.NS : Fld := ⟨604, 0x400D0114, 1, 0x0, 4, 0x40, 0, 32, .RO, .M, 0⟩
/-- PTP.DOMk_DELAY.NS [31:0] RO, reset M, 0 (13_network_time.md R410): Mean path or link delay in 0.01 ns; saturates -/
def PTP.DOMk_DELAY.NS : Fld := ⟨605, 0x400D0118, 1, 0x0, 4, 0x40, 0, 32, .RO, .M, 0⟩
/-- PTP.DOMk_CNT.GMCHG [15:0] RO, reset M, 0 (13_network_time.md R410): Grandmaster changes (R397); saturates -/
def PTP.DOMk_CNT.GMCHG : Fld := ⟨606, 0x400D011C, 1, 0x0, 4, 0x40, 0, 16, .RO, .M, 0⟩
/-- PTP.DOMk_CNT.OUTLIER [31:16] RO, reset M, 0 (13_network_time.md R410): Outliers discarded (R396); saturates -/
def PTP.DOMk_CNT.OUTLIER : Fld := ⟨607, 0x400D011C, 1, 0x0, 4, 0x40, 16, 16, .RO, .M, 0⟩
/-- PTP.DOMk_RX.SYNC [31:0] RO, reset M, 0 (13_network_time.md R410): Valid Syncs received; wraps -/
def PTP.DOMk_RX.SYNC : Fld := ⟨608, 0x400D0120, 1, 0x0, 4, 0x40, 0, 32, .RO, .M, 0⟩
/-- PORT.STAT.KEY [1:0] RO, reset M, 0 (14_ports_and_authority.md R432): 0 RUN, 1 TUNE, 2 SERVICE; 3 does not occur (R415) -/
def PORT.STAT.KEY : Fld := ⟨609, 0x400C0000, 1, 0x0, 1, 0x0, 0, 2, .RO, .M, 0⟩
/-- PORT.STAT.ENG_LINK [2:2] RO, reset M, 0 (14_ports_and_authority.md R432): ENG link up -/
def PORT.STAT.ENG_LINK : Fld := ⟨610, 0x400C0000, 1, 0x0, 1, 0x0, 2, 1, .RO, .M, 0⟩
/-- PORT.STAT.PLA_LINK [3:3] RO, reset M, 0 (14_ports_and_authority.md R432): PLANT A link up -/
def PORT.STAT.PLA_LINK : Fld := ⟨611, 0x400C0000, 1, 0x0, 1, 0x0, 3, 1, .RO, .M, 0⟩
/-- PORT.STAT.PLB_LINK [4:4] RO, reset M, 0 (14_ports_and_authority.md R432): PLANT B link up -/
def PORT.STAT.PLB_LINK : Fld := ⟨612, 0x400C0000, 1, 0x0, 1, 0x0, 4, 1, .RO, .M, 0⟩
/-- PORT.STAT.PAIRADDR [5:5] RO, reset M, 0 (14_ports_and_authority.md R432): This unit answers for the pair addresses (R426) -/
def PORT.STAT.PAIRADDR : Fld := ⟨613, 0x400C0000, 1, 0x0, 1, 0x0, 5, 1, .RO, .M, 0⟩
/-- PORT.STAT.CELL_UP [6:6] RO, reset M, 0 (14_ports_and_authority.md R432): CELL data bearer up -/
def PORT.STAT.CELL_UP : Fld := ⟨614, 0x400C0000, 1, 0x0, 1, 0x0, 6, 1, .RO, .M, 0⟩
/-- PORT.CEIL.ENG [4:0] RO, reset M (14_ports_and_authority.md R432): Effective class mask of ENG (R413) -/
def PORT.CEIL.ENG : Fld := ⟨615, 0x400C0004, 1, 0x0, 1, 0x0, 0, 5, .RO, .M, 0⟩
/-- PORT.CEIL.PLA [12:8] RO, reset M (14_ports_and_authority.md R432): PLANT A -/
def PORT.CEIL.PLA : Fld := ⟨616, 0x400C0004, 1, 0x0, 1, 0x0, 8, 5, .RO, .M, 0⟩
/-- PORT.CEIL.PLB [20:16] RO, reset M (14_ports_and_authority.md R432): PLANT B -/
def PORT.CEIL.PLB : Fld := ⟨617, 0x400C0004, 1, 0x0, 1, 0x0, 16, 5, .RO, .M, 0⟩
/-- PORT.CEIL.CELL [28:24] RO, reset M (14_ports_and_authority.md R432): CELL -/
def PORT.CEIL.CELL : Fld := ⟨618, 0x400C0004, 1, 0x0, 1, 0x0, 24, 5, .RO, .M, 0⟩
/-- PORT.IMGCEIL.WORD [31:0] RO, reset N (14_ports_and_authority.md R432): Image ceilings, in the layout of CEIL -/
def PORT.IMGCEIL.WORD : Fld := ⟨619, 0x400C0008, 1, 0x0, 1, 0x0, 0, 32, .RO, .N, 0⟩
/-- PORT.CFG.UDP [15:0] RO, reset N (14_ports_and_authority.md R432): Command UDP port; default 50420 -/
def PORT.CFG.UDP : Fld := ⟨620, 0x400C000C, 1, 0x0, 1, 0x0, 0, 16, .RO, .N, 0⟩
/-- PORT.CFG.REMENG [16:16] RO, reset N (14_ports_and_authority.md R432): Remote engineering permitted (R412) -/
def PORT.CFG.REMENG : Fld := ⟨621, 0x400C000C, 1, 0x0, 1, 0x0, 16, 1, .RO, .N, 0⟩
/-- PORT.CFG.CELLEN [17:17] RO, reset N (14_ports_and_authority.md R432): CELL in use -/
def PORT.CFG.CELLEN : Fld := ⟨622, 0x400C000C, 1, 0x0, 1, 0x0, 17, 1, .RO, .N, 0⟩
/-- PORT.ENG_IP.ADDR [31:0] RO, reset N (14_ports_and_authority.md R432): ENG address (R426) -/
def PORT.ENG_IP.ADDR : Fld := ⟨623, 0x400C0010, 1, 0x0, 1, 0x0, 0, 32, .RO, .N, 0⟩
/-- PORT.ENG_MASK.MASK [31:0] RO, reset N (14_ports_and_authority.md R432): ENG netmask -/
def PORT.ENG_MASK.MASK : Fld := ⟨624, 0x400C0014, 1, 0x0, 1, 0x0, 0, 32, .RO, .N, 0⟩
/-- PORT.PLp_IP.ADDR [31:0] RO, reset N (14_ports_and_authority.md R432): Unit address of plant port p -/
def PORT.PLp_IP.ADDR : Fld := ⟨625, 0x400C0020, 1, 0x0, 2, 0x10, 0, 32, .RO, .N, 0⟩
/-- PORT.PLp_PAIRIP.ADDR [31:0] RO, reset N (14_ports_and_authority.md R432): Pair address; 0 when none -/
def PORT.PLp_PAIRIP.ADDR : Fld := ⟨626, 0x400C0024, 1, 0x0, 2, 0x10, 0, 32, .RO, .N, 0⟩
/-- PORT.PLp_MASK.MASK [31:0] RO, reset N (14_ports_and_authority.md R432): Netmask -/
def PORT.PLp_MASK.MASK : Fld := ⟨627, 0x400C0028, 1, 0x0, 2, 0x10, 0, 32, .RO, .N, 0⟩
/-- PORT.PLp_GW.ADDR [31:0] RO, reset N (14_ports_and_authority.md R432): Gateway; 0 when none -/
def PORT.PLp_GW.ADDR : Fld := ⟨628, 0x400C002C, 1, 0x0, 2, 0x10, 0, 32, .RO, .N, 0⟩
/-- PORT.CMDCNT.COUNT [31:0] RC, reset M, 0 (14_ports_and_authority.md R432): Requests executed; saturates -/
def PORT.CMDCNT.COUNT : Fld := ⟨629, 0x400C0040, 1, 0x0, 1, 0x0, 0, 32, .RC, .M, 0⟩
/-- PORT.REFUSED.COUNT [31:0] RC, reset M, 0 (14_ports_and_authority.md R432): Items refused; saturates -/
def PORT.REFUSED.COUNT : Fld := ⟨630, 0x400C0044, 1, 0x0, 1, 0x0, 0, 32, .RC, .M, 0⟩
/-- PORT.DUPCNT.COUNT [31:0] RC, reset M, 0 (14_ports_and_authority.md R432): Duplicates (R420); saturates -/
def PORT.DUPCNT.COUNT : Fld := ⟨631, 0x400C0048, 1, 0x0, 1, 0x0, 0, 32, .RC, .M, 0⟩
/-- PORT.STALECNT.COUNT [31:0] RC, reset M, 0 (14_ports_and_authority.md R432): Requests outside the window (R420); saturates -/
def PORT.STALECNT.COUNT : Fld := ⟨632, 0x400C004C, 1, 0x0, 1, 0x0, 0, 32, .RC, .M, 0⟩
/-- PORT.LASTREF.OP [15:0] RO, reset M, 0 (14_ports_and_authority.md R432): OP of the last refusal -/
def PORT.LASTREF.OP : Fld := ⟨633, 0x400C0050, 1, 0x0, 1, 0x0, 0, 16, .RO, .M, 0⟩
/-- PORT.LASTREF.STATUS [23:16] RO, reset M, 0 (14_ports_and_authority.md R432): Its status (R419) -/
def PORT.LASTREF.STATUS : Fld := ⟨634, 0x400C0050, 1, 0x0, 1, 0x0, 16, 8, .RO, .M, 0⟩
/-- PORT.LASTREF.PORT [25:24] RO, reset M, 0 (14_ports_and_authority.md R432): 0 ENG, 1 PLANT A, 2 PLANT B, 3 CELL -/
def PORT.LASTREF.PORT : Fld := ⟨635, 0x400C0050, 1, 0x0, 1, 0x0, 24, 2, .RO, .M, 0⟩
/-- PORT.FRAMEERR.COUNT [31:0] RC, reset M, 0 (14_ports_and_authority.md R432): Invalid frames (R417); saturates -/
def PORT.FRAMEERR.COUNT : Fld := ⟨636, 0x400C0054, 1, 0x0, 1, 0x0, 0, 32, .RC, .M, 0⟩
/-- PORT.FOREIGN.COUNT [31:0] RC, reset M, 0 (14_ports_and_authority.md R432): Discarded other traffic (R426); saturates -/
def PORT.FOREIGN.COUNT : Fld := ⟨637, 0x400C0058, 1, 0x0, 1, 0x0, 0, 32, .RC, .M, 0⟩
/-- PORT.SESSION.STATE [1:0] RO, reset M, 0 (14_ports_and_authority.md R432): 0 none, 1 OPEN, 2 ENDING; 3 does not occur -/
def PORT.SESSION.STATE : Fld := ⟨638, 0x400C005C, 1, 0x0, 1, 0x0, 0, 2, .RO, .M, 0⟩
/-- PORT.SESSION.KIND [4:2] RO, reset M, 0 (14_ports_and_authority.md R432): 0 none, 1 STRUCT, 2 FW, 3 KEY, 4 OLC; 5–7 do not occur -/
def PORT.SESSION.KIND : Fld := ⟨639, 0x400C005C, 1, 0x0, 1, 0x0, 2, 3, .RO, .M, 0⟩
/-- PORT.SESSION.PORT [6:5] RO, reset M, 0 (14_ports_and_authority.md R432): Coded as LASTREF.PORT -/
def PORT.SESSION.PORT : Fld := ⟨640, 0x400C005C, 1, 0x0, 1, 0x0, 5, 2, .RO, .M, 0⟩
/-- PORT.SESSION_ID.ID [31:0] RO, reset M, 0 (14_ports_and_authority.md R432): Identity of the open session -/
def PORT.SESSION_ID.ID : Fld := ⟨641, 0x400C0060, 1, 0x0, 1, 0x0, 0, 32, .RO, .M, 0⟩
/-- PORT.CELL_STAT.REG [1:0] RO, reset M, 0 (14_ports_and_authority.md R432): 0 not registered, 1 searching, 2 registered, 3 denied -/
def PORT.CELL_STAT.REG : Fld := ⟨642, 0x400C0064, 1, 0x0, 1, 0x0, 0, 2, .RO, .M, 0⟩
/-- PORT.CELL_STAT.RAT [2:2] RO, reset M, 0 (14_ports_and_authority.md R432): 0 LTE category 4, 1 LTE-M -/
def PORT.CELL_STAT.RAT : Fld := ⟨643, 0x400C0064, 1, 0x0, 1, 0x0, 2, 1, .RO, .M, 0⟩
/-- PORT.CELL_STAT.RSRP [15:8] RO, reset M, 0 (14_ports_and_authority.md R432): Reference signal received power, −140 dBm + value -/
def PORT.CELL_STAT.RSRP : Fld := ⟨644, 0x400C0064, 1, 0x0, 1, 0x0, 8, 8, .RO, .M, 0⟩
/-- PORT.CELL_CNT.RX [15:0] RC, reset M, 0 (14_ports_and_authority.md R432): Requests received on CELL; saturates -/
def PORT.CELL_CNT.RX : Fld := ⟨645, 0x400C0068, 1, 0x0, 1, 0x0, 0, 16, .RC, .M, 0⟩
/-- PORT.CELL_CNT.RATE [31:16] RC, reset M, 0 (14_ports_and_authority.md R432): Requests refused with RATE (R427); saturates -/
def PORT.CELL_CNT.RATE : Fld := ⟨646, 0x400C0068, 1, 0x0, 1, 0x0, 16, 16, .RC, .M, 0⟩
/-- PORT.ATTCNT.COUNT [31:0] RO, reset M, 0 (14_ports_and_authority.md R432): Reports signed (R430); wraps -/
def PORT.ATTCNT.COUNT : Fld := ⟨647, 0x400C006C, 1, 0x0, 1, 0x0, 0, 32, .RO, .M, 0⟩
/-- UPD.STAT.STATE [2:0] RO, reset M, 0 (15_image_update.md R457): 0 IDLE, 1 RECEIVING, 2 VERIFYING, 3 STORING, 4 TRIAL, 5 STAGED, 6 PROBATION; 7 does not occur -/
def UPD.STAT.STATE : Fld := ⟨648, 0x400B0000, 1, 0x0, 1, 0x0, 0, 3, .RO, .M, 0⟩
/-- UPD.STAT.PART [4:3] RO, reset M, 0 (15_image_update.md R457): Part of the trial, probation or staged image -/
def UPD.STAT.PART : Fld := ⟨649, 0x400B0000, 1, 0x0, 1, 0x0, 3, 2, .RO, .M, 0⟩
/-- UPD.STAT.MIGFAIL [5:5] RO, reset M, 0 (15_image_update.md R457): R454 -/
def UPD.STAT.MIGFAIL : Fld := ⟨650, 0x400B0000, 1, 0x0, 1, 0x0, 5, 1, .RO, .M, 0⟩
/-- UPD.STAT.FAILED [6:6] RO, reset M, 0 (15_image_update.md R457): A trial failed; the fallback is pending (R447) -/
def UPD.STAT.FAILED : Fld := ⟨651, 0x400B0000, 1, 0x0, 1, 0x0, 6, 1, .RO, .M, 0⟩
/-- UPD.STAT.FELLBACK [7:7] W1C, reset K, 0 (15_image_update.md R457): The last boot fell back (R448) -/
def UPD.STAT.FELLBACK : Fld := ⟨652, 0x400B0000, 1, 0x0, 1, 0x0, 7, 1, .W1C, .K, 0⟩
/-- UPD.STAT.RECOVERED [8:8] W1C, reset K, 0 (15_image_update.md R457): The last boot left RECOVERY (R450) -/
def UPD.STAT.RECOVERED : Fld := ⟨653, 0x400B0000, 1, 0x0, 1, 0x0, 8, 1, .W1C, .K, 0⟩
/-- UPD.CFG.POLICY [1:0] RWL, reset N (15_image_update.md R457): 0 SELF_CONFIRM, 1 ROM_RECOVERY, 2 BOTH; 3 is rejected at load -/
def UPD.CFG.POLICY : Fld := ⟨654, 0x400B0004, 1, 0x0, 1, 0x0, 0, 2, .RWL, .N, 0⟩
/-- UPD.CFG.WINDOW [9:2] RWL, reset N (15_image_update.md R457): Trial window, 1–120 min; other values are rejected at load -/
def UPD.CFG.WINDOW : Fld := ⟨655, 0x400B0004, 1, 0x0, 1, 0x0, 2, 8, .RWL, .N, 0⟩
/-- UPD.CFG.DWELL [19:10] RWL, reset N (15_image_update.md R457): Dwell, 10–600 s; other values are rejected at load (R445) -/
def UPD.CFG.DWELL : Fld := ⟨656, 0x400B0004, 1, 0x0, 1, 0x0, 10, 10, .RWL, .N, 0⟩
/-- UPD.CMD.OP [1:0] WO, reset M, 0 (15_image_update.md R457): 1 START, 2 ABANDON; 0 and 3 are ignored (R441, R447) -/
def UPD.CMD.OP : Fld := ⟨657, 0x400B0008, 1, 0x0, 1, 0x0, 0, 2, .WO, .M, 0⟩
/-- UPD.REJECT.REASON [7:0] RO, reset M, 0 (15_image_update.md R457): Last reject reason (R440) -/
def UPD.REJECT.REASON : Fld := ⟨658, 0x400B000C, 1, 0x0, 1, 0x0, 0, 8, .RO, .M, 0⟩
/-- UPD.REJECT.PART [15:8] RO, reset M, 0 (15_image_update.md R457): Part code of the rejected image -/
def UPD.REJECT.PART : Fld := ⟨659, 0x400B000C, 1, 0x0, 1, 0x0, 8, 8, .RO, .M, 0⟩
/-- UPD.TRIAL.LEFT [15:0] RO, reset M, 0 (15_image_update.md R457): Seconds left in the window -/
def UPD.TRIAL.LEFT : Fld := ⟨660, 0x400B0010, 1, 0x0, 1, 0x0, 0, 16, .RO, .M, 0⟩
/-- UPD.TRIAL.DWELL [31:16] RO, reset M, 0 (15_image_update.md R457): Seconds of dwell completed -/
def UPD.TRIAL.DWELL : Fld := ⟨661, 0x400B0010, 1, 0x0, 1, 0x0, 16, 16, .RO, .M, 0⟩
/-- UPD.PSTORE.LIVE [0:0] RO, reset N (15_image_update.md R457): Live area: 0 PA, 1 PB -/
def UPD.PSTORE.LIVE : Fld := ⟨662, 0x400B0014, 1, 0x0, 1, 0x0, 0, 1, .RO, .N, 0⟩
/-- UPD.PSTORE.TRIALV [1:1] RO, reset N (15_image_update.md R457): The other area holds a trial migration -/
def UPD.PSTORE.TRIALV : Fld := ⟨663, 0x400B0014, 1, 0x0, 1, 0x0, 1, 1, .RO, .N, 0⟩
/-- UPD.PSTORE.LIVEFMT [15:8] RO, reset N (15_image_update.md R457): Format of the live area -/
def UPD.PSTORE.LIVEFMT : Fld := ⟨664, 0x400B0014, 1, 0x0, 1, 0x0, 8, 8, .RO, .N, 0⟩
/-- UPD.PSTORE.TRIALFMT [23:16] RO, reset N (15_image_update.md R457): Format of the trial area; 0 when none -/
def UPD.PSTORE.TRIALFMT : Fld := ⟨665, 0x400B0014, 1, 0x0, 1, 0x0, 16, 8, .RO, .N, 0⟩
/-- UPD.MPROTO.OWN [15:0] RO, reset N (15_image_update.md R457): MPROTO of the running RUNTIME -/
def UPD.MPROTO.OWN : Fld := ⟨666, 0x400B0018, 1, 0x0, 1, 0x0, 0, 16, .RO, .N, 0⟩
/-- UPD.COUNTS.UPDATES [15:0] RO, reset K, 0 (15_image_update.md R457): Confirmations since power-up; saturates -/
def UPD.COUNTS.UPDATES : Fld := ⟨667, 0x400B001C, 1, 0x0, 1, 0x0, 0, 16, .RO, .K, 0⟩
/-- UPD.COUNTS.FALLBACKS [31:16] RO, reset K, 0 (15_image_update.md R457): Fallbacks since power-up; saturates -/
def UPD.COUNTS.FALLBACKS : Fld := ⟨668, 0x400B001C, 1, 0x0, 1, 0x0, 16, 16, .RO, .K, 0⟩
/-- UPD.ROOTk.DIGEST [31:0] RO, reset P (15_image_update.md R457): Fused root key digest, bytes 4k to 4k+3 (R437) -/
def UPD.ROOTk.DIGEST : Fld := ⟨669, 0x400B0040, 1, 0x0, 8, 0x4, 0, 32, .RO, .P, 0⟩
/-- UPD.PARTp_STAT.PRESENT [0:0] RO, reset N (15_image_update.md R457): The part is fitted -/
def UPD.PARTp_STAT.PRESENT : Fld := ⟨670, 0x400B0100, 1, 0x0, 4, 0x20, 0, 1, .RO, .N, 0⟩
/-- UPD.PARTp_STAT.ACTIVE [1:1] RO, reset N (15_image_update.md R457): Active slot: 0 A, 1 B -/
def UPD.PARTp_STAT.ACTIVE : Fld := ⟨671, 0x400B0100, 1, 0x0, 4, 0x20, 1, 1, .RO, .N, 0⟩
/-- UPD.PARTp_STAT.TRIAL [2:2] RO, reset N (15_image_update.md R457): The other slot is on trial -/
def UPD.PARTp_STAT.TRIAL : Fld := ⟨672, 0x400B0100, 1, 0x0, 4, 0x20, 2, 1, .RO, .N, 0⟩
/-- UPD.PARTp_STAT.VALID_A [3:3] RO, reset N (15_image_update.md R457): Slot A holds a valid image -/
def UPD.PARTp_STAT.VALID_A : Fld := ⟨673, 0x400B0100, 1, 0x0, 4, 0x20, 3, 1, .RO, .N, 0⟩
/-- UPD.PARTp_STAT.VALID_B [4:4] RO, reset N (15_image_update.md R457): Slot B holds a valid image -/
def UPD.PARTp_STAT.VALID_B : Fld := ⟨674, 0x400B0100, 1, 0x0, 4, 0x20, 4, 1, .RO, .N, 0⟩
/-- UPD.PARTp_STAT.PROBATION [5:5] RO, reset N (15_image_update.md R457): R448 -/
def UPD.PARTp_STAT.PROBATION : Fld := ⟨675, 0x400B0100, 1, 0x0, 4, 0x20, 5, 1, .RO, .N, 0⟩
/-- UPD.PARTp_STAT.STOPPED [6:6] RO, reset N (15_image_update.md R457): The part is held stopped (R448) -/
def UPD.PARTp_STAT.STOPPED : Fld := ⟨676, 0x400B0100, 1, 0x0, 4, 0x20, 6, 1, .RO, .N, 0⟩
/-- UPD.PARTp_VA_HI.MAJOR [15:0] RO, reset N (15_image_update.md R457): Slot A major version; 0 when invalid -/
def UPD.PARTp_VA_HI.MAJOR : Fld := ⟨677, 0x400B0104, 1, 0x0, 4, 0x20, 0, 16, .RO, .N, 0⟩
/-- UPD.PARTp_VA_LO.PATCH [15:0] RO, reset N (15_image_update.md R457): Slot A patch -/
def UPD.PARTp_VA_LO.PATCH : Fld := ⟨678, 0x400B0108, 1, 0x0, 4, 0x20, 0, 16, .RO, .N, 0⟩
/-- UPD.PARTp_VA_LO.MINOR [31:16] RO, reset N (15_image_update.md R457): Slot A minor -/
def UPD.PARTp_VA_LO.MINOR : Fld := ⟨679, 0x400B0108, 1, 0x0, 4, 0x20, 16, 16, .RO, .N, 0⟩
/-- UPD.PARTp_VB_HI.MAJOR [15:0] RO, reset N (15_image_update.md R457): Slot B major version; 0 when invalid -/
def UPD.PARTp_VB_HI.MAJOR : Fld := ⟨680, 0x400B010C, 1, 0x0, 4, 0x20, 0, 16, .RO, .N, 0⟩
/-- UPD.PARTp_VB_LO.PATCH [15:0] RO, reset N (15_image_update.md R457): Slot B patch -/
def UPD.PARTp_VB_LO.PATCH : Fld := ⟨681, 0x400B0110, 1, 0x0, 4, 0x20, 0, 16, .RO, .N, 0⟩
/-- UPD.PARTp_VB_LO.MINOR [31:16] RO, reset N (15_image_update.md R457): Slot B minor -/
def UPD.PARTp_VB_LO.MINOR : Fld := ⟨682, 0x400B0110, 1, 0x0, 4, 0x20, 16, 16, .RO, .N, 0⟩
/-- REC.STAT.FILL [11:0] RO, reset K, 0 (16_recorder_and_lifetime.md R474): Buffered records, 0–2,048 -/
def REC.STAT.FILL : Fld := ⟨683, 0x40090000, 1, 0x0, 1, 0x0, 0, 12, .RO, .K, 0⟩
/-- REC.STAT.FLUSHING [12:12] RO, reset K, 0 (16_recorder_and_lifetime.md R474): A flush is running -/
def REC.STAT.FLUSHING : Fld := ⟨684, 0x40090000, 1, 0x0, 1, 0x0, 12, 1, .RO, .K, 0⟩
/-- REC.STAT.CADDY_FAIL [13:13] RO, reset M, 0 (16_recorder_and_lifetime.md R474): The Caddy refused a write (R464) -/
def REC.STAT.CADDY_FAIL : Fld := ⟨685, 0x40090000, 1, 0x0, 1, 0x0, 13, 1, .RO, .M, 0⟩
/-- REC.STAT.LOST [14:14] W1C, reset K, 0 (16_recorder_and_lifetime.md R474): Records were folded or lost -/
def REC.STAT.LOST : Fld := ⟨686, 0x40090000, 1, 0x0, 1, 0x0, 14, 1, .W1C, .K, 0⟩
/-- REC.CMD.OP [1:0] WO, reset M, 0 (16_recorder_and_lifetime.md R474): 1 FLUSH; 0, 2 and 3 are ignored -/
def REC.CMD.OP : Fld := ⟨687, 0x40090004, 1, 0x0, 1, 0x0, 0, 2, .WO, .M, 0⟩
/-- REC.NEWEST.RECNO [31:0] RO, reset N (16_recorder_and_lifetime.md R474): Newest record in the ring -/
def REC.NEWEST.RECNO : Fld := ⟨688, 0x40090008, 1, 0x0, 1, 0x0, 0, 32, .RO, .N, 0⟩
/-- REC.OLDEST.RECNO [31:0] RO, reset N (16_recorder_and_lifetime.md R474): Oldest record kept -/
def REC.OLDEST.RECNO : Fld := ⟨689, 0x4009000C, 1, 0x0, 1, 0x0, 0, 32, .RO, .N, 0⟩
/-- REC.HORIZON.RECNO [31:0] RO, reset N (16_recorder_and_lifetime.md R474): Last CLEAR_HORIZON record (R466) -/
def REC.HORIZON.RECNO : Fld := ⟨690, 0x40090010, 1, 0x0, 1, 0x0, 0, 32, .RO, .N, 0⟩
/-- REC.CURSOR.RECNO [31:0] RW, reset M, 0 (16_recorder_and_lifetime.md R474): This master's cursor; a write loads the window (R465) -/
def REC.CURSOR.RECNO : Fld := ⟨691, 0x40090014, 1, 0x0, 1, 0x0, 0, 32, .RW, .M, 0⟩
/-- REC.WSTAT.STATE [1:0] RO, reset M, 0 (16_recorder_and_lifetime.md R474): 0 VALID, 1 GONE, 2 PENDING, 3 NOT_YET -/
def REC.WSTAT.STATE : Fld := ⟨692, 0x40090018, 1, 0x0, 1, 0x0, 0, 2, .RO, .M, 0⟩
/-- REC.WINk.DATA [31:0] RO, reset M, 0 (16_recorder_and_lifetime.md R474): Record bytes 4k to 4k+3; a read of WIN7 advances the cursor -/
def REC.WINk.DATA : Fld := ⟨693, 0x40090020, 1, 0x0, 8, 0x4, 0, 32, .RO, .M, 0⟩
/-- REC.LOSTCNT.COUNT [31:0] RC, reset K, 0 (16_recorder_and_lifetime.md R474): Records folded or lost (R464); saturates -/
def REC.LOSTCNT.COUNT : Fld := ⟨694, 0x40090040, 1, 0x0, 1, 0x0, 0, 32, .RC, .K, 0⟩
/-- REC.FLUSHES.COUNT [31:0] RO, reset K, 0 (16_recorder_and_lifetime.md R474): Flushes since power-up; wraps -/
def REC.FLUSHES.COUNT : Fld := ⟨695, 0x40090044, 1, 0x0, 1, 0x0, 0, 32, .RO, .K, 0⟩
/-- REC.OPTIME_LO.MS [31:0] RO, reset N (16_recorder_and_lifetime.md R474): Operating time bits [31:0]; the read latches OPTIME_HI -/
def REC.OPTIME_LO.MS : Fld := ⟨696, 0x40090048, 1, 0x0, 1, 0x0, 0, 32, .RO, .N, 0⟩
/-- REC.OPTIME_HI.MS [15:0] RO, reset N (16_recorder_and_lifetime.md R474): Bits [47:32] -/
def REC.OPTIME_HI.MS : Fld := ⟨697, 0x4009004C, 1, 0x0, 1, 0x0, 0, 16, .RO, .N, 0⟩
/-- REC.PCYC.COUNT [31:0] RO, reset N (16_recorder_and_lifetime.md R474): Power-cycle count -/
def REC.PCYC.COUNT : Fld := ⟨698, 0x40090050, 1, 0x0, 1, 0x0, 0, 32, .RO, .N, 0⟩
/-- LIFE.STAT.SAVE_FAIL [0:0] W1C, reset M, 0 (16_recorder_and_lifetime.md R475): A save of lifetime evidence failed (R470) -/
def LIFE.STAT.SAVE_FAIL : Fld := ⟨699, 0x400A0000, 1, 0x0, 1, 0x0, 0, 1, .W1C, .M, 0⟩
/-- LIFE.SAVES.COUNT [31:0] RO, reset K, 0 (16_recorder_and_lifetime.md R475): Saves since power-up; wraps -/
def LIFE.SAVES.COUNT : Fld := ⟨700, 0x400A0004, 1, 0x0, 1, 0x0, 0, 32, .RO, .K, 0⟩
/-- LIFE.CSEL.INDEX [8:0] RW, reset M, 0 (16_recorder_and_lifetime.md R475): Counter index (R471) -/
def LIFE.CSEL.INDEX : Fld := ⟨701, 0x400A0008, 1, 0x0, 1, 0x0, 0, 9, .RW, .M, 0⟩
/-- LIFE.CVAL_LO.VAL [31:0] RO, reset M, 0 (16_recorder_and_lifetime.md R475): Selected counter bits [31:0] -/
def LIFE.CVAL_LO.VAL : Fld := ⟨702, 0x400A000C, 1, 0x0, 1, 0x0, 0, 32, .RO, .M, 0⟩
/-- LIFE.CVAL_HI.VAL [31:0] RO, reset M, 0 (16_recorder_and_lifetime.md R475): Bits [63:32] -/
def LIFE.CVAL_HI.VAL : Fld := ⟨703, 0x400A0010, 1, 0x0, 1, 0x0, 0, 32, .RO, .M, 0⟩
/-- LIFE.HSEL.HIST [4:0] RW, reset M, 0 (16_recorder_and_lifetime.md R475): Histogram 0–23 (R472) -/
def LIFE.HSEL.HIST : Fld := ⟨704, 0x400A0014, 1, 0x0, 1, 0x0, 0, 5, .RW, .M, 0⟩
/-- LIFE.HSEL.BIN [9:5] RW, reset M, 0 (16_recorder_and_lifetime.md R475): Bin 0–31 -/
def LIFE.HSEL.BIN : Fld := ⟨705, 0x400A0014, 1, 0x0, 1, 0x0, 5, 5, .RW, .M, 0⟩
/-- LIFE.HVAL_LO.VAL [31:0] RO, reset M, 0 (16_recorder_and_lifetime.md R475): Selected bin bits [31:0] -/
def LIFE.HVAL_LO.VAL : Fld := ⟨706, 0x400A0018, 1, 0x0, 1, 0x0, 0, 32, .RO, .M, 0⟩
/-- LIFE.HVAL_HI.VAL [31:0] RO, reset M, 0 (16_recorder_and_lifetime.md R475): Bits [63:32] -/
def LIFE.HVAL_HI.VAL : Fld := ⟨707, 0x400A001C, 1, 0x0, 1, 0x0, 0, 32, .RO, .M, 0⟩
/-- LIFE.RSEL.KIND [3:0] RW, reset M, 0 (16_recorder_and_lifetime.md R475): Item kind 1–9 (R467) -/
def LIFE.RSEL.KIND : Fld := ⟨708, 0x400A0020, 1, 0x0, 1, 0x0, 0, 4, .RW, .M, 0⟩
/-- LIFE.RSEL.INDEX [15:4] RW, reset M, 0 (16_recorder_and_lifetime.md R475): Item index -/
def LIFE.RSEL.INDEX : Fld := ⟨709, 0x400A0020, 1, 0x0, 1, 0x0, 4, 12, .RW, .M, 0⟩
/-- LIFE.RSTAT.RETIRED [0:0] RO, reset M, 0 (16_recorder_and_lifetime.md R475): The selected item is in the map (R468) -/
def LIFE.RSTAT.RETIRED : Fld := ⟨710, 0x400A0024, 1, 0x0, 1, 0x0, 0, 1, .RO, .M, 0⟩
/-- LIFE.RSTAT.CLEAR_PENDING [1:1] RO, reset M, 0 (16_recorder_and_lifetime.md R475): R469 -/
def LIFE.RSTAT.CLEAR_PENDING : Fld := ⟨711, 0x400A0024, 1, 0x0, 1, 0x0, 1, 1, .RO, .M, 0⟩
/-- LIFE.RSTAT.OCC [15:8] RO, reset M, 0 (16_recorder_and_lifetime.md R475): Occurrences within the current window; saturates -/
def LIFE.RSTAT.OCC : Fld := ⟨712, 0x400A0024, 1, 0x0, 1, 0x0, 8, 8, .RO, .M, 0⟩
/-- LIFE.RETCNTk.COUNT [12:0] RO, reset N (16_recorder_and_lifetime.md R475): Items of kind k retired, 0–4,096 -/
def LIFE.RETCNTk.COUNT : Fld := ⟨713, 0x400A0044, 1, 0x0, 9, 0x4, 0, 13, .RO, .N, 0⟩
/-- LIFE.BUDGETk.N [9:0] RO, reset N (16_recorder_and_lifetime.md R475): N of the budget (R467) -/
def LIFE.BUDGETk.N : Fld := ⟨714, 0x400A0084, 1, 0x0, 9, 0x4, 0, 10, .RO, .N, 0⟩
/-- LIFE.WINDOWk.W [23:0] RO, reset N (16_recorder_and_lifetime.md R475): W of the budget in s, 1–16,777,215; 194 days is 16,761,600 s (R467) -/
def LIFE.WINDOWk.W : Fld := ⟨715, 0x400A00C4, 1, 0x0, 9, 0x4, 0, 24, .RO, .N, 0⟩
/-- SYS.ID.VENDOR [15:0] RO, reset P, 0x5A90 (19_register_index.md R519): Sarrov vendor code -/
def SYS.ID.VENDOR : Fld := ⟨716, 0x40000000, 1, 0x0, 1, 0x0, 0, 16, .RO, .P, 23184⟩
/-- SYS.ID.PART [31:16] RO, reset P, 0x0009 (19_register_index.md R519): Thesko 9 Controller Module -/
def SYS.ID.PART : Fld := ⟨717, 0x40000000, 1, 0x0, 1, 0x0, 16, 16, .RO, .P, 9⟩
/-- SYS.VARIANT.CODE [1:0] RO, reset P (19_register_index.md R519): 0 X, 1 N, 2 P, 3 B; the coding of R428 and PAIR.PARTNER.VARIANT -/
def SYS.VARIANT.CODE : Fld := ⟨718, 0x40000004, 1, 0x0, 1, 0x0, 0, 2, .RO, .P, 0⟩
/-- SYS.HWREV.ASIC [7:0] RO, reset P (19_register_index.md R519): Controller ASIC stepping -/
def SYS.HWREV.ASIC : Fld := ⟨719, 0x40000008, 1, 0x0, 1, 0x0, 0, 8, .RO, .P, 0⟩
/-- SYS.HWREV.BOARD [15:8] RO, reset P (19_register_index.md R519): Board issue -/
def SYS.HWREV.BOARD : Fld := ⟨720, 0x40000008, 1, 0x0, 1, 0x0, 8, 8, .RO, .P, 0⟩
/-- SYS.UNITS.SAFE [0:0] RO, reset P (19_register_index.md R519): SAFE fitted -/
def SYS.UNITS.SAFE : Fld := ⟨721, 0x4000000C, 1, 0x0, 1, 0x0, 0, 1, .RO, .P, 0⟩
/-- SYS.UNITS.MODEM [1:1] RO, reset P (19_register_index.md R519): MODEM fitted -/
def SYS.UNITS.MODEM : Fld := ⟨722, 0x4000000C, 1, 0x0, 1, 0x0, 1, 1, .RO, .P, 0⟩
/-- SYS.UNITS.CAN [2:2] RO, reset P (19_register_index.md R519): CAN fitted -/
def SYS.UNITS.CAN : Fld := ⟨723, 0x4000000C, 1, 0x0, 1, 0x0, 2, 1, .RO, .P, 0⟩
/-- SYS.UNITS.LOOP [3:3] RO, reset P (19_register_index.md R519): LOOP fitted -/
def SYS.UNITS.LOOP : Fld := ⟨724, 0x4000000C, 1, 0x0, 1, 0x0, 3, 1, .RO, .P, 0⟩
/-- SYS.UNITS.ACS [4:4] RO, reset P (19_register_index.md R519): ACS fitted -/
def SYS.UNITS.ACS : Fld := ⟨725, 0x4000000C, 1, 0x0, 1, 0x0, 4, 1, .RO, .P, 0⟩
/-- SYS.SERIALk.TEXT [31:0] RO, reset P (19_register_index.md R519): Serial number bytes 4k to 4k+3 from the identity record, ASCII, byte 4k in bits [7:0], padded with 0; the same 16 bytes as R428 -/
def SYS.SERIALk.TEXT : Fld := ⟨726, 0x40000010, 1, 0x0, 4, 0x4, 0, 32, .RO, .P, 0⟩
/-- SYS.MODE.CODE [3:0] RO, reset M, 0x1 (19_register_index.md R519): Current mode (R476) -/
def SYS.MODE.CODE : Fld := ⟨727, 0x40000020, 1, 0x0, 1, 0x0, 0, 4, .RO, .M, 1⟩
/-- SYS.MODE.PREV [7:4] RO, reset M, 0x0 (19_register_index.md R519): Mode before the last change -/
def SYS.MODE.PREV : Fld := ⟨728, 0x40000020, 1, 0x0, 1, 0x0, 4, 4, .RO, .M, 0⟩
/-- SYS.RESET.KIND [2:0] RO, reset M (19_register_index.md R519): Kind 0–4 of R486 of the reset that started the current BOOT; BLOCK and DEMOTE do not change it -/
def SYS.RESET.KIND : Fld := ⟨729, 0x40000024, 1, 0x0, 1, 0x0, 0, 3, .RO, .M, 0⟩
/-- SYS.RESET.CAUSE [15:8] RO, reset M (19_register_index.md R519): MODULE: 1 MODE RESET, 2 SYNCLOST RESTART, 3 trial start, 4 trial failure, 5 return from HALT (R485), 6 re-insertion (R504). WATCHDOG: 1 RUNTIME, 2 ... -/
def SYS.RESET.CAUSE : Fld := ⟨730, 0x40000024, 1, 0x0, 1, 0x0, 8, 8, .RO, .M, 0⟩
/-- SYS.RESET.COUNT [31:16] RO, reset K, 0 (19_register_index.md R519): Resets of kinds 2–4 since power-up; saturates -/
def SYS.RESET.COUNT : Fld := ⟨731, 0x40000024, 1, 0x0, 1, 0x0, 16, 16, .RO, .K, 0⟩
/-- SYS.DEGRADED.CAUSES [9:0] RO, reset M, 0 (19_register_index.md R519): Bit i: cause i of R479 stands -/
def SYS.DEGRADED.CAUSES : Fld := ⟨732, 0x40000028, 1, 0x0, 1, 0x0, 0, 10, .RO, .M, 0⟩
/-- SYS.HALTWHY.WHY [1:0] RO, reset M, 0 (19_register_index.md R519): 0 none, 1 DEMOTE, 2 WATCHDOG_LOOP, 3 REQUEST (R485) -/
def SYS.HALTWHY.WHY : Fld := ⟨733, 0x4000002C, 1, 0x0, 1, 0x0, 0, 2, .RO, .M, 0⟩
/-- SYS.HALTWHY.SELFRST [3:2] RO, reset K, 0 (19_register_index.md R519): Self-resets from a DEMOTE HALT in this power cycle, 0–3 (R485) -/
def SYS.HALTWHY.SELFRST : Fld := ⟨734, 0x4000002C, 1, 0x0, 1, 0x0, 2, 2, .RO, .K, 0⟩
/-- SYS.ABSENT_HIT.HIT [0:0] W1C, reset M, 0 (19_register_index.md R519): An access reached a range of R517 -/
def SYS.ABSENT_HIT.HIT : Fld := ⟨735, 0x40000030, 1, 0x0, 1, 0x0, 0, 1, .W1C, .M, 0⟩
/-- SYS.ABSENT_ADDR.ADDR [31:0] RO, reset M, 0 (19_register_index.md R519): Address of the latest such access -/
def SYS.ABSENT_ADDR.ADDR : Fld := ⟨736, 0x40000034, 1, 0x0, 1, 0x0, 0, 32, .RO, .M, 0⟩
/-- SYS.SUPPLY.VBUS [15:0] RO, reset M, 0 (19_register_index.md R519): Internal bus voltage (R497), in 10 mV -/
def SYS.SUPPLY.VBUS : Fld := ⟨737, 0x40000038, 1, 0x0, 1, 0x0, 0, 16, .RO, .M, 0⟩
/-- SYS.SUPPLY.IIN [31:16] RO, reset M, 0 (19_register_index.md R519): Input current, in mA -/
def SYS.SUPPLY.IIN : Fld := ⟨738, 0x40000038, 1, 0x0, 1, 0x0, 16, 16, .RO, .M, 0⟩
/-- SYS.HOLDUP.VBANK [15:0] RO, reset M, 0 (19_register_index.md R519): Hold-up bank voltage, in 10 mV -/
def SYS.HOLDUP.VBANK : Fld := ⟨739, 0x4000003C, 1, 0x0, 1, 0x0, 0, 16, .RO, .M, 0⟩
/-- SYS.HOLDUP.CHARGED [16:16] RO, reset M, 0 (19_register_index.md R519): The bank is charged (R494) -/
def SYS.HOLDUP.CHARGED : Fld := ⟨740, 0x4000003C, 1, 0x0, 1, 0x0, 16, 1, .RO, .M, 0⟩
/-- RGN.STAT.BLOCKS [3:0] RO, reset N (19_register_index.md R521): Bit i: block 4r + i is in service -/
def RGN.STAT.BLOCKS : Fld := ⟨741, 0x40300000, 1, 0x0, 4, 0x10000, 0, 4, .RO, .N, 0⟩
/-- RGN.STAT.RETIRED [4:4] RO, reset N (19_register_index.md R521): The region is in the retirement map (R467) -/
def RGN.STAT.RETIRED : Fld := ⟨742, 0x40300000, 1, 0x0, 4, 0x10000, 4, 1, .RO, .N, 0⟩
/-- RGN.STAT.ISOLATED [5:5] RO, reset M, 0 (19_register_index.md R521): The region fabric is isolated after an error in the region -/
def RGN.STAT.ISOLATED : Fld := ⟨743, 0x40300000, 1, 0x0, 4, 0x10000, 5, 1, .RO, .M, 0⟩
/-- RGN.FABCFG.WA [7:0] RO, reset N (19_register_index.md R521): Class A weight on the region fabric -/
def RGN.FABCFG.WA : Fld := ⟨744, 0x40300004, 1, 0x0, 4, 0x10000, 0, 8, .RO, .N, 0⟩
/-- RGN.FABCFG.WB [15:8] RO, reset N (19_register_index.md R521): Class B weight -/
def RGN.FABCFG.WB : Fld := ⟨745, 0x40300004, 1, 0x0, 4, 0x10000, 8, 8, .RO, .N, 0⟩
/-- RGN.FABCFG.WC [23:16] RO, reset N (19_register_index.md R521): Class C weight -/
def RGN.FABCFG.WC : Fld := ⟨746, 0x40300004, 1, 0x0, 4, 0x10000, 16, 8, .RO, .N, 0⟩
/-- RGN.FABCFG.WD [31:24] RO, reset N (19_register_index.md R521): Class D weight -/
def RGN.FABCFG.WD : Fld := ⟨747, 0x40300004, 1, 0x0, 4, 0x10000, 24, 8, .RO, .N, 0⟩
/-- RGN.FABWAITc.COUNT [31:0] RC, reset M, 0 (19_register_index.md R521): Fabric cycles in which a class c request waited; saturates -/
def RGN.FABWAITc.COUNT : Fld := ⟨748, 0x40300008, 4, 0x10000, 4, 0x4, 0, 32, .RC, .M, 0⟩
/-- RGN.SLICE.USED [11:0] RO, reset M, 0 (19_register_index.md R521): Region memory in use, in KiB, 0–2,048 -/
def RGN.SLICE.USED : Fld := ⟨749, 0x40300018, 1, 0x0, 4, 0x10000, 0, 12, .RO, .M, 0⟩

/-- Fields of the PHASE page, part 0. -/
def fieldsPHASE0 : List Fld := [
  PHASE.BASEn_VAL_LO.VAL,
  PHASE.BASEn_VAL_HI.VAL,
  PHASE.BASEn_EPOCH.EPOCH,
  PHASE.BASEn_STATUS.STATE,
  PHASE.BASEn_STATUS.KIND,
  PHASE.BASEn_STATUS.DIR,
  PHASE.BASEn_STATUS.LATE,
  PHASE.BASEn_STATUS.STEPPED,
  PHASE.BASEn_RATE.RATE,
  PHASE.BASEn_SPEED.SPEED,
  PHASE.BASEn_STEPCNT.COUNT,
  PHASE.ENCe_CFG.CPT,
  PHASE.ENCe_CFG.ZMODE,
  PHASE.ENCe_CFG.VELN,
  PHASE.ENCe_CFG.SLIP,
  PHASE.ENCe_CFG.INVERT,
  PHASE.ENCe_ZOFF.ZOFF,
  PHASE.ENCe_STALL.STALL,
  PHASE.ENCe_SLIPCNT.SLIP,
  PHASE.ENCe_SLIPCNT.ILLEGAL,
  PHASE.MAINSm_CFG.NOMV,
  PHASE.MAINSm_CFG.NOMF,
  PHASE.MAINSm_CFG.STEP_THR,
  PHASE.MAINSm_OFFSET.OFFSET,
  PHASE.MAINSm_QUAL.RMS,
  PHASE.MAINSm_QUAL.PERR,
  PHASE.VIRTv_SRC.SRC,
  PHASE.VIRTv_NUM.NUM,
  PHASE.VIRTv_DEN.DEN,
  PHASE.VIRTv_OFF_LO.OFF]

/-- Fields of the PHASE page, part 1. -/
def fieldsPHASE1 : List Fld := [
  PHASE.VIRTv_OFF_HI.OFF,
  PHASE.REF_CFG.SRC,
  PHASE.REF_STAT.STEER,
  PHASE.STEP_PEND.BASE,
  PHASE.LATECNT.COUNT]

/-- Fields of the IMAGE page, part 0. -/
def fieldsIMAGE0 : List Fld := [
  IMAGE.SEQ_LO.SEQ,
  IMAGE.SEQ_HI.SEQ,
  IMAGE.STATUS.SWEEP_OK,
  IMAGE.STATUS.FORCES_ACTIVE,
  IMAGE.STATUS.FORCES_LOST,
  IMAGE.STATUS.SEQ_JUMP,
  IMAGE.FORCECNT.COUNT,
  IMAGE.DUPCNT.COUNT,
  IMAGE.LOSSCNT.COUNT,
  IMAGE.OWNERR.COUNT,
  IMAGE.QUALERR.COUNT,
  IMAGE.AGEDCNT.COUNT,
  IMAGE.SWEEP.LAST,
  IMAGE.SWEEP.PASSES,
  IMAGE.PROBE_ID.SIGNAL,
  IMAGE.PROBE_ID.RAW,
  IMAGE.PROBE_W0.DATA,
  IMAGE.PROBE_W1.DATA,
  IMAGE.PROBE_W2.DATA,
  IMAGE.PROBE_W3.DATA,
  IMAGE.PROBE_SEQHI.SEQ,
  IMAGE.PROBE_STAT.VALID,
  IMAGE.PROBE_STAT.UNUSED,
  IMAGE.PROBE_STAT.POISON,
  IMAGE.PROBE_STAT.NOFORCE]

/-- Fields of the TASK page, part 0. -/
def fieldsTASK0 : List Fld := [
  TASK.TASKt_CFG.CLASS,
  TASK.TASKt_CFG.KIND,
  TASK.TASKt_CFG.HOME,
  TASK.TASKt_CFG.ASYNC,
  TASK.TASKt_CFG.WAKE,
  TASK.TASKt_CFG.ERRTASK,
  TASK.TASKt_CFG.FAULT_LIM,
  TASK.TASKt_START.TASK,
  TASK.TASKt_START.EN,
  TASK.TASKt_FLOOR.FLOOR,
  TASK.TASKt_CEIL.CEIL,
  TASK.TASKt_FOOT.ITCM,
  TASK.TASKt_FOOT.DTCM,
  TASK.TASKt_STATE.STATE,
  TASK.TASKt_STATE.CURBLK,
  TASK.TASKt_STATE.OVRRUN,
  TASK.TASKt_STATE.CAUSE,
  TASK.TASKt_STATE.OVR,
  TASK.TASKt_STATE.REHOMED,
  TASK.TASKt_LAST.TIME,
  TASK.TASKt_MAX.TIME,
  TASK.TASKt_CYCLES.COUNT,
  TASK.TASKt_OVRTOT.COUNT,
  TASK.TASKt_WAKE.PENDING,
  TASK.TASKt_LSEQ_LO.SEQ,
  TASK.TASKt_LSEQ_HI.SEQ,
  TASK.TASKt_CQ.CQMAX,
  TASK.RESTART.TASK,
  TASK.OVRCNT.COUNT,
  TASK.FAULTCNT.COUNT]

/-- Fields of the TASK page, part 1. -/
def fieldsTASK1 : List Fld := [
  TASK.FAULTMAPk.MAP]

/-- Fields of the BLK page, part 0. -/
def fieldsBLK0 : List Fld := [
  BLK.STATUS.STATE,
  BLK.STATUS.CURTASK,
  BLK.STATUS.CURVALID,
  BLK.STATUS.CURCLASS,
  BLK.CFG.FALLBACK,
  BLK.HOMED.COUNT,
  BLK.CAUSE.MCAUSE,
  BLK.EPC_LO.EPC,
  BLK.EPC_HI.EPC,
  BLK.TVAL_LO.TVAL,
  BLK.TVAL_HI.TVAL,
  BLK.EXCCNT.COUNT,
  BLK.RESTARTS.COUNT,
  BLK.TCMFREE.ITCM,
  BLK.TCMFREE.DTCM,
  BLK.LOAD.BUSY]

/-- Fields of the CELL page, part 0. -/
def fieldsCELL0 : List Fld := [
  CELL.CELLc_CTRL.MODE,
  CELL.CELLc_CTRL.BASE,
  CELL.CELLc_CTRL.ARM,
  CELL.CELLc_CTRL.OUTDST,
  CELL.CELLc_CTRL.OUTACT,
  CELL.CELLc_CTRL.EPOCHV,
  CELL.CELLc_CTRL.INVOUT,
  CELL.CELLc_CTRL.EPOCH,
  CELL.CELLc_TARGET_LO.TARGET,
  CELL.CELLc_TARGET_LO.WSTART,
  CELL.CELLc_TARGET_LO.RESULT,
  CELL.CELLc_TARGET_HI.TARGET,
  CELL.CELLc_TARGET_HI.WWIDTH,
  CELL.CELLc_TARGET_HI.RESULT,
  CELL.CELLc_PERIOD.PERIOD,
  CELL.CELLc_IN01.IN0,
  CELL.CELLc_IN01.IN1,
  CELL.CELLc_IN23.IN2,
  CELL.CELLc_IN23.IN3,
  CELL.CELLc_IN23.SIGNAL,
  CELL.CELLc_IN23.DIR,
  CELL.CELLc_RULE.OP,
  CELL.CELLc_RULE.STORE,
  CELL.CELLc_RULE.CLR,
  CELL.CELLc_RULE.EDGE,
  CELL.CELLc_RULE.STRETCH,
  CELL.CELLc_STAT.PERIOD_HI,
  CELL.CELLc_STAT.RTW,
  CELL.CELLc_STAT.CQ,
  CELL.CELLc_STAT.OUT]

/-- Fields of the CELL page, part 1. -/
def fieldsCELL1 : List Fld := [
  CELL.CELLc_STAT.FIRED,
  CELL.CELLc_STAT.LATE,
  CELL.CELLc_STAT.OVF,
  CELL.CELLc_STAT.ARMERR,
  CELL.CELLc_STAT.CHKFAIL,
  CELL.CELLc_STAT.REMAPPED,
  CELL.CELLc_STAT.DEAD,
  CELL.STRANDs_STAT.STATE,
  CELL.STRANDs_STAT.SPARES,
  CELL.STRANDs_STAT.LIVE,
  CELL.STRANDs_STAT.RESTARTS,
  CELL.STRANDs_CFG.BACKUP,
  CELL.STRANDs_CFG.BACKUP_EN,
  CELL.STRANDs_HOST.HOST,
  CELL.NETLVLk.LEVEL,
  CELL.PINp_ROUTE.HOME,
  CELL.PINp_ROUTE.ROUTED,
  CELL.PINp_ROUTE.CUR,
  CELL.PINp_ROUTE.MOVED,
  CELL.CHKCNT.COUNT,
  CELL.REMAPS.COUNT,
  CELL.DEADCNT.COUNT,
  CELL.CQLOST.COUNT,
  CELL.MOVEHOLD.COUNT]

/-- Fields of the KETTLE page, part 0. -/
def fieldsKETTLE0 : List Fld := [
  KETTLE.BUDGET.BUDGET,
  KETTLE.BUDGET.IMAGE,
  KETTLE.BUDGET_EFF.EFF,
  KETTLE.BUDGET_EFF.DERATE,
  KETTLE.STAT.SHORT_B,
  KETTLE.STAT.SHORT_C,
  KETTLE.STAT.SHORT_D,
  KETTLE.STAT.NEG_DIST,
  KETTLE.STAT.POOL_LIMITING,
  KETTLE.STAT.ANY_WARM,
  KETTLE.STAT.REGION_OFF,
  KETTLE.STAT.SENSOR_FAULT,
  KETTLE.DIST.D,
  KETTLE.NONBLK.E,
  KETTLE.COSTCFG.SHIFT,
  KETTLE.INT_TEMP.TEMP,
  KETTLE.TICKS.COUNT,
  KETTLE.SYSD_ACCT.ACCT,
  KETTLE.SYSD_CFG.WEIGHT,
  KETTLE.SHORTCNT.COUNT,
  KETTLE.POOL_I.TOTAL,
  KETTLE.POOL_I.SAFE,
  KETTLE.POOL_STAT.LIMIT,
  KETTLE.POOL_STAT.LIMITING,
  KETTLE.POOL_STAT.SAFE_HIGH,
  KETTLE.POOL_EVENTS.COUNT,
  KETTLE.BLKb_ACCT.ACCT,
  KETTLE.BLKb_QUOTA.QUOTA,
  KETTLE.BLKb_RA.RA,
  KETTLE.BLKb_WEIGHT.WB]

/-- Fields of the KETTLE page, part 1. -/
def fieldsKETTLE1 : List Fld := [
  KETTLE.BLKb_WEIGHT.WC,
  KETTLE.BLKb_WEIGHT.WD,
  KETTLE.BLKb_POWER.MW,
  KETTLE.BLKb_STARVED.COUNT,
  KETTLE.RGNr_TEMP.SENS0,
  KETTLE.RGNr_TEMP.SENS1,
  KETTLE.RGNr_STATE.HEAT,
  KETTLE.RGNr_STATE.FLEVEL,
  KETTLE.RGNr_STATE.POWER,
  KETTLE.RGNr_STATE.S0FAIL,
  KETTLE.RGNr_STATE.S1FAIL,
  KETTLE.RGNr_FCAP.FMAX,
  KETTLE.RGNr_STEPS.SLOWS,
  KETTLE.RGNr_STEPS.STOPS,
  KETTLE.REHOME.REGION,
  KETTLE.TASKt_COST.COST]

/-- Fields of the STN page, part 0. -/
def fieldsSTN0 : List Fld := [
  STN.FRAMEERR.COUNT,
  STN.FOREIGN.COUNT,
  STN.PORTp_STAT.LINK,
  STN.PORTp_STAT.RETIRED,
  STN.PORTp_STAT.FCS,
  STN.RINGr_CFG.BASE,
  STN.RINGr_CFG.DROPN,
  STN.RINGr_CFG.EN,
  STN.RINGr_PLEN_LO.PLEN,
  STN.RINGr_PLEN_HI.PLEN,
  STN.RINGr_ANCH_LO.ANCH,
  STN.RINGr_ANCH_HI.ANCH,
  STN.RINGr_STAT.STATE,
  STN.RINGr_STAT.OVERRUN,
  STN.RINGr_STAT.STEP,
  STN.RINGr_STAT.GUARD,
  STN.RINGr_STAT.EPOCH_HIGH,
  STN.RINGr_STAT.ORIGIN,
  STN.RINGr_STAT.GOOD,
  STN.RINGr_PERIOD.NUM,
  STN.RINGr_MINP.MINP,
  STN.RINGr_RETURN.TIME,
  STN.RINGr_LATE.COUNT,
  STN.RINGr_OLDEP.COUNT,
  STN.RINGr_DROPS.DROPS,
  STN.RINGr_DROPS.ADMITS,
  STN.RINGr_STAa_CFG.PRESENT,
  STN.RINGr_STAa_CFG.SUBST,
  STN.RINGr_STAa_CFG.ERRTASK,
  STN.RINGr_STAa_CFG.HOLD]

/-- Fields of the STN page, part 1. -/
def fieldsSTN1 : List Fld := [
  STN.RINGr_STAa_LAYOUT.LAYOUT,
  STN.RINGr_STAa_STAT.STATE,
  STN.RINGr_STAa_STAT.FWD,
  STN.RINGr_STAa_STAT.REV,
  STN.RINGr_STAa_STAT.MISS,
  STN.RINGr_STAa_STAT.ADMIT,
  STN.RINGr_STAa_STAT.DROPS,
  STN.RINGr_STAa_CNT.LOSS,
  STN.RINGr_STAa_CNT.LATE]

/-- Fields of the PAIR page, part 0. -/
def fieldsPAIR0 : List Fld := [
  PAIR.STAT.ROLE,
  PAIR.STAT.BUMPLESS,
  PAIR.STAT.AUTH,
  PAIR.STAT.PATH1_LOST,
  PAIR.STAT.PATH2_LOST,
  PAIR.STAT.LANE_DOWN,
  PAIR.STAT.SHADOW_FAULT,
  PAIR.STAT.SYNCWHY,
  PAIR.STAT.NBWHY,
  PAIR.STAT.LEAVING,
  PAIR.CFG.PREFER_PARTNER,
  PAIR.CFG.SYNCLOST,
  PAIR.CFG.SLOT,
  PAIR.EPOCH.EPOCH,
  PAIR.PARTNER.MODE,
  PAIR.PARTNER.VARIANT,
  PAIR.PARTNER.VALID,
  PAIR.PARTNER.LEAVING,
  PAIR.PARTNER.PROTO,
  PAIR.PATHS.P1LOSS,
  PAIR.PATHS.P2LOSS,
  PAIR.LAG.STREAM,
  PAIR.LAG.TASKS,
  PAIR.LAGMAX.STREAM,
  PAIR.SYNCACK.MAX,
  PAIR.SYNCACK.TIMEOUTS,
  PAIR.MQFILL.USED,
  PAIR.MQFILL.FULL,
  PAIR.BULK.MIB,
  PAIR.BULK.PHASE]

/-- Fields of the PAIR page, part 1. -/
def fieldsPAIR1 : List Fld := [
  PAIR.EVENTS.TAKEOVERS,
  PAIR.EVENTS.RESIGNS,
  PAIR.LASTGAP.TIME,
  PAIR.MSEQ_SENT.MSEQ,
  PAIR.MSEQ_APPLIED.MSEQ,
  PAIR.CMD.OP,
  PAIR.CMDSTAT.RESULT,
  PAIR.SHADOW.PIN,
  PAIR.SHADOW.VALID,
  PAIR.LAGMAPk.MAP]

/-- Fields of the STRUCT page, part 0. -/
def fieldsSTRUCT0 : List Fld := [
  STRUCT.STAT.STATE,
  STRUCT.STAT.DIVERGED,
  STRUCT.STAT.FALLBACK,
  STRUCT.STAT.RESULT,
  STRUCT.SLOT.ACTIVE,
  STRUCT.SLOT.VALID_A,
  STRUCT.SLOT.VALID_B,
  STRUCT.IMAGE_ID.ID,
  STRUCT.REJECT.REASON,
  STRUCT.REJECT.SECTION,
  STRUCT.REJITEM.ITEM,
  STRUCT.OLC_CMD.OP,
  STRUCT.OLC_CFG.HOLDMAX,
  STRUCT.OLC_COMMIT.ID,
  STRUCT.OLC_SEQ_LO.SEQ,
  STRUCT.OLC_SEQ_HI.SEQ,
  STRUCT.OLC_LASTHOLD.TIME,
  STRUCT.COUNTS.LOADS,
  STRUCT.COUNTS.CHANGES,
  STRUCT.PEND_ID.ID,
  STRUCT.KEYS.COUNT,
  STRUCT.KEYS.MASK,
  STRUCT.HASHk.HASH,
  STRUCT.PHASHk.HASH]

/-- Fields of the LEAF page, part 0. -/
def fieldsLEAF0 : List Fld := [
  LEAF.STAT.CORR_SEEN,
  LEAF.STAT.UNC_SEEN,
  LEAF.STAT.ADDRF_SEEN,
  LEAF.STAT.PAGE_FULL,
  LEAF.LASTERR.MEM,
  LEAF.LASTERR.KIND,
  LEAF.LASTERR.MASTER,
  LEAF.LASTERR.INJECTED,
  LEAF.LASTADDR_LO.ADDR,
  LEAF.LASTADDR_HI.ADDR,
  LEAF.LASTSYN.SYN,
  LEAF.SCRUB_CMD.OP,
  LEAF.SCRUB_MEM.MEM,
  LEAF.SCRUB_START_LO.ADDR,
  LEAF.SCRUB_START_HI.ADDR,
  LEAF.SCRUB_LEN.WORDS,
  LEAF.SCRUB_STAT.STATE,
  LEAF.SCRUB_STAT.RESULT,
  LEAF.SCRUB_STAT.BADV,
  LEAF.SCRUB_STAT.MIRRORED,
  LEAF.SCRUB_CHECKED.COUNT,
  LEAF.SCRUB_CORR.COUNT,
  LEAF.SCRUB_UNC.COUNT,
  LEAF.SCRUB_ADDRF.COUNT,
  LEAF.SCRUB_POISON.COUNT,
  LEAF.SCRUB_FIRST_LO.ADDR,
  LEAF.SCRUB_FIRST_HI.ADDR,
  LEAF.SCRUB_LAST_LO.ADDR,
  LEAF.SCRUB_LAST_HI.ADDR,
  LEAF.SCRUB_TIME.TIME]

/-- Fields of the LEAF page, part 1. -/
def fieldsLEAF1 : List Fld := [
  LEAF.PAGES.COUNT,
  LEAF.MEMm_CORR.COUNT,
  LEAF.MEMm_UNC.COUNT,
  LEAF.MEMm_ADDRF.COUNT,
  LEAF.FLIPm_TGT_LO.ADDR,
  LEAF.FLIPm_TGT_HI.ADDR,
  LEAF.FLIPm_D_LO.MASK,
  LEAF.FLIPm_D_HI.MASK,
  LEAF.FLIPm_AF_LO.MASK,
  LEAF.FLIPm_CTRL.CHK,
  LEAF.FLIPm_CTRL.AFHI,
  LEAF.FLIPm_CTRL.ARM,
  LEAF.FLIPm_CTRL.DONE]

/-- Fields of the GUARD page, part 0. -/
def fieldsGUARD0 : List Fld := [
  GUARD.STAT.FAULT,
  GUARD.STAT.TAGERR,
  GUARD.STAT.DEBUG_DENIED,
  GUARD.STAT.TAG_DEGRADED,
  GUARD.FAULTCNT.COUNT,
  GUARD.LAST_MASTER.MASTER,
  GUARD.LAST_MASTER.KIND,
  GUARD.LAST_MASTER.COLOUR,
  GUARD.LAST_MASTER.PARTIAL,
  GUARD.LAST_ADDR_LO.ADDR,
  GUARD.LAST_ADDR_HI.ADDR,
  GUARD.DENIEDCNT.COUNT,
  GUARD.PROBE_ADDR_LO.ADDR,
  GUARD.PROBE_ADDR_HI.ADDR,
  GUARD.PROBE_COL.COLOUR,
  GUARD.PROBE_COL.VALID,
  GUARD.TAGERR.COUNT,
  GUARD.RKEY_RW.READ,
  GUARD.RKEY_RW.WRITE,
  GUARD.RKEY_X.EXEC,
  GUARD.MKEYm_RW.READ,
  GUARD.MKEYm_RW.WRITE,
  GUARD.MKEYm_X.EXEC,
  GUARD.TKEYt_RW.READ,
  GUARD.TKEYt_RW.WRITE,
  GUARD.TKEYt_X.EXEC]

/-- Fields of the LOOP page, part 0. -/
def fieldsLOOP0 : List Fld := [
  LOOP.CHc_CFG.MODE,
  LOOP.CHc_CFG.VMIN,
  LOOP.CHc_CFG.PROBE_INT,
  LOOP.CHc_CFG.HPRE,
  LOOP.CHc_DAMP.TAU,
  LOOP.CHc_SCALE_LO.LO,
  LOOP.CHc_SCALE_HI.HI,
  LOOP.CHc_LINE.RDEF,
  LOOP.CHc_LEARN.RLINE,
  LOOP.CHc_LEARN.VLIFT,
  LOOP.CHc_LEARN.VALID,
  LOOP.CHc_LEARN.PROBE_FAIL,
  LOOP.CHc_MEAS.I,
  LOOP.CHc_MEAS.VSUP,
  LOOP.CHc_VTERM.VTERM,
  LOOP.CHc_VTERM.TEMP,
  LOOP.CHc_STAT.STATE,
  LOOP.CHc_STAT.QUAL,
  LOOP.CHc_STAT.DETAIL,
  LOOP.CHc_STAT.HEADROOM_LOW,
  LOOP.CHc_STAT.CAPPED,
  LOOP.CHc_STAT.TRIPS,
  LOOP.CHc_STAT.TRIPTOT,
  LOOP.CHc_SIG.SIGNAL,
  LOOP.CHc_SIG.EN,
  LOOP.CHc_SIGMA.SIGNAL,
  LOOP.CHc_SIGMA.EN,
  LOOP.CHc_HADDR.ADDR,
  LOOP.CHc_HSIG.SIGNAL,
  LOOP.CHc_HSIG.EN]

/-- Fields of the LOOP page, part 1. -/
def fieldsLOOP1 : List Fld := [
  LOOP.CHc_HCNT.OK,
  LOOP.CHc_HCNT.FAIL,
  LOOP.CHc_CMD.OP,
  LOOP.CFG.BASE,
  LOOP.STAT.POWER_CAP,
  LOOP.STAT.FE_OK,
  LOOP.CEIL.CEIL,
  LOOP.POWER.OUT,
  LOOP.POWER.IN,
  LOOP.FERST.COUNT]

/-- Fields of the FPIN page, part 0. -/
def fieldsFPIN0 : List Fld := [
  FPIN.PINp_CFG.DIR,
  FPIN.PINp_CFG.ITYPE,
  FPIN.PINp_CFG.SRC,
  FPIN.PINp_FILT.FILT,
  FPIN.PINp_FOLLOW.SIGNAL,
  FPIN.PINp_STAT.RAW,
  FPIN.PINp_STAT.LEVEL,
  FPIN.PINp_STAT.DRIVE,
  FPIN.PINp_STAT.SHORT,
  FPIN.PINp_STAT.LIMITED,
  FPIN.PINp_STAT.RELEASED,
  FPIN.PINp_STAT.RETIRED,
  FPIN.PINp_STAT.SHORTS,
  FPIN.ENCe_STAT.SIGOK,
  FPIN.ENCe_STAT.A,
  FPIN.ENCe_STAT.B,
  FPIN.ENCe_STAT.Z,
  FPIN.ENCe_STAT.LOSS,
  FPIN.ENCe_COUNT.COUNT,
  FPIN.ACm_STAT.PRESENT,
  FPIN.ACm_STAT.OVERV,
  FPIN.ACm_STAT.FREQ_OK,
  FPIN.ACm_FREQ.FREQ,
  FPIN.LVL_LO.LEVEL,
  FPIN.LVL_HI.LEVEL,
  FPIN.TERM_LO.LEVEL,
  FPIN.TERM_HI.LEVEL,
  FPIN.SHORTCNT.COUNT]

/-- Fields of the SAFE page, part 0. -/
def fieldsSAFE0 : List Fld := [
  SAFE.STAT.STATE,
  SAFE.STAT.CONFIRMED,
  SAFE.STAT.STARTUP_DONE,
  SAFE.STAT.LOCKED,
  SAFE.STAT.EXT_HIGH,
  SAFE.CHECK.VALUE,
  SAFE.CONFIRMED.VALUE,
  SAFE.OUTS.OUT0,
  SAFE.OUTS.OUT1,
  SAFE.OUTS.OUT2,
  SAFE.OUTS.OUT3,
  SAFE.PAIRS.PAIRk,
  SAFE.FUNCS_LO.FUNi,
  SAFE.FUNCS_HI.FUNi,
  SAFE.LASTFAULT.CODE,
  SAFE.LASTFAULT.ITEM,
  SAFE.MBOX_CMD.OP,
  SAFE.MBOX_ARG.ARG,
  SAFE.MBOX_STAT.RESULT,
  SAFE.MBOX_STAT.BUSY,
  SAFE.STARTUP.OPEN_SEEN,
  SAFE.STARTUP.TESTED,
  SAFE.SPEEDe.SPEED,
  SAFE.POSe.POS,
  SAFE.DEMANDS.COUNT,
  SAFE.PULSES.COUNT,
  SAFE.PULSEFAIL.COUNT,
  SAFE.DIAG.TRANSIENT,
  SAFE.CONFAIL.COUNT]

/-- Fields of the CAN page, part 0. -/
def fieldsCAN0 : List Fld := [
  CAN.CFG.MODE,
  CAN.CFG.FDEN,
  CAN.CFG.BRSEN,
  CAN.CFG.FIFOPOL0,
  CAN.CFG.FIFOPOL1,
  CAN.CFG.FIFO0TASK,
  CAN.CFG.FIFO1TASK,
  CAN.CFG.TXQTASK,
  CAN.NBT.BRP,
  CAN.NBT.TSEG1,
  CAN.NBT.TSEG2,
  CAN.NBT.SJW,
  CAN.DBT.BRP,
  CAN.DBT.TSEG1,
  CAN.DBT.TSEG2,
  CAN.DBT.SJW,
  CAN.TDC.TDCO,
  CAN.TDC.EN,
  CAN.TDC.CLIP,
  CAN.TDC.TDCV,
  CAN.STAT.STATE,
  CAN.STAT.NO_PARTNER,
  CAN.STAT.PAUSED,
  CAN.STAT.MONITORING,
  CAN.STAT.RECOVERING,
  CAN.STAT.RETIRED,
  CAN.ERR.TEC,
  CAN.ERR.REC,
  CAN.ERR.RP,
  CAN.ERR.LEC]

/-- Fields of the CAN page, part 1. -/
def fieldsCAN1 : List Fld := [
  CAN.ERRCNT.BUSOFF,
  CAN.ERRCNT.FRAMES,
  CAN.NPCFG.PAUSE,
  CAN.BOCFG.DELAY,
  CAN.BOCFG.AUTO,
  CAN.CMD.OP,
  CAN.RXCNT.NOMATCH,
  CAN.RXCNT.REMOTE,
  CAN.TXCNT.COUNT,
  CAN.LOST.FIFO,
  CAN.LOST.HPOVR,
  CAN.MAPERR.ERR,
  CAN.MAPERR.HOLD,
  CAN.TXREQ.REQ,
  CAN.TXCANCEL.CAN,
  CAN.TXPEND.PEND,
  CAN.TXQSTAT.FILL,
  CAN.TXQSTAT.FULL,
  CAN.TXQSTAT.PUSH,
  CAN.FIFOk_STAT.FILL,
  CAN.FIFOk_STAT.FULL,
  CAN.FIFOk_STAT.RXMAX,
  CAN.HPh_CFG.TASK,
  CAN.HPh_CFG.WAKE,
  CAN.HPh_CFG.NEW,
  CAN.HPh_CFG.OVR,
  CAN.CTS_CFG.ROLE,
  CAN.CTS_CFG.BASE,
  CAN.CTS_CFG.HOLDTO,
  CAN.CTS_CFG.STEP_THR]

/-- Fields of the CAN page, part 2. -/
def fieldsCAN2 : List Fld := [
  CAN.CTS_ID.ID,
  CAN.CTS_ID.IDE,
  CAN.CTS_PERIOD.MS,
  CAN.CTS_PDLY.NS,
  CAN.CTS_STAT.MSEQ,
  CAN.CTS_STAT.PAIRED,
  CAN.CTS_OFFS.NS,
  CAN.TXBb_CFG.OWNER,
  CAN.TXBb_CFG.MAPPED,
  CAN.TXBb_CFG.SINGLE,
  CAN.TXBb_CFG.MAP,
  CAN.TXBb_CFG.STATUS,
  CAN.TXBb_CFG.CANRES,
  CAN.SFk_W0.ID1,
  CAN.SFk_W0.ID2,
  CAN.SFk_W0.TYPE,
  CAN.SFk_W1.ACTION,
  CAN.SFk_W1.MAP,
  CAN.SFk_W1.MAPEN,
  CAN.XFk_W0.ID1,
  CAN.XFk_W1.ID2,
  CAN.XFk_W1.TYPE,
  CAN.XFk_W2.WORD,
  CAN.MAPm_SIG.SIG,
  CAN.MAPm_SIG.COUNT,
  CAN.MAPm_FMT.OFF,
  CAN.MAPm_FMT.CNTEN,
  CAN.MAPm_FMT.CNTOFF]

/-- Fields of the PTP page, part 0. -/
def fieldsPTP0 : List Fld := [
  PTP.PLANT_CFG.SRC,
  PTP.PLANT_CFG.PRIM,
  PTP.PLANT_CFG.SEC,
  PTP.PLANT_CFG.SECEN,
  PTP.PLANT_CFG.STEPACT,
  PTP.PLANT_CFG.CLASSMAX,
  PTP.PLANT_CFG.REVERT,
  PTP.PLANT_CFG.HOLDTO,
  PTP.PLANT_STEP.THR,
  PTP.PLANT_SWMAX.MAX,
  PTP.PLANT_STAT.SEL,
  PTP.PLANT_STAT.SELVALID,
  PTP.PLANT_STAT.SLEWING,
  PTP.PLANT_STAT.ONSEC,
  PTP.PLANT_STAT.DISAGREE,
  PTP.PLANT_OFFS.NS,
  PTP.PLANT_SET_LO.VAL,
  PTP.PLANT_SET_HI.VAL,
  PTP.SWITCHES.COUNT,
  PTP.SWITCHES.DISAGREE,
  PTP.UTC.OFFSET,
  PTP.UTC.VALID,
  PTP.UTC.LI61,
  PTP.UTC.LI59,
  PTP.DOMk_CFG.EN,
  PTP.DOMk_CFG.NUM,
  PTP.DOMk_CFG.TRANS,
  PTP.DOMk_CFG.DELAY,
  PTP.DOMk_CFG.PORTS,
  PTP.DOMk_CFG.LOGDREQ]

/-- Fields of the PTP page, part 1. -/
def fieldsPTP1 : List Fld := [
  PTP.DOMk_CFG.ANNTO,
  PTP.DOMk_ASYM.A,
  PTP.DOMk_ASYM.B,
  PTP.DOMk_STAT.PORT,
  PTP.DOMk_STAT.QUAL,
  PTP.DOMk_STAT.PTPTS,
  PTP.DOMk_STAT.GMCLASS,
  PTP.DOMk_STAT.LOGSYNC,
  PTP.DOMk_GMID_LO.ID,
  PTP.DOMk_GMID_HI.ID,
  PTP.DOMk_OFFS.NS,
  PTP.DOMk_DELAY.NS,
  PTP.DOMk_CNT.GMCHG,
  PTP.DOMk_CNT.OUTLIER,
  PTP.DOMk_RX.SYNC]

/-- Fields of the PORT page, part 0. -/
def fieldsPORT0 : List Fld := [
  PORT.STAT.KEY,
  PORT.STAT.ENG_LINK,
  PORT.STAT.PLA_LINK,
  PORT.STAT.PLB_LINK,
  PORT.STAT.PAIRADDR,
  PORT.STAT.CELL_UP,
  PORT.CEIL.ENG,
  PORT.CEIL.PLA,
  PORT.CEIL.PLB,
  PORT.CEIL.CELL,
  PORT.IMGCEIL.WORD,
  PORT.CFG.UDP,
  PORT.CFG.REMENG,
  PORT.CFG.CELLEN,
  PORT.ENG_IP.ADDR,
  PORT.ENG_MASK.MASK,
  PORT.PLp_IP.ADDR,
  PORT.PLp_PAIRIP.ADDR,
  PORT.PLp_MASK.MASK,
  PORT.PLp_GW.ADDR,
  PORT.CMDCNT.COUNT,
  PORT.REFUSED.COUNT,
  PORT.DUPCNT.COUNT,
  PORT.STALECNT.COUNT,
  PORT.LASTREF.OP,
  PORT.LASTREF.STATUS,
  PORT.LASTREF.PORT,
  PORT.FRAMEERR.COUNT,
  PORT.FOREIGN.COUNT,
  PORT.SESSION.STATE]

/-- Fields of the PORT page, part 1. -/
def fieldsPORT1 : List Fld := [
  PORT.SESSION.KIND,
  PORT.SESSION.PORT,
  PORT.SESSION_ID.ID,
  PORT.CELL_STAT.REG,
  PORT.CELL_STAT.RAT,
  PORT.CELL_STAT.RSRP,
  PORT.CELL_CNT.RX,
  PORT.CELL_CNT.RATE,
  PORT.ATTCNT.COUNT]

/-- Fields of the UPD page, part 0. -/
def fieldsUPD0 : List Fld := [
  UPD.STAT.STATE,
  UPD.STAT.PART,
  UPD.STAT.MIGFAIL,
  UPD.STAT.FAILED,
  UPD.STAT.FELLBACK,
  UPD.STAT.RECOVERED,
  UPD.CFG.POLICY,
  UPD.CFG.WINDOW,
  UPD.CFG.DWELL,
  UPD.CMD.OP,
  UPD.REJECT.REASON,
  UPD.REJECT.PART,
  UPD.TRIAL.LEFT,
  UPD.TRIAL.DWELL,
  UPD.PSTORE.LIVE,
  UPD.PSTORE.TRIALV,
  UPD.PSTORE.LIVEFMT,
  UPD.PSTORE.TRIALFMT,
  UPD.MPROTO.OWN,
  UPD.COUNTS.UPDATES,
  UPD.COUNTS.FALLBACKS,
  UPD.ROOTk.DIGEST,
  UPD.PARTp_STAT.PRESENT,
  UPD.PARTp_STAT.ACTIVE,
  UPD.PARTp_STAT.TRIAL,
  UPD.PARTp_STAT.VALID_A,
  UPD.PARTp_STAT.VALID_B,
  UPD.PARTp_STAT.PROBATION,
  UPD.PARTp_STAT.STOPPED,
  UPD.PARTp_VA_HI.MAJOR]

/-- Fields of the UPD page, part 1. -/
def fieldsUPD1 : List Fld := [
  UPD.PARTp_VA_LO.PATCH,
  UPD.PARTp_VA_LO.MINOR,
  UPD.PARTp_VB_HI.MAJOR,
  UPD.PARTp_VB_LO.PATCH,
  UPD.PARTp_VB_LO.MINOR]

/-- Fields of the REC page, part 0. -/
def fieldsREC0 : List Fld := [
  REC.STAT.FILL,
  REC.STAT.FLUSHING,
  REC.STAT.CADDY_FAIL,
  REC.STAT.LOST,
  REC.CMD.OP,
  REC.NEWEST.RECNO,
  REC.OLDEST.RECNO,
  REC.HORIZON.RECNO,
  REC.CURSOR.RECNO,
  REC.WSTAT.STATE,
  REC.WINk.DATA,
  REC.LOSTCNT.COUNT,
  REC.FLUSHES.COUNT,
  REC.OPTIME_LO.MS,
  REC.OPTIME_HI.MS,
  REC.PCYC.COUNT]

/-- Fields of the LIFE page, part 0. -/
def fieldsLIFE0 : List Fld := [
  LIFE.STAT.SAVE_FAIL,
  LIFE.SAVES.COUNT,
  LIFE.CSEL.INDEX,
  LIFE.CVAL_LO.VAL,
  LIFE.CVAL_HI.VAL,
  LIFE.HSEL.HIST,
  LIFE.HSEL.BIN,
  LIFE.HVAL_LO.VAL,
  LIFE.HVAL_HI.VAL,
  LIFE.RSEL.KIND,
  LIFE.RSEL.INDEX,
  LIFE.RSTAT.RETIRED,
  LIFE.RSTAT.CLEAR_PENDING,
  LIFE.RSTAT.OCC,
  LIFE.RETCNTk.COUNT,
  LIFE.BUDGETk.N,
  LIFE.WINDOWk.W]

/-- Fields of the SYS page, part 0. -/
def fieldsSYS0 : List Fld := [
  SYS.ID.VENDOR,
  SYS.ID.PART,
  SYS.VARIANT.CODE,
  SYS.HWREV.ASIC,
  SYS.HWREV.BOARD,
  SYS.UNITS.SAFE,
  SYS.UNITS.MODEM,
  SYS.UNITS.CAN,
  SYS.UNITS.LOOP,
  SYS.UNITS.ACS,
  SYS.SERIALk.TEXT,
  SYS.MODE.CODE,
  SYS.MODE.PREV,
  SYS.RESET.KIND,
  SYS.RESET.CAUSE,
  SYS.RESET.COUNT,
  SYS.DEGRADED.CAUSES,
  SYS.HALTWHY.WHY,
  SYS.HALTWHY.SELFRST,
  SYS.ABSENT_HIT.HIT,
  SYS.ABSENT_ADDR.ADDR,
  SYS.SUPPLY.VBUS,
  SYS.SUPPLY.IIN,
  SYS.HOLDUP.VBANK,
  SYS.HOLDUP.CHARGED]

/-- Fields of the RGN page, part 0. -/
def fieldsRGN0 : List Fld := [
  RGN.STAT.BLOCKS,
  RGN.STAT.RETIRED,
  RGN.STAT.ISOLATED,
  RGN.FABCFG.WA,
  RGN.FABCFG.WB,
  RGN.FABCFG.WC,
  RGN.FABCFG.WD,
  RGN.FABWAITc.COUNT,
  RGN.SLICE.USED]

/-- Every field of the control space. -/
def fieldTable : List Fld :=
  fieldsPHASE0 ++
  fieldsPHASE1 ++
  fieldsIMAGE0 ++
  fieldsTASK0 ++
  fieldsTASK1 ++
  fieldsBLK0 ++
  fieldsCELL0 ++
  fieldsCELL1 ++
  fieldsKETTLE0 ++
  fieldsKETTLE1 ++
  fieldsSTN0 ++
  fieldsSTN1 ++
  fieldsPAIR0 ++
  fieldsPAIR1 ++
  fieldsSTRUCT0 ++
  fieldsLEAF0 ++
  fieldsLEAF1 ++
  fieldsGUARD0 ++
  fieldsLOOP0 ++
  fieldsLOOP1 ++
  fieldsFPIN0 ++
  fieldsSAFE0 ++
  fieldsCAN0 ++
  fieldsCAN1 ++
  fieldsCAN2 ++
  fieldsPTP0 ++
  fieldsPTP1 ++
  fieldsPORT0 ++
  fieldsPORT1 ++
  fieldsUPD0 ++
  fieldsUPD1 ++
  fieldsREC0 ++
  fieldsLIFE0 ++
  fieldsSYS0 ++
  fieldsRGN0

/-- The field whose keys carry the number `id`. -/
def fieldOfKey (k : Nat) : Option Fld := fieldTable.find? (fun f => f.id == k / 2 ^ 20)

/-- The fields of the register at address `a`, each with the instance that lies there. -/
def fieldsAt (a : Nat) : List (Fld × Nat) :=
  fieldTable.filterMap (fun f => (f.instanceAt a).map (fun i => (f, i)))

end Sys2Proof.Machine
end

