-- ==== Sys2Proof/Machine/State.lean ====
section
/-! DEFINITION. The state of one unit of the pair: the register table, one structure per chapter of the manual for what no
register holds, the mode, the emissions and the queue of waiting commands. Plain data. -/

namespace Sys2Proof.Machine

/-- Why the machine stops with a fault. No command of this block does: every effect the manual gives is a next state.
The constructor exists for an access the manual gives no outcome; raised by nothing, safe. -/
inductive Fault where
  | noOutcome (what : String)
  deriving DecidableEq, Repr

/-- Why the machine refuses a command. `notModelled`: the command has no meaning in the model; raised by an arm of exec
that is not written; safe. -/
inductive Refusal where
  | notModelled (mnemonic : String)
  deriving DecidableEq, Repr

/-- One phase base (R22 to R25, R38 to R42): the value at the anchor instant in 2^-32 of the base's unit (96 bits), the anchor
instant on PB0, the last measured frequency of a mains base in mHz, the slew still to be applied in 2^-32 units and its pace
per quarter nanosecond, the tick and the causes of the latest step (R35), whether the base has ever locked since start, and the instant it entered HOLDOVER. -/
structure BaseSt where
  anchor : Nat
  anchorT : Nat
  freqMilliHz : Nat
  slewLeft : Int
  slewPace : Nat
  stepTick : Nat
  stepCauses : Nat
  stepFrom : Nat
  lockedOnce : Bool
  holdAt : Nat
  deriving DecidableEq, Repr, Inhabited

/-- One encoder (R43 to R46): the edges of the velocity estimate (position in counts, instant), the count the shaft is in, the
last edge's boundary and instant, its direction
(0 none, 1 forward, 2 reverse), the alignment added to the angle, whether Z has aligned it, and a slew in progress after a
tolerated Z mismatch (R43); the instants of the last edges on A, B and Z, plus one (R309). -/
structure EncSt where
  hist : List (Int × Nat)
  count : Int
  edgePos : Int
  edgeT : Nat
  dir : Nat
  alignment : Nat
  aligned : Bool
  stalled : Bool
  slewLeft : Int
  slewPos : Int
  aAt : Nat
  bAt : Nat
  zAt : Nat
  deriving DecidableEq, Repr, Inhabited

/-- The bases as they ran before a step (R524): the instant of the step, what the model kept of them, and the registers. An event whose
instant lies before the step is stamped from here. -/
structure PhasePast where
  until_ : Nat
  base : Tab BaseSt
  enc : Tab EncSt
  virtOff : Tab Nat
  regs : Tab Nat
  deriving DecidableEq, Repr, Inhabited

/-- Phase bases (ch. 1): PB0 to PB12, encoders, the applied offsets of PB13 to PB15 (R49), the instant of the latest change of the
reference's steering (R38), and the bases before each step of the last second, oldest first (R524). -/
structure PhaseSt where
  base : Tab BaseSt
  enc : Tab EncSt
  virtOff : Tab Nat
  steerAt : Nat
  past : List PhasePast
  deriving DecidableEq, Repr, Inhabited

/-- The signal image (ch. 2): module sequence and its Caddy copy (R62, R65), directory (R54), committed and working images
(R55, R75), force table (R81), signals whose force an on-line change dropped (R86), the force count in the Caddy (R85), the
capture queue with the absolute number of its first entry (R102), source sequences (R69), the instant of each owner's latest
write (R79), MOVE samples and command writes (signal, port, value) that wait for a grant, the start of the latest sweep, and the numbers
issued at each instant of the last 10 µs (R63). -/
structure ImageSt where
  seq : Nat
  savedSeq : Nat
  dir : Tab (Option DirEntry)
  slots : Tab Slot
  working : Tab Slot
  forces : Tab (Option Force)
  forceDropped : Tab Bool
  savedForces : Nat
  cq : List CapEntry
  cqFirst : Nat
  src : Tab SrcSeq
  lastWrite : Tab Nat
  moveHeld : Tab (Option HeldMove)
  cmdHeld : List HeldWrite
  sweepMark : Nat
  issued : Tab Nat
  deriving DecidableEq, Repr, Inhabited

/-- One task beside its registers (ch. 3): the phase and instants of its cycle, the ceiling in force, the snapshot, what the
cycle has written, the wait it stands in, its skip, its floor base, its readiness order, and for ERROR and START tasks what
is queued for them. -/
structure TaskDyn where
  phase : CyclePhase
  startT : Nat
  started : Bool
  floorBase : Nat
  floorAt : Nat
  ceilAt : Nat
  snapshot : Nat
  prevSeq : Nat
  yieldT : Nat
  yielded : Nat
  estimate : Nat
  charged : Nat
  firstPiece : Nat
  didYield : Bool
  scFlags : Nat
  written : List Nat
  lines : List Nat
  view : List ViewSlot
  capDelivered : List CapEntry
  readPos : Nat
  cqLoss : Bool
  pendEnergy : Nat
  meterBlock : Nat
  wakeTaken : Nat
  wait : Option PWaitSt
  waitResult : Option (Nat × Nat)
  resumable : Bool
  resumeSince : Nat
  readySince : Nat
  skipUntil : Nat
  startDone : Bool
  startQueued : Bool
  startFor : List Nat
  invocations : List Invocation
  waitAck : Bool
  ackMseq : Option Nat
  commitSentAt : Nat
  heldBy : Bool
  moveTo : Option Nat
  canStaged : List (Nat × Nat)
  canView : List CanEntry
  deriving DecidableEq, Repr, Inhabited

/-- Tasks and blocks (ch. 3): the tasks, what the image declares of them, the tasks each core has pre-empted (innermost first),
the instant of each block's restart, the words of state areas that cycles in progress have written (by task and DRAM word,
R105), and whether start tasks are still owed at the next entry to a run mode (R115). -/
structure TasksSt where
  task : Tab TaskDyn
  cfg : Tab TaskCfg
  preempted : Tab (List Nat)
  restartAt : Tab Nat
  stateBuf : Tab (Option Nat)
  startOwed : Bool
  deriving DecidableEq, Repr, Inhabited

/-- One cell beside its descriptor (ch. 4): the staging copy of TARGET, PERIOD and PERIOD_HI (R132), the latch and its stretch
(R136), the next instant of an armed target, the epoch it is armed in, the measurement in progress (R138), an owed QUEUE_LOSS
(R137), its remapping and the spares it has taken, and the end of the frame for which a failed self-check keeps its state (R147). -/
structure CellDyn where
  stLo : Nat
  stHi : Nat
  stPer : Nat
  stPerHi : Nat
  q : Bool
  holdUntil : Nat
  next : Nat
  fired : Bool
  armEpoch : Nat
  winActive : Bool
  winStart : Nat
  winSub : Nat
  winEpoch : Nat
  winT : Nat
  lastFrame : Nat
  lossOwed : Bool
  retired : Bool
  remapAt : Nat
  spares : Nat
  clrReq : Bool
  moveSample : Nat
  moveQual : Nat
  keepUntil : Nat
  deriving DecidableEq, Repr, Inhabited

/-- An edge that the pin stage keeps while the strand of its cell restarts (R148). -/
structure KeptEdge where
  cell : Nat
  at_ : Nat
  rising : Bool
  deriving DecidableEq, Repr, Inhabited

/-- Cells, pins and nets (ch. 4, ch. 10): cells, their owners and wake tasks, output latches (0 to 63 the pins, 64 + n net n)
with the ends of the PULSEs running on them, each with its cell, and the actions placed at the latest cell clock (R140), the instant and
level of each input pin's latest raw edge (R305), strands restarting and moving with the edges kept for them, at cells and at pins (R148), the FIFO of captures of
each strand (R137), the changes of each level that may still be on their way through the mesh, latest first (pins by number, nets from 64,
cells from 2,048; R142), when the latest of them was made, the latest frame that changed something, and whether the layer still changes from
frame to frame (R125). -/
structure CellsSt where
  cell : Tab CellDyn
  cfg : Tab CellCfg
  latch : Tab Bool
  pulseEnd : Tab (List (Nat × Nat))
  actT : Tab Nat
  acts : Tab Nat
  rawSince : Tab Nat
  rawLevel : Tab Bool
  strandRestart : Tab Nat
  strandMoving : Tab Bool
  kept : List KeptEdge
  keptPins : List (Nat × Bool)
  fifo : Tab (List CapEntry)
  edges : Tab (List (Nat × Bool))
  moved : Nat
  frame : Nat
  awake : Bool
  deriving DecidableEq, Repr, Inhabited

/-- Where an own resignation stands (R239): not resigning, waiting for the next period start, in the commit window, or waiting
for the partner's acknowledgements. -/
inductive ResignPhase where
  | none | untilPeriod | window | drain
  deriving DecidableEq, Repr, Inhabited

/-- The pair (ch. 7): link and path reception, what the partner last said, epochs, the mirror queue, the set being received and
the prepared sets staged, own resignation, the claim in progress, the settling of the bumpless state, the instant a gap is measured from (plus
one, R237), and the transfer this unit feeds to a partner in SYNC: what is still to send, as kind and key, the next chunk of DRAM, whether a new one is owed
(R226), and the mode its last heartbeat showed; of the partner, what its RUNTIME says of compatibility (R242). -/
structure PairSt where
  linkUp : Bool
  linkDownAt : Nat
  hbCount : Nat
  p1At : Nat
  p1Ctr : Option Nat
  p2At : Nat
  p2Ctr : Option Nat
  partnerAuth : Bool
  partnerResign : Bool
  partnerRole : Nat
  partnerBumpless : Bool
  peer : Option FwImage
  beatMode : Nat
  hiPartner : Option Nat
  hiRing : Option Nat
  lastRefresh : Nat
  mq : List MQEntry
  rxSet : List MRec
  prepared : List PSet
  openSets : List Nat
  lastApplied64 : Nat
  stagedMseq : Nat
  resign : ResignPhase
  resignReason : Nat
  resignAt : Nat
  resignShort : Bool
  claimFor : Nat
  claimCand : Nat
  resignRx : Nat
  okSince : Nat
  waitLeaving : Bool
  leavingSince : Nat
  unknownSeen : Bool
  unknownCount : Nat
  gapFrom : Nat
  dispatchGap : Nat
  feeding : Bool
  feedOwed : Bool
  feed : List (Nat × Nat)
  bulkNext : Nat
  lagMax100 : Nat
  resignSent : Bool
  bulkKiB : Nat
  deriving DecidableEq, Repr, Inhabited

/-- A cursor's window (R465): its state and the eight words it shows. -/
structure Window where
  state : Nat
  words : List Nat
  deriving DecidableEq, Repr, Inhabited

/-- The recorder (ch. 16): buffered records (with the mark of a reserved entry), the Caddy ring by RECNO mod 524,288, the last
record written (R461), the records a running flush covers, records lost since the last flush by severity class, operating time
before this power-up, and each master's cursor and window. -/
structure RecSt where
  buffer : List (Bool × Record)
  ring : Tab (Option Record)
  lastRec : Option Record
  flushCount : Nat
  flushAgain : Bool
  lostFault : Nat
  lostOther : Nat
  opBase : Nat
  cursor : Tab Nat
  window : Tab (Option Window)
  deriving DecidableEq, Repr, Inhabited

/-- Lifetime evidence and retirement (R467 to R472): counters, histogram bins (index 32 h + bin), the two Caddy copies, which
copy is written next, occurrence histories by item, the retirement map, and the operating time of the latest periodic save. -/
structure LifeSt where
  ctr : Tab Nat
  hist : Tab Nat
  ctrA : Tab Nat
  histA : Tab Nat
  ctrB : Tab Nat
  histB : Tab Nat
  nextB : Bool
  occ : Tab (List Nat)
  retired : List RetEntry
  savedAt : Nat
  deriving DecidableEq, Repr, Inhabited

/-- Supply and power failure (ch. 17, ch. 18): whether outputs are shed, the warning and its instant, the hold-up bank, when BOOT began, the
operating times of the latest WATCHDOG resets, a MODE HOLD that waits for cycles in progress, the hot-swap switch (open, the case that
opened it, since when, held open after the third trip), the instants of overcurrent trips, the early contact (made, since when, broken
since the start), the SIM, since when a DEMOTE-halted unit hears an active partner on both paths, and the kind of the last reset.
`wall` is what PB0 had counted, in quarter nanoseconds, when it last started from 0; the switch's instants count from the same origin.
`hitAt` is the instant of the latest access to a range of R517 (plus one, R520). -/
structure PowerSt where
  shed : Bool
  warnAt : Nat
  warned : Bool
  charged : Bool
  bootAt : Nat
  watchdogs : List Nat
  trips : List Nat
  holdPending : Bool
  swapOpen : Bool
  swapCase : Nat
  swapAt : Nat
  swapHeld : Bool
  earlyMade : Bool
  earlyAt : Nat
  earlyBroke : Bool
  sim : Bool
  haltBeats : Nat
  resetKind : Nat
  wall : Nat
  hitAt : Nat
  deriving DecidableEq, Repr, Inhabited

/-- The Kettle (ch. 5): since when a region has been below the leave value of each heat and clock level (by 4 × region + level),
the instants of the latest clock step and of a region stop, since when an OFF region has been cool, since when the interior has been
below each derate step's leave value, the pool's limiting, the quota for which a class A task's cost has been recorded (R166), and
the sensor faults that stand (region disagreement; 8 the interior). Instants are stored plus one; 0 is none. -/
structure KettleSt where
  heatBelow : Tab Nat
  clockBelow : Tab Nat
  clockStepAt : Tab Nat
  stopAt : Tab Nat
  coolSince : Tab Nat
  derateBelow : Tab Nat
  limitSince : Nat
  lastRise : Nat
  aboveQuota : Tab Nat
  sensorBad : Tab Bool
  deriving DecidableEq, Repr, Inhabited

/-- The protected memories and the guards (ch. 9): the 64-bit words outside the image, and the syndrome of each word at its own
address (0 clean), both by memory and word (`cellKey`); the flip targets since the last module reset, newest first (R285); colours by
granule and the tag groups whose copy is lost (R292, R299); the retired DRAM pages by entry, stored plus one, and those
whose copy is owed (R290); the scrub pass in progress (R286); and the core inside a call through the ROM gate (plus one, R297). -/
structure LeafSt where
  data : Tab Nat
  syn : Tab Nat
  flips : List Nat
  colour : Tab Nat
  badGroup : Tab Bool
  pages : Tab Nat
  copies : List Nat
  scrubMem : Nat
  scrubStart : Nat
  scrubLen : Nat
  scrubAt : Nat
  gate : Nat
  deriving DecidableEq, Repr, Inhabited

/-- One station as the ring engine collects it (ch. 6): per direction the segments of the present period (by source sequence and
index), their slots, whether the period has a valid input, the directions that brought a whole set, the LAYOUT of a mismatching
IDENT from a GOOD station (plus one), the period of the IDENT that began ADMITTING and of the IDENT last judged (plus one). -/
structure StationDyn where
  fwd : List (Nat × Nat)
  rev : List (Nat × Nat)
  segs : List (Nat × Nat × List (Nat × Nat))
  taken : Bool
  valid : Bool
  dirs : Nat
  reject : Nat
  admitK : Nat
  ident : Nat
  deriving DecidableEq, Repr, Inhabited

/-- One ring (ch. 6): the instant from which its grid runs when no period has started, the present period's start (plus one),
its next grid point (none: the first after that instant), the base's epoch at the start, whether the period is counted, began in
RING state, had its grid point before the early guard, and has all its frames back; whether the first period of a new epoch is
owed and whether it starts at once (R234); whether a higher epoch has silenced the ring (R197); the epoch of the last CYCLE heard; and
the largest return time of the second (R472). -/
structure RingDyn where
  since : Nat
  startAt : Nat
  next : Option Nat
  epoch : Nat
  counted : Bool
  inRing : Bool
  early : Bool
  returned : Bool
  takeover : Bool
  atOnce : Bool
  silenced : Bool
  rxEpoch : Nat
  heard : Bool
  maxReturn : Nat
  deriving DecidableEq, Repr, Inhabited

/-- The station rings (ch. 6): layouts and collected inputs by ring × 128 + station, the two rings, and by ring the keys of the station
settings that an on-line change alters at the ring's next period start (R207). -/
structure RingsSt where
  cfg : Tab StationCfg
  sta : Tab StationDyn
  ring : Tab RingDyn
  due : Tab (Option (List Nat))
  deriving DecidableEq, Repr, Inhabited

/-- One loop channel (ch. 10): the damped current in 2^-16 of 0.1 µA and whether it starts afresh, the current and instant of the last
sample, its source sequence, the supply in 0.05 V steps and the instant it last came down, the value last delivered, a probe's x0, step count
and supply before it, the dropout points by 2 mA band newest first (current, dropout voltage), the instants of parking and of an
open element (plus one), and whether that trip was the partner's. -/
structure LoopDyn where
  y : Nat
  fresh : Bool
  x : Nat
  seqNo : Nat
  vsup : Nat
  downAt : Nat
  held : Nat
  heldMa : Nat
  probeX0 : Nat
  probeSteps : Nat
  probeV : Nat
  probeDue : Bool
  probedAt : Nat
  points : List (Nat × Nat)
  parkedAt : Nat
  openAt : Nat
  deriving DecidableEq, Repr, Inhabited

/-- One HART device (R325, R326): unique identifier, whether command 0 has been answered, consecutive failures, NO_RESPONSE, and its last
variables and status. -/
structure HartDyn where
  uid : Nat
  known : Bool
  fails : Nat
  noResponse : Bool
  vars : List Nat
  status : Nat
  deriving DecidableEq, Repr, Inhabited

/-- A pass-through request that waits for its group's turn (R325, HART_PASS). -/
structure HartPass where
  channel : Nat
  req : Req
  data : List Nat
  deriving DecidableEq, Repr, Inhabited

/-- The LOOP unit and the pins' electrical side (ch. 10): channels, HART devices by 5 × channel + k, the transaction each group modem is in
(channel × 8 + device, plus one), the device polled last (likewise) and whether it is a pass-through, requests waiting, the last sample (plus one), the base value of the next
one and the base's epoch then, the last step of the ceiling, the instant a short switched a pin off, and the channel settings that wait for
the next sample (R267), and whether the front end restarts (R328). -/
structure LoopSt where
  chan : Tab LoopDyn
  dev : Tab HartDyn
  turn : Tab Nat
  poll : Tab Nat
  passing : Tab (Option HartPass)
  waiting : List HartPass
  sampleAt : Nat
  next : Nat
  epoch : Nat
  capAt : Nat
  shortAt : Tab Nat
  due : List Nat
  restarting : Bool
  deriving DecidableEq, Repr, Inhabited

/-- An input pair (R337 to R340): state, count of disagreeing cycles, channel demands of the last cycle. -/
structure PairDyn where
  st : Nat
  count : Nat
  chA : Bool
  chB : Bool
  deriving DecidableEq, Repr, Inhabited

/-- A safety function (R341 to R345): state, the instant DELAY began, the instant since which its condition has been absent, the furthest
position of SDI, and the last instant at which its encoder was lost or disagreed (plus one). -/
structure FunDyn where
  st : Nat
  delayAt : Nat
  absentAt : Nat
  furthest : Int
  badAt : Nat
  deriving DecidableEq, Repr, Inhabited

/-- A safety output (R347 to R353, R363): state, latched fault, whether a takeover makes it wait for a restart, whether a restart has
released it, request, whether it is energised, the instant of the next off-pulse, an external voltage seen in the last cycle, the start of a
pre-energise test (plus one), the end of the off-pulse within which the output went off (plus one), whether it is due on again since, and
whether the lower switch takes the next off-pulse. -/
structure OutDyn where
  st : Nat
  fault : Nat
  wait : Bool
  released : Bool
  req : Bool
  on : Bool
  pulseAt : Nat
  extHigh : Bool
  testAt : Nat
  pulseEnd : Nat
  dueOn : Bool
  lower : Bool
  deriving DecidableEq, Repr, Inhabited

/-- A request the mailbox has taken (R360): 1 RESTART, 2 CLEAR or 3 CONFIRM, its argument, and the command that waits for its result with its OP
code. -/
structure MboxReq where
  op : Nat
  arg : Nat
  reply : Option (Req × Nat)
  deriving DecidableEq, Repr, Inhabited

/-- The safety unit (ch. 11): parameters in force, pairs, functions, outputs, each encoder's count since the start, its position and whether it
has a reference, the counts of the last cycles (newest first), the count and FPIN count at the last cross-check, the partner's last
state bytes, the instants of the last delivery and SAFETY record, whether a byte changed since, the last diagnostic failure (plus
one), CONFIRM mismatches, the start of a lockout, and the request being processed. -/
structure SafeSt where
  params : SafeParams
  pair : Tab PairDyn
  fn : Tab FunDyn
  out : Tab OutDyn
  total : Tab Int
  pos : Tab Int
  ref : Tab Bool
  hist : Tab (List Int)
  lossNow : Tab Bool
  crossOwn : Tab Int
  crossAsic : Tab Nat
  mirrored : List Nat
  sentAt : Nat
  shownAt : Nat
  due : Bool
  diagAt : Nat
  mismatches : List Nat
  lockedAt : Nat
  request : Option MboxReq
  deriving DecidableEq, Repr, Inhabited

/-- The structure image (ch. 8): the image in force, the two slots, project keys by position, a checked full load that waits for LOAD,
the prepared change and the instant of its latest command traffic, affected tasks and the start of the hold, the prepared set of
the change commit and the instant it was sent, and the instant of the latest change with the strainer elements it replaced (R267). -/
structure StructSt where
  image : Option Image
  slotA : Option Container
  slotB : Option Container
  keys : Tab (Option Nat)
  loading : Option Container
  prepared : Option Container
  traffic : Nat
  affected : List Nat
  holdAt : Nat
  commitMseq : Option Nat
  commitAt : Nat
  changedAt : Nat
  oldStrainer : Tab Nat
  deriving DecidableEq, Repr, Inhabited

/-- Ports and commands (ch. 14): the client table (most recently used first), the open session, ATTEST requests waiting, the
instant from which the CELL bucket is full again, force responses that wait for an acknowledgement (with the record number they wait
for), the OLC_COMMIT that waits for its result, and the copies of requests that arrived in one tick with a copy on a port of higher rank
(R416). -/
structure PortSt where
  clients : List Client
  session : Option Session
  attest : List (Req × Nat)
  cellFull : Nat
  forceWait : List (Nat × Req × Nat × List Nat)
  olcWait : Option Req
  copies : List Req
  deriving DecidableEq, Repr, Inhabited

/-- Firmware (ch. 15): the images of the slots by 2 × part + slot, the ATTEMPTED flags of the control words, a staged part (plus one),
the start of the window and of the dwell (plus one), a restart of the part in the dwell, the part whose slot failed before RECOVERY,
whether the running RUNTIME has migrated, and the part whose failed trial resets the unit once a resignation under way is complete (plus
one, R447), and the live parameter area as it was when a RUNTIME on trial began to write the other one (R453): keys, confirmed check value
and confirmation. -/
structure UpdSt where
  slots : Tab (Option FwImage)
  attempted : Tab Bool
  staged : Nat
  windowAt : Nat
  dwellAt : Nat
  recovering : Nat
  migrated : Bool
  fallReset : Nat
  kept : Option (Tab (Option Nat) × Nat × Bool)
  deriving DecidableEq, Repr, Inhabited

/-- One CAN port (ch. 12): FIFOs with the number of each one's oldest entry, high-priority buffers, transmit buffers with the content that waits for an ACTIVE frame to end and the
buffers whose frame on the bus is to be cancelled, the queue with the number of its head, what is on the bus (a buffer, or 32 the queue's head), consecutive
acknowledgement errors, the instants of bus-off and of a pause (plus one); and for the time service the last reference message sent
(value and epoch of the master base at its start of frame, whether it was sent, the base's epoch and PB0 when it was asked for, whether
one is on the way), the captures by MSEQ, the last pair (MSEQ, value, instant) and its instant of arrival (plus one). -/
structure CanPort where
  fifo0 : List CanEntry
  fifo1 : List CanEntry
  first0 : Nat
  first1 : Nat
  hp : Tab (Option CanEntry)
  buf : Tab CanFrame
  again : Tab (Option CanFrame)
  cancel : Tab Bool
  queue : List CanFrame
  queueAt : Nat
  active : Option Nat
  ackErrs : Nat
  busOffAt : Nat
  pauseAt : Nat
  prevSof : Nat
  prevEpoch : Nat
  prevOk : Bool
  sentEpoch : Nat
  sentAt : Nat
  sentVal : Nat
  sending : Bool
  captures : List (Nat × Nat)
  pair : Option (Nat × Nat × Nat)
  pairAt : Nat
  deriving DecidableEq, Repr, Inhabited

/-- One domain track (ch. 13): the Announce messages it holds, the chosen master (port and sender), its Sync interval, the instant of its
latest Sync (plus one), its latest Sync (PB0 instant of receipt, master's time corrected, in 2^-32 ns), a two-step Sync that waits for its
Follow_Up (sequence, instant of receipt, correction in 2^-16 ns), the instant the latest delay request left and whether its response is
still to come, the least interval the master announced for them, consecutive Syncs below 1 µs, an offset above 10 µs that stands alone so far,
and whether a grandmaster has been seen. Instants are stored plus one; 0 is none. -/
structure TrackSt where
  anns : List Ann
  chosen : Option (Nat × Nat)
  logSync : Int
  syncAt : Nat
  lastRx : Nat
  lastTime : Int
  waiting : Option (Nat × Nat × Int)
  reqAt : Nat
  asked : Bool
  minReq : Int
  good : Nat
  outlier : Bool
  seen : Bool
  deriving DecidableEq, Repr, Inhabited

/-- Network time (ch. 13): the four tracks, since when the primary has been qualified (plus one), the tracks that disagreed and count as
not qualified (R403), a switch slew in progress, and the first offset after a takeover still to come (R407). -/
structure PtpSt where
  track : Tab TrackSt
  primSince : Nat
  bad : List Nat
  switchSlew : Bool
  takeover : Bool
  deriving DecidableEq, Repr, Inhabited

/-- The latches a master holds (R26, R87, R123, R301, R302, R410, R474, R475), by master and register address. -/
abbrev Latches := Tab (Option Nat)

/-- The state of the unit. `now` is PB0 in quarter nanoseconds, `regs` the register fields, `settings` the values the structure image in
force gives them (R19 code N), `freeCtr` the model's own counter of free values, `out` what the unit has emitted, newest first, and
`pending` the queue of waiting commands. `outside` is what the unit senses beyond its own registers (R19: the key switch, links, levels at
the contacts, the supply, the modem), by the keys of the fields that show it. `raced` holds the events of a fabric cycle in fields that a
read clears (R20). -/
structure State where
  now : Nat
  regs : Tab Nat
  outside : Tab Nat
  raced : Tab CycleEvents
  settings : Tab Nat
  latches : Latches
  mode : Mode
  prevMode : Mode
  freeCtr : Nat
  out : List Out
  phase : PhaseSt
  img : ImageSt
  tasks : TasksSt
  cells : CellsSt
  pair : PairSt
  recorder : RecSt
  life : LifeSt
  power : PowerSt
  kettle : KettleSt
  leaf : LeafSt
  rings : RingsSt
  loops : LoopSt
  safe : SafeSt
  struct : StructSt
  port : PortSt
  upd : UpdSt
  can : Tab CanPort
  ptp : PtpSt
  pending : List Instr
  deriving DecidableEq, Repr, Inhabited

/-- The register fields of a unit right after its first power-up that do not read 0 (notes/assumptions/3.md): the manual's reset values,
PB0 LOCKED in the epoch of power cycle 1 (R28, R52), a strand that runs its own cells (R150), the parts with a valid image (R437), the default
ceilings and the default command port (R412, R432), trial window and dwell (R457), retry budgets (R467), the units of variant X, and every
block of a region in service (R521). -/
def State.resetRegs : Tab Nat :=
  [
    (PHASE.BASEn_EPOCH.EPOCH.key 0, 1), (PHASE.BASEn_STATUS.STATE.key 0, 2)] ++
  (List.range 127).map (fun i => (CELL.STRANDs_HOST.HOST.key (i + 1), i + 1)) ++
  [
    (KETTLE.BUDGET.BUDGET.key 0, 300), (KETTLE.COSTCFG.SHIFT.key 0, 3), (KETTLE.POOL_STAT.LIMIT.key 0, 50),
    (STN.RINGr_CFG.BASE.key 0, 1), (STN.RINGr_CFG.BASE.key 1, 1), (STN.RINGr_CFG.DROPN.key 0, 3), (STN.RINGr_CFG.DROPN.key 1, 3),
    (STN.RINGr_PLEN_LO.PLEN.key 0, 1000000), (STN.RINGr_PLEN_LO.PLEN.key 1, 1000000), (STN.RINGr_MINP.MINP.key 0, 250),
    (STN.RINGr_MINP.MINP.key 1, 250), (STRUCT.OLC_CFG.HOLDMAX.key 0, 100), (LOOP.CEIL.CEIL.key 0, 560), (PORT.CEIL.ENG.key 0, 3),
    (PORT.CEIL.PLA.key 0, 7), (PORT.CEIL.PLB.key 0, 7), (PORT.CEIL.CELL.key 0, 3), (PORT.CFG.UDP.key 0, 50420),
    (UPD.CFG.WINDOW.key 0, 15), (UPD.CFG.DWELL.key 0, 60), (UPD.PARTp_STAT.PRESENT.key 0, 1), (UPD.PARTp_STAT.PRESENT.key 1, 1),
    (UPD.PARTp_STAT.PRESENT.key 2, 1), (UPD.PARTp_STAT.PRESENT.key 3, 1), (UPD.PARTp_STAT.VALID_A.key 0, 1),
    (UPD.PARTp_STAT.VALID_A.key 1, 1), (UPD.PARTp_STAT.VALID_A.key 2, 1), (UPD.PARTp_STAT.VALID_A.key 3, 1), (REC.STAT.FILL.key 0, 2),
    (REC.PCYC.COUNT.key 0, 1), (LIFE.BUDGETk.N.key 0, 3), (LIFE.BUDGETk.N.key 1, 4), (LIFE.BUDGETk.N.key 2, 3), (LIFE.BUDGETk.N.key 3, 2),
    (LIFE.BUDGETk.N.key 4, 5), (LIFE.BUDGETk.N.key 5, 100), (LIFE.BUDGETk.N.key 6, 10), (LIFE.BUDGETk.N.key 7, 20),
    (LIFE.BUDGETk.N.key 8, 4), (LIFE.WINDOWk.W.key 0, 1), (LIFE.WINDOWk.W.key 1, 3600), (LIFE.WINDOWk.W.key 2, 600),
    (LIFE.WINDOWk.W.key 3, 2592000), (LIFE.WINDOWk.W.key 4, 600), (LIFE.WINDOWk.W.key 5, 600), (LIFE.WINDOWk.W.key 6, 3600),
    (LIFE.WINDOWk.W.key 7, 3600), (LIFE.WINDOWk.W.key 8, 86400), (SYS.ID.VENDOR.key 0, 0x5A90), (SYS.ID.PART.key 0, 9),
    (SYS.UNITS.SAFE.key 0, 1), (SYS.UNITS.MODEM.key 0, 1), (SYS.UNITS.CAN.key 0, 1), (SYS.UNITS.LOOP.key 0, 1), (SYS.UNITS.ACS.key 0, 1),
    (SYS.MODE.CODE.key 0, 1), (RGN.STAT.BLOCKS.key 0, 15), (RGN.STAT.BLOCKS.key 1, 15), (RGN.STAT.BLOCKS.key 2, 15),
    (RGN.STAT.BLOCKS.key 3, 15)]

/-- The record of the power-up's change of mode (R460, R476), and of the reset itself. -/
def resetRecord (code param : Nat) : Record :=
  { recno := 0, optime := 0, repeats := 1, pcyc := 1, seq := 0, source := 0xF000, code := code, sev := .info, injected := false
    last := 0, param := param, cont := false }

/-- The factory image of a firmware part (notes/assumptions/3.md). -/
def resetImage (p : Nat) : FwImage :=
  { part := p + 1, version := 0, mproto := 0, psfmt := 0, psmigMin := 0, compat := [], layoutOk := true, rootOk := true
    signed := true }

/-- The colours the boot ROM gives before any other master runs (R297): 15 to the sealed area, the lowest 64 granules of DRAM. -/
def sealedColours : Tab Nat := (List.range 64).map (fun g => (g, 15))

/-- The machine right after reset: the first power-up of a unit, in BOOT (R476, R482, R486). What no register holds is empty; the recorder
holds the two records of the power-up; the power-up counter stands at 1 (R471); a SIM is in place and EARLY is made. -/
def State.reset : State :=
  { now := 0, regs := State.resetRegs, outside := [], raced := [], settings := [], latches := [], mode := .boot, prevMode := .off, freeCtr := 0
    out := [.moduleReset], phase := default, img := default, tasks := default, cells := default, pair := default
    recorder := { (default : RecSt) with
      buffer := [(false, resetRecord 0xF05 0x100), (false, resetRecord 0xF03 0)], lastRec := some (resetRecord 0xF03 0) }
    life := { (default : LifeSt) with ctr := [(0x140, 1)] }
    power := { (default : PowerSt) with earlyMade := true, sim := true }
    kettle := default, leaf := { (default : LeafSt) with colour := sealedColours }
    rings := default, loops := default, safe := default, struct := default, port := default
    upd := { (default : UpdSt) with
      slots := [(0, some (resetImage 0)), (2, some (resetImage 1)), (4, some (resetImage 2)), (6, some (resetImage 3))] }
    can := [], ptp := default, pending := [] }

end Sys2Proof.Machine
end

