-- ==== Sys2Proof/Machine/Ops.lean ====
section
/-! DEFINITION. The operations every command shares: time, register fields, emissions, free values, the recorder
(R458 to R464), lifetime counters (R470, R471) and retry budgets (R467). -/

namespace Sys2Proof.Machine

/-! ### Time, fields, emissions -/

/-- The clock of the unit moves to the instant a command carries and never back (R14, R22). -/
def State.advance (s : State) (t : Nat) : State := { s with now := max s.now t }

/-- The value of instance `i` of a register field. -/
def State.reg (s : State) (f : Fld) (i : Nat := 0) : Nat := s.regs.get (f.key i)

/-- The field as a flag. -/
def State.flag (s : State) (f : Fld) (i : Nat := 0) : Bool := s.reg f i != 0

/-- Instance `i` of the field takes the low bits of `v`; an instance the map does not hold is not written (R17). -/
def State.setReg (s : State) (f : Fld) (i v : Nat) : State :=
  if i < f.count then { s with regs := s.regs.set (f.key i) (wrap f.width v) } else s

/-- A flag field takes a Boolean. -/
def State.setFlag (s : State) (f : Fld) (i : Nat) (b : Bool) : State := s.setReg f i (bn b)

/-- The start of the reference tick at or after the present instant (R30). -/
def State.toTick (s : State) : State := { s with now := roundUp Config.refTick s.now }

/-- The start of the tick after the one in which `t` lies (R49). -/
def tickAfter (t : Nat) : Nat := (t / Config.refTick + 1) * Config.refTick

/-- Something outside the module changes: instance `i` of the field that shows it takes the low bits of `v`. -/
def State.sense (s : State) (f : Fld) (i v : Nat) : State :=
  if i < f.count then { s.setReg f i v with outside := s.outside.set (f.key i) (wrap f.width v) } else s

/-- A flag of what lies outside. -/
def State.senseFlag (s : State) (f : Fld) (i : Nat) (b : Bool) : State := s.sense f i (bn b)

/-- What lies outside, whether or not a register shows it at present. -/
def State.sensed (s : State) (f : Fld) (i : Nat := 0) : Bool := s.outside.get (f.key i) != 0

/-- The registers show what lies outside (at the end of BOOT: the reset has restored them, R19). -/
def State.showOutside (s : State) : State := { s with regs := s.outside.foldl (fun r x => r.set x.1 x.2) s.regs }

/-- The fabric cycle of the present instant, plus one (R20). -/
def State.fabricCycle (s : State) : Nat := s.now / Config.cellClock + 1

/-- What the present fabric cycle has brought to a field so far (R20). -/
def State.eventsOf (s : State) (f : Fld) (i : Nat) : CycleEvents :=
  let r := s.raced.get (f.key i)
  if r.cycle = s.fabricCycle then r else { cycle := s.fabricCycle, before := s.reg f i, fresh := 0 }

/-- An event changes a field that a read clears: what it makes of the cycle's events alone is kept beside the field (R20). -/
def State.noteEvent (s : State) (f : Fld) (i : Nat) (g : Nat → Nat) : State :=
  if f.acc = .RC ∧ i < f.count then
    let r := s.eventsOf f i
    { s with raced := s.raced.set (f.key i) { r with fresh := g r.fresh } }
  else s

/-- A saturating counter field rises by `n`. -/
def State.addReg (s : State) (f : Fld) (i n : Nat) : State :=
  (s.noteEvent f i (fun c => satAdd f.width c n)).setReg f i (satAdd f.width (s.reg f i) n)

/-- A wrapping counter field rises by one. -/
def State.bumpReg (s : State) (f : Fld) (i : Nat) : State := s.setReg f i (s.reg f i + 1)

/-- A counter field falls by one, not below 0. -/
def State.dropReg (s : State) (f : Fld) (i : Nat) : State := s.setReg f i (s.reg f i - 1)

/-- A largest-value field takes `v` when `v` is larger; `v` saturates at the field's width. -/
def State.maxReg (s : State) (f : Fld) (i v : Nat) : State :=
  let w := min v (2 ^ f.width - 1)
  (s.noteEvent f i (fun c => max c w)).setReg f i (max (s.reg f i) w)

/-- Instance `i` of a field takes the value of the structure image in force (R19 code N). -/
def State.reload (s : State) (f : Fld) (i : Nat) : State := s.setReg f i (s.settings.get (f.key i))

/-- The unit emits `o`. -/
def State.emit (s : State) (o : Out) : State := { s with out := o :: s.out }

/-- The counter of free values moves on; the free value itself is `Config.freeWord` at the old count. -/
def State.nextFree (s : State) : State := { s with freeCtr := s.freeCtr + 1 }

/-- The free value at hand. -/
def State.freeVal (s : State) (w : Nat) : Nat := wrap w (Config.freeWord s.freeCtr)

/-- Fold a list of operands through the state. -/
def State.each {α : Type} (s : State) (l : List α) (f : State → α → State) : State := l.foldl f s

/-- A conditional effect. -/
def State.when (s : State) (b : Bool) (f : State → State) : State := if b then f s else s

/-! ### Roles -/

/-- The ACTIVE role (R209): ACTIVE, DEGRADED or HOLD. -/
def Mode.isActiveRole : Mode → Bool
  | .active | .degraded | .hold => true
  | _ => false

/-- The modes in which tasks run (R476). -/
def Mode.runs : Mode → Bool
  | .active | .degraded => true
  | _ => false

/-- The modes in which RUNTIME runs (R476, R482). -/
def Mode.runtimeRuns : Mode → Bool
  | .load | .commission | .sync | .standby | .active | .degraded | .hold | .service => true
  | _ => false

/-- PAIR.STAT.ROLE of a mode (R209, R245). -/
def Mode.role : Mode → Nat
  | .sync => 1
  | .standby => 2
  | .active | .degraded | .hold => 3
  | _ => 0

/-- The unit is in the ACTIVE role. -/
def State.isActive (s : State) : Bool := s.mode.isActiveRole

/-- The highest of the epochs seen (R220). -/
def seenEpoch (old : Option Nat) (e : Nat) : Option Nat :=
  match old with
  | some o => if laterMod 32 e o then some e else some o
  | none => some e

/-- A partner with a valid heartbeat, not leaving (R241, R245). -/
def State.partnerPresent (s : State) : Bool :=
  s.flag PAIR.PARTNER.VALID && !s.flag PAIR.PARTNER.LEAVING

/-- A hot STANDBY partner is present (R106, R218, R228): the link to it is up. -/
def State.partnerStandby (s : State) : Bool :=
  s.partnerPresent && s.pair.linkUp && s.reg PAIR.PARTNER.MODE == Mode.standby.code

/-- The active unit streams to the partner (R223, R242): the link is up and the partner is in SYNC or STANDBY. -/
def State.streaming (s : State) : Bool :=
  s.isActive && s.pair.linkUp && s.partnerPresent &&
    (s.reg PAIR.PARTNER.MODE == Mode.standby.code || s.reg PAIR.PARTNER.MODE == Mode.sync.code)

/-! ### Recorder -/

/-- Operating time in ms (R458): time powered before this power-up plus PB0. -/
def State.opTime (s : State) : Nat := s.recorder.opBase + s.now / msec 1

/-- The power-cycle count (R458). -/
def State.pcyc (s : State) : Nat := s.reg REC.PCYC.COUNT

/-- Entries a logical record takes: two with its CONTINUED record (R460). -/
def Record.entries (r : Record) : Nat := if r.cont then 2 else 1

/-- Buffered entries in use (REC.STAT.FILL). -/
def bufferSize (b : List (Bool × Record)) : Nat := (b.map (fun x => x.2.entries)).sum

/-- Entries of the reserve in use (R462). -/
def reserveUsed (b : List (Bool × Record)) : Nat :=
  (b.map (fun x => if x.1 then x.2.entries else 0)).sum

/-- Entries of the shared part in use (R462). -/
def sharedUsed (b : List (Bool × Record)) : Nat := bufferSize b - reserveUsed b

/-- The buffer takes a new content and REC.STAT.FILL follows. -/
def State.setBuffer (s : State) (b : List (Bool × Record)) : State :=
  ({ s with recorder := { s.recorder with buffer := b } }).setReg REC.STAT.FILL 0 (bufferSize b)

/-- Values packed from byte 0, little-endian, each in its width in bytes (R460). -/
def packParam : List (Nat × Nat) → Nat
  | [] => 0
  | (w, v) :: l => wrap (8 * w) v + packParam l * 2 ^ (8 * w)

/-- The bytes a packed list takes. -/
def packWidth (l : List (Nat × Nat)) : Nat := (l.map Prod.fst).sum

/-- A lifetime counter rises by `n` (R470: 64-bit, saturating). -/
def State.lifeAdd (s : State) (i n : Nat) : State :=
  { s with life := { s.life with ctr := s.life.ctr.upd i (fun c => satAdd 64 c n) } }

/-- A histogram bin rises by one (R470, R472). -/
def State.histAdd (s : State) (h bin : Nat) : State :=
  { s with life := { s.life with hist := s.life.hist.upd (32 * h + min bin 31) (fun c => satAdd 64 c 1) } }

/-- A flush starts when something is to be written; one already running is followed by another (R463, R473). -/
def State.startFlush (s : State) : State :=
  if s.flag REC.STAT.FLUSHING then
    { s with recorder := { s.recorder with flushAgain := true } }
  else if s.recorder.buffer = [] ∧ s.recorder.lostFault = 0 ∧ s.recorder.lostOther = 0 then s
  else
    ({ s with recorder := { s.recorder with flushCount := s.recorder.buffer.length } }).setReg
      REC.STAT.FLUSHING 0 1

/-- The severity of a code of CODEW bits [13:12]. -/
def Severity.isHigh : Severity → Bool
  | .fault | .safety => true
  | _ => false

/-- A RECORDS_LOST record with a count (R460, R464). -/
def State.lostRecord (s : State) (sev : Severity) (n : Nat) : Record :=
  { recno := 0, optime := s.opTime, repeats := 1, pcyc := s.pcyc, seq := wrap 32 s.img.seq, source := 0xF000
    code := 0xF01, sev := sev, injected := false, last := 0, param := wrap 32 n, cont := false }

/-- Replace the first element that meets `p` by `r` and remove the others that meet it. -/
def replaceFirst (p : Bool × Record → Bool) (r : Bool × Record) : List (Bool × Record) → List (Bool × Record)
  | [] => []
  | x :: l => if p x then r :: l.filter (fun y => !p y) else x :: replaceFirst p r l

/-- Folding (R464): every record of severity `sev` leaves the buffer and one RECORDS_LOST record stands in place of the
first. A running flush covers what is left of its records; a record that is gone is repeated by none. -/
def State.fold (s : State) (sev : Severity) : State :=
  let p : Bool × Record → Bool := fun x => decide (x.2.sev = sev)
  let n := (s.recorder.buffer.filter p).length
  let r := s.lostRecord sev n
  let inFlush := s.recorder.buffer.take s.recorder.flushCount
  let kept := (replaceFirst p (false, r) inFlush).length
  let s := s.setBuffer (replaceFirst p (false, r) s.recorder.buffer)
  let s := { s with recorder := { s.recorder with
    flushCount := kept, lastRec := s.recorder.lastRec.filter (fun l => l.recno != 0 || l.sev != sev) } }
  (((s.addReg REC.LOSTCNT.COUNT 0 n).setReg REC.STAT.LOST 0 1).lifeAdd 0x14E n)

/-- The buffer holds a record of severity `sev`. -/
def State.holds (s : State) (sev : Severity) : Bool := s.recorder.buffer.any (fun x => decide (x.2.sev = sev))

/-- A record finds room in the shared entries. -/
def State.sharedRoom (s : State) (r : Record) : Bool :=
  decide (sharedUsed s.recorder.buffer + r.entries ≤ Config.recShared)

/-- Make room for an INFO or WARNING record (R464): fold INFO records, or WARNING records when no INFO is buffered; once
more when the first fold leaves no room. -/
def State.makeRoom (s : State) (r : Record) : State :=
  let once : State → State := fun s =>
    if s.sharedRoom r then s
    else if s.holds .info then s.fold .info
    else if s.holds .warning then s.fold .warning
    else s
  once (once s)

/-- A record that cannot be held is lost and counted (R464). -/
def State.loseRecord (s : State) (r : Record) : State :=
  let s := if r.sev.isHigh then
      { s with recorder := { s.recorder with lostFault := s.recorder.lostFault + 1 } }
    else { s with recorder := { s.recorder with lostOther := s.recorder.lostOther + 1 } }
  ((s.addReg REC.LOSTCNT.COUNT 0 1).setReg REC.STAT.LOST 0 1).lifeAdd 0x14E 1

/-- Append a record to the buffer; a FAULT or SAFETY record, or 1,536 records, start a flush (R463). -/
def State.bufferRecord (s : State) (reserve : Bool) (r : Record) : State :=
  let s := s.setBuffer (s.recorder.buffer ++ [(reserve, r)])
  let s := { s with recorder := { s.recorder with lastRec := some r } }
  if r.sev.isHigh || decide (Config.recFlushAt ≤ s.reg REC.STAT.FILL) then s.startFlush else s

/-- The last occurrence after OPTIME, in s (R458). -/
def State.lastOf (s : State) (r : Record) : Nat := (s.opTime - r.optime) / 1000

/-- R461: the new occurrence repeats the last record written in this power cycle. -/
def State.repeatsLast (s : State) (r : Record) : Option Record :=
  match s.recorder.lastRec with
  | none => none
  | some l =>
    if l.code = r.code ∧ l.source = r.source ∧ l.param = r.param ∧ l.cont = r.cont ∧ l.pcyc = r.pcyc ∧
        s.lastOf l ≤ 65535 then some l else none

/-- Replace the newest buffered copy of record `l` by `r`. -/
def replaceLast (l r : Record) (b : List (Bool × Record)) : List (Bool × Record) :=
  match b.reverse with
  | [] => []
  | (m, x) :: rest => if x = l then (rest.reverse) ++ [(m, r)] else b

/-- R461: REPEAT rises and LAST is set, in the buffer or in the Caddy ring. -/
def State.repeatRecord (s : State) (l : Record) : State :=
  let r := { l with repeats := min (l.repeats + 1) 65535, last := s.lastOf l }
  let s := { s with recorder := { s.recorder with lastRec := some r } }
  if l.recno = 0 then s.setBuffer (replaceLast l r s.recorder.buffer)
  else { s with recorder := { s.recorder with
    ring := s.recorder.ring.set (l.recno % Config.recRing) (some { r with cont := false, param := wrap 48 r.param }) } }

/-- A record enters the recorder (R461, R462, R464). -/
def State.enterRecord (s : State) (r : Record) : State :=
  match s.repeatsLast r with
  | some l => s.repeatRecord l
  | none =>
    if r.sev.isHigh then
      if s.sharedRoom r then s.bufferRecord false r
      else if reserveUsed s.recorder.buffer + r.entries ≤ Config.recReserve then s.bufferRecord true r
      else s.loseRecord r
    else
      let s := s.makeRoom r
      if s.sharedRoom r then s.bufferRecord false r else s.loseRecord r

/-- Write a record: its code (the class is bits [11:8], R459), the instance, the severity, and the values of PARAM with
their widths in bytes; more than six bytes bring a CONTINUED record, and bytes beyond twelve are cut (R460). -/
def State.record (s : State) (code inst : Nat) (sev : Severity) (params : List (Nat × Nat)) (injected : Bool := false) :
    State :=
  let r : Record :=
    { recno := 0, optime := s.opTime, repeats := 1, pcyc := s.pcyc, seq := wrap 32 s.img.seq
      source := code / 256 * 4096 + wrap 12 inst, code := code, sev := sev, injected := injected, last := 0
      param := wrap 96 (packParam params), cont := decide (6 < packWidth params) }
  s.enterRecord r

/-- A record the tables of R460 do not list: NOTE of the class of the item (R460). -/
def State.note (s : State) (cls inst : Nat) (params : List (Nat × Nat)) : State :=
  s.record (cls * 256 + 0xE0) inst .warning params

/-- A WRITE_REFUSED record (R460): the register address, the writing master and the reason. -/
def State.writeRefused (s : State) (addr master reason : Nat) : State :=
  s.record 0xF04 0 .warning [(4, addr), (1, master), (1, reason)]

/-- Put one numbered record into the Caddy ring, with its CONTINUED record when it has one (R460, R463). -/
def State.numberRecord (s : State) (r : Record) : State :=
  let n := s.reg REC.NEWEST.RECNO + 1
  let first := { r with recno := n, cont := false, param := wrap 48 r.param }
  let s := { s with recorder := { s.recorder with ring := s.recorder.ring.set (n % Config.recRing) (some first) } }
  let s := if r.cont then
      let c := { r with recno := n + 1, code := r.code / 256 * 256 + 0xFF, cont := false, param := r.param / 2 ^ 48
                        repeats := 1, last := 0 }
      ({ s with recorder := { s.recorder with
          ring := s.recorder.ring.set ((n + 1) % Config.recRing) (some c) } }).setReg REC.NEWEST.RECNO 0 (n + 1)
    else s.setReg REC.NEWEST.RECNO 0 n
  let s := match s.recorder.lastRec with
    | some l => if l = r then { s with recorder := { s.recorder with lastRec := some { l with recno := n } } } else s
    | none => s
  s.setReg REC.OLDEST.RECNO 0 (max 1 (s.reg REC.NEWEST.RECNO + 1 - Config.recRing))

/-- A cursor window is loaded with record `n` (R465): VALID, GONE, PENDING or NOT_YET. -/
def State.windowAt (s : State) (n : Nat) : Window :=
  let newest := s.reg REC.NEWEST.RECNO
  if newest < n then
    if s.recorder.buffer = [] then { state := 3, words := [] } else { state := 2, words := [] }
  else if n < s.reg REC.OLDEST.RECNO ∨ n = 0 then { state := 1, words := [] }
  else match s.recorder.ring.get (n % Config.recRing) with
    | some r =>
      let codew := r.code + r.sev.code * 2 ^ 12 + bn r.injected * 2 ^ 14
      { state := 0
        words := [r.recno, wrap 32 r.optime, wrap 16 (r.optime / 2 ^ 32) + wrap 16 r.repeats * 2 ^ 16, r.pcyc, r.seq,
          r.source + codew * 2 ^ 16, wrap 16 r.last + wrap 16 r.param * 2 ^ 16, wrap 32 (r.param / 2 ^ 16)] }
    | none => { state := 1, words := [] }

/-- A master's cursor loads its window; a PENDING result starts a flush (R465). -/
def State.loadWindow (s : State) (m n : Nat) : State :=
  let w := s.windowAt n
  let s := { s with recorder := { s.recorder with
    cursor := s.recorder.cursor.set m n, window := s.recorder.window.set m (some w) } }
  if w.state = 2 then s.startFlush else s

/-- A flush completes (R463): the records it covers, and those lost since, enter the ring; their entries are freed; PENDING
windows reload; a flush asked for meanwhile starts. -/
def State.finishFlush (s : State) : State :=
  let covered := (s.recorder.buffer.take s.recorder.flushCount).map Prod.snd
  let rest := s.recorder.buffer.drop s.recorder.flushCount
  let lost := (if s.recorder.lostOther = 0 then [] else [s.lostRecord .warning s.recorder.lostOther]) ++
    (if s.recorder.lostFault = 0 then [] else [s.lostRecord .fault s.recorder.lostFault])
  let s := s.each (covered ++ lost) State.numberRecord
  let s := s.setBuffer rest
  let again := s.recorder.flushAgain
  let s := { s with recorder := { s.recorder with flushCount := 0, flushAgain := false, lostFault := 0, lostOther := 0 } }
  let s := (s.setReg REC.STAT.FLUSHING 0 0).bumpReg REC.FLUSHES.COUNT 0
  let pend := s.recorder.window.filter (fun x => match x.2 with | some w => w.state == 2 | none => false)
  let s := s.each pend (fun s x => s.loadWindow x.1 (s.recorder.cursor.get x.1))
  if again then s.startFlush else s

/-- A flush that takes place as a whole before what follows it (R463, R488). -/
def State.flushNow (s : State) : State :=
  if s.flag REC.STAT.CADDY_FAIL then s
  else
    let s := if s.flag REC.STAT.FLUSHING then s.finishFlush else s
    let s := s.startFlush
    if s.flag REC.STAT.FLUSHING then s.finishFlush else s

/-! ### Retry budgets and the retirement map -/

/-- The key of an item in the occurrence histories. -/
def itemKey (kind index : Nat) : Nat := kind * 2 ^ 24 + index

/-- The map holds the item (R468). -/
def State.isRetired (s : State) (kind index : Nat) : Bool :=
  s.life.retired.any (fun e => e.kind == kind && e.index == index)

/-- The occurrences of an item within the last W of its kind (R467, in operating time). -/
def State.occWithin (s : State) (kind index : Nat) : List Nat :=
  (s.life.occ.get (itemKey kind index)).filter
    (fun t => decide (s.opTime ≤ t + 1000 * s.reg LIFE.WINDOWk.W (kind - 1)))

/-- The item enters the retirement map with a RETIRED record, or a pending clear of it is cancelled with a CLEAR_CANCELLED
record (R467, R473). `cls` and `inst` name the source class and instance of the item. -/
def State.retireItem (s : State) (kind index cls inst code : Nat) : State :=
  match s.life.retired.find? (fun e => e.kind == kind && e.index == index) with
  | some e =>
    if e.clearPending then
      let m := s.life.retired.map
        (fun x => if x.kind = kind ∧ x.index = index then { x with clearPending := false } else x)
      ({ s with life := { s.life with retired := m } }).record (cls * 256 + 0xF1) inst .warning [(1, kind), (2, index)]
    else s
  | none =>
    let e : RetEntry := { kind := kind, index := index, optime := s.opTime, pcyc := s.pcyc, code := code
                          clearPending := false }
    let s := { s with life := { s.life with retired := s.life.retired ++ [e] } }
    let s := (s.addReg LIFE.RETCNTk.COUNT (kind - 1) 1).lifeAdd 0x157 1
    s.record (cls * 256 + 0xF0) inst .fault [(1, kind), (2, index), (1, s.reg LIFE.BUDGETk.N (kind - 1))]

/-- An occurrence against the retry budget of an item (R467) enters its history. -/
def State.occurs (s : State) (kind index : Nat) : State :=
  { s with life := { s.life with occ := s.life.occ.set (itemKey kind index) (s.opTime :: s.occWithin kind index) } }

/-- The occurrence at hand is permanent: it brings the count within W to N (R467). -/
def State.permanent (s : State) (kind index : Nat) : Bool :=
  decide (s.reg LIFE.BUDGETk.N (kind - 1) ≤ (s.life.occ.get (itemKey kind index)).length)

/-- An occurrence counted in its history and in lifetime counter `ctr` (R470). -/
def State.occur (s : State) (kind index ctr : Nat) : State := (s.occurs kind index).lifeAdd ctr 1

/-! ### Degradation causes and the mode -/

/-- A cause bit of SYS.DEGRADED is set or cleared (R479); the mode follows in `settleMode`. -/
def State.setCause (s : State) (bit : Nat) (b : Bool) : State :=
  s.setReg SYS.DEGRADED.CAUSES 0 (putField bit 1 (s.reg SYS.DEGRADED.CAUSES) (bn b))

/-- The dwell of a firmware part on trial or probation starts again from now (R445). -/
def State.restartDwell (s : State) (p : Nat) : State :=
  if (s.reg UPD.STAT.STATE = 4 ∨ s.reg UPD.STAT.STATE = 6) ∧ s.reg UPD.STAT.PART = p then
    { s with upd := { s.upd with dwellAt := s.now + 1 } }
  else s

/-- The modes in which a RUNTIME on trial counts its dwell (R445). -/
def Mode.dwells : Mode → Bool
  | .standby | .active | .degraded | .hold | .service => true
  | _ => false

/-- Change the safety unit's own state. -/
def State.updSafe (s : State) (f : SafeSt → SafeSt) : State := { s with safe := f s.safe }

/-- Change a safety output. -/
def State.updOut (s : State) (j : Nat) (f : OutDyn → OutDyn) : State := s.updSafe (fun x => { x with out := x.out.upd j f })

/-- Every safety output opens (R334, R335, R364). -/
def State.safeOff (s : State) : State := s.each [0, 1, 2, 3] (fun s j => s.updOut j (fun o => { o with on := false, testAt := 0, pulseEnd := 0, dueOn := false }))

/-- The unit changes mode with a MODE_CHANGE record (R476, R460); outside the ACTIVE role its safety outputs are off (R347,
R364); with the end of BOOT the registers show what lies outside again (R19). SYS.MODE and PAIR.STAT.ROLE show the mode fields of State
(`State.live`). -/
def State.enterMode (s : State) (m : Mode) : State :=
  if s.mode = m then s else
  let old := s.mode
  let s := { s with mode := m, prevMode := old }
  let s := if old = .boot then s.showOutside else s
  let s := if old.dwells = m.dwells then s else s.restartDwell 0
  let s := if m = .sync then s else s.setReg PAIR.STAT.SYNCWHY 0 0
  let s := if s.isActive then s else s.safeOff
  s.record 0xF05 0 .info [(1, old.code), (1, m.code), (2, s.reg SYS.DEGRADED.CAUSES), (1, s.reg PAIR.STAT.SYNCWHY),
    (1, s.reg SYS.HALTWHY.WHY)]

/-- The unit enters SYNC for a reason (R243). -/
def State.enterSync (s : State) (why : Nat) : State :=
  let s := s.setReg PAIR.STAT.SYNCWHY 0 why
  let s := s.enterMode .sync
  s.setReg PAIR.STAT.SYNCWHY 0 why

/-- R479: ACTIVE with no cause, DEGRADED with one; the other modes stay. -/
def State.settleMode (s : State) : State :=
  if s.mode = .active ∧ s.reg SYS.DEGRADED.CAUSES ≠ 0 then s.enterMode .degraded
  else if s.mode = .degraded ∧ s.reg SYS.DEGRADED.CAUSES = 0 then s.enterMode .active
  else s

/-- A cause arises or goes, and the mode follows at once (R479). -/
def State.cause (s : State) (bit : Nat) (b : Bool) : State := (s.setCause bit b).settleMode

end Sys2Proof.Machine
end

