-- ==== Sys2Proof/Machine/PhaseOps.lean ====
section
/-! DEFINITION. Reading the phase bases (R22 to R25, R40, R44, R47): the value of each base at the present instant. -/

namespace Sys2Proof.Machine

/-- State codes of BASEn_STATUS.STATE (R52). -/
def BaseState.invalid : Nat := 0
def BaseState.acquiring : Nat := 1
def BaseState.locked : Nat := 2
def BaseState.holdover : Nat := 3
def BaseState.unlocked : Nat := 4
def BaseState.fault : Nat := 5
def BaseState.notFitted : Nat := 6
def BaseState.unused : Nat := 7

/-- The part of a slew in progress that has been applied after `dt` quarter nanoseconds. -/
def slewApplied (left : Int) (pace dt : Nat) : Int :=
  if left < 0 then -(min (-left) (pace * dt : Int)) else min left (pace * dt : Int)

/-- A time base (R22, R25): the anchor plus its rate since, in 2^-32 ns. -/
def State.timeRaw (s : State) (n : Nat) : Nat :=
  let b := s.phase.base.get n
  let dt := s.now - b.anchorT
  let rate : Int := toSigned 32 (s.reg PHASE.BASEn_RATE.RATE n)
  let adv := floorDiv ((dt : Int) * ((2 : Int) ^ 40 + rate)) (2 ^ 10)
  ofSigned 96 ((b.anchor : Int) + adv + slewApplied b.slewLeft b.slewPace dt)

/-- A mains angle base (R39 to R42): the anchor plus the last measured frequency since, in 2^-64 turn. -/
def State.mainsRaw (s : State) (n : Nat) : Nat :=
  let b := s.phase.base.get n
  let dt := s.now - b.anchorT
  let adv : Int := (dt * b.freqMilliHz * 2 ^ 64 / (4 * 10 ^ 12) : Nat)
  ofSigned 96 ((b.anchor : Int) + adv + slewApplied b.slewLeft b.slewPace dt)

/-- The velocity estimate of an encoder (R44) as a fraction: counts, and quarter nanoseconds. -/
def EncSt.velocity (e : EncSt) : Int × Nat :=
  match e.hist.head?, e.hist.getLast? with
  | some o, some n => if e.stalled || decide (e.hist.length < 2) || decide (n.2 ≤ o.2) then (0, 1) else (n.1 - o.1, n.2 - o.2)
  | _, _ => (0, 1)

/-- The part of a tolerated Z mismatch absorbed so far (R43): over the next quarter turn after the Z edge. -/
def EncSt.absorbed (e : EncSt) (pos : Int) (cpt : Nat) : Int :=
  let moved := (pos - e.slewPos).natAbs
  if cpt < 4 then e.slewLeft else if cpt / 4 ≤ moved then e.slewLeft else e.slewLeft * (moved : Int) / ((cpt / 4 : Nat) : Int)

/-- The interpolated shaft angle (R44, R45): floor(est * 2^32 / CPT) + alignment, the estimate held 2^-32 count inside the count in which
the shaft is known to be. -/
def State.shaftVal (s : State) (n : Nat) : Nat :=
  let e := s.phase.enc.get (n - 8)
  let cpt := s.reg PHASE.ENCe_CFG.CPT (n - 8)
  let dt := s.now - e.edgeT
  let stall := s.reg PHASE.ENCe_STALL.STALL (n - 8) * 100000 * 4
  let v := if stall < dt then ((0 : Int), 1) else e.velocity
  if cpt = 0 then 0 else
  let den : Nat := v.2
  -- est in counts, times den
  let raw : Int := e.edgePos * (den : Int) + v.1 * (dt : Int)
  let hi : Int := floorDiv ((e.edgePos + 1) * 2 ^ 32 - 1) cpt
  let lo : Int := floorDiv ((e.edgePos - 1) * 2 ^ 32 + 1) cpt
  let val : Int := floorDiv (raw * 2 ^ 32) (den * cpt)
  let val := if e.dir = 1 then min val hi else if e.dir = 2 then max val lo else val
  ofSigned 64 (val + (e.alignment : Int) + e.absorbed e.edgePos cpt)

/-- The base of the port whose role is time MASTER: on it PB12 equals that base (R386, R388). -/
def State.canBase (s : State) : Option Nat :=
  ((List.range 4).find? (fun n => s.reg CAN.CTS_CFG.ROLE n == 1)).map (fun n => min 5 (s.reg CAN.CTS_CFG.BASE n))

/-- The base whose value a base shows: PB12 of a time master shows the master base (R388). -/
def State.masterOf (s : State) (n : Nat) : Nat := if n = 12 then s.canBase.getD 12 else n

/-- The value of PB0 to PB12 (R21). In FAULT the value holds (R44); before a base has its first value it holds what it has. -/
def State.plainVal (s : State) (n : Nat) : Nat :=
  let n := s.masterOf n
  let st := s.reg PHASE.BASEn_STATUS.STATE n
  if n = 0 then wrap 64 (s.now / 4)
  else if st = BaseState.invalid ∨ st = BaseState.notFitted ∨ st = BaseState.unused then
    (s.phase.base.get n).anchor / 2 ^ 32
  else if st = BaseState.acquiring ∧ (n < 8 ∨ n = 12) then (s.phase.base.get n).anchor / 2 ^ 32
  else if n ≤ 5 ∨ n = 12 then s.timeRaw n / 2 ^ 32
  else if n ≤ 7 then s.mainsRaw n / 2 ^ 32
  else if st = BaseState.fault then (s.phase.base.get n).anchor / 2 ^ 32
  else s.shaftVal n

/-- The value of a base; PB13 to PB15 follow their sources (R47, R48), at most three deep. -/
def State.baseValF : Nat → State → Nat → Nat
  | 0, s, n => s.plainVal n
  | k + 1, s, n =>
    if n < 13 then s.plainVal n
    else
      let v := n - 13
      let src := State.baseValF k s (s.reg PHASE.VIRTv_SRC.SRC v)
      let num := toSigned 32 (s.reg PHASE.VIRTv_NUM.NUM v)
      let den := s.reg PHASE.VIRTv_DEN.DEN v
      ofSigned 64 ((s.phase.virtOff.get v : Int) + floorDiv ((src : Int) * num) (max den 1))

/-- The 64-bit value of base `n` now (R22, R23). -/
def State.baseVal (s : State) (n : Nat) : Nat := State.baseValF 3 s n

/-- The optional unit a base needs is fitted (R21). -/
def State.baseFitted (s : State) (n : Nat) : Bool :=
  if n = 6 ∨ n = 7 then s.flag SYS.UNITS.ACS else if n = 12 then s.flag SYS.UNITS.CAN else true

/-- The state of one of PB0 to PB12: NOT_FITTED without its unit, whatever has been loaded (R21). -/
def State.ownState (s : State) (n : Nat) : Nat :=
  if s.baseFitted n then s.reg PHASE.BASEn_STATUS.STATE (s.masterOf n) else BaseState.notFitted

/-- The state of a base; a virtual base has the state of its source (R48). Before a structure image has given a virtual base a ratio
(DEN 0, which no image may hold, R47) it shows the reset value INVALID of R52. When a virtual base is UNUSED the manual does not say:
DESIGN CHOICE, it is UNUSED only when its source is (notes/assumptions/72.md). -/
def State.baseStateF : Nat → State → Nat → Nat
  | 0, s, n => s.ownState n
  | k + 1, s, n =>
    if n < 13 then s.ownState n
    else if s.reg PHASE.VIRTv_DEN.DEN (n - 13) = 0 then BaseState.invalid
    else State.baseStateF k s (s.reg PHASE.VIRTv_SRC.SRC (n - 13))

/-- The state of base `n`. -/
def State.baseState (s : State) (n : Nat) : Nat := State.baseStateF 3 s n

/-- The base lets events fire (R50): its state is not INVALID, ACQUIRING, NOT_FITTED or UNUSED. -/
def State.baseFires (s : State) (b : Nat) : Bool :=
  let st := s.baseState b
  st == BaseState.locked || st == BaseState.holdover || st == BaseState.unlocked || st == BaseState.fault

/-- The base leaves INVALID or ACQUIRING for LOCKED as the state becomes `after` (R29). -/
def State.acquires (s : State) (b : Nat) (after : State) : Bool :=
  (s.baseState b == BaseState.invalid || s.baseState b == BaseState.acquiring) && after.baseState b == BaseState.locked

/-- 0 for a time base, 1 for an angle base; a virtual base has the kind of its source (R21, R48). -/
def State.baseKindF : Nat → State → Nat → Nat
  | 0, _, _ => 0
  | k + 1, s, n =>
    if n < 6 ∨ n = 12 then 0 else if n < 12 then 1
    else State.baseKindF k s (s.reg PHASE.VIRTv_SRC.SRC (n - 13))

def State.baseKind (s : State) (n : Nat) : Nat := State.baseKindF 4 s n

/-- The rate of a time base relative to the reference tick, in 2^-40 (R52): that of its master for PB12 of a time master, and for a virtual
base that of its source times the ratio, rounded down. DESIGN CHOICE as to the rounding (notes/assumptions/73.md). -/
def State.rateF : Nat → State → Nat → Int
  | 0, s, n => toSigned 32 (s.reg PHASE.BASEn_RATE.RATE (s.masterOf n))
  | k + 1, s, n =>
    if n < 13 then toSigned 32 (s.reg PHASE.BASEn_RATE.RATE (s.masterOf n))
    else
      let r := State.rateF k s (s.reg PHASE.VIRTv_SRC.SRC (n - 13))
      floorDiv (((2 : Int) ^ 40 + r) * toSigned 32 (s.reg PHASE.VIRTv_NUM.NUM (n - 13))) (s.reg PHASE.VIRTv_DEN.DEN (n - 13)) - 2 ^ 40

/-- The speed of an angle base in 2^-16 turn/s (R52); a virtual base turns at its source's speed times the ratio. -/
def State.speedF : Nat → State → Nat → Int
  | 0, s, n => toSigned 32 (s.reg PHASE.BASEn_SPEED.SPEED n)
  | k + 1, s, n =>
    if n < 13 then toSigned 32 (s.reg PHASE.BASEn_SPEED.SPEED n)
    else
      let v := State.speedF k s (s.reg PHASE.VIRTv_SRC.SRC (n - 13))
      floorDiv (v * toSigned 32 (s.reg PHASE.VIRTv_NUM.NUM (n - 13))) (s.reg PHASE.VIRTv_DEN.DEN (n - 13))

/-- The direction of an angle base (R52); a negative ratio turns it round. -/
def State.reverseF : Nat → State → Nat → Bool
  | 0, s, n => s.flag PHASE.BASEn_STATUS.DIR n
  | k + 1, s, n =>
    if n < 13 then s.flag PHASE.BASEn_STATUS.DIR n
    else State.reverseF k s (s.reg PHASE.VIRTv_SRC.SRC (n - 13)) != bitOf 31 (s.reg PHASE.VIRTv_NUM.NUM (n - 13))

/-- BASEn_RATE, BASEn_SPEED and BASEn_STATUS.DIR of a base (R52): an angle base has no rate, a time base no speed and no direction, and a
virtual base shows none of them while its source does not run. -/
def State.baseRate (s : State) (n : Nat) : Nat :=
  if s.baseKind n = 1 ∨ (13 ≤ n ∧ !s.baseFires n) then 0 else satSigned 32 (State.rateF 3 s n)
def State.baseSpeed (s : State) (n : Nat) : Nat :=
  if s.baseKind n = 0 ∨ (13 ≤ n ∧ !s.baseFires n) then 0 else satSigned 32 (State.speedF 3 s n)
def State.baseReverse (s : State) (n : Nat) : Bool :=
  s.baseKind n == 1 && (decide (n < 13) || s.baseFires n) && State.reverseF 3 s n

/-- The sub-nanosecond remainder of a time base in units of 0.25 ns (R25); 0 for an angle base and for a virtual base, whose
value R47 forms from whole nanoseconds (notes/assumptions/6.md). -/
def State.baseSub (s : State) (n : Nat) : Nat :=
  let n := s.masterOf n
  if n = 0 then s.now % 4
  else if n ≤ 5 ∨ n = 12 then bitField 30 2 (s.timeRaw n)
  else 0

/-- The epoch of a base (R27). -/
def State.baseEpoch (s : State) (n : Nat) : Nat := s.reg PHASE.BASEn_EPOCH.EPOCH n

/-- The state with its clock at an earlier instant. -/
def State.at (s : State) (t : Nat) : State := { s with now := t }

/-- A base is about to step or to take another epoch: what it is until now is kept for one second, for events of earlier instants
(R524). -/
def State.keepPastOf (s : State) (regs : Tab Nat) : State :=
  let p := s.phase
  let e : PhasePast := { until_ := s.now, base := p.base, enc := p.enc, virtOff := p.virtOff, regs := regs }
  if (p.past.getLast?.map (·.until_)) = some s.now then s
  else { s with phase := { p with past := p.past.filter (fun x => decide (s.now < x.until_ + sec 1)) ++ [e] } }

/-- As `keepPastOf`, with the registers as they stand. -/
def State.keepPast (s : State) : State := s.keepPastOf s.regs

/-- The bases as they stood at instant `t`, for the stamp of an event (R137, R138, R524): before a step that came later, the bases of
before that step. -/
def State.asOf (s : State) (t : Nat) : State :=
  match s.phase.past.find? (fun x => decide (t < x.until_)) with
  | some x => { s with now := t, regs := x.regs, phase := { s.phase with base := x.base, enc := x.enc, virtOff := x.virtOff } }
  | none => s.at t

end Sys2Proof.Machine
end

