-- ==== Sys2Proof/Machine/MirrorOps.lean ====
section
/-! DEFINITION. Sending on the mirror stream (R222 to R228): record numbers, shares of the mirror queue, lag and the bumpless
state as the active unit measures them. -/

namespace Sys2Proof.Machine

/-- The length of a record in the stream: the 16-byte header and the body (R222, R223). -/
def MBody.size : MBody → Nat
  | .hb .. => 16 + 16
  | .ack .. => 16 + 8
  | .commit .. => 16 + 8
  | .slot .. => 16 + 24
  | .line .. => 16 + 72
  | .grant _ => 16 + 4
  | .ingress _ l => 16 + 4 + 16 * l.length
  | .capture .. => 16 + 32
  | .force .. => 16 + 16
  | .taskst .. => 16 + 16
  | .regw .. => 16 + 8
  | .cellw .. => 16 + 8
  | .safety _ => 16 + 16
  | .time .. => 16 + 24
  | .step .. => 16 + 24
  | .resign .. => 16 + 8
  | .bulk .. => 16 + 8 + 1024
  | .struct .. => 16 + 1024

/-- The size of a share in bytes (R226). -/
def Share.size : Share → Nat
  | .sync => 262144 | .ingress => 524288 | .async => 655360 | .bulk => 131072

/-- Bytes of a share in use. -/
def State.shareUsed (s : State) (h : Share) : Nat :=
  ((s.pair.mq.filter (fun e => decide (e.share = h))).map (·.size)).sum

/-- PAIR.MQFILL.USED in KiB (R245). -/
def State.showFill (s : State) : State :=
  s.setReg PAIR.MQFILL.USED 0 (((s.pair.mq.map (·.size)).sum + 1023) / 1024)

/-- The share a record finds room in (R226): its own, or for ingress free room of the ASYNC share. -/
def State.roomFor (s : State) (h : Share) (n : Nat) : Option Share :=
  if s.shareUsed h + n ≤ h.size then some h
  else if h = .ingress ∧ s.shareUsed .async + n ≤ Share.async.size then some .async
  else none

/-- The tasks that lag (R228): more than 2 commits granted and not acknowledged as applied. -/
def State.taskLags (s : State) (t : Nat) : Bool :=
  decide (2 < (s.pair.mq.filter (fun e => e.task == some t)).length)

/-- The tasks of the mirror queue, each once. -/
def State.mqTasks (s : State) : List Nat := (s.pair.mq.filterMap (·.task)).dedup

/-- The age of the oldest unacknowledged record (R228). -/
def State.streamAge (s : State) : Nat :=
  match s.pair.mq.head? with
  | some e => s.now - e.sentAt
  | none => 0

/-- PAIR.LAG, LAGMAX and LAGMAPk from the mirror queue (R245). -/
def State.showLag (s : State) : State :=
  let lag := s.mqTasks.filter s.taskLags
  let s := (s.setReg PAIR.LAG.STREAM 0 (min (s.streamAge / us 1) 65535)).setReg PAIR.LAG.TASKS 0 lag.length
  let s := s.maxReg PAIR.LAGMAX.STREAM 0 (s.streamAge / us 1)
  let s := { s with pair := { s.pair with lagMax100 := max s.pair.lagMax100 (s.streamAge / us 1) } }
  s.each (List.range 8) (fun s k =>
    s.setReg PAIR.LAGMAPk.MAP k (((lag.filter (fun t => t / 32 == k)).map (fun t => 2 ^ (t % 32))).sum))

/-- The first condition of R228 that fails, as PAIR.STAT.NBWHY codes it; 0 when all hold. -/
def State.notBumplessWhy (s : State) : Nat :=
  if !s.partnerStandby then 1
  else if s.mqTasks.any s.taskLags then 2
  else if decide (Config.streamLagLimit < s.streamAge) then 3
  else 0

/-- The pair becomes NOT BUMPLESS at once for a reason (R228). -/
def State.notBumpless (s : State) (why : Nat) : State :=
  if s.flag PAIR.STAT.BUMPLESS then
    let s := (s.setReg PAIR.STAT.BUMPLESS 0 0).setReg PAIR.STAT.NBWHY 0 why
    (s.record 0x904 0 .info [(1, 0), (1, why)]).lifeAdd 0x14C 1
  else s.setReg PAIR.STAT.NBWHY 0 why

/-- The active unit judges the bumpless conditions (R228): a failing one acts at once, and when all hold again the 10 ms of
settling begin. Another unit is not bumpless and has no reason. -/
def State.judgeBumpless (s : State) : State :=
  if !s.isActive then (s.setReg PAIR.STAT.BUMPLESS 0 0).setReg PAIR.STAT.NBWHY 0 0
  else
    let s := s.showLag
    let why := s.notBumplessWhy
    if why ≠ 0 then s.notBumpless why
    else if s.flag PAIR.STAT.BUMPLESS || s.reg PAIR.STAT.NBWHY == 5 then s
    else ({ s with pair := { s.pair with okSince := s.now } }).setReg PAIR.STAT.NBWHY 0 5

/-- A SYNC acknowledgement timed out (R106, R228): NOT BUMPLESS, and the settling starts again. -/
def State.ackTimedOut (s : State) : State :=
  let s := s.notBumpless 4
  { s with pair := { s.pair with okSince := s.now } }

/-- A record takes the next number and its place in share `h` of the mirror queue. -/
def State.queueMirror (s : State) (h : Share) (body : MBody) (sync last bulk : Bool) (seq64 : Nat) (task : Option Nat) : State :=
  let m := wrap 32 (s.reg PAIR.MSEQ_SENT.MSEQ + 1)
  let s := s.setReg PAIR.MSEQ_SENT.MSEQ 0 m
  let s := s.emit (.mirror { sync := sync, last := last, bulk := bulk, mseq := m, seq64 := seq64, body := body })
  let e : MQEntry := { mseq := m, size := body.size, share := h, sentAt := s.now, task := if last then task else none }
  ({ s with pair := { s.pair with mq := s.pair.mq ++ [e] } }).showFill

/-- A record has found no room in any share (R226, R227): MQFILL.FULL is set, the pair is NOT BUMPLESS, and the standby must enter SYNC with
MIRROR OVERFLOW. How it is told the manual does not say: DESIGN CHOICE, the lost record takes its number, and a GRANT of that number
follows, a set that no standby has staged (R225; notes/assumptions/95.md). A partner in SYNC is owed a new transfer from the start. -/
def State.overflowMirror (s : State) : State :=
  let lost := wrap 32 (s.reg PAIR.MSEQ_SENT.MSEQ + 1)
  let s := (s.setReg PAIR.MSEQ_SENT.MSEQ 0 lost).queueMirror .sync (.grant lost) false true false 0 none
  let s := { s with pair := { s.pair with feedOwed := s.reg PAIR.PARTNER.MODE == Mode.sync.code } }
  (s.setReg PAIR.MQFILL.FULL 0 1).notBumpless 1

/-- Send one record to the partner (R222 to R226). With no stream there is nothing to send. An ingress record may take room of the ASYNC
share; one that finds no room overflows. -/
def State.sendMirror (s : State) (share : Share) (body : MBody) (sync : Bool := false) (last : Bool := true)
    (seq64 : Nat := 0) (task : Option Nat := none) (bulk : Bool := false) : State :=
  if !s.streaming then s
  else match s.roomFor share body.size with
    | none => s.overflowMirror
    | some h =>
      let s := if h = share then s else s.setReg PAIR.MQFILL.FULL 0 1
      s.queueMirror h body sync last bulk seq64 task

/-- A record outside the mirror queue: HB and ACK go in either direction (R223). -/
def State.sendPlain (s : State) (body : MBody) : State :=
  if !s.pair.linkUp then s
  else
    let m := wrap 32 (s.reg PAIR.MSEQ_SENT.MSEQ + 1)
    (s.setReg PAIR.MSEQ_SENT.MSEQ 0 m).emit
      (.mirror { sync := false, last := true, bulk := false, mseq := m, seq64 := 0, body := body })

/-- The run-time write of a register is mirrored (R230, R258). -/
def State.mirrorReg (s : State) (addr value : Nat) : State := s.sendMirror .async (.regw addr value)

end Sys2Proof.Machine
end

