-- ==== Sys2Proof/Machine/LeafOps.lean ====
section
/-! DEFINITION. The Leaf code and the protected memories (R273 to R285): columns, syndromes, words, flips, and the counting of
results. A word is kept as its 64 data bits and its syndrome at its own address, which fixes its check byte. -/

namespace Sys2Proof.Machine

/-! ### The code (R274 to R277) -/

/-- The columns of D0 to D63 (R275). -/
def dataColumns : List Nat :=
  [0x07, 0x0B, 0x0D, 0x0E, 0x13, 0x15, 0x16, 0x19, 0x1A, 0x1C, 0x23, 0x25, 0x26, 0x29, 0x2A, 0x2C] ++
  [0x31, 0x32, 0x34, 0x38, 0x43, 0x45, 0x46, 0x49, 0x4A, 0x4C, 0x51, 0x52, 0x54, 0x58, 0x61, 0x62] ++
  [0x64, 0x68, 0x70, 0x83, 0x85, 0x86, 0x89, 0x8A, 0x8C, 0x91, 0x92, 0x94, 0x98, 0xA1, 0xA2, 0xA4] ++
  [0xA8, 0xB0, 0xC1, 0xC2, 0xC4, 0xC8, 0xD0, 0xE0, 0x1F, 0x2F, 0x37, 0x3B, 0x3D, 0x3E, 0x4F, 0x57]

/-- The columns of A3 to A38 (R275). -/
def addrColumns : List Nat :=
  [0x5B, 0x5D, 0x5E, 0x67, 0x6B, 0x6D, 0x6E, 0x73, 0x75, 0x76, 0x79, 0x7A, 0x7C, 0x8F, 0x97, 0x9B, 0x9D, 0x9E] ++
  [0xA7, 0xAB, 0xAD, 0xAE, 0xB3, 0xB5, 0xB6, 0xB9, 0xBA, 0xBC, 0xC7, 0xCB, 0xCD, 0xCE, 0xD3, 0xD5, 0xD6, 0xD9]

/-- The XOR of the columns of the set bits of `n`. -/
def xorColumns (cols : List Nat) (n : Nat) : Nat :=
  (cols.zip (List.range cols.length)).foldl (fun acc x => if bitOf x.2 n then acc ^^^ x.1 else acc) 0

/-- The check byte of data stored at a word address (R274). -/
def leafEncode (data waddr : Nat) : Nat := xorColumns dataColumns data ^^^ xorColumns addrColumns waddr

/-- The mark of a poisoned word (R277). -/
def poisonSyn : Nat := 0xFE

/-- What the memory controller makes of a syndrome (R276). -/
inductive LeafResult where
  | clean
  | corrected (flip : Nat)
  | addressFault
  | poisoned
  | uncorrectable
  deriving DecidableEq, Repr, Inhabited

/-- R276: the result of a syndrome; a correction names the data bits to invert. -/
def leafDecode (syn : Nat) : LeafResult :=
  if syn = 0 then .clean
  else if syn = poisonSyn then .poisoned
  else match dataColumns.findIdx? (fun c => c == syn) with
    | some i => .corrected (2 ^ i)
    | none =>
      if [1, 2, 4, 8, 16, 32, 64, 128].contains syn then .corrected 0
      else if addrColumns.contains syn then .addressFault
      else .uncorrectable

/-- The data a read delivers with that result carries poison (R276). -/
def LeafResult.poison : LeafResult → Bool
  | .clean | .corrected _ => false
  | _ => true

/-! ### Words -/

/-- The sizes of the memories in 64-bit words (R273). -/
def memWords (m : Nat) : Nat :=
  if m = 0 then 2 ^ 29 else if m = 1 then 2 ^ 20 else if m ≤ 5 then 2 ^ 18 else if m ≤ 21 then 2 ^ 13 else if m ≤ 37 then 2 ^ 14
  else 0

/-- The key of word `w` of memory `m`. -/
def cellKey (m w : Nat) : Nat := m * 2 ^ 36 + w

/-- The words of a memory that masters address: of DRAM all but the spare area, the 1 MiB at its top (R290). -/
def openWords (m : Nat) : Nat := if m = 0 then memWords 0 - 2 ^ 17 else memWords m

/-- The memory and the word of it at a physical word address, if a master finds one there. -/
def locate (waddr : Nat) : Option (Nat × Nat) :=
  ((List.range 38).find? (fun m => decide (Config.memBase m ≤ waddr ∧ waddr < Config.memBase m + openWords m))).map
    (fun m => (m, waddr - Config.memBase m))

/-- The physical word address of a word of a memory. -/
def physical (m w : Nat) : Nat := Config.memBase m + w

/-- Bytes 8 to 15 of a slot as one word (R55, R57). -/
def Slot.word1 (sl : Slot) : Nat :=
  wrap 32 sl.seq + wrap 16 sl.source * 2 ^ 32 + wrap 4 sl.qual * 2 ^ 48 + wrap 4 sl.detail * 2 ^ 52 + wrap 3 sl.type * 2 ^ 56 +
    bn sl.aged * 2 ^ 59 + bn sl.changed * 2 ^ 60 + bn sl.stamped * 2 ^ 61 + bn sl.mirrored * 2 ^ 62 + bn sl.flag7 * 2 ^ 63

/-- A slot from its two words. -/
def Slot.ofWords (w0 w1 : Nat) : Slot :=
  { value := wrap 64 w0, seq := wrap 32 w1, source := bitField 32 16 w1, qual := bitField 48 4 w1, detail := bitField 52 4 w1
    type := bitField 56 3 w1, aged := bitOf 59 w1, changed := bitOf 60 w1, stamped := bitOf 61 w1, mirrored := bitOf 62 w1
    flag7 := bitOf 63 w1 }

/-- Words of the Tray's committed image, and of both image copies (R75). -/
def trayImageWords : Nat := 2 ^ 18

/-- What the second word of an unused identity's committed slot holds beside zero bytes: quality BAD (R54). -/
def State.unusedMark (s : State) (w : Nat) : Nat :=
  if w < trayImageWords ∧ w % 2 = 1 ∧ (s.img.dir.get (w / 2)).isNone then Quality.bad * 2 ^ 48 else 0

/-- The first word of the capture queue area, and its words (R75, R102): 16,384 entries of 32 bytes. -/
def trayCaptureWord : Nat := 0x60_0000 / 8
def trayCaptureWords : Nat := 4 * Config.cqSize

/-- Word `k` of a capture queue entry (R73). -/
def CapEntry.word (e : CapEntry) (k : Nat) : Nat :=
  match k with
  | 0 => wrap 64 e.seq64
  | 1 => wrap 64 e.stamp
  | 2 => wrap 17 e.signal + wrap 16 e.epoch * 2 ^ 32 + wrap 4 e.base * 2 ^ 48 + wrap 2 e.subNs * 2 ^ 52 + bn e.late * 2 ^ 56 +
      bn e.queueLoss * 2 ^ 57 + bn e.measure * 2 ^ 58
  | _ => wrap 16 e.source

/-- The entry whose words are those of `e`, but for word `k`, which is `v`. -/
def CapEntry.withWord (e : CapEntry) (k v : Nat) : CapEntry :=
  match k with
  | 0 => { e with seq64 := v }
  | 1 => { e with stamp := v }
  | 2 => { e with signal := wrap 17 v, epoch := bitField 32 16 v, base := bitField 48 4 v, subNs := bitField 52 2 v, late := bitOf 56 v
                  queueLoss := bitOf 57 v, measure := bitOf 58 v }
  | _ => { e with source := wrap 16 v }

/-- The place in the queue of the entry a word of the capture area belongs to (R102): the entry with absolute number n lies at place
n mod 16,384. DESIGN CHOICE as to the place (notes/assumptions/80.md). -/
def State.captureIndex (s : State) (w : Nat) : Option Nat :=
  let slot := (w - trayCaptureWord) / 4
  let i := (slot + Config.cqSize - s.img.cqFirst % Config.cqSize) % Config.cqSize
  if trayCaptureWord ≤ w ∧ w < trayCaptureWord + trayCaptureWords ∧ i < s.img.cq.length then some i else none

/-- The stored data bits of a word: the image copies show the slots, the capture queue area its entries (R75, R102), every other word the
memory table (R280). -/
def State.dataAt (s : State) (m w : Nat) : Nat :=
  if m = 1 ∧ w < 2 * trayImageWords then
    let sl := if w < trayImageWords then s.img.slots.get (w / 2) else s.img.working.get (w % trayImageWords / 2)
    if w % 2 = 0 then sl.value else sl.word1 ^^^ s.unusedMark w
  else match (if m = 1 then s.captureIndex w else none) with
    | some i => (s.img.cq.getD i default).word (w % 4)
    | none => s.leaf.data.get (cellKey m w)

/-- The stored data bits of a word change. -/
def State.putData (s : State) (m w v : Nat) : State :=
  if m = 1 ∧ w < 2 * trayImageWords then
    let g := w % trayImageWords / 2
    let f : Slot → Slot := fun sl => if w % 2 = 0 then Slot.ofWords v sl.word1 else Slot.ofWords sl.value (v ^^^ s.unusedMark w)
    if w < trayImageWords then { s with img := { s.img with slots := s.img.slots.upd g f } }
    else { s with img := { s.img with working := s.img.working.upd g f } }
  else match (if m = 1 then s.captureIndex w else none) with
    | some i => { s with img := { s.img with cq := s.img.cq.modify i (fun e => e.withWord (w % 4) (wrap 64 v)) } }
    | none => { s with leaf := { s.leaf with data := s.leaf.data.set (cellKey m w) (wrap 64 v) } }

/-- The syndrome of a word. -/
def State.synAt (s : State) (m w : Nat) : Nat := s.leaf.syn.get (cellKey m w)

/-- The syndrome of a word changes. -/
def State.putSyn (s : State) (m w syn : Nat) : State :=
  { s with leaf := { s.leaf with syn := s.leaf.syn.set (cellKey m w) (wrap 8 syn) } }

/-- The data a read delivers (R276). -/
def State.wordAt (s : State) (m w : Nat) : Nat :=
  match leafDecode (s.synAt m w) with
  | .corrected f => s.dataAt m w ^^^ f
  | _ => s.dataAt m w

/-- The word carries poison for a reader (R276, R277). -/
def State.poisonAt (s : State) (m w : Nat) : Bool := (leafDecode (s.synAt m w)).poison

/-! ### Flips (R284, R285) -/

/-- The word address a flip register set aims at. -/
def State.flipTarget (s : State) (m : Nat) : Nat :=
  s.reg LEAF.FLIPm_TGT_LO.ADDR m + s.reg LEAF.FLIPm_TGT_HI.ADDR m * 2 ^ 32

/-- The address flip field. -/
def State.flipAddr (s : State) (m : Nat) : Nat :=
  s.reg LEAF.FLIPm_AF_LO.MASK m + s.reg LEAF.FLIPm_CTRL.AFHI m * 2 ^ 32

/-- The data flip mask. -/
def State.flipData (s : State) (m : Nat) : Nat :=
  s.reg LEAF.FLIPm_D_LO.MASK m + s.reg LEAF.FLIPm_D_HI.MASK m * 2 ^ 32

/-- Errors strike a stored word: data bits, check bits, and the address its check byte was formed for. -/
def State.strike (s : State) (m w dmask cmask amask : Nat) : State :=
  let s' := s.putData m w (s.dataAt m w ^^^ wrap 64 dmask)
  s'.putSyn m w (s.synAt m w ^^^ xorColumns dataColumns dmask ^^^ wrap 8 cmask ^^^ xorColumns addrColumns amask)

/-- A write has reached a word (R285): an armed flip that aims at it acts, disarms, sets DONE, and the target enters the list of
the last 64. -/
def State.actFlip (s : State) (m w : Nat) : State :=
  if s.flag LEAF.FLIPm_CTRL.ARM m && decide (s.flipTarget m = physical m w) then
    let s := s.strike m w (s.flipData m) (s.reg LEAF.FLIPm_CTRL.CHK m) (s.flipAddr m)
    let s := (s.setReg LEAF.FLIPm_CTRL.ARM m 0).setReg LEAF.FLIPm_CTRL.DONE m 1
    let s := { s with leaf := { s.leaf with flips := (cellKey m w :: s.leaf.flips.filter (fun k => k != cellKey m w)).take 64 } }
    s.note 5 m [(4, physical m w)]
  else s

/-- A full write of a word has put its data in place (R283): fresh check bits, or the mark of poison that travels with the word (R281), and
the word is out of the flip list; then a flip may act. -/
def State.landWord (s : State) (m w : Nat) (mark : Bool := false) : State :=
  let s := s.putSyn m w (if mark then poisonSyn else 0)
  let s := { s with leaf := { s.leaf with flips := s.leaf.flips.filter (fun k => k != cellKey m w) } }
  s.actFlip m w

/-- A full 64-bit write (R283). -/
def State.writeWord (s : State) (m w v : Nat) : State := (s.putData m w v).landWord m w

/-- A word is written with the mark of poison (R277, R281). -/
def State.writePoison (s : State) (m w v : Nat) : State := (s.putData m w v).landWord m w true

/-- A word is written as it came, with its mark at bit 64 (R281). -/
def State.writeMarked (s : State) (m w v : Nat) : State := (s.putData m w (wrap 64 v)).landWord m w (bitOf 64 v)

/-- Consecutive words are written. -/
def State.writeWords (s : State) (m w : Nat) (l : List Nat) : State :=
  s.each (l.zip (List.range l.length)) (fun s x => s.writeMarked m (w + x.2) x.1)

/-- The word as a read delivers it and a copy carries it on: corrected, with its poison at bit 64 (R278, R281). -/
def State.markedWord (s : State) (m w : Nat) : Nat := wrap 64 (s.wordAt m w) + bn (s.poisonAt m w) * 2 ^ 64

/-- `v` replaces the bytes of `old` that `mask` (8 bits) names. -/
def mergeBytes (old v mask : Nat) : Nat :=
  ((List.range 8).map (fun i => (if bitOf i mask then bitField (8 * i) 8 v else bitField (8 * i) 8 old) * 2 ^ (8 * i))).sum

/-! ### Counting results (R279) -/

/-- The word holds an injected error (R285). -/
def State.injected (s : State) (m w : Nat) : Bool := s.leaf.flips.contains (cellKey m w)

/-- A result other than CLEAN and POISONED is counted and recorded (R279): counters, LASTERR, LASTADDR, LASTSYN, the record, and the
lifetime counter unless the error was injected. `master` is the reader, 0x3F the scrubber. -/
def State.countResult (s : State) (m w master kind : Nat) : State :=
  let inj := s.injected m w
  let a := physical m w
  let syn := s.synAt m w
  let s := match kind with
    | 1 => (s.addReg LEAF.MEMm_CORR.COUNT m 1).setReg LEAF.STAT.CORR_SEEN 0 1
    | 2 => (s.addReg LEAF.MEMm_UNC.COUNT m 1).setReg LEAF.STAT.UNC_SEEN 0 1
    | _ => (s.addReg LEAF.MEMm_ADDRF.COUNT m 1).setReg LEAF.STAT.ADDRF_SEEN 0 1
  let s := ((s.setReg LEAF.LASTERR.MEM 0 m).setReg LEAF.LASTERR.KIND 0 kind).setReg LEAF.LASTERR.MASTER 0 master
  let s := (s.setFlag LEAF.LASTERR.INJECTED 0 inj).setReg LEAF.LASTADDR_LO.ADDR 0 a
  let s := (s.setReg LEAF.LASTADDR_HI.ADDR 0 (a / 2 ^ 32)).setReg LEAF.LASTSYN.SYN 0 syn
  let s := if inj then s else s.lifeAdd ((kind - 1) * 0x28 + m) 1
  s.record (0x500 + kind) (m + master * 64) (if kind = 1 then .info else .fault) [(6, wrap 36 a + syn * 2 ^ 36)] inj

/-- The code of a result in LASTERR.KIND; 0 for CLEAN and POISONED. -/
def LeafResult.kind : LeafResult → Nat
  | .corrected _ => 1
  | .uncorrectable => 2
  | .addressFault => 3
  | _ => 0

/-- A read meets a word: its result is counted when it is an error (R279). -/
def State.noteRead (s : State) (m w master : Nat) : State :=
  let k := (leafDecode (s.synAt m w)).kind
  if k = 0 then s else s.countResult m w master k

/-! ### Slots as words of the Tray -/

/-- The two words of a committed slot carry poison. -/
def State.slotPoison (s : State) (sig : Nat) : Bool × Bool := (s.poisonAt 1 (2 * sig), s.poisonAt 1 (2 * sig + 1))

/-- The committed slot as a read delivers it, single-bit errors corrected (R276, R278). -/
def State.slotRead (s : State) (sig : Nat) : Slot :=
  if s.synAt 1 (2 * sig) = 0 ∧ s.synAt 1 (2 * sig + 1) = 0 then s.img.slots.get sig
  else Slot.ofWords (s.wordAt 1 (2 * sig)) (s.wordAt 1 (2 * sig + 1))

/-- A read of a committed slot by a master counts the results of its words (R279). -/
def State.noteSlot (s : State) (sig master : Nat) : State := (s.noteRead 1 (2 * sig) master).noteRead 1 (2 * sig + 1) master

/-- The poison of a committed slot as a mask of its words. -/
def State.slotMarks (s : State) (sig : Nat) : Nat := let p := s.slotPoison sig; bn p.1 + 2 * bn p.2

/-- A write of a committed slot has reached the Tray: fresh check bits for both words, or the poison that `marks` carries with them (R281),
and flips. -/
def State.landSlot (s : State) (sig : Nat) (marks : Nat := 0) : State :=
  (s.landWord 1 (2 * sig) (bitOf 0 marks)).landWord 1 (2 * sig + 1) (bitOf 1 marks)

/-- The first word of a signal's working slot (R75). -/
def workWord (sig : Nat) : Nat := trayImageWords + 2 * sig

/-- A working slot as the commit engine reads it, single-bit errors corrected (R278). -/
def State.workRead (s : State) (sig : Nat) : Slot :=
  if s.synAt 1 (workWord sig) = 0 ∧ s.synAt 1 (workWord sig + 1) = 0 then s.img.working.get sig
  else Slot.ofWords (s.wordAt 1 (workWord sig)) (s.wordAt 1 (workWord sig + 1))

/-- The poison of a working slot as a mask of its words. -/
def State.workMarks (s : State) (sig : Nat) : Nat := bn (s.poisonAt 1 (workWord sig)) + 2 * bn (s.poisonAt 1 (workWord sig + 1))

/-- A read of a working slot by a master counts the results of its words (R279). -/
def State.noteWork (s : State) (sig master : Nat) : State := (s.noteRead 1 (workWord sig) master).noteRead 1 (workWord sig + 1) master

/-! ### The other areas of the Tray (R75) -/

/-- Words that hold what a write has just put there have been written: fresh check bits or the marks of `marks`, and flips. -/
def State.landWords (s : State) (m w n marks : Nat) : State :=
  s.each (List.range n) (fun s i => s.landWord m (w + i) (bitOf i marks))

/-- The first word of the capture queue entry with absolute number `n` (R102). -/
def captureWord (n : Nat) : Nat := trayCaptureWord + 4 * (n % Config.cqSize)

/-- The poison of a capture queue entry as a mask of its words. -/
def State.captureMarks (s : State) (n : Nat) : Nat := ((List.range 4).map (fun k => bn (s.poisonAt 1 (captureWord n + k)) * 2 ^ k)).sum

/-- A capture queue entry as a read delivers it, single-bit errors corrected (R278). -/
def State.captureRead (s : State) (n : Nat) (e : CapEntry) : CapEntry :=
  (List.range 4).foldl (fun e k => if s.synAt 1 (captureWord n + k) = 0 then e else e.withWord k (s.wordAt 1 (captureWord n + k))) e

/-- A read of a capture queue entry counts the results of its words (R279). -/
def State.noteCapture (s : State) (n master : Nat) : State :=
  s.each (List.range 4) (fun s k => s.noteRead 1 (captureWord n + k) master)

/-- The first words of the directory, the force table and the CAN port area (R75). -/
def trayDirWord : Nat := 0x40_0000 / 8
def trayForceWord : Nat := 0x50_0000 / 8
def trayCanWord : Nat := 0x54_0000 / 8

/-- A directory entry as the word of its identity (R54, R75): type, mirrored, stamp base, remote-operable, safety, in use, owner and
staleness limit. The manual gives its size and not its bits: DESIGN CHOICE (notes/assumptions/80.md). -/
def DirEntry.word (d : DirEntry) : Nat :=
  wrap 3 d.type + bn d.mirrored * 2 ^ 3 + (match d.stampBase with | some b => 2 ^ 4 + wrap 4 b * 2 ^ 5 | none => 0) + bn d.remoteOp * 2 ^ 9 +
    bn d.safety * 2 ^ 10 + 2 ^ 15 + wrap 16 d.owner * 2 ^ 16 + wrap 16 d.staleMs * 2 ^ 32

/-- A force's entry as the words of its place (R75, R81, R82): RAW's value, RAW's sequence, the signal with RAW's quality and the
port, the forced value. The manual gives its size and not its bits: DESIGN CHOICE (notes/assumptions/80.md). -/
def Force.words (f : Force) (sig : Nat) : List Nat :=
  [wrap 64 f.rawValue, wrap 64 f.rawSeq,
   wrap 17 sig + wrap 4 f.rawQual * 2 ^ 32 + wrap 4 f.rawDetail * 2 ^ 36 + wrap 2 f.port * 2 ^ 40 + 2 ^ 63, wrap 64 f.value]

/-- The first word of a place in the force table. -/
def forceWord (place : Nat) : Nat := trayForceWord + 4 * place

/-- The lowest free place of the force table. -/
def State.freePlace (s : State) : Nat :=
  let used := s.img.forces.filterMap (fun x => x.2.map (·.place))
  ((List.range (used.length + 1)).find? (fun p => !used.contains p)).getD 0

/-- A force's entry is written, the words of RAW's value and quality with their poison (`marks`, R281). -/
def State.putForce (s : State) (sig : Nat) (f : Force) (marks : Nat := 0) : State :=
  let l := f.words sig
  let l := (l.zip (List.range 4)).map (fun x => x.1 + (if x.2 = 0 then bn (bitOf 0 marks) else if x.2 = 2 then bn (bitOf 1 marks) else 0) * 2 ^ 64)
  ({ s with img := { s.img with forces := s.img.forces.set sig (some f) } }).writeWords 1 (forceWord f.place) l

/-- A force's entry leaves the table. -/
def State.freeForce (s : State) (sig : Nat) : State :=
  match s.img.forces.get sig with
  | none => s
  | some f => ({ s with img := { s.img with forces := s.img.forces.set sig none } }).writeWords 1 (forceWord f.place) [0, 0, 0, 0]

/-- RAW as a read of the table delivers it (R82, R278). -/
def State.rawRead (s : State) (f : Force) : Force :=
  let w := fun k => s.wordAt 1 (forceWord f.place + k)
  { f with rawValue := w 0, rawSeq := w 1, rawQual := bitField 32 4 (w 2), rawDetail := bitField 36 4 (w 2) }

/-- The poison of RAW as a mask of the words of a slot. -/
def State.rawMarks (s : State) (f : Force) : Nat :=
  bn (s.poisonAt 1 (forceWord f.place)) + 2 * bn (s.poisonAt 1 (forceWord f.place + 2))

/-- A read of RAW counts the results of its words (R279). -/
def State.noteRaw (s : State) (f : Force) (master : Nat) : State :=
  s.each [0, 1, 2] (fun s k => s.noteRead 1 (forceWord f.place + k) master)

/-- The directory is written (R54): one word for every identity in use, 0 for those no longer in use. -/
def State.writeDirectory (s : State) (dir : Tab (Option DirEntry)) : State :=
  let gone := s.img.dir.keys.filter (fun g => (dir.get g).isNone)
  let s := { s with img := { s.img with dir := dir } }
  let s := s.each gone (fun s g => s.writeWord 1 (trayDirWord + g) 0)
  s.each dir (fun s x => match x.2 with
    | some d => s.writeWord 1 (trayDirWord + x.1) d.word
    | none => s)

end Sys2Proof.Machine
end

