-- ==== Sys2Proof/Machine/ImageOps.lean ====
section
/-! DEFINITION. The signal image (R54 to R86): numbers, normalisation, slot and RAW writes, captures, ingress deliveries,
source sequences and forces. -/

namespace Sys2Proof.Machine

/-- A number as little-endian bytes. -/
def leBytes (w v : Nat) : List Nat := (List.range w).map (fun i => bitField (8 * i) 8 v)

/-- A number from little-endian bytes. -/
def ofBytes (l : List Nat) : Nat := (l.zip (List.range l.length)).map (fun x => wrap 8 x.1 * 2 ^ (8 * x.2)) |>.sum

/-- One byte into the reflected CRC-32 of IEEE 802.3 (R187). -/
def crc32Byte (c b : Nat) : Nat :=
  (List.range 8).foldl (fun c _ => if c % 2 = 1 then (c / 2) ^^^ 0xEDB88320 else c / 2) (c ^^^ wrap 8 b)

/-- The CRC-32 of IEEE 802.3 (R187): initial and final value all ones. -/
def crc32 (l : List Nat) : Nat := l.foldl crc32Byte 0xFFFFFFFF ^^^ 0xFFFFFFFF

/-- SHAKE256 over some bytes, its first byte lowest. A closing 1 tells contents apart that differ only in zero bytes at their end. -/
def digestOf (l : List Nat) : Nat := Config.digest (ofBytes (l ++ [1]))

/-- The width in bytes of a signal's field in a frame (R375). -/
def fieldBytes (type : Nat) : Nat := if type = 0 then 1 else if type ≤ 3 then 4 else 8

/-- The type of a signal. -/
def State.sigType (s : State) (g : Nat) : Nat := match s.img.dir.get g with | some d => d.type | none => 0

/-- The instants of the last 10 µs at which numbers were issued, with how many (R63). -/
def State.recentIssue (s : State) : Tab Nat := s.img.issued.filter (fun x => decide (s.now < x.1 + us 10))

/-- R63: 5 × 10^8 numbers per second, averaged over any 10 µs: fewer than 5,000 have been issued in the last 10 µs. -/
def State.rateFree (s : State) : Bool := decide ((s.recentIssue.map Prod.snd).sum < 5000)

/-- The grant unit issues `k` consecutive numbers (R62 to R64): the first is one above the current module sequence. -/
def State.grantSeq (s : State) (k : Nat) : Nat × State :=
  (wrap 64 (s.img.seq + 1),
   { s with img := { s.img with seq := wrap 64 (s.img.seq + k), issued := s.recentIssue.upd s.now (fun n => n + k) } })

/-- R56: the bits the type does not use are normalised on every write. -/
def normalise (type value : Nat) : Nat :=
  match type with
  | 0 => if wrap 64 value = 0 then 0 else 1
  | 1 => ofSigned 64 (toSigned 32 value)
  | 2 => wrap 32 value
  | 3 => wrap 32 value
  | _ => wrap 64 value

/-- An invalid quality code is replaced by BAD, detail 0x9 (R58, R76); a valid code keeps its detail. -/
def cleanQuality (qual detail : Nat) : Nat × Nat :=
  if 7 ≤ qual then (Quality.bad, 9) else (qual, detail)

/-- The detail a task may write: 0x8 to 0xF are assigned only by the module (R58). What becomes of such a detail in a task's slot the
manual does not say: DESIGN CHOICE, it is stored as 0, no reason given (notes/assumptions/79.md). -/
def taskDetail (detail : Nat) : Nat := if 8 ≤ detail then 0 else detail

/-- The rank of a quality from worst to best (R59). -/
def Quality.rank : Nat → Nat
  | 5 => 0 | 2 => 1 | 6 => 2 | 1 => 3 | 3 => 4 | 4 => 5 | 0 => 6 | _ => 1

/-- R59: the worse of two qualities; between equal codes a detail that is not 0 wins, and of two the lower. -/
def combineQuality (a b : Nat × Nat) : Nat × Nat :=
  if Quality.rank a.1 < Quality.rank b.1 then a
  else if Quality.rank b.1 < Quality.rank a.1 then b
  else if a.2 = 0 then b else if b.2 = 0 then a else (a.1, min a.2 b.2)

/-- The slot of a signal as readers see it; an unused identity reads zero bytes with quality BAD (R54). -/
def State.slotOf (s : State) (sig : Nat) : Slot :=
  match s.img.dir.get sig with
  | some _ => s.slotRead sig
  | none => { (default : Slot) with qual := Quality.bad }

/-- The task subscribes to the entry (R102): it follows the signal, or the cell the entry comes from. -/
def TaskCfg.follows (c : TaskCfg) (e : CapEntry) : Bool :=
  c.cqSigs.contains e.signal || (e.source / 4096 == 5 && c.cqCells.contains (e.source % 4096))

/-- Entries leave the ring (R102): a subscribing task that had not received one of them is owed a QUEUE_LOSS. -/
def State.overwrite (s : State) (lost : List CapEntry) : State :=
  let owed := fun (x : Nat × TaskCfg) =>
    (lost.zip (List.range lost.length)).any (fun e =>
      x.2.follows e.1 && decide ((s.tasks.task.get x.1).readPos ≤ s.img.cqFirst + e.2))
  { s with tasks := { s.tasks with
    task := (s.tasks.cfg.filter owed).foldl (fun m x => m.upd x.1 (fun d => { d with cqLoss := true })) s.tasks.task } }

/-- A capture entry enters the queue of 16,384 (R73, R102) as its four words; the active unit mirrors it (R223). -/
def State.pushCapture (s : State) (e : CapEntry) (marks : Nat := 0) : State :=
  let q := s.img.cq ++ [e]
  let excess := q.length - Config.cqSize
  let s := s.overwrite (q.take excess)
  let s := { s with img := { s.img with cq := q.drop excess, cqFirst := s.img.cqFirst + excess } }
  let s := s.landWords 1 (captureWord (s.img.cqFirst + s.img.cq.length - 1)) 4 marks
  s.sendMirror .ingress (.capture e marks) (seq64 := e.seq64)

/-- The capture entry of a time-stamped signal (R73, R524) for the event at instant `t`; a LATE firing is flagged (R36). -/
def State.stampEntry (s : State) (sig source seqNo base t : Nat) (late : Bool := false) : CapEntry :=
  let p := s.asOf t
  { seq64 := seqNo, stamp := p.baseVal base, signal := sig, epoch := p.baseEpoch base, base := base
    subNs := p.baseSub base, late := late, queueLoss := false, measure := false, source := source }

/-- The slot a write makes (R55 to R57): VALUE normalised, SEQ and SOURCE as given, FLAGS rebuilt against the version before it. -/
def State.builtSlot (s : State) (d : DirEntry) (sig source value qual detail seqNo : Nat) : Slot :=
  let old := s.slotRead sig
  let v := normalise d.type value
  let moved := decide (v ≠ old.value)
  { value := v, seq := wrap 32 seqNo, source := source, qual := qual, detail := detail, type := d.type, aged := false
    changed := moved || decide (qual ≠ old.qual ∨ detail ≠ old.detail), stamped := d.stampBase.isSome && moved, mirrored := d.mirrored
    flag7 := false }

/-- IMAGE.AGEDCNT shows how many slots are AGED (R67, R88). -/
def State.showAged (s : State) : State := s.setReg IMAGE.AGEDCNT.COUNT 0 (s.img.slots.filter (fun x => x.2.aged)).length

/-- A write of a committed slot (R55 to R57): VALUE normalised, FLAGS rebuilt, a capture entry when a time-stamped signal
changes its value (on a standby the queue comes through the mirror stream only, R231); the write clears AGED (R67), and poison but for the
marks that come with its words (R281). The event instant is `t`. -/
def State.writeSlot (s : State) (sig source value qual detail seqNo t : Nat) (late : Bool := false) (marks : Nat := 0) : State :=
  match s.img.dir.get sig with
  | none => s
  | some d =>
    let old := s.slotRead sig
    let moved := decide (normalise d.type value ≠ old.value)
    let new := s.builtSlot d sig source value qual detail seqNo
    let s := ({ s with img := { s.img with slots := s.img.slots.set sig new } }).landSlot sig marks
    let s := if old.aged then s.dropReg IMAGE.AGEDCNT.COUNT 0 else s
    match d.stampBase with
    | some b =>
      if moved && s.mode != .standby && s.mode != .sync then s.pushCapture (s.stampEntry sig source seqNo b t late) else s
    | none => s

/-- A write by the module itself under R58: always performed (R61); on a forced signal it goes to RAW (R84); a poisoned slot keeps its
poison until its owner's next write (R80). -/
def State.moduleWrite (s : State) (sig source value qual detail seqNo : Nat) : State :=
  match s.img.forces.get sig with
  | some f =>
    let v := match s.img.dir.get sig with | some d => normalise d.type value | none => value
    s.putForce sig { f with rawValue := v, rawQual := qual, rawDetail := detail, rawSeq := seqNo } (s.rawMarks f)
  | none => s.writeSlot sig source value qual detail seqNo s.now (marks := s.slotMarks sig)

/-- A write refused under R61: counted, with a record of the signal and the writer. -/
def State.ownerRefused (s : State) (sig source : Nat) : State :=
  (s.addReg IMAGE.OWNERR.COUNT 0 1).record 0xF06 0 .warning [(3, sig), (2, source)]

/-- The source may write the signal (R54, R61). -/
def State.owns (s : State) (sig source : Nat) : Bool :=
  match s.img.dir.get sig with
  | some d => decide (d.owner = source)
  | none => false

/-- A write of a signal under a granted number by a source that may write it (R76, R79, R82, R86): to RAW while the signal is forced, else
to the slot; an invalid quality becomes BAD, detail 0x9, and is counted; the first write after an on-line change dropped the force carries
source 0xF003 and detail 0xC. `marks`: the poison that comes with the two words (R281). -/
def State.acceptWrite (s : State) (sig source value qual detail seqNo t : Nat) (late : Bool := false) (marks : Nat := 0) : State :=
  let s := if 7 ≤ qual then s.addReg IMAGE.QUALERR.COUNT 0 1 else s
  let c := cleanQuality qual detail
  let s := { s with img := { s.img with lastWrite := s.img.lastWrite.set sig s.now } }
  match s.img.forces.get sig with
  | some f =>
    let v := match s.img.dir.get sig with | some d => normalise d.type value | none => value
    s.putForce sig { f with rawValue := v, rawQual := c.1, rawDetail := c.2, rawSeq := seqNo } marks
  | none =>
    if s.img.forceDropped.get sig then
      let s := { s with img := { s.img with forceDropped := s.img.forceDropped.set sig false } }
      s.writeSlot sig 0xF003 value c.1 0xC seqNo t late marks
    else s.writeSlot sig source value c.1 c.2 seqNo t late marks

/-- An owner's write under a granted number; another source's is refused (R61). -/
def State.ownerWrite (s : State) (sig source value qual detail seqNo t : Nat) (late : Bool := false) : State :=
  if !s.owns sig source then s.ownerRefused sig source else s.acceptWrite sig source value qual detail seqNo t late

/-- The mirrored signals of a delivery in runs of consecutive numbers, for INGRESS records (R223, R224). -/
def ingressRuns (mir : Nat → Bool) : Nat → List (Nat × Nat × Nat) → List (Nat × List (Nat × Nat × Nat))
  | _, [] => []
  | n, x :: l =>
    if !mir x.1 then ingressRuns mir (n + 1) l
    else match ingressRuns mir (n + 1) l with
      | (m, r) :: rest => if m = n + 1 then (n, x :: r) :: rest else (n, [x]) :: (m, r) :: rest
      | [] => [(n, [x])]

/-- The directory marks the signal as mirrored. -/
def State.isMirrored (s : State) (sig : Nat) : Bool :=
  match s.img.dir.get sig with
  | some d => d.mirrored
  | none => false

/-- The write of this source is performed (R61, R424): the module's own always, a command's on a signal that commands own, any other
source's on its own signals. -/
def State.mayWrite (s : State) (sig source : Nat) : Bool :=
  source / 4096 == 15 || s.owns sig source ||
    (source / 4096 == 7 && ((s.img.dir.get sig).map (fun d => d.owner / 4096)) == some 7)

/-- Send the mirrored slots of a delivery whose first number is `first` (R224): one set, without what R61 has refused. -/
def State.mirrorIngress (s : State) (source first : Nat) (slots : List (Nat × Nat × Nat)) : State :=
  let runs := ingressRuns (fun g => s.isMirrored g && s.mayWrite g source) first slots
  let n := runs.length
  s.each (runs.zip (List.range n)) (fun s x =>
    s.sendMirror .ingress (.ingress source x.1.2) (last := decide (x.2 + 1 = n)) (seq64 := x.1.1))

/-- An ingress delivery of one source (R62, R64, R68): consecutive numbers in ascending slot order, one grant; every slot is
written or refused by its owner; the mirrored ones are streamed. `slots` holds signal, value, and quality with detail in bits
[7:4]. Whether a slot refused under R61 consumes a number of its delivery the manual does not say: DESIGN CHOICE, it does
(notes/assumptions/81.md). -/
def State.deliver (s : State) (source : Nat) (slots : List (Nat × Nat × Nat)) (t : Nat) (late : Bool := false) : State :=
  let (first, s) := s.grantSeq slots.length
  let s := s.each (slots.zip (List.range slots.length)) (fun s x =>
    s.ownerWrite x.1.1 source x.1.2.1 (x.1.2.2 % 16) (x.1.2.2 / 16) (first + x.2) t late)
  s.mirrorIngress source first slots

/-- A command's write of a command-owned signal is granted (R424): an ingress delivery of one slot, GOOD, whose source names the arrival
port. -/
def State.commandGrant (s : State) (sig port value : Nat) : State :=
  let (first, s) := s.grantSeq 1
  (s.acceptWrite sig (0x7000 + port) value Quality.good 0 first s.now).mirrorIngress (0x7000 + port) first [(sig, value, 0)]

/-! ### Ranks of ports (R416) -/

/-- The instant and the head of a command request. -/
def requestOf : Instr → Option (Nat × Req)
  | .readSig t p c q x _ | .readStat t p c q x _ | .readRec t p c q x _ | .attest t p c q x _
  | .readIdkey t p c q x _ | .writeSig t p c q x _ | .ackAlarm t p c q x _ | .safeRestart t p c q x _
  | .forceSet t p c q x _ | .forceClear t p c q x _ | .writeRt t p c q x _ | .safeClear t p c q x _
  | .hartPass t p c q x _ | .olcOpen t p c q x _ | .olcCommit t p c q x _ | .olcAbort t p c q x _
  | .resign t p c q x _ | .structOpen t p c q x _ | .fwOpen t p c q x _ | .keyOpen t p c q x _
  | .xfer t p c q x _ | .regwin t p c q x _ | .safeConfirm t p c q x _ | .keyRemove t p c q x _
  | .recClear t p c q x _ | .retireClear t p c q x _ | .modeRun t p c q x _ | .modeHold t p c q x _
  | .modeService t p c q x _ | .modeHalt t p c q x _ | .modeReset t p c q x _ | .debug t p c q x _
  | .xferEnd t p c q x _ _ _ | .unknownOp t p c q x _ _ => some (t, ⟨p, c, q, x⟩)
  | _ => none

/-- The requests that write command-owned signals (R424). -/
def writesSignal : Instr → Bool
  | .writeSig .. | .ackAlarm .. => true
  | _ => false

/-- The commands that open a session (R425). -/
def opensSession : Instr → Bool
  | .olcOpen .. | .structOpen .. | .fwOpen .. | .keyOpen .. => true
  | _ => false

/-- A waiting request of the kind `p` has reached the module in the present span of `g` quarter nanoseconds. -/
def State.waitsInSpan (s : State) (g : Nat) (p : Instr → Req → Bool) : Bool :=
  s.pending.any (fun c => match requestOf c with
    | some (t, r) => decide (t / g = s.now / g) && p c r
    | none => false)

/-- A waiting request of the kind `p` has reached the module on a port of higher rank than `port` in the same span of `g` quarter
nanoseconds (R416): the ranks fall from ENG, port 0, to CELL, port 3. -/
def State.outranked (s : State) (g port : Nat) (p : Instr → Req → Bool) : Bool :=
  s.waitsInSpan g (fun c r => decide (r.port < port) && p c r)

/-- Writes that wait are granted in their order while numbers are free (R63), but for one that a waiting request of its fabric cycle on a
port of higher rank precedes (R64, R416). -/
def State.grantHeld (s : State) : State :=
  s.each s.img.cmdHeld (fun s w =>
    let first := decide (s.img.cmdHeld.head? = some w)
    if first && s.rateFree && !s.outranked Config.cellClock w.port (fun c _ => writesSignal c) then
      ({ s with img := { s.img with cmdHeld := s.img.cmdHeld.drop 1 } }).commandGrant w.sig w.port w.value
    else s)

/-- A command's write (R63, R64, R416): it joins those that wait, before those of its fabric cycle on ports of lower rank, and what may be
granted is granted. -/
def State.commandWrite (s : State) (sig port value : Nat) : State :=
  let w : HeldWrite := { cycle := s.now / Config.cellClock, port := port, sig := sig, value := value }
  let before := fun (x : HeldWrite) => x.cycle != w.cycle || decide (x.port ≤ w.port)
  let l := s.img.cmdHeld
  ({ s with img := { s.img with cmdHeld := l.takeWhile before ++ w :: l.dropWhile before } }).grantHeld

/-- A module write as ingress (R62, R79, R201, R525): consecutive numbers, source class 0xF. -/
def State.deliverModule (s : State) (source : Nat) (slots : List (Nat × Nat × Nat)) : State :=
  let (first, s) := s.grantSeq slots.length
  let s := s.each (slots.zip (List.range slots.length)) (fun s x =>
    s.moduleWrite x.1.1 source x.1.2.1 (x.1.2.2 % 16) (x.1.2.2 / 16) (first + x.2))
  s.mirrorIngress source first slots

/-- R69 to R72: a new delivery with source sequence `n` of `w` bits. Answers whether it is accepted, whether it resynchronises
the source, and the deliveries lost before it. -/
def judgeSeq (w : Nat) (q : SrcSeq) (n : Nat) : Bool × Bool × Nat × SrcSeq :=
  let n := wrap w n
  let acc : SrcSeq := { valid := true, last := n, runSeq := 0, runLen := 0 }
  if !q.valid then (true, false, 0, acc)
  else
    let d := diffMod w n q.last
    if d = 0 ∨ 2 ^ (w - 1) ≤ d then
      if 2 ^ (w - 1) ≤ d then
        if q.runLen ≠ 0 ∧ n = q.runSeq then (false, false, 0, q)
        else if q.runLen ≠ 0 ∧ n = wrap w (q.runSeq + 1) then
          if 2 ≤ q.runLen then (true, true, 0, acc)
          else (false, false, 0, { q with runSeq := n, runLen := q.runLen + 1 })
        else (false, false, 0, { q with runSeq := n, runLen := 1 })
      else if q.runLen ≠ 0 ∧ n = q.runSeq then (false, false, 0, q)
      else (false, false, 0, { q with runSeq := 0, runLen := 0 })
    else (true, false, d - 1, acc)

/-- The module judges a source's delivery (R69 to R72): DUPCNT, LOSSCNT and a RESYNC record follow; answers whether it is
accepted and how many were lost. `key` names the source in the table of sequences, `source` its identity in records. -/
def State.judgeSource (s : State) (key source w n : Nat) : Bool × Nat × State :=
  let (ok, resync, loss, q) := judgeSeq w (s.img.src.get key) n
  let s := { s with img := { s.img with src := s.img.src.set key q } }
  if ok then
    let s := s.addReg IMAGE.LOSSCNT.COUNT 0 loss
    (true, loss, if resync then s.record 0xF07 0 .info [(2, source), (2, wrap w n)] else s)
  else (false, 0, s.addReg IMAGE.DUPCNT.COUNT 0 1)

/-- A source starts afresh (R71): its next delivery is accepted whatever its sequence. -/
def State.resetSource (s : State) (key : Nat) : State :=
  { s with img := { s.img with src := s.img.src.set key default } }

/-- IMAGE.FORCECNT, FORCES_ACTIVE and the Caddy's count follow the force table (R85, R88). -/
def State.countForces (s : State) : State :=
  let n := s.img.forces.length
  let s := { s with img := { s.img with savedForces := n } }
  (s.setReg IMAGE.FORCECNT.COUNT 0 n).setFlag IMAGE.STATUS.FORCES_ACTIVE 0 (decide (n ≠ 0))

/-- R82: a force takes one number and writes the slot at once; RAW begins as what the slot held. The 64-bit sequence RAW shows before the
owner's first write under the force the manual does not give: DESIGN CHOICE, the slot's own 32-bit SEQ, high word 0
(notes/assumptions/86.md). -/
def State.placeForce (s : State) (sig value port seqNo : Nat) : State :=
  match s.img.dir.get sig with
  | none => s
  | some d =>
    let old := s.slotRead sig
    let v := normalise d.type value
    let s := match s.img.forces.get sig with
      | some f => s.putForce sig { f with value := v, port := port } (s.rawMarks f)
      | none => s.putForce sig { place := s.freePlace, value := v, port := port, rawValue := old.value, rawQual := old.qual
                                 rawDetail := old.detail, rawSeq := old.seq } (s.slotMarks sig)
    (s.writeSlot sig (0x6000 + port) v Quality.forced 0 seqNo s.now).countForces

/-- R83: clearing a force writes the slot from RAW with source 0xF003. -/
def State.liftForce (s : State) (sig seqNo : Nat) : State :=
  match s.img.forces.get sig with
  | none => s
  | some f =>
    let raw := s.rawRead f
    let marks := s.rawMarks f
    ((s.freeForce sig).writeSlot sig 0xF003 raw.rawValue raw.rawQual raw.rawDetail seqNo s.now (marks := marks)).countForces

/-- The quality the owner's side of a signal holds: RAW while forced, else the slot (R82, R84). -/
def State.ownerQuality (s : State) (sig : Nat) : Nat × Nat :=
  match s.img.forces.get sig with
  | some f => let f := s.rawRead f; (f.rawQual, f.rawDetail)
  | none => let sl := s.slotRead sig; (sl.qual, sl.detail)

/-- The value the owner's side of a signal holds. -/
def State.ownerValue (s : State) (sig : Nat) : Nat :=
  match s.img.forces.get sig with
  | some f => (s.rawRead f).rawValue
  | none => (s.slotRead sig).value

end Sys2Proof.Machine
end

