-- ==== Sys2Proof/Machine/CellOps.lean ====
section
/-! DEFINITION. The cell layer's shared operations (R125 to R149, R522, R526): inputs, latches and actions, reflex evaluation,
compare and MOVE firings, and the pin stage behind the latches (R306, R476, R477). -/

namespace Sys2Proof.Machine

/-- Cell modes of CTRL.MODE (R129). -/
def CellMode.off : Nat := 0
def CellMode.capture : Nat := 1
def CellMode.once : Nat := 2
def CellMode.periodic : Nat := 3
def CellMode.reflex : Nat := 4
def CellMode.move : Nat := 5
def CellMode.window : Nat := 6

/-- The cells whose descriptor shows mode `m`, in ascending order. -/
def State.cellsIn (s : State) (m : Nat) : List Nat :=
  (s.regs.filter (fun e => e.1 / 2 ^ 20 == CELL.CELLc_CTRL.MODE.id && e.2 == m)).map (fun e => e.1 % 2 ^ 20)

/-- The strand of a cell (R9): block × 8 + strand. -/
def strandOf (c : Nat) : Nat := c / 32

/-- The cell evaluates: it is not DEAD and its strand is not restarting (R147, R148). -/
def State.cellLive (s : State) (c : Nat) : Bool :=
  !s.flag CELL.CELLc_STAT.DEAD c && s.cells.strandRestart.get (s.reg CELL.STRANDs_HOST.HOST (strandOf c)) == 0

/-- The strand that now runs a logical strand. -/
def State.hostOf (s : State) (st : Nat) : Nat := s.reg CELL.STRANDs_HOST.HOST st

/-- The block that runs a cell (R9). -/
def State.hostBlock (s : State) (c : Nat) : Nat := s.hostOf (strandOf c) / 8

/-- The cells that are not OFF. -/
def State.usedCells (s : State) : List Nat := (List.range 4096).filter (fun c => s.reg CELL.CELLc_CTRL.MODE c != CellMode.off)

/-- A cell drives a pin (1) or a net (2): in the compare modes, REFLEX and MOVE (R129, R135). -/
def State.drives (s : State) (c kind : Nat) : Bool :=
  [CellMode.once, CellMode.periodic, CellMode.reflex, CellMode.move].contains (s.reg CELL.CELLc_CTRL.MODE c) &&
    s.reg CELL.CELLc_CTRL.OUTDST c == kind

/-- The next instant of a grid of step `g`, the present one if it lies on the grid. -/
def roundUp (g t : Nat) : Nat := (t + (g - 1)) / g * g

/-- The next cell clock: the one at which an action of now takes effect (R50, R126). -/
def State.clockAt (s : State) : Nat := roundUp Config.cellClock s.now

/-- Change what the model keeps of a cell beside its descriptor. -/
def State.updCell (s : State) (c : Nat) (f : CellDyn → CellDyn) : State :=
  { s with cells := { s.cells with cell := s.cells.cell.upd c f } }

/-- The latch number of a net; pins have numbers 0 to 63. -/
def netLatch (n : Nat) : Nat := 64 + n

/-- The 40-bit period of a cell (R135). -/
def State.cellPeriod (s : State) (c : Nat) : Nat :=
  s.reg CELL.CELLc_STAT.PERIOD_HI c * 2 ^ 32 + s.reg CELL.CELLc_PERIOD.PERIOD c

/-- The level the cell layer sees at a pin: the filtered input, or the readback of an output; a retired input reads 0
(R303, R306). -/
def State.pinLevel (s : State) (p : Nat) : Bool :=
  s.sensed FPIN.PINp_STAT.LEVEL p && !(s.flag FPIN.PINp_STAT.RETIRED p && s.reg FPIN.PINp_CFG.DIR p == 1)

/-- The PHASEWIN input (R135): ((V − WSTART) mod P) < WWIDTH. -/
def State.phaseWin (s : State) (c : Nat) : Bool :=
  let v : Int := s.baseVal (s.reg CELL.CELLc_CTRL.BASE c)
  let p : Int := s.cellPeriod c
  let start : Int := s.reg CELL.CELLc_TARGET_LO.WSTART c
  let width : Int := s.reg CELL.CELLc_TARGET_HI.WWIDTH c
  decide (p ≠ 0 ∧ (v - start) % p < width)

/-! ### The mesh (R142) -/

/-- The hops between two blocks. -/
def meshHops (a b : Nat) : Nat := if a = b then 0 else if a / 4 = b / 4 then 1 else 2

/-- The time a level takes between two blocks: at most 10 ns a hop, a free value within that (notes/assumptions/93.md). -/
def meshDelay (a b : Nat) : Nat := meshHops a b * (Config.hopDelay a b % (ns 10 + 1))

/-- The longest time through the mesh. -/
def meshMax : Nat := 2 * ns 10

/-- The places of a cell's output among the levels that cross the mesh; pins stand at their number, nets at `netLatch`. -/
def cellPlace (c : Nat) : Nat := 2048 + c

/-- A level changed from `old` to `b` at `at_`; changes that have arrived everywhere are forgotten. -/
def State.noteLevel (s : State) (place at_ : Nat) (old b : Bool) : State :=
  if old = b then s
  else
    let l := (s.cells.edges.get place).filter (fun x => decide (at_ < x.1 + meshMax))
    { s with cells := { s.cells with edges := s.cells.edges.set place ((at_, b) :: l), moved := max s.cells.moved at_ } }

/-- The level as it has arrived after a delay: the latest change that had the time, else what stood before the oldest one kept. -/
def State.arrived (s : State) (place delay : Nat) (cur : Bool) : Bool :=
  let l := s.cells.edges.get place
  match l.find? (fun x => decide (x.1 + delay ≤ s.now)) with
  | some x => x.2
  | none => match l.getLast? with
    | some x => !x.2
    | none => cur

/-- The block that drives a net: that of the first cell with the net as its destination, in the order of their modes (DESIGN CHOICE,
notes/assumptions/113.md). -/
def State.netBlock (s : State) (n : Nat) : Option Nat :=
  (([CellMode.once, CellMode.periodic, CellMode.reflex, CellMode.move].flatMap s.cellsIn).find? (fun c =>
    s.reg CELL.CELLc_CTRL.OUTDST c == 2 && (s.cells.cfg.get c).dest == n)).map s.hostBlock

/-- The block of the strand to which a pin is routed. -/
def State.pinBlock (s : State) (p : Nat) : Option Nat :=
  if s.flag CELL.PINp_ROUTE.ROUTED p then some (s.reg CELL.PINp_ROUTE.CUR p / 8) else none

/-- The level an input selector reads, after INV (R130, R142); none for a NONE input. -/
def State.inputLevel (s : State) (c sel : Nat) : Option Bool :=
  let i := bitField 0 12 sel
  let inv := bitOf 12 sel
  let here := s.hostBlock c
  let delay := fun (b : Option Nat) => match b with | some b => meshDelay b here | none => 0
  let raw := match bitField 13 3 sel with
    | 1 => some (s.arrived i (delay (s.pinBlock i)) (s.pinLevel i))
    | 2 => some (s.arrived (netLatch i) (delay (s.netBlock i)) (s.cells.latch.get (netLatch i)))
    | 3 =>
      let k := c / 256 * 256 + i
      some (s.arrived (cellPlace k) (delay (some (s.hostBlock k))) (s.flag CELL.CELLc_STAT.OUT k))
    | 4 => some (s.phaseWin c)
    | _ => none
  raw.map (fun b => b != inv)

/-- The selector of input `k` of a cell. -/
def State.selector (s : State) (c k : Nat) : Nat :=
  match k with
  | 0 => s.reg CELL.CELLc_IN01.IN0 c
  | 1 => s.reg CELL.CELLc_IN01.IN1 c
  | 2 => s.reg CELL.CELLc_IN23.IN2 c
  | _ => s.reg CELL.CELLc_IN23.IN3 c

/-- The rule over the inputs present (R136): AND, OR, XOR, or NOT of input 0. What no input gives the manual does not say: an AND of none is
true, an OR and an XOR false, and a NOT of a NONE input true (DESIGN CHOICE, notes/assumptions/114.md). -/
def ruleOf (op : Nat) (x0 : Option Bool) (xs : List Bool) : Bool :=
  match op with
  | 0 => xs.all id
  | 1 => xs.any id
  | 2 => xs.foldl (fun a b => a != b) false
  | _ => !(x0.getD false)

/-- One evaluation of a REFLEX cell (R136): the new latch, the instant its stretch ends and the output before INVOUT. A latch that RULE.CLR
clears in a frame in which its rule holds has not risen (DESIGN CHOICE, notes/assumptions/114.md). -/
def State.reflexEval (s : State) (c : Nat) : Bool × Nat × Bool :=
  let d := s.cells.cell.get c
  let x := fun k => s.inputLevel c (s.selector c k)
  let op := s.reg CELL.CELLc_RULE.OP c
  let store := s.reg CELL.CELLc_RULE.STORE c
  let q0 := d.q && !d.clrReq
  let r4 := ruleOf op (x 0) ([x 0, x 1, x 2, x 3].filterMap id)
  let r3 := ruleOf op (x 0) ([x 0, x 1, x 2].filterMap id)
  let q := match store with
    | 1 => q0 || r4
    | 2 => if (x 3).getD false then false else q0 || r3
    | _ => r4
  let hold := if q && !d.q then s.now + s.reg CELL.CELLc_RULE.STRETCH c * Config.frame else d.holdUntil
  (q, hold, q || decide (s.now < hold))

/-! ### Pins -/

/-- The mode lets the unit drive its non-safety fast outputs (R476): driven or shadow-driven. -/
def Mode.drivesPins : Mode → Bool
  | .standby | .active | .degraded | .hold => true
  | _ => false

/-- The unit commands an output pin on: an OUTPUT whose latch is high, in a mode that drives, not shed, retired, released by a
shadow fault, or off after a short (R214, R306, R476, R491). -/
def State.pinCommand (s : State) (p : Nat) : Bool :=
  s.reg FPIN.PINp_CFG.DIR p == 2 && s.cells.latch.get p && s.mode.drivesPins && !s.power.shed &&
    !s.flag FPIN.PINp_STAT.RETIRED p && !s.flag FPIN.PINp_STAT.RELEASED p && !s.flag FPIN.PINp_STAT.SHORT p

/-- PINp_STAT.DRIVE follows the command of the pin. -/
def State.showPin (s : State) (p : Nat) : State := s.setFlag FPIN.PINp_STAT.DRIVE p (s.pinCommand p)

/-- Every pin's DRIVE after a change of mode or of the supply. -/
def State.showPins (s : State) : State := s.each (List.range 64) State.showPin

/-- A latch takes a level at instant `at_`; a pin's drive follows, and a net's level goes through the mesh. -/
def State.putLatch (s : State) (at_ l : Nat) (b : Bool) : State :=
  let old := s.cells.latch.get l
  let s := { s with cells := { s.cells with latch := s.cells.latch.set l b } }
  if l < 64 then s.showPin l else s.noteLevel l at_ old b

/-- An action on a latch at the next cell clock (R126, R140): SET 1, CLEAR 2, TOGGLE 4. Actions at one clock combine: CLEAR over SET over
TOGGLE, and any number of TOGGLEs toggle once. Bit 3 of the stored actions is the level before the clock. -/
def State.actLatch (s : State) (l act : Nat) : State :=
  let clock := s.clockAt + 1
  let prior := if s.cells.actT.get l = clock then s.cells.acts.get l else bn (s.cells.latch.get l) * 8
  let acts := prior ||| act
  let lvl := if bitOf 1 acts then false else if bitOf 0 acts then true else if bitOf 2 acts then !bitOf 3 acts
    else bitOf 3 acts
  let s := { s with cells := { s.cells with actT := s.cells.actT.set l clock, acts := s.cells.acts.set l acts } }
  s.putLatch s.clockAt l lvl

/-- The latch a cell drives: a pin or a net (R129, R141). -/
def State.destLatch (s : State) (c : Nat) : Option Nat :=
  match s.reg CELL.CELLc_CTRL.OUTDST c with
  | 1 => some (s.cells.cfg.get c).dest
  | 2 => some (netLatch (s.cells.cfg.get c).dest)
  | _ => none

/-- A block interrupt counts toward the wake-triggered task the image names (R104, R143); on a unit outside the ACTIVE role it
wakes no task (R231). -/
def State.blockInterrupt (s : State) (c : Nat) : State :=
  if s.reg CELL.CELLc_CTRL.OUTDST c = 3 ∧ s.isActive then
    match (s.cells.cfg.get c).wake with
    | some t => s.addReg TASK.TASKt_WAKE.PENDING t 1
    | none => s
  else s

/-- A REFLEX cell's evaluation is applied at the end of its frame: latch, stretch, output, destination by level, and its interrupt at a
rising edge (R135, R136, R140). STAT.OUT and the interrupt show the output before INVOUT (DESIGN CHOICE, notes/assumptions/114.md). -/
def State.applyReflex (s : State) (at_ c : Nat) (r : Bool × Nat × Bool) : State :=
  let was := s.flag CELL.CELLc_STAT.OUT c
  let s := s.updCell c (fun d => { d with q := r.1, holdUntil := r.2.1, clrReq := false })
  let s := (s.setFlag CELL.CELLc_STAT.OUT c r.2.2).noteLevel (cellPlace c) at_ was r.2.2
  let s := match s.destLatch c with
    | some l => s.putLatch at_ l (r.2.2 != s.flag CELL.CELLc_CTRL.INVOUT c)
    | none => s
  if r.2.2 && !was then s.blockInterrupt c else s

/-- The cell keeps its output and state for the frame under way, since its self-check has failed in it (R147). -/
def State.keepsState (s : State) (c : Nat) : Bool := decide (s.now < (s.cells.cell.get c).keepUntil)

/-- Some cells evaluate in the frame that begins at instant `f`, on the levels of its start. -/
def State.evalCells (s : State) (f : Nat) (l : List Nat) : State :=
  let res := l.map (fun c => (c, (s.at f).reflexEval c))
  s.each res (fun s x => s.applyReflex (f + Config.frame) x.1 x.2)

/-- The frame of the reflex layer that begins at instant `f` (R125): every REFLEX cell in service evaluates, but one whose self-check has
failed in it (R147). -/
def State.reflexFrame (s : State) (f : Nat) : State :=
  s.evalCells f ((s.cellsIn CellMode.reflex).filter (fun c => s.cellLive c && !(s.at f).keepsState c))

/-- The frame at `f` has changed nothing of the layer, and no level is on its way through the mesh. -/
def State.restsAfter (s s' : State) (f : Nat) : Bool :=
  decide (s'.regs = s.regs ∧ s'.cells = s.cells ∧ s.cells.moved + meshMax ≤ f)

/-- The layer rests, or goes on changing, after the frame at `f`. -/
def State.setAwake (s : State) (f : Nat) (b : Bool) : State := { s with cells := { s.cells with frame := f, awake := b } }

/-- Frame after frame from instant `f` until the layer rests, at most `k` frames; a layer that does not rest by then (a loop of cells)
goes on when the block idles (notes/assumptions/9.md). -/
def State.settleF : Nat → Nat → State → State
  | 0, _, s => s.setAwake s.cells.frame true
  | k + 1, f, s =>
    let s' := s.reflexFrame f
    if s.restsAfter s' f then s.setAwake s.cells.frame false else State.settleF k (f + Config.frame) (s'.setAwake f false)

/-- The frames a change takes at most through `n` cells that form no loop: one a cell and two of the mesh between two cells (R125, R142). -/
def settleFrames (n : Nat) : Nat := 3 * n + 4

/-- The next frame the layer evaluates: the first that begins at or after now, and not before the latest one evaluated. -/
def State.nextFrame (s : State) : Nat := max (roundUp Config.frame s.now) s.cells.frame

/-- The frames of a layer that does not rest, up to now (R125). -/
def State.framesToNow (s : State) : State :=
  if s.cells.awake then State.settleF ((roundUp Config.frame s.now - s.cells.frame) / Config.frame - 1) (s.cells.frame + Config.frame) s else s

/-- The reflex layer follows a change of its inputs. -/
def State.settle (s : State) : State :=
  let n := (s.cellsIn CellMode.reflex).length
  if n = 0 then s else let s := s.framesToNow; State.settleF (settleFrames n) s.nextFrame s

/-- The block idles: a reflex layer that does not rest runs its next frame (R125), and the clock moves on to it. -/
def State.idle (s : State) : State :=
  if !s.cells.awake then s
  else
    let s := s.advance (max (roundUp Config.frame s.now) (s.cells.frame + Config.frame))
    let s' := s.reflexFrame s.now
    s'.setAwake s.now (!s.restsAfter s' s.now)

/-! ### Firing -/

/-- An action of a compare cell on its destination (R135, R140): SET, CLEAR, TOGGLE, or PULSE for STRETCH frames. -/
def State.cellAction (s : State) (c : Nat) : State :=
  match s.destLatch c with
  | none => s
  | some l =>
    match s.reg CELL.CELLc_CTRL.OUTACT c with
    | 0 => s.actLatch l 1
    | 1 => s.actLatch l 2
    | 2 => s.actLatch l 4
    | _ =>
      let n := max 1 (s.reg CELL.CELLc_RULE.STRETCH c)
      let s := s.actLatch l 1
      let e := s.cells.pulseEnd.get l ++ [(s.clockAt + n * Config.frame, c)]
      { s with cells := { s.cells with pulseEnd := s.cells.pulseEnd.set l e } }

/-- A LATE firing (R32, R36): counted, and flagged on the base. -/
def State.noteLate (s : State) (b : Nat) : State :=
  (s.setReg PHASE.BASEn_STATUS.LATE b 1).addReg PHASE.LATECNT.COUNT 0 1

/-- The unit delivers ingress (R231, R477): in the ACTIVE role, and in COMMISSION and SERVICE while it holds the line. -/
def State.ingressOn (s : State) : Bool :=
  s.isActive || ((s.mode == .commission || s.mode == .service) && s.flag PAIR.STAT.AUTH)

/-- A MOVE sample enters the image (R139, R524): an ingress write of the cell, its event at the firing instant. -/
def State.moveWrite (s : State) (c : Nat) (h : HeldMove) : State :=
  s.deliver (0x5000 + c) [(s.reg CELL.CELLc_IN23.SIGNAL c, h.value, 0)] h.at_ h.late

/-- A capture of a strand's FIFO takes its number and enters the queue (R63, R64, R137). -/
def State.grantCapture (s : State) (e : CapEntry) : State :=
  let (n, s) := s.grantSeq 1
  s.pushCapture { e with seq64 := n }

/-- The captures that wait in the FIFOs of the strands enter the queue while numbers are free (R137). -/
def State.drainFifos (s : State) : State :=
  s.each s.cells.fifo (fun s x => s.each x.2 (fun s e =>
    if s.rateFree then
      ({ s with cells := { s.cells with fifo := s.cells.fifo.set x.1 ((s.cells.fifo.get x.1).drop 1) } }).grantCapture e
    else s))

/-- Captures, MOVE samples and then command writes that waited for a grant enter the image once numbers are free again (R63, R64). -/
def State.releaseHeld (s : State) : State :=
  let s := s.drainFifos
  let s := s.each s.img.moveHeld (fun s x => match x.2 with
    | some v =>
      if s.rateFree then
        ({ s with img := { s.img with moveHeld := s.img.moveHeld.set x.1 none } }).moveWrite x.1 v
      else s
    | none => s)
  s.grantHeld

/-- The effect of a MOVE firing (R63, R139, R231): a sample that still waits for its grant is replaced. -/
def State.moveAct (s : State) (c : Nat) (late : Bool) : State :=
  let d := s.cells.cell.get c
  if s.reg CELL.CELLc_IN23.DIR c = 0 then
    let v : HeldMove := { value := bn ((s.inputLevel c (s.selector c 0)).getD false), late := late, at_ := s.clockAt }
    if !s.ingressOn then s
    else
      let s := if (s.img.moveHeld.get c).isSome then
          ({ s with img := { s.img with moveHeld := s.img.moveHeld.set c none } }).addReg CELL.MOVEHOLD.COUNT 0 1
        else s
      if s.rateFree then s.moveWrite c v
      else { s with img := { s.img with moveHeld := s.img.moveHeld.set c (some v) } }
  else if d.moveQual = Quality.bad ∨ d.moveQual = Quality.poison ∨ d.moveQual = Quality.stale then
    s.addReg CELL.MOVEHOLD.COUNT 0 1
  else match s.destLatch c with
    | some l => s.actLatch l (if d.moveSample % 2 = 1 then 1 else 2)
    | none => s

/-- The next grid point of a periodic cell after the base value `v`, counted from its instant `t`. -/
def nextGrid (t p v : Nat) : Nat := wrap 64 (t + (diffMod 64 v t / p + 1) * p)

/-- The cell fires (R135, R139, R522, R526), LATE or not, at the next cell clock: its action, FIRED, its interrupt, and its next instant.
Several grid points reached by that clock without a step are one action with OVF, and the next instant lies beyond the value at that
clock, so that the cell acts at most once a clock. -/
def State.fireCell (s : State) (c : Nat) (late : Bool) : State :=
  let m := s.reg CELL.CELLc_CTRL.MODE c
  let b := s.reg CELL.CELLc_CTRL.BASE c
  let p := s.cellPeriod c
  let v := (s.at s.clockAt).baseVal b
  let t := (s.cells.cell.get c).next
  let periodic := decide (m = CellMode.periodic) || (decide (m = CellMode.move) && p != 0)
  let s := if m = CellMode.move then s.moveAct c late else s.cellAction c
  let s := s.setReg CELL.CELLc_STAT.FIRED c 1
  let s := if late then (s.setReg CELL.CELLc_STAT.LATE c 1).noteLate b else s
  let s := if periodic && p != 0 then
      let merged := decide (p ≤ diffMod 64 v t) && !late
      let s := if merged then s.setReg CELL.CELLc_STAT.OVF c 1 else s
      s.updCell c (fun d => { d with next := if late || reached v t then nextGrid t p v else wrap 64 (t + p), fired := true })
    else (s.setReg CELL.CELLc_CTRL.ARM c 0).updCell c (fun d => { d with fired := true })
  (s.blockInterrupt c).settle

/-- The modes that fire at a target (R135). -/
def firesAtTarget (m : Nat) : Bool := m == CellMode.once || m == CellMode.periodic || m == CellMode.move

/-- The cell is armed at a target on base `b`. -/
def State.armedOn (s : State) (b c : Nat) : Bool :=
  s.flag CELL.CELLc_CTRL.ARM c && s.reg CELL.CELLc_CTRL.BASE c == b && s.cellLive c

/-- The armed compare and MOVE cells on a base, ascending. -/
def State.armedCells (s : State) (b : Nat) : List Nat :=
  ((s.cellsIn CellMode.once) ++ (s.cellsIn CellMode.periodic) ++ (s.cellsIn CellMode.move)).filter (s.armedOn b)

/-- The quality a committed slot has for a copy: POISON when a word of it carries poison (R80). -/
def State.copyQual (s : State) (sig : Nat) : Nat :=
  if (s.slotPoison sig).1 || (s.slotPoison sig).2 then Quality.poison else (s.slotRead sig).qual

/-- The commit engine copies a committed slot into the MOVE cells with DIR 1 that name it and to the FOLLOW pins (R139,
R307). -/
def State.copyToPins (s : State) (sig : Nat) : State :=
  let sl := s.slotRead sig
  let q := s.copyQual sig
  let cells := (s.cellsIn CellMode.move).filter
    (fun c => s.reg CELL.CELLc_IN23.DIR c == 1 && s.reg CELL.CELLc_IN23.SIGNAL c == sig)
  let s := s.each cells (fun s c => s.updCell c (fun d => { d with moveSample := sl.value, moveQual := q }))
  let pins := (List.range 64).filter (fun p => s.reg FPIN.PINp_CFG.DIR p == 2 && s.reg FPIN.PINp_CFG.SRC p == 1 &&
    s.reg FPIN.PINp_FOLLOW.SIGNAL p == sig)
  let held := q == Quality.bad || q == Quality.poison || q == Quality.stale
  s.each pins (fun s p => if held then s.addReg CELL.MOVEHOLD.COUNT 0 1 else s.putLatch s.now p (sl.value % 2 == 1))

end Sys2Proof.Machine
end

