-- ==== Sys2Proof/Machine/StepOps.lean ====
section
/-! DEFINITION. Steps of the phase bases (R27, R29 to R37, R49): the epoch, the discontinuity record, the LATE firings of armed
cells and waiting tasks, and the steps of virtual bases that follow their sources. -/

namespace Sys2Proof.Machine

/-- Cause bits of a discontinuity record's instance (R459). -/
def Cause.acquisition : Nat := 2 ^ 4
def Cause.ptpStep : Nat := 2 ^ 5
def Cause.plantSet : Nat := 2 ^ 6
def Cause.relock : Nat := 2 ^ 7
def Cause.zAlign : Nat := 2 ^ 8
def Cause.canCorrection : Nat := 2 ^ 9
def Cause.sourceStep : Nat := 2 ^ 10
def Cause.setting : Nat := 2 ^ 11

/-- Change what the model keeps of a base. -/
def State.updBase (s : State) (b : Nat) (f : BaseSt → BaseSt) : State :=
  { s with phase := { s.phase with base := s.phase.base.upd b f } }

/-- Change what the model keeps of a task. -/
def State.updTask (s : State) (t : Nat) (f : TaskDyn → TaskDyn) : State :=
  { s with tasks := { s.tasks with task := s.tasks.task.upd t f } }

/-- What the model keeps of task `t`. -/
def State.task (s : State) (t : Nat) : TaskDyn := s.tasks.task.get t

/-- The target lies in the skipped span (old, new] of a forward step (R31). -/
def inSpan (old new t : Nat) : Bool :=
  diffMod 64 t old != 0 && decide (diffMod 64 t old ≤ diffMod 64 new old)

/-- A step is forward (R29, R31). -/
def stepForward (old new : Nat) (acq : Bool) : Bool :=
  acq || (diffMod 64 new old != 0 && decide (diffMod 64 new old < 2 ^ 63))

/-- A wait of PWAIT ends with a status (R119): the task becomes resumable. rd [31:16] is "the base epoch at return": when the base steps
between the end of the wait and the task's resumption the manual does not say which epoch that is: DESIGN CHOICE, that of the wait's
end (notes/assumptions/87.md). -/
def State.endWait (s : State) (t status : Nat) : State :=
  match (s.task t).wait with
  | none => s
  | some w =>
    let r := status + s.baseEpoch w.base * 2 ^ 16
    let s := if status = 1 then s.noteLate w.base else s
    s.updTask t (fun d => { d with wait := none, waitResult := some (status, r), resumable := true, resumeSince := s.now })

/-- The tasks that wait in PWAIT on a base, ascending. -/
def State.waitersOn (s : State) (b : Nat) : List Nat :=
  (s.tasks.task.filter (fun e => match e.2.wait with | some w => w.base == b | none => false)).map Prod.fst

/-- The events armed on a base meet its step (R32, R33, R50, R119): those in the skipped span of a forward step fire once, LATE, unless the
base is still without its acquisition; a wait whose given epoch has passed ends. -/
def State.lateFirings (s : State) (b old new : Nat) (acq : Bool) : State :=
  let fwd := stepForward old new acq && s.baseFires b
  let cells := (s.armedCells b).filter (fun c => fwd && inSpan old new (s.cells.cell.get c).next)
  let s := s.each cells (fun s c => s.fireCell c true)
  s.each (s.waitersOn b) (fun s t =>
    match (s.task t).wait with
    | none => s
    | some w =>
      if fwd && inSpan old new w.target then s.endWait t 1
      else match w.epoch with
        | some e => if laterMod 16 (s.baseEpoch b) e then s.endWait t 3 else s
        | none => s)

/-- The bits of `a` and of `b` together. -/
def orBits (a b : Nat) : Nat := a ||| b

/-- The first record of a list that meets `p`, changed by `f`. -/
def amendFirst (p : Record → Bool) (f : Record → Record) : List (Bool × Record) → List (Bool × Record)
  | [] => []
  | x :: l => if p x.2 then (x.1, f x.2) :: l else x :: amendFirst p f l

/-- The discontinuity record of a step that shares its tick with an earlier one lists every cause and the whole size (R35):
the newest buffered record of the base is amended. -/
def State.amendStep (s : State) (b causes size : Nat) : State :=
  let isIt : Record → Bool := fun r => r.code == 0x701 && r.source % 16 == b && r.recno == 0
  let amend : Record → Record := fun r => { r with source := 0x7000 + b + causes, param := s.baseEpoch b + size * 2 ^ 16 }
  let s := s.setBuffer (amendFirst isIt amend s.recorder.buffer.reverse).reverse
  { s with recorder := { s.recorder with lastRec := s.recorder.lastRec.map (fun l => if isIt l then amend l else l) } }

/-- One base has taken a value in place of `old` by a step (R27, R30, R35, R36): its epoch, STEPCNT, STEPPED, STEP_PEND,
the record, the STEP record to the standby (R230). A further cause in the tick of a step extends that step: one epoch, one
record of the whole size, and firings over the whole span; causes arrive one by one, so an event that an earlier cause of the tick has
skipped has fired by then (DEDUCED, notes/assumptions/107.md). On a standby the unit's own measurement leaves the epoch
as the active unit gave it (R230). -/
def State.countStep (s : State) (b old cause : Nat) : State :=
  let new := s.baseVal b
  let tick := s.now / Config.refTick + 1
  let same := decide ((s.phase.base.get b).stepTick = tick)
  let causes := if same then orBits (s.phase.base.get b).stepCauses cause else cause
  let org := if same then (s.phase.base.get b).stepFrom else old
  let size := satSigned 32 (toSigned 64 (diffMod 64 new org))
  let s := s.updBase b (fun d => { d with stepTick := tick, stepCauses := causes, stepFrom := org })
  let s := if same then s.amendStep b causes size
    else if s.mode = .standby ∨ s.mode = .sync then s
    else
      let s := s.bumpReg PHASE.BASEn_EPOCH.EPOCH b
      let s := s.record 0x701 (b + causes) .info [(2, s.baseEpoch b), (4, size)]
      s.addReg PHASE.BASEn_STEPCNT.COUNT b 1
  let s := s.setReg PHASE.BASEn_STATUS.STEPPED b 1
  let s := s.setReg PHASE.STEP_PEND.BASE 0 (orBits (s.reg PHASE.STEP_PEND.BASE) (2 ^ b))
  s.sendMirror .async (.step b new (s.baseEpoch b) causes)

/-- One base steps: the step is counted, and the events armed on the base meet it (R30, R32). -/
def State.noteStep (s : State) (b old cause : Nat) (acq : Bool) : State :=
  let s := s.countStep b old cause
  s.lateFirings b (s.phase.base.get b).stepFrom (s.baseVal b) acq

/-- The bases that take their value, directly or not, from base `b`: PB12 of a time master (R388), the virtual bases (R48); in
ascending order. -/
def State.dependents (s : State) (b : Nat) : List Nat :=
  let src := fun v => s.reg PHASE.VIRTv_SRC.SRC v
  let live := fun v => s.reg PHASE.VIRTv_DEN.DEN v != 0
  let d12 := b != 12 && s.canBase == some b
  let on := fun v => src v == b || (src v == 12 && d12)
  let d13 := live 0 && on 0
  let d14 := live 1 && (on 1 || (src 1 == 13 && d13))
  let d15 := live 2 && (on 2 || (src 2 == 13 && d13) || (src 2 == 14 && d14))
  (if d12 then [12] else []) ++ (if d13 then [13] else []) ++ (if d14 then [14] else []) ++ (if d15 then [15] else [])

/-- Base `b` steps by the change `f` of the state (R27, R30, R49): at the start of the reference tick that begins at the present instant or
follows it, the base, and every virtual base that follows it, takes its new value, and the reflex layer sees it (R135). -/
def State.stepBase (s : State) (b cause : Nat) (acq : Bool) (f : State → State) : State :=
  let s := s.toTick
  let deps := s.dependents b
  let olds := (b :: deps).map s.baseVal
  let s := f s.keepPast
  let s := s.each ((b :: deps).zip olds) (fun s x =>
    s.noteStep x.1 x.2 (if x.1 = b then cause else Cause.sourceStep) acq)
  s.settle

/-- A base takes a 64-bit value that held at instant `t`, with no slew left; it has run on since. -/
def State.anchorFrom (s : State) (b v t : Nat) : State :=
  s.updBase b (fun d => { d with anchor := wrap 64 v * 2 ^ 32, anchorT := t, slewLeft := 0 })

/-- A base takes a 64-bit value as of now, with no slew left. -/
def State.anchorAt (s : State) (b v : Nat) : State :=
  s.anchorFrom b v s.now

/-- The base goes on from its value of now (used before its rate, frequency or slew changes): what the slew has applied is in
the anchor, the rest is left. How it ran until now is kept (R524). -/
def State.reanchor (s : State) (b : Nat) : State :=
  let s := s.keepPast
  let raw := if b ≤ 5 ∨ b = 12 then s.timeRaw b else s.mainsRaw b
  let d := s.phase.base.get b
  let done := slewApplied d.slewLeft d.slewPace (s.now - d.anchorT)
  s.updBase b (fun d => { d with anchor := raw, anchorT := s.now, slewLeft := d.slewLeft - done })

/-- A slew of `size` (in 2^-32 of the base's unit) begins, at a pace of at most `bound` per quarter nanosecond (R41, R402):
the manual bounds the pace and does not state it. -/
def State.beginSlew (s : State) (b : Nat) (size : Int) (bound : Nat) : State :=
  let s := s.reanchor b
  s.updBase b (fun d => { d with slewLeft := size, slewPace := 1 + Config.slewPace b % max bound 1 })

/-- R38: a measurement of base `b` steers the reference when REF_CFG.SRC selects it: REF_STAT.STEER changes by at most 0.1 ppm per second
since its latest change, by at most 0.1 ppm at a time, and stays within ±2 ppm. How the loop follows the base the manual does not say: the change is a free value within
those bounds (notes/assumptions/77.md). PB0 is never stepped: its rate lies in the instants that commands carry. -/
def State.steerRef (s : State) (b : Nat) : State :=
  let src := s.reg PHASE.REF_CFG.SRC
  let room := min 100 (100 * (s.now - s.phase.steerAt) / sec 1)
  if room = 0 ∨ !((src == 1 && b == 1) || (src == 2 && b == 12)) then s
  else
    let change : Int := ((s.freeVal 32 % (2 * room + 1) : Nat) : Int) - (room : Int)
    let v := max (-2000) (min 2000 (toSigned 16 (s.reg PHASE.REF_STAT.STEER) + change))
    let s := { s.nextFree with phase := { s.phase with steerAt := s.now } }
    s.setReg PHASE.REF_STAT.STEER 0 (ofSigned 16 v)

/-- The state of a base changes; a virtual base needs no state of its own (R48). -/
def State.setBaseState (s : State) (b st : Nat) : State := s.setReg PHASE.BASEn_STATUS.STATE b st

end Sys2Proof.Machine
end

