-- ==== Sys2Proof/Machine/TaskOps.lean ====
section
/-! DEFINITION. The tasks' shared operations (R92 to R117, R161 to R167): states, readiness, dispatch, faults, invocations,
cycles lost, accounts and costs, STARVED, restarts and re-homing. -/

namespace Sys2Proof.Machine

/-- State codes of TASKt_STATE.STATE (R123). -/
def TaskState.unused : Nat := 0
def TaskState.idle : Nat := 1
def TaskState.ready : Nat := 2
def TaskState.running : Nat := 3
def TaskState.preempted : Nat := 4
def TaskState.waiting : Nat := 5
def TaskState.yielded : Nat := 6
def TaskState.skip : Nat := 7
def TaskState.faulted : Nat := 8
def TaskState.starved : Nat := 9
def TaskState.held : Nat := 10
def TaskState.dormant : Nat := 11
def TaskState.moving : Nat := 12

/-- Kind codes of TASKt_CFG.KIND (R123). -/
def TaskKind.cyclic : Nat := 1
def TaskKind.error : Nat := 2
def TaskKind.start : Nat := 3

/-- Cause codes of R111. -/
def TaskCause.overrunLimit : Nat := 0x01
def TaskCause.hang : Nat := 0x02
def TaskCause.poison : Nat := 0x03
def TaskCause.access : Nat := 0x04
def TaskCause.misaligned : Nat := 0x05
def TaskCause.illegal : Nat := 0x06
def TaskCause.breakpoint : Nat := 0x07
def TaskCause.stateFull : Nat := 0x08
def TaskCause.starved : Nat := 0x09
def TaskCause.startFailed : Nat := 0x0A
def TaskCause.noHome : Nat := 0x0B
def TaskCause.stationDrop : Nat := 0x0C
def TaskCause.cycleLost : Nat := 0x0D

/-- Block states of BLKn.STATUS.STATE (R124). -/
def BlockState.run : Nat := 0
def BlockState.idle : Nat := 1
def BlockState.restarting : Nat := 2
def BlockState.movingOut : Nat := 3
def BlockState.stopped : Nat := 4
def BlockState.retired : Nat := 5

/-- The state of a task. -/
def State.tState (s : State) (t : Nat) : Nat := s.reg TASK.TASKt_STATE.STATE t

/-- The kind of a task. -/
def State.tKind (s : State) (t : Nat) : Nat := s.reg TASK.TASKt_CFG.KIND t

/-- The class of a task, 0 (A, the highest) to 3 (D). -/
def State.tClass (s : State) (t : Nat) : Nat := s.reg TASK.TASKt_CFG.CLASS t

/-- The block a task is on. -/
def State.tBlock (s : State) (t : Nat) : Nat := s.reg TASK.TASKt_STATE.CURBLK t

/-- The tasks whose kind is not unused, ascending. -/
def State.taskList (s : State) : List Nat :=
  (s.regs.filter (fun e => e.1 / 2 ^ 20 == TASK.TASKt_CFG.KIND.id)).map (fun e => e.1 % 2 ^ 20)

/-- The tasks now on block `b`, ascending. -/
def State.tasksOn (s : State) (b : Nat) : List Nat := s.taskList.filter (fun t => s.tBlock t == b)

/-- FAULTCNT and FAULTMAPk follow the task states (R123). -/
def State.showFaults (s : State) : State :=
  let f := s.taskList.filter (fun t => s.tState t == TaskState.faulted)
  let s := s.setReg TASK.FAULTCNT.COUNT 0 f.length
  s.each (List.range 8) (fun s k =>
    s.setReg TASK.FAULTMAPk.MAP k (((f.filter (fun t => t / 32 == k)).map (fun t => 2 ^ (t % 32))).sum))

/-- The STARVED count of a block follows the task states (R176). -/
def State.showStarved (s : State) (b : Nat) : State :=
  s.setReg KETTLE.BLKb_STARVED.COUNT b ((s.tasksOn b).filter (fun t => s.tState t == TaskState.starved)).length

/-- The task's state record goes to the standby (R223). -/
def State.mirrorTask (s : State) (t : Nat) : State :=
  if (s.tasks.cfg.get t).mirrored then
    s.sendMirror .async (.taskst t (s.tState t) (s.reg TASK.TASKt_STATE.CAUSE t) (s.reg TASK.TASKt_STATE.OVRRUN t)
      (s.task t).readPos)
  else s

/-- A task changes state. -/
def State.setTState (s : State) (t st : Nat) : State := s.setReg TASK.TASKt_STATE.STATE t st

/-! ### The vendor instructions (R118) -/

/-- A vendor instruction with its register fields and SEL (R118). -/
inductive Vendor where
  | pwait (rd rs1 rs2 : Nat)
  | scommit (rs1 : Nat)
  | byield (rd rs1 : Nat)
  | seqread (sel rd : Nat)
  deriving DecidableEq, Repr

/-- The word of a vendor instruction: custom-0 in R-type layout (R118). -/
def Vendor.word : Vendor → Nat
  | .pwait rd rs1 rs2 => 0x0B + wrap 5 rd * 2 ^ 7 + wrap 5 rs1 * 2 ^ 15 + wrap 5 rs2 * 2 ^ 20
  | .scommit rs1 => 0x100B + wrap 5 rs1 * 2 ^ 15
  | .byield rd rs1 => 0x200B + wrap 5 rd * 2 ^ 7 + wrap 5 rs1 * 2 ^ 15
  | .seqread sel rd => 0x300B + wrap 5 rd * 2 ^ 7 + wrap 5 sel * 2 ^ 20

/-- The vendor instruction a 32-bit word is (R118): none for another funct7 or funct3, or where a field shown as zero is not zero. -/
def vendorOf (w : Nat) : Option Vendor :=
  let rd := bitField 7 5 w
  let rs1 := bitField 15 5 w
  let rs2 := bitField 20 5 w
  if bitField 0 7 w ≠ 0x0B ∨ w / 2 ^ 25 ≠ 0 then none
  else match bitField 12 3 w with
    | 0 => some (.pwait rd rs1 rs2)
    | 1 => if rs2 = 0 ∧ rd = 0 then some (.scommit rs1) else none
    | 2 => if rs2 = 0 then some (.byield rd rs1) else none
    | 3 => if rs1 = 0 then some (.seqread rs2 rd) else none
    | _ => none

/-- The word is a PWAIT. -/
def isPwait (w : Nat) : Bool := match vendorOf w with | some (.pwait ..) => true | _ => false

/-- The word is an SCOMMIT. -/
def isScommit (w : Nat) : Bool := match vendorOf w with | some (.scommit _) => true | _ => false

/-- The word is a SEQREAD. -/
def isSeqread (w : Nat) : Bool := match vendorOf w with | some (.seqread ..) => true | _ => false

/-- The word is a BYIELD. -/
def isByield (w : Nat) : Bool := match vendorOf w with | some (.byield ..) => true | _ => false

/-- What `rdtime`, `rdcycle` and `rdinstret` return on the core of a block (R90), by their RISC-V CSR numbers: the PB0 reference tick count in
units of 10 ns; the core's own cycles and instructions, which no command carries, are free values (notes/assumptions/89.md). -/
def State.coreCounter (s : State) (block csr : Nat) : Nat :=
  wrap 64 (if csr = 0xC01 then s.now / Config.refTick else Config.coreCount block csr s.now)

/-! ### The core of a block -/

/-- The task on the core (BLKn.STATUS). -/
def State.current (s : State) (b : Nat) : Option Nat :=
  if s.flag BLK.STATUS.CURVALID b then some (s.reg BLK.STATUS.CURTASK b) else none

/-- The core has no task: IDLE unless restarting, moving out, stopped or retired. -/
def State.freeCore (s : State) (b : Nat) : State :=
  let s := s.setReg BLK.STATUS.CURVALID b 0
  if s.reg BLK.STATUS.STATE b = BlockState.run then s.setReg BLK.STATUS.STATE b BlockState.idle else s

/-- Task `t` takes the core. -/
def State.takeCore (s : State) (b t : Nat) : State :=
  let s := ((s.setReg BLK.STATUS.CURTASK b t).setReg BLK.STATUS.CURVALID b 1).setReg BLK.STATUS.CURCLASS b (s.tClass t)
  if s.reg BLK.STATUS.STATE b = BlockState.idle then s.setReg BLK.STATUS.STATE b BlockState.run else s

/-- The core leaves the task, whether it runs or is pre-empted there. -/
def State.leaveCore (s : State) (t : Nat) : State :=
  let b := s.tBlock t
  let s := { s with tasks := { s.tasks with preempted := s.tasks.preempted.upd b (fun l => l.filter (fun x => x != t)) } }
  if s.current b = some t then s.freeCore b else s

/-! ### Accounts and costs (R161 to R166) -/

/-- The account of a block, signed (R161). -/
def State.account (s : State) (b : Nat) : Int := toSigned 32 (s.reg KETTLE.BLKb_ACCT.ACCT b)

/-- The account takes a value, saturating at −2^31 (R161). -/
def State.setAccount (s : State) (b : Nat) (v : Int) : State := s.setReg KETTLE.BLKb_ACCT.ACCT b (satSigned 32 v)

/-- A debit (R152, R161). -/
def State.debit (s : State) (b e : Nat) : State := s.setAccount b (s.account b - e)

/-- A debit of what the block meter has counted for a cycle since its last debit, where the command that ends the cycle does not carry it: a
free value (R152, notes/assumptions/90.md). -/
def State.debitMetered (s : State) (b : Nat) : State := s.nextFree.debit b (s.freeVal 32)

/-- R162: cost + (m − cost) / 2^SHIFT, rounded toward zero, at least 1. -/
def newCost (cost m shift : Nat) : Nat :=
  (max 1 ((cost : Int) + Int.tdiv ((m : Int) - cost) (2 ^ shift : Int))).toNat

/-- The cost estimate of a task is at least 1 (R162). -/
def State.cost (s : State) (t : Nat) : Nat := max 1 (s.reg KETTLE.TASKt_COST.COST t)

/-- The quota of a block. -/
def State.quota (s : State) (b : Nat) : Nat := s.reg KETTLE.BLKb_QUOTA.QUOTA b

/-- The block account covers the start of a task (R98, R166). -/
def State.covers (s : State) (t : Nat) : Bool :=
  let b := s.tBlock t
  decide ((s.cost t : Int) ≤ s.account b) ||
    (s.tClass t == 0 && decide (s.quota b < s.cost t) && decide ((s.quota b : Int) ≤ s.account b))

/-! ### Invocations (R111, R113, R114) -/

/-- An invocation that cannot be queued is dropped with a record (R113, R114, R268): reason 1 queue full, 2 ERROR task faulted,
3 ERROR task deleted. -/
def State.dropInvocation (s : State) (e : Nat) (v : Invocation) (reason : Nat) : State :=
  s.record 0x003 e .warning [(1, v.failed.getD 0xFF), (1, v.cause), (1, reason)]

/-- The invocations for a deleted task leave the error tasks' queues (R268). -/
def State.forgetFailed (s : State) (t : Nat) : State :=
  s.each s.tasks.task.keys (fun s e =>
    let gone := (s.task e).invocations.filter (fun v => v.failed == some t)
    let s := s.each gone (fun s v => s.dropInvocation e v 3)
    if gone = [] then s else s.updTask e (fun d => { d with invocations := d.invocations.filter (fun v => v.failed != some t) }))

/-- Invoke ERROR task `e` (R113). -/
def State.invoke (s : State) (e : Nat) (v : Invocation) : State :=
  if s.tState e = TaskState.faulted then s.dropInvocation e v 2
  else if Config.invocationMax ≤ (s.task e).invocations.length then s.dropInvocation e v 1
  else s.updTask e (fun d => { d with invocations := d.invocations ++ [v], readySince := if d.invocations = [] then s.now
                                                                                         else d.readySince })

/-- The error task of a CYCLIC task is invoked for it (R111, R112); ERROR and START tasks invoke none (R114). -/
def State.invokeFor (s : State) (t cause detail : Nat) : State :=
  if s.tKind t = TaskKind.cyclic then
    s.invoke (s.reg TASK.TASKt_CFG.ERRTASK t) { failed := some t, cause := cause, detail := detail }
  else s

/-! ### Cycles that end without a commit -/

/-- What the cycle staged for the CAN ports is dropped, and its request bits go (R379). -/
def State.dropStaged (s : State) (t : Nat) : State :=
  let s := s.each (s.task t).canStaged (fun s x =>
    if x.2 = 32 then s.setReg CAN.TXQSTAT.PUSH x.1 0
    else s.setReg CAN.TXREQ.REQ x.1 (putField x.2 1 (s.reg CAN.TXREQ.REQ x.1) 0))
  s.updTask t (fun d => { d with canStaged := [] })

/-- The staged outputs, the state buffer and the view of the cycle are dropped (R105). -/
def State.dropCycle (s : State) (t : Nat) : State :=
  let s := (s.leaveCore t).dropStaged t
  let s := { s with tasks := { s.tasks with stateBuf := s.tasks.stateBuf.filter (fun e => e.1 / 2 ^ 40 != t) } }
  s.updTask t (fun d => { d with
    phase := .none, written := [], lines := [], wait := none, waitResult := none, resumable := false, charged := 0
    didYield := false, waitAck := false, ackMseq := none })

/-- Tasks waiting for START task `t` (R115): their start task has not ended a cycle since their restart. -/
def State.startClients (s : State) (t : Nat) : List Nat :=
  s.taskList.filter (fun x => s.flag TASK.TASKt_START.EN x && s.reg TASK.TASKt_START.TASK x == t &&
    s.tKind x == TaskKind.cyclic && (s.task t).startFor.contains x)

/-- A task becomes FAULTED (R111): it holds what it last committed, and a commit in progress completes (R120); a record, the counts and its
error task follow. The invocations of an ERROR task are dropped (R114). -/
def State.faultOne (s : State) (t cause detail : Nat) : State :=
  let s := if (s.task t).phase = .committing then s else s.dropCycle t
  let s := (s.setTState t TaskState.faulted).setReg TASK.TASKt_STATE.CAUSE t cause
  let s := s.showFaults.lifeAdd 0x145 1
  let s := s.record 0x002 t .fault [(1, cause), (4, detail)]
  let queued := (s.task t).invocations
  let s := s.updTask t (fun d => { d with invocations := [], startQueued := false })
  let s := s.each queued (fun s v => s.dropInvocation t v 2)
  let s := s.invokeFor t cause detail
  s.mirrorTask t

/-- A task faults; when it is a START task, the tasks that wait for it fault with START_FAILED (R115). -/
def State.faultTask (s : State) (t cause detail : Nat) : State :=
  let clients := if s.tKind t = TaskKind.start then s.startClients t else []
  let s := s.faultOne t cause detail
  let s := s.updTask t (fun d => { d with startFor := [] })
  s.each clients (fun s x => s.faultOne x TaskCause.startFailed t)

/-- Any skip interval of a task has ended (R97, R109). -/
def State.skipDone (s : State) (t : Nat) : Bool := decide ((s.task t).skipUntil ≤ s.now)

/-- The state of a task in no cycle that nothing else keeps: HELD while a change holds it (R265), SKIP while a skip interval runs (R97, R109). -/
def State.restState (s : State) (t : Nat) : Nat :=
  if (s.task t).heldBy then TaskState.held else if s.skipDone t then TaskState.idle else TaskState.skip

/-- A cycle is lost without commit (R111, R113, R115): its energy since the last debit is debited (R152), which for
a YIELDED cycle is none (R121); the task is not faulted; its error task is invoked with CYCLE_LOST; an ERROR task keeps the invocation at the
head of its queue. `energy` is none where the command does not carry it. -/
def State.loseCycle (s : State) (t block : Nat) (energy : Option Nat := none) : State :=
  let s := match energy with
    | some e => s.debit (s.tBlock t) e
    | none => if s.tState t = TaskState.yielded then s else s.debitMetered (s.tBlock t)
  let s := s.dropCycle t
  let s := (s.setTState t (s.restState t)).setReg TASK.TASKt_STATE.CAUSE t TaskCause.cycleLost
  (s.invokeFor t TaskCause.cycleLost block).mirrorTask t

/-- The task is in a cycle that has not executed SCOMMIT. -/
def State.inCycle (s : State) (t : Nat) : Bool :=
  (s.task t).phase == .reading || (s.task t).phase == .running

/-! ### STARVED (R165, R167) -/

/-- R165: a class B, C or D task whose cost lies above the quota enters STARVED. -/
def State.checkStarved (s : State) (t : Nat) : State :=
  let b := s.tBlock t
  let st := s.tState t
  if s.tClass t ≠ 0 ∧ st ≠ TaskState.faulted ∧ st ≠ TaskState.starved ∧ st ≠ TaskState.unused ∧ s.quota b < s.cost t then
    let s := (s.setTState t TaskState.starved).setReg TASK.TASKt_STATE.CAUSE t TaskCause.starved
    let s := s.record 0x004 t .warning [(3, min (s.cost t) 0xFFFFFF), (3, min (s.quota b) 0xFFFFFF)]
    let s := (s.lifeAdd 0x146 1).showStarved b
    (s.invokeFor t TaskCause.starved (s.cost t)).mirrorTask t
  else s

/-! ### Readiness and dispatch (R97 to R99) -/

/-- The floor of a task has elapsed since the start of its last cycle (R95 to R97). -/
def State.floorDone (s : State) (t : Nat) : Bool :=
  let d := s.task t
  !d.started || decide (d.floorBase + us d.floorAt ≤ s.now)

/-- A task is ready (R97). -/
def State.isReady (s : State) (t : Nat) : Bool :=
  let d := s.task t
  let st := s.tState t
  let free := (st == TaskState.idle || st == TaskState.ready) && d.phase == .none && !d.heldBy
  let open_ := s.mode.runs && s.pair.resign != .window && s.pair.resign != .drain && !s.power.warned &&
    !s.power.holdPending
  if s.tKind t = TaskKind.cyclic then
    open_ && free && s.floorDone t && s.skipDone t && (!s.flag TASK.TASKt_START.EN t || d.startDone) &&
      (!s.flag TASK.TASKt_CFG.WAKE t || decide (0 < s.reg TASK.TASKt_WAKE.PENDING t))
  else if s.tKind t = TaskKind.error then open_ && free && d.invocations != []
  else if s.tKind t = TaskKind.start then open_ && free && d.startQueued
  else false

/-- The tasks of a block that have become ready show READY from now on; one that no longer is ready shows IDLE. A task found
ready is checked against the quota (R165). -/
def State.promote (s : State) (b : Nat) : State :=
  s.each (s.tasksOn b) (fun s t =>
    if s.isReady t then
      let s := if s.tState t = TaskState.idle then
          (s.setTState t TaskState.ready).updTask t (fun d => { d with readySince := s.now })
        else s
      s.checkStarved t
    else if s.tState t = TaskState.ready then s.setTState t TaskState.idle else s)

/-- The block account covers what a yielded task has asked for, clipped to the account's capacity (R121). -/
def State.estimatePaid (s : State) (t : Nat) : Bool :=
  let e := (s.task t).estimate
  e == 0 || decide ((min e (s.quota (s.tBlock t)) : Int) ≤ s.account (s.tBlock t))

/-- A task in the middle of a cycle can go on (R98, R121): pre-empted, its wait ended, or its estimate covered. -/
def State.canResume (s : State) (t : Nat) : Bool :=
  let st := s.tState t
  st == TaskState.preempted || (st == TaskState.waiting && (s.task t).resumable) || (st == TaskState.yielded && s.estimatePaid t)

/-- The yielded tasks of a block that have become resumable are so from now on; one whose estimate is no longer covered is not (R98). -/
def State.markResumable (s : State) (b : Nat) : State :=
  s.each ((s.tasksOn b).filter (fun t => s.tState t == TaskState.yielded && s.estimatePaid t != (s.task t).resumable)) (fun s t =>
    s.updTask t (fun d => { d with resumable := s.estimatePaid t, resumeSince := s.now }))

/-- The member of a list with the least key, the lower task first among equals. -/
def firstBy (key : Nat → Nat) : List Nat → Option Nat
  | [] => none
  | t :: l => match firstBy key l with
    | none => some t
    | some u => if key u < key t then some u else some t

/-- The highest class among some tasks. -/
def State.topClass (s : State) (l : List Nat) : Option Nat := (firstBy s.tClass l).map s.tClass

/-- The running task gives way to one of a higher class (R99). -/
def State.preempt (s : State) (b : Nat) : State :=
  match s.current b with
  | none => s
  | some t =>
    let s := s.setTState t TaskState.preempted
    let s := { s with tasks := { s.tasks with preempted := s.tasks.preempted.upd b (fun l => t :: l) } }
    s.setReg BLK.STATUS.CURVALID b 0

/-- A task in mid-cycle resumes on its core (R98); the result of its wait or yield goes to rd (R119, R121). -/
def State.resumeTask (s : State) (b t : Nat) : State :=
  let d := s.task t
  let st := s.tState t
  let s := { s with tasks := { s.tasks with preempted := s.tasks.preempted.upd b (fun l => l.filter (fun x => x != t)) } }
  let s := if st = TaskState.waiting then
      match d.waitResult with
      | some r => s.emit (.coreResult b r.2)
      | none => s
    else if st = TaskState.yielded then
      (s.updTask t (fun d => { d with yielded := d.yielded + (s.now - d.yieldT) })).emit (.coreResult b d.charged)
    else s
  let s := s.updTask t (fun d => { d with waitResult := none, resumable := false })
  (s.setTState t TaskState.running).takeCore b t

/-- The gap of a takeover or of a claim after a resignation (R237, R239): LASTGAP and lifetime histogram 14. -/
def State.noteGap (s : State) (from_ : Nat) : State :=
  let g := (s.now - from_) / us 1
  (s.setReg PAIR.LASTGAP.TIME 0 (min g (2 ^ 32 - 1))).histAdd 14 (log2Bin g)

/-- R239: the first dispatch after a claim that answered a RESIGN ends its gap, which began with the receipt of that record. -/
def State.endResignGap (s : State) : State :=
  if s.pair.dispatchGap = 0 then s
  else { (s.noteGap (s.pair.dispatchGap - 1)) with pair := { s.pair with dispatchGap := 0 } }

/-- A cycle starts (R96, R98, R101, R104): the input read begins; the floor and ceiling in force are those of the registers
now; the pending wake count is taken. -/
def State.startCycle (s : State) (b t : Nat) : State :=
  let s := ((s.setTState t TaskState.running).takeCore b t).endResignGap
  let wakes := s.reg TASK.TASKt_WAKE.PENDING t
  let s := if s.flag TASK.TASKt_CFG.WAKE t then s.setReg TASK.TASKt_WAKE.PENDING t 0 else s
  s.updTask t (fun d => { d with
    phase := .reading, startT := s.now, started := true, floorBase := s.now, floorAt := s.reg TASK.TASKt_FLOOR.FLOOR t
    ceilAt := s.reg TASK.TASKt_CEIL.CEIL t, yielded := 0, charged := 0, firstPiece := 0, didYield := false
    wakeTaken := if s.flag TASK.TASKt_CFG.WAKE t then wakes else 0, written := [], lines := [], scFlags := 0 }) |>.mirrorTask t

/-- R166: a class A task whose cost exceeds its block's quota is recorded once per quota value. -/
def State.noteAboveQuota (s : State) (t : Nat) : State :=
  let b := s.tBlock t
  if s.tClass t = 0 ∧ s.quota b < s.cost t ∧ s.kettle.aboveQuota.get t ≠ s.quota b + 1 then
    let s := { s with kettle := { s.kettle with aboveQuota := s.kettle.aboveQuota.set t (s.quota b + 1) } }
    s.record 0x005 t .warning [(3, min (s.cost t) 0xFFFFFF), (3, min (s.quota b) 0xFFFFFF)]
  else s

/-- The block can dispatch: its core is in service. -/
def State.blockServes (s : State) (b : Nat) : Bool :=
  let st := s.reg BLK.STATUS.STATE b
  st == BlockState.run || st == BlockState.idle

/-- One decision of the dispatcher of a block (R98, R99). A block of a stopping region resumes and starts no cycle (R171). -/
def State.dispatch (s : State) (b : Nat) : State :=
  let leaving := s.reg BLK.STATUS.STATE b == BlockState.movingOut
  if !s.blockServes b && !leaving then s
  else
    let s := (if leaving then s else s.promote b).markResumable b
    let ready := if leaving then [] else (s.tasksOn b).filter (fun t => s.tState t == TaskState.ready)
    let res := (s.tasksOn b).filter s.canResume
    let above := fun c => match s.current b with
      | some r => decide (c < s.tClass r)
      | none => true
    match s.topClass (ready ++ res) with
    | none => s
    | some c =>
      if !above c then s
      else
        let resC := res.filter (fun t => s.tClass t == c)
        let pre := (s.tasks.preempted.get b).find? (fun t => s.tClass t == c)
        match (if pre.isSome then pre else firstBy (fun t => (s.task t).resumeSince) resC) with
        | some r => (s.preempt b).resumeTask b r
        | none =>
          match firstBy (fun t => (s.task t).readySince) (ready.filter (fun t => s.tClass t == c)) with
          | none => s
          | some t =>
            let s := s.noteAboveQuota t
            if s.covers t then (s.preempt b).startCycle b t else s

/-- Every block takes a dispatch decision. -/
def State.dispatchAll (s : State) : State := s.each (List.range 16) State.dispatch

/-! ### Restarts and start tasks (R114, R115) -/

/-- START task `x` is asked to run for task `t` before its first cycle (R115); asked by several tasks at once it runs once. The START field of
an ERROR or START task is ignored (R112). -/
def State.queueStart (s : State) (t : Nat) : State :=
  if s.tKind t = TaskKind.cyclic ∧ s.flag TASK.TASKt_START.EN t then
    let x := s.reg TASK.TASKt_START.TASK t
    let s := s.updTask t (fun d => { d with startDone := false })
    s.updTask x (fun d => { d with startQueued := true, startFor := if d.startFor.contains t then d.startFor
                                                                   else d.startFor ++ [t] })
  else s

/-- A FAULTED task restarts (R114): OVRRUN 0, its start task first, a1 reads 0 in its next cycle (R103); its floor and a skip interval run on
(R97). -/
def State.restartTask (s : State) (t : Nat) : State :=
  let s := (s.setTState t (s.restState t)).setReg TASK.TASKt_STATE.OVRRUN t 0
  let s := s.updTask t (fun d => { d with prevSeq := 0 })
  ((s.queueStart t).showFaults).mirrorTask t

/-- The start tasks run at the first entry to a run mode (R115), and the tasks that name them wait for them. -/
def State.runStartTasks (s : State) : State :=
  if s.tasks.startOwed then
    let s := { s with tasks := { s.tasks with startOwed := false } }
    s.each (s.taskList.filter (fun t => s.tKind t == TaskKind.cyclic)) State.queueStart
  else s

/-! ### Re-homing (R116, R117) -/

/-- The power state of a region: 0 ON, 1 STOPPING, 2 OFF (R176). -/
def State.regionPower (s : State) (r : Nat) : Nat := s.reg KETTLE.RGNr_STATE.POWER r

/-- Block `b` takes tasks: neither retiring nor retired, nor of a region that is STOPPING or OFF (R116). -/
def State.blockOpen (s : State) (b : Nat) : Bool :=
  let st := s.reg BLK.STATUS.STATE b
  s.regionPower (b / 4) == 0 && st != BlockState.movingOut && st != BlockState.retired && st != BlockState.stopped && !s.isRetired 3 b &&
    !s.isRetired 4 (b / 4)

/-- Block `b` has room for task `t` (R116). -/
def State.hasRoom (s : State) (b t : Nat) : Bool :=
  s.blockOpen b && decide ((s.tasksOn b).length < Config.tasksPerBlock) &&
    decide (s.reg TASK.TASKt_FOOT.ITCM t ≤ s.reg BLK.TCMFREE.ITCM b) &&
    decide (s.reg TASK.TASKt_FOOT.DTCM t ≤ s.reg BLK.TCMFREE.DTCM b)

/-- The fallback block of a region (R116, R124). -/
def State.fallback (s : State) (r : Nat) : Nat := s.reg BLK.CFG.FALLBACK (4 * r)

/-- BLKn.HOMED of a block follows its tasks (R124). -/
def State.showHomed (s : State) (b : Nat) : State := s.setReg BLK.HOMED.COUNT b (s.tasksOn b).length

/-- A task is now on block `b`: the footprints, HOMED and REHOMED follow (R117, R124). The address of its view stays that of the structure
image (DESIGN CHOICE, notes/assumptions/110.md). -/
def State.placeTask (s : State) (t b : Nat) : State :=
  let old := s.tBlock t
  let i := s.reg TASK.TASKt_FOOT.ITCM t
  let d := s.reg TASK.TASKt_FOOT.DTCM t
  let s := (s.addReg BLK.TCMFREE.ITCM old i).addReg BLK.TCMFREE.DTCM old d
  let s := s.setReg TASK.TASKt_STATE.CURBLK t b
  let s := (s.setReg BLK.TCMFREE.ITCM b (s.reg BLK.TCMFREE.ITCM b - i)).setReg BLK.TCMFREE.DTCM b
    (s.reg BLK.TCMFREE.DTCM b - d)
  let s := s.setFlag TASK.TASKt_STATE.REHOMED t (decide (b ≠ s.reg TASK.TASKt_CFG.HOME t))
  ((s.showHomed old).showHomed b).showStarved old |>.showStarved b

/-- Task `t` moves to block `b` (R117): MOVING until its first cycle there; a FAULTED task keeps its state, and so does a STARVED one
(R167: the check that could make it STARVED is made again at the moments of R165). -/
def State.moveTask (s : State) (t b : Nat) : State :=
  let s := s.placeTask t b
  let st := s.tState t
  if st = TaskState.faulted ∨ st = TaskState.unused ∨ st = TaskState.starved then s
  else (s.setTState t TaskState.moving).mirrorTask t

/-- The blocks R116 tries for a task that leaves region `r`: its own fallback, then the others from the next region on. -/
def State.moveTargets (s : State) (r : Nat) : List Nat :=
  [s.fallback r, s.fallback ((r + 1) % 4), s.fallback ((r + 2) % 4), s.fallback ((r + 3) % 4)]

/-- The tasks of a block in the order of R116: by class, then by number. -/
def State.moveOrder (s : State) (l : List Nat) : List Nat :=
  (l.filter (fun t => s.tClass t == 0)) ++ (l.filter (fun t => s.tClass t == 1)) ++
    (l.filter (fun t => s.tClass t == 2)) ++ (l.filter (fun t => s.tClass t == 3))

/-- One task of a block that is being left finds a home or faults with NO_HOME (R116). -/
def State.rehomeTask (s : State) (from_ : Nat) (t : Nat) : State :=
  match (s.moveTargets (from_ / 4)).find? (fun b => b != from_ && s.hasRoom b t) with
  | some b => s.moveTask t b
  | none => (s.faultTask t TaskCause.noHome from_).cause 2 true

/-- The tasks of some blocks move in class order (R116); cycles in progress there have ended or are lost. -/
def State.rehome (s : State) (blocks : List Nat) : State :=
  let l := s.moveOrder (s.taskList.filter (fun t => blocks.contains (s.tBlock t)))
  s.each l (fun s t => s.rehomeTask (s.tBlock t) t)

/-! ### Asking for a resignation (R238) -/

/-- PAIR.CMDSTAT results (R245). -/
def CmdStat.done : Nat := 1
def CmdStat.notReady : Nat := 2
def CmdStat.notActive : Nat := 3
def CmdStat.busy : Nat := 4

/-- A RESIGN_REFUSED record (R238, R460). -/
def State.resignRefused (s : State) (reason : Nat) : State :=
  s.record 0x907 0 .warning [(1, reason), (1, s.reg PAIR.STAT.NBWHY), (1, s.reg PAIR.PARTNER.MODE)]

/-- An ACTIVE unit is asked to resign for a reason (R238): it needs a STANDBY partner and a bumpless pair. With no ring in use there
is no period start to wait for (R239 step 1). -/
def State.requestResign (s : State) (reason : Nat) : State :=
  if !s.isActive then s.setReg PAIR.CMDSTAT.RESULT 0 CmdStat.notActive
  else if s.pair.resign ≠ .none then s.setReg PAIR.CMDSTAT.RESULT 0 CmdStat.busy
  else if s.partnerStandby && s.flag PAIR.STAT.BUMPLESS then
    let waits := s.flag STN.RINGr_CFG.EN 0 || s.flag STN.RINGr_CFG.EN 1
    { s with pair := { s.pair with
      resign := if waits then .untilPeriod else .window, resignReason := reason, resignAt := s.now, resignShort := false } }
  else (s.setReg PAIR.CMDSTAT.RESULT 0 CmdStat.notReady).resignRefused reason

/-- A retirement or a NO_HOME fault leaves the unit DEGRADED: with PREFER_PARTNER set it resigns (R238). -/
def State.preferPartner (s : State) : State :=
  if s.flag PAIR.CFG.PREFER_PARTNER ∧ s.mode = .degraded ∧ s.pair.resign = .none then s.requestResign 5 else s

/-! ### Cycles in progress, blocks that restart or retire -/

/-- A cycle is in progress somewhere (R480, R239). -/
def State.cyclesOpen (s : State) : Bool := s.tasks.task.any (fun e => e.2.phase != .none)

/-- A MODE HOLD request completes once the cycles in progress have ended (R480). -/
def State.settleHold (s : State) : State :=
  if s.power.holdPending ∧ !s.cyclesOpen then
    ({ s with power := { s.power with holdPending := false } }).enterMode .hold
  else s

/-- The cycle time of a task's cycle so far (R100): yielded time does not count. -/
def State.cycleTime (s : State) (t : Nat) : Nat :=
  let d := s.task t
  let open_ := if s.tState t = TaskState.yielded then s.now - d.yieldT else 0
  s.now - d.startT - d.yielded - open_

/-- The cycles on a block that have not executed SCOMMIT are lost (R111, R115); `energy` is that of the task on the core, where the command
carries it. -/
def State.loseCyclesOn (s : State) (b : Nat) (energy : Option Nat := none) : State :=
  let cur := s.current b
  s.each ((s.tasksOn b).filter s.inCycle) (fun s t => s.loseCycle t b (if cur = some t then energy else none))

/-- Region `r` is retired (R467 kind 4): its tasks move and a takeover is requested (R238). -/
def State.retireRegion (s : State) (r : Nat) : State :=
  let s := s.retireItem 4 r 2 r 0x1F0
  let blocks := [4 * r, 4 * r + 1, 4 * r + 2, 4 * r + 3]
  let s := s.each blocks State.loseCyclesOn
  let s := s.each blocks (fun s b => (s.setReg BLK.STATUS.STATE b BlockState.retired).setAccount b 0)
  (s.rehome blocks).requestResign 4

/-- Block `b` is retired (R115, R116, R467 kind 3): its tasks move, and the retirement counts against its region. -/
def State.retireBlock (s : State) (b code : Nat) : State :=
  let s := (s.retireItem 3 b 1 b code).setReg BLK.STATUS.STATE b BlockState.retired
  let s := (s.loseCyclesOn b).setAccount b 0
  let s := (s.rehome [b]).cause 9 true
  let r := b / 4
  let s := s.occurs 4 r
  let s := if s.permanent 4 r ∧ !s.isRetired 4 r then s.retireRegion r else s
  s.preferPartner

/-- Block `b` restarts (R115): recorded and counted, cycles without SCOMMIT lost, and the retry budget judged (R467).
`cause`: 0 M-mode exception, 1 runtime memory error, 2 watchdog; `energy` as for `loseCyclesOn`. -/
def State.blockRestart (s : State) (b cause mcause : Nat) (energy : Option Nat := none) : State :=
  if s.reg BLK.STATUS.STATE b = BlockState.retired ∨ s.reg BLK.STATUS.STATE b = BlockState.stopped then s
  else
    let s := (s.addReg BLK.RESTARTS.COUNT b 1).restartDwell 0
    let s := s.record 0x101 b .warning [(4, mcause), (1, cause)]
    let s := s.occur 3 b (0x0A0 + b)
    let s := s.loseCyclesOn b energy
    let s := { s with tasks := { s.tasks with preempted := s.tasks.preempted.set b [],
                                              restartAt := s.tasks.restartAt.set b (s.now + 1) } }
    let s := (s.setReg BLK.STATUS.CURVALID b 0).setReg BLK.STATUS.STATE b BlockState.restarting
    let s := if s.permanent 3 b then s.retireBlock b 0x101 else s
    s.settleHold

/-- The task in U mode on a block's core (R118): its cycle runs and has not executed SCOMMIT. -/
def State.cycleTask (s : State) (b : Nat) : Option Nat :=
  match s.current b with
  | some t => if (s.task t).phase = .running then some t else none
  | none => none

/-- A task exception (R111): the block keeps mcause, the pc and mtval, the cycle's energy is charged (R152), and the task
faults. -/
def State.takeException (s : State) (b t mcause epc tval cause detail energy : Nat) : State :=
  let s := (s.setReg BLK.CAUSE.MCAUSE b mcause).addReg BLK.EXCCNT.COUNT b 1
  let s := (s.setReg BLK.EPC_LO.EPC b epc).setReg BLK.EPC_HI.EPC b (epc / 2 ^ 32)
  let s := (s.setReg BLK.TVAL_LO.TVAL b tval).setReg BLK.TVAL_HI.TVAL b (tval / 2 ^ 32)
  ((s.debit b energy).faultTask t cause detail).settleHold

/-- An illegal instruction (R118): of a task, cause ILLEGAL with the instruction word; in M mode the block restarts (R115).
mcause 2 is the RISC-V code. -/
def State.illegal (s : State) (b pc iword energy : Nat) : State :=
  match s.cycleTask b with
  | some t => s.takeException b t 2 pc iword TaskCause.illegal iword energy
  | none => s.blockRestart b 0 2 (some energy)

end Sys2Proof.Machine
end

