-- ==== Sys2Proof/Machine/GuardOps.lean ====
section
/-! DEFINITION. The guards (R291 to R297): keys, colours, refusals, and the reads of the masters that move slots and words for the module. -/

namespace Sys2Proof.Machine

/-! ### Keys and colours (R292 to R294, R297) -/

/-- The READ, WRITE and EXECUTE sets of a key. -/
structure Key where
  read : Nat
  write : Nat
  exec : Nat
  deriving DecidableEq, Repr, Inhabited

/-- The key of a task (R293). -/
def State.taskKey (s : State) (t : Nat) : Key :=
  { read := s.reg GUARD.TKEYt_RW.READ t, write := s.reg GUARD.TKEYt_RW.WRITE t, exec := s.reg GUARD.TKEYt_X.EXEC t }

/-- The RUNTIME key (R293). -/
def State.runtimeKey (s : State) : Key :=
  { read := s.reg GUARD.RKEY_RW.READ, write := s.reg GUARD.RKEY_RW.WRITE, exec := s.reg GUARD.RKEY_X.EXEC }

/-- The ROM key of R297: the core executes boot ROM code during BOOT and inside a call through the ROM gate, and then reaches colour 15. -/
def State.romKey (s : State) (block : Nat) (k : Key) : Key :=
  if s.mode = .boot ∨ s.leaf.gate = block + 1 then { k with read := k.read ||| 0x8000, write := k.write ||| 0x8000 } else k

/-- The key in force on a master (R293, R297, R302): a core's follows the task it runs; a block DMA's follows the task it serves
(`serves` below 256). -/
def State.keyOf (s : State) (master serves : Nat) : Key :=
  if master < 16 then match s.cycleTask master with
    | some t => s.taskKey t
    | none => s.romKey master s.runtimeKey
  else if master < 32 then if serves < 256 then s.taskKey serves else s.runtimeKey
  else
    { read := s.reg GUARD.MKEYm_RW.READ master, write := s.reg GUARD.MKEYm_RW.WRITE master
      exec := s.reg GUARD.MKEYm_X.EXEC master }

/-- The words of a granule (R292). -/
def granuleWords (m : Nat) : Nat := if m = 0 then 512 else 32

/-- The colour of a word (R292, R299). -/
def State.colourAt (s : State) (m w : Nat) : Nat :=
  let g := w / granuleWords m
  if s.leaf.badGroup.get (cellKey m (g / 8)) then 15 else s.leaf.colour.get (cellKey m g)

/-- R294: the access kinds 0 read, 1 write, 2 execute, 3 AMO, LR or SC against a colour. -/
def Key.admits (k : Key) (kind colour : Nat) : Bool :=
  match kind with
  | 0 => bitOf colour k.read
  | 1 => bitOf colour k.write
  | 2 => bitOf colour k.exec
  | _ => bitOf colour k.read && bitOf colour k.write

/-- R295: a refusal is counted, shown in LAST_MASTER and LAST_ADDR, and recorded. -/
def State.guardRefuse (s : State) (master kind colour addr : Nat) (partially : Bool) : State :=
  let s := (s.setReg GUARD.STAT.FAULT 0 1).addReg GUARD.FAULTCNT.COUNT 0 1
  let s := (s.setReg GUARD.LAST_MASTER.MASTER 0 master).setReg GUARD.LAST_MASTER.KIND 0 kind
  let s := (s.setReg GUARD.LAST_MASTER.COLOUR 0 colour).setFlag GUARD.LAST_MASTER.PARTIAL 0 partially
  let s := (s.setReg GUARD.LAST_ADDR_LO.ADDR 0 addr).setReg GUARD.LAST_ADDR_HI.ADDR 0 (addr / 2 ^ 32)
  (s.lifeAdd (0x078 + master) 1).record 0x601 master .fault
    [(6, wrap 39 addr + kind * 2 ^ 39 + colour * 2 ^ 41 + bn partially * 2 ^ 45)]

/-! ### Reads of a DMA engine (R291, R294 to R296) -/

/-- The numbers of the masters that move words for the module (R291), but for the block DMAs, 16 to 31. -/
def stationDma : Nat := 32
def mirrorDma : Nat := 33
def canDma : Nat := 34
def portBridge : Nat := 36

/-- The key of a master, for the task it serves (256: none), admits a read, or a write, of a word. -/
def State.admitted (s : State) (master serves kind m w : Nat) : Bool := (s.keyOf master serves).admits kind (s.colourAt m w)

/-- The first of `n` words that a master may not read: it and all after it are not read (R296). -/
def State.firstRefused (s : State) (master serves m w n : Nat) : Option Nat :=
  (List.range n).find? (fun i => !s.admitted master serves 0 m (w + i))

/-- `n` words as a master reads them, each with its poison at bit 64; those that its guard refuses are zeros with the mark (R295, R296). -/
def State.dmaWords (s : State) (master serves m w n : Nat) : List Nat :=
  let stop := (s.firstRefused master serves m w n).getD n
  (List.range n).map (fun i => if i < stop then s.markedWord m (w + i) else 2 ^ 64)

/-- What a master's read of `n` words leaves: the results counted, and a refusal of its guard (R279, R295, R296). -/
def State.noteDma (s : State) (master serves m w n : Nat) : State :=
  match s.firstRefused master serves m w n with
  | none => s.each (List.range n) (fun s i => s.noteRead m (w + i) master)
  | some k =>
    let s := s.each (List.range k) (fun s i => s.noteRead m (w + i) master)
    s.guardRefuse master 0 (s.colourAt m (w + k)) (8 * physical m (w + k)) (decide (k ≠ 0))

/-- A master writes words through its guard: from the first that its key does not admit on nothing is written (R294 to R296). -/
def State.dmaWrite (s : State) (master serves m w : Nat) (l : List Nat) : State :=
  match (List.range l.length).find? (fun i => !s.admitted master serves 1 m (w + i)) with
  | none => s.writeWords m w l
  | some k => (s.writeWords m w (l.take k)).guardRefuse master 1 (s.colourAt m (w + k)) (8 * physical m (w + k)) (decide (k ≠ 0))

/-- A master may read a committed slot; its two words lie in one granule. -/
def State.readsSlot (s : State) (master serves sig : Nat) : Bool := s.admitted master serves 0 1 (2 * sig)

/-- A committed slot as a master reads it: zeros where its guard refuses (R295). -/
def State.dmaSlot (s : State) (master serves sig : Nat) : Slot := if s.readsSlot master serves sig then s.slotOf sig else default

/-- The poison a master finds in a committed slot: both words where its guard refuses (R295). -/
def State.dmaPoison (s : State) (master serves sig : Nat) : Bool × Bool :=
  if s.readsSlot master serves sig then s.slotPoison sig else (true, true)

/-- What a master's read of a committed slot leaves (R279, R295). -/
def State.noteDmaSlot (s : State) (master serves sig : Nat) : State := s.noteDma master serves 1 (2 * sig) 2

end Sys2Proof.Machine
end

