-- ==== Sys2Proof/Machine/RingOps.lean ====
section
/-! DEFINITION. The station rings' shared operations (R177 to R207): the grid of link periods, the frames of a period, station
states, drops and substitutes, and the close of a counted period. -/

namespace Sys2Proof.Machine

/-- Station states of RINGr_STAa_STAT.STATE (R198). -/
def StaState.unused : Nat := 0
def StaState.absent : Nat := 1
def StaState.admitting : Nat := 2
def StaState.good : Nat := 3
def StaState.dropped : Nat := 4
def StaState.rejected : Nat := 5

/-- Frame types of R183 that a module sends. -/
def RingFrame.cycle : Nat := 1
def RingFrame.output : Nat := 2
def RingFrame.config : Nat := 4

/-- The number of station `a` of ring `r` among the stations. -/
def staKey (r a : Nat) : Nat := r * 128 + a

/-- Change what the model keeps of a ring. -/
def State.updRing (s : State) (r : Nat) (f : RingDyn → RingDyn) : State :=
  { s with rings := { s.rings with ring := s.rings.ring.upd r f } }

/-- Change what the model keeps of a station. -/
def State.updSta (s : State) (k : Nat) (f : StationDyn → StationDyn) : State :=
  { s with rings := { s.rings with sta := s.rings.sta.upd k f } }

/-- What the model keeps of ring `r`. -/
def State.ring (s : State) (r : Nat) : RingDyn := s.rings.ring.get r

/-- The configured stations of a ring, ascending. -/
def State.stations (s : State) (r : Nat) : List Nat :=
  (List.range 128).filter (fun a => s.flag STN.RINGr_STAa_CFG.PRESENT (staKey r a))

/-- The state of a station. -/
def State.staState (s : State) (k : Nat) : Nat := s.reg STN.RINGr_STAa_STAT.STATE k

/-- The unit sends every slot of its OUTPUT frames as BAD (R477). -/
def Mode.safeOutputs : Mode → Bool
  | .load | .commission | .service => true
  | _ => false

/-- The unit originates module frames on a ring (R178, R197, R209, R477): it holds the line, in the ACTIVE role or with its outputs
safe, and no CYCLE of a higher epoch has silenced the ring. -/
def State.originates (s : State) (r : Nat) : Bool :=
  s.flag PAIR.STAT.AUTH && (s.isActive || s.mode.safeOutputs) && s.flag STN.RINGr_CFG.EN r && !(s.ring r).silenced

/-- The GOOD stations of a ring (RINGr_STAT.GOOD). -/
def State.showGood (s : State) (r : Nat) : State :=
  s.setReg STN.RINGr_STAT.GOOD r ((s.stations r).filter (fun a => s.staState (staKey r a) == StaState.good)).length

/-! ### The period in time and the grid (R188, R191, R192) -/

/-- A span of `num / den` units of base `b` in quarter nanoseconds, down the source chain (R188). -/
def State.spanF : Nat → State → Nat → Nat → Nat → Nat
  | 0, _, _, num, den => 4 * num / max den 1
  | k + 1, s, b, num, den =>
    if 13 ≤ b then
      let v := b - 13
      State.spanF k s (s.reg PHASE.VIRTv_SRC.SRC v) (num * s.reg PHASE.VIRTv_DEN.DEN v)
        (den * (toSigned 32 (s.reg PHASE.VIRTv_NUM.NUM v)).natAbs)
    else if b = 6 ∨ b = 7 then
      let f := if s.flag PHASE.MAINSm_CFG.NOMF (b - 6) then 60 else 50
      num * 4 * 10 ^ 9 / (max den 1 * 2 ^ 32 * f)
    else 4 * num / max den 1

/-- The period of a ring in units of its base. -/
def State.plen (s : State) (r : Nat) : Nat := s.reg STN.RINGr_PLEN_LO.PLEN r + s.reg STN.RINGr_PLEN_HI.PLEN r * 2 ^ 32

/-- The base of a ring. -/
def State.ringBase (s : State) (r : Nat) : Nat := s.reg STN.RINGr_CFG.BASE r

/-- The period in time of a ring (R188), in quarter nanoseconds. -/
def State.periodTime (s : State) (r : Nat) : Nat := s.spanF 4 (s.ringBase r) (s.plen r) 1

/-- The width a slot of a type takes in the payload, in bits (R193). -/
def payloadBits (type : Nat) : Nat := if type = 0 then 4 else if type ≤ 3 then 32 else 64

/-- The payload B of a ring in bits over all slots of its configured stations (R193). -/
def State.payload (s : State) (r : Nat) : Nat :=
  (((s.stations r).map (fun a => let c := s.rings.cfg.get (staKey r a)
    ((c.inputs ++ c.outputs).map (fun g => payloadBits (s.sigType g))).sum))).sum

/-- The shortest period of a ring (R193): 250 µs, or B × 1.25 ns. -/
def State.minPeriod (s : State) (r : Nat) : Nat := max (us 250) (5 * s.payload r)

/-- RINGr_MINP shows the shortest period in µs, rounded up (R208). -/
def State.showMinp (s : State) (r : Nat) : State := s.setReg STN.RINGr_MINP.MINP r ((s.minPeriod r + us 1 - 1) / us 1)

/-- The ring runs on PB0 (R192). -/
def State.onPb0 (s : State) (r : Nat) : Bool :=
  let st := s.baseState (s.ringBase r)
  st == BaseState.invalid || st == BaseState.acquiring

/-- The base at the bottom of a source chain. -/
def State.rootBase : Nat → State → Nat → Nat
  | 0, _, b => b
  | k + 1, s, b => if 13 ≤ b then State.rootBase k s (s.reg PHASE.VIRTv_SRC.SRC (b - 13)) else b

/-- The next grid point of a ring (R188, R191): the one after the present period's, or the first after the ring came to run on its
base. -/
def State.nextPoint (s : State) (r : Nat) : Nat :=
  match (s.ring r).next with
  | some g => g
  | none =>
    let b := s.ringBase r
    let u := max (max (s.ring r).since ((s.ring r).startAt - 1)) (s.phase.base.get (State.rootBase 3 s b)).anchorT
    let anch := s.reg STN.RINGr_ANCH_LO.ANCH r + s.reg STN.RINGr_ANCH_HI.ANCH r * 2 ^ 32
    nextGrid anch (max 1 (s.plen r)) ((s.at u).baseVal b)

/-- The base of a ring, or PB0 in its place, has reached the next period's start (R191, R192). -/
def State.periodReached (s : State) (r : Nat) : Bool :=
  let d := s.ring r
  if s.onPb0 r then d.startAt == 0 || decide (d.startAt - 1 + s.periodTime r ≤ s.now)
  else d.atOnce || reached (s.baseVal (s.ringBase r)) (s.nextPoint r)

/-- The ring engine of a unit begins to originate (R205, R234, R483): from now on its grid counts; at a takeover the grid of the last
CYCLE heard goes on, and a point that has passed is placed at once. The period the failed unit began is not this unit's to judge by
R194. -/
def State.startRings (s : State) (takeover : Bool) : State :=
  s.each [0, 1] (fun s r =>
    let s := s.updRing r (fun d => { d with takeover := takeover, silenced := false, since := s.now, early := false, atOnce := false })
    let past := takeover && (s.ring r).heard && (if s.onPb0 r then s.periodReached r else
      (s.ring r).next.isSome && reached (s.baseVal (s.ringBase r)) (s.nextPoint r))
    s.updRing r (fun d => if takeover && d.heard then { d with atOnce := past, inRing := false }
      else { d with startAt := 0, next := none, counted := false }))

/-! ### Substitutes, drops and the close of a period (R194, R200 to R206) -/

/-- The value and quality of a station's substitute for one signal (R202), detail 0x8. -/
def State.substitute (s : State) (k sig : Nat) : Nat × Nat × Nat :=
  match s.reg STN.RINGr_STAa_CFG.SUBST k with
  | 1 => (sig, 0, Quality.substitute + 8 * 16)
  | 2 => (sig, (match s.img.dir.get sig with | some d => d.fixed | none => 0), Quality.substitute + 8 * 16)
  | 3 => (sig, s.ownerValue sig, Quality.bad + 8 * 16)
  | _ => (sig, s.ownerValue sig, Quality.substitute + 8 * 16)

/-- The source identity of a station (R60). -/
def stationSource (k : Nat) : Nat := 0x1000 * (1 + k / 128) + k % 128

/-- R201 steps 2 to 4: one delivery of substitutes, an invocation of the station's error task. A unit outside the ACTIVE role does
neither (R205), one with safe outputs delivers as R477 says. -/
def State.leaveStation (s : State) (k : Nat) : State :=
  let s := (s.addReg STN.RINGr_STAa_STAT.DROPS k 1).addReg STN.RINGr_DROPS.DROPS (k / 128) 1
  let s := s.lifeAdd 0x14D 1
  let s := s.when s.ingressOn (fun s => s.deliverModule 0xF001 ((s.rings.cfg.get k).inputs.map (s.substitute k)))
  s.when s.isActive (fun s => s.invoke (s.reg STN.RINGr_STAa_CFG.ERRTASK k)
    { failed := none, cause := TaskCause.stationDrop, detail := k })

/-- R201: a GOOD station is dropped. -/
def State.dropStation (s : State) (k : Nat) : State :=
  ((s.setReg STN.RINGr_STAa_STAT.STATE k StaState.dropped).record 0x801 k .warning []).leaveStation k

/-- A STATION_REJECTED record (R199, R460). -/
def State.rejectStation (s : State) (k got : Nat) : State :=
  (s.setReg STN.RINGr_STAa_STAT.STATE k StaState.rejected).record 0x802 k .warning
    [(4, s.reg STN.RINGr_STAa_LAYOUT.LAYOUT k), (4, got)]

/-- A station at the end of a counted period (R199 to R201). -/
def State.closeStation (s : State) (r a : Nat) : State :=
  let k := staKey r a
  let d := s.rings.sta.get k
  let s := (s.setReg STN.RINGr_STAa_STAT.FWD k (d.dirs % 2)).setReg STN.RINGr_STAa_STAT.REV k (d.dirs / 2)
  let s := s.updSta k (fun d => { d with fwd := [], rev := [], segs := [], taken := false, valid := false, dirs := 0, reject := 0 })
  let st := s.staState k
  if st = StaState.good then
    if d.reject ≠ 0 then (s.leaveStation k).rejectStation k (d.reject - 1)
    else if d.valid then s.setReg STN.RINGr_STAa_STAT.MISS k 0
    else
      let m := min (s.reg STN.RINGr_STAa_STAT.MISS k + 1) 15
      let s := s.setReg STN.RINGr_STAa_STAT.MISS k m
      if s.reg STN.RINGr_CFG.DROPN r ≤ m then s.dropStation k else s
  else if st = StaState.admitting ∧ !d.valid then s.setReg STN.RINGr_STAa_STAT.ADMIT k 0
  else s

/-- RINGr_STAT.STATE of a closed period (R206); a period in which GOOD stations delivered in no direction, and none in one only,
leaves it. -/
def State.lineState (s : State) (r : Nat) : Nat :=
  let good := (s.stations r).filter (fun a => s.staState (staKey r a) == StaState.good)
  let dirs := good.map (fun a => (s.rings.sta.get (staKey r a)).dirs)
  if dirs.any (fun d => d == 1 || d == 2) then 2
  else if dirs.all (fun d => d == 3) then 1
  else max 1 (s.reg STN.RINGr_STAT.STATE r)

/-- The close of a counted period: RING or LINE (R206), a frame that has not returned (R194), and every station. -/
def State.closePeriod (s : State) (r : Nat) : State :=
  let d := s.ring r
  if !d.counted then s
  else
    let old := s.reg STN.RINGr_STAT.STATE r
    let new := s.lineState r
    let s := s.setReg STN.RINGr_STAT.STATE r new
    let s := s.when (old != 0 && old != new) (fun s => s.record 0x804 (0x200 + r) .info [(1, new)])
    let s := s.when (s.originates r && d.inRing && !d.returned) (fun s =>
      (s.setReg STN.RINGr_STAT.OVERRUN r 1).record 0x806 (0x200 + r) .warning [(2, s.reg STN.RINGr_RETURN.TIME r)])
    let s := s.each (s.stations r) (fun s a => s.closeStation r a)
    s.showGood r

/-! ### The frames of a period (R178 to R189, R203) -/

/-- The port through which a frame of a direction leaves the module, and the one through which it enters (R177). -/
def leavePort (r : Nat) (rev : Bool) : Nat := 2 * r + bn rev
def enterPort (r : Nat) (rev : Bool) : Nat := 2 * r + bn (!rev)

/-- Bytes of zeros. -/
def zeros (n : Nat) : List Nat := List.replicate n 0

/-- A frame on ring `r` (R180, R181) without its FCS: the group address of the ring, the sending port's own address, EtherType 0x88B5, the
24-byte header and the data area. Module frames carry HOPS 140 and SEQ 0 (R178). -/
def ringBytes (r : Nat) (rev : Bool) (type epoch period station seg first count : Nat) (data : List Nat) : List Nat :=
  [0x07, 0x54, 0x48, 0x4B, 0x00, 0x0A + r] ++ leBytes 6 (Config.portAddress (leavePort r rev)) ++ [0x88, 0xB5] ++
    [1, type, r + 2 * bn rev, 140] ++ leBytes 4 epoch ++ leBytes 4 period ++ [station, seg, 0, 0] ++ leBytes 2 first ++ leBytes 2 count ++
    leBytes 2 data.length ++ [0, 0] ++ data

/-- Frames leave through a station port while its link is up and it is not retired (R179, R468). -/
def State.portSends (s : State) (p : Nat) : Bool := s.sensed STN.PORTp_STAT.LINK p && !s.flag STN.PORTp_STAT.RETIRED p

/-- A frame of a direction leaves; through a port out of service none does, and the ring runs as a line (R179, R206). -/
def State.sendOneWay (s : State) (r : Nat) (rev : Bool) (bytes : List Nat) : State :=
  s.when (s.portSends (leavePort r rev)) (fun s => s.emit (.ringFrame r rev bytes))

/-- A module frame leaves in both directions (R178). -/
def State.sendRing (s : State) (r type station seg first count : Nat) (data : List Nat) : State :=
  let f := fun (rev : Bool) => ringBytes r rev type (s.reg PAIR.EPOCH.EPOCH) (s.reg STN.RINGr_PERIOD.NUM r) station seg first count data
  (s.sendOneWay r false (f false)).sendOneWay r true (f true)

/-- One output slot on its way to a station: type, quality with its detail, and value (R80, R185, R477). A slot with poison goes as BAD,
detail 0xA; the wire carries the quality code alone (R184). The station DMA reads it through its guard: a refused read is poison (R295). -/
def State.wireSlot (s : State) (sig : Nat) : Nat × Nat × Nat :=
  let sl := s.dmaSlot stationDma 256 sig
  let p := s.dmaPoison stationDma 256 sig
  let bad := p.1 || p.2 || sl.qual == Quality.poison
  (s.sigType sig, if bad then Quality.bad + 0xA * 16 else if s.mode.safeOutputs then Quality.bad else sl.qual + 16 * sl.detail, sl.value)

/-- A slot's nibble (R184): the quality code, and bit 3 the value of a BOOL. -/
def slotNibble (x : Nat × Nat × Nat) : Nat := x.2.1 % 8 + (if x.1 = 0 then 8 * (x.2.2 % 2) else 0)

/-- A slot's bytes in the value area (R184): none for a BOOL. -/
def slotBytes (x : Nat × Nat × Nat) : List Nat := if x.1 = 0 then [] else leBytes (fieldBytes x.1) x.2.2

/-- Two nibbles a byte, the even slot low, padded to a multiple of 4 bytes (R184). -/
def nibbleArea : List Nat → List Nat
  | [] => []
  | [a] => [a, 0, 0, 0]
  | [a, b] => [a + 16 * b, 0, 0, 0]
  | [a, b, c] => [a + 16 * b, c, 0, 0]
  | [a, b, c, d] => [a + 16 * b, c + 16 * d, 0, 0]
  | [a, b, c, d, e] => [a + 16 * b, c + 16 * d, e, 0]
  | [a, b, c, d, e, f] => [a + 16 * b, c + 16 * d, e + 16 * f, 0]
  | [a, b, c, d, e, f, g] => [a + 16 * b, c + 16 * d, e + 16 * f, g]
  | a :: b :: c :: d :: e :: f :: g :: h :: l => [a + 16 * b, c + 16 * d, e + 16 * f, g + 16 * h] ++ nibbleArea l

/-- The data area of a segment (R184): nibbles, then values. -/
def segmentData (l : List (Nat × Nat × Nat)) : List Nat := nibbleArea (l.map slotNibble) ++ (l.map slotBytes).flatten

/-- A set of slots in segments of whole slots whose data areas have at most 1,476 bytes (R181, R184). Where the image divides a set the model
does not carry: DESIGN CHOICE, each segment takes as many slots as it can (notes/assumptions/92.md). -/
def splitSegs (seg : List (Nat × Nat × Nat)) : List (Nat × Nat × Nat) → List (List (Nat × Nat × Nat))
  | [] => if seg = [] then [] else [seg]
  | x :: l =>
    if (segmentData (seg ++ [x])).length ≤ 1476 then splitSegs (seg ++ [x]) l else seg :: splitSegs [x] l

/-- The outputs of a station are sent when it is GOOD, one segment a frame, else discarded with a record (R183, R189, R203). -/
def State.sendOutputs (s : State) (r a : Nat) : State :=
  let k := staKey r a
  let outs := (s.rings.cfg.get k).outputs
  if outs = [] then s
  else if s.staState k = StaState.good then
    let segs := splitSegs [] (outs.map s.wireSlot)
    let s := s.each outs (fun s g => s.noteDmaSlot stationDma 256 g)
    s.each (List.range segs.length) (fun s i =>
      let seg := segs[i]?.getD []
      s.sendRing r RingFrame.output a (i + 8 * (segs.length - 1)) (((segs.take i).map List.length).sum) seg.length (segmentData seg))
  else s.record 0x803 k .info []

/-- CONFIG for a station that is not GOOD (R187, R189). -/
def State.sendConfig (s : State) (r a : Nat) : State :=
  let k := staKey r a
  if s.staState k = StaState.good then s
  else
    let c := s.rings.cfg.get k
    s.sendRing r RingFrame.config a 0 0 0 (leBytes 2 (s.reg STN.RINGr_STAa_CFG.HOLD k) ++ leBytes 2 c.inputs.length ++
      leBytes 2 c.outputs.length ++ [0, 0] ++ leBytes 4 (s.reg STN.RINGr_STAa_LAYOUT.LAYOUT k) ++ zeros 4)

/-- The CYCLE data area (R186). -/
def cycleData (pstart bepoch base flags pns : Nat) : List Nat :=
  leBytes 8 pstart ++ leBytes 2 bepoch ++ [base, flags] ++ leBytes 4 pns ++ zeros 16

/-- R235 step 5, R237: the first CYCLE after a takeover ends its gap, which began with the last valid heartbeat. -/
def State.endGap (s : State) : State :=
  if s.pair.gapFrom = 0 then s
  else { (s.noteGap (s.pair.gapFrom - 1)) with pair := { s.pair with gapFrom := 0 } }

/-- The stations that a load or a change adds start ABSENT, with their inputs 0, BAD, detail 0x8 (R198, R207, R525). -/
def State.absentStation (s : State) (k : Nat) : State :=
  let s := (s.setReg STN.RINGr_STAa_STAT.STATE k StaState.absent).updSta k (fun _ => default)
  s.when s.isActive (fun s => s.deliverModule 0xF001 ((s.rings.cfg.get k).inputs.map (fun g => (g, 0, Quality.bad + 8 * 16))))

/-- The fields of a station's settings, by station. -/
def stationFlds : List Fld :=
  [STN.RINGr_STAa_CFG.PRESENT, STN.RINGr_STAa_CFG.SUBST, STN.RINGr_STAa_CFG.ERRTASK, STN.RINGr_STAa_CFG.HOLD, STN.RINGr_STAa_LAYOUT.LAYOUT]

/-- R207, R267: what an on-line change alters of a ring's stations takes effect at this period start: settings, layouts, stations added, which
start ABSENT with the delivery of R525, and stations removed. -/
def State.takeStations (s : State) (r : Nat) : State :=
  match s.rings.due.get r with
  | none => s
  | some keys =>
    let cfg : Tab StationCfg := match s.struct.image with | some im => im.stations | none => []
    let mine := (List.range 128).map (staKey r)
    let was := mine.filter (fun k => s.flag STN.RINGr_STAa_CFG.PRESENT k)
    let put := fun (s : State) (f : Fld) (k : Nat) => if keys.contains (f.key k) then s.setReg f k (s.settings.get (f.key k)) else s
    let s := s.each stationFlds (fun s f => s.each mine (fun s k => put s f k))
    let s := put s STN.RINGr_CFG.DROPN r
    let s := s.each mine (fun s k => { s with rings := { s.rings with cfg := Tab.set s.rings.cfg k (Tab.get cfg k) } })
    let s := { s with rings := { s.rings with due := s.rings.due.set r none } }
    let s := s.each mine (fun s k =>
      let is := s.flag STN.RINGr_STAa_CFG.PRESENT k
      if is && !was.contains k then s.absentStation k
      else if !is && was.contains k then (s.setReg STN.RINGr_STAa_STAT.STATE k StaState.unused).updSta k (fun _ => default)
      else s)
    (s.showGood r).showMinp r

/-- A link period starts (R189, R191): the last one is closed, the grid goes on or is re-anchored, and the frames go out. -/
def State.startPeriod (s : State) (r : Nat) (guarded : Bool) : State :=
  let s := (s.closePeriod r).takeStations r
  let d := s.ring r
  let b := if s.onPb0 r then 0 else s.ringBase r
  let num := wrap 32 (s.reg STN.RINGr_PERIOD.NUM r + 1)
  let stepped := !s.onPb0 r && d.startAt != 0 && d.epoch != s.baseEpoch (s.ringBase r)
  let guarded := (guarded && !s.onPb0 r) || d.atOnce
  let anchored := stepped || guarded
  let here := if s.onPb0 r || anchored then s.baseVal b else s.nextPoint r
  let flags := bn stepped + 2 * bn d.takeover + 4 * bn guarded
  let s := s.when stepped (fun s => s.setReg STN.RINGr_STAT.STEP r 1)
  let s := s.when guarded (fun s => s.setReg STN.RINGr_STAT.GUARD r 1)
  let s := s.when anchored (fun s => s.record 0x805 (0x200 + r) .info [(1, bn stepped + 2 * bn guarded), (4, num)])
  let s := s.setReg STN.RINGr_PERIOD.NUM r num
  let s := s.updRing r (fun d => { d with
    startAt := s.now + 1, next := if s.onPb0 r then none else some (wrap 64 (here + s.plen r)), epoch := s.baseEpoch (s.ringBase r)
    counted := true, inRing := s.reg STN.RINGr_STAT.STATE r == 1, early := false, returned := false, takeover := false
    atOnce := false, rxEpoch := s.reg PAIR.EPOCH.EPOCH })
  let s := (s.sendRing r RingFrame.cycle 0xFF 0 0 0 (cycleData here (s.baseEpoch b) b flags (s.periodTime r / 4))).endGap
  let s := s.each (s.stations r) (fun s a => s.sendOutputs r a)
  s.each (s.stations r) (fun s a => s.sendConfig r a)

end Sys2Proof.Machine
end

