-- ==== Sys2Proof/Machine/Views.lean ====
section
/-! DEFINITION. Reading registers: the fields that show state kept elsewhere, the word at an address, the latches of R26, and the
access checks that every register access meets (R5, R15 to R18, R517, R520). -/

namespace Sys2Proof.Machine

/-- What every meaning answers: a next state. -/
abbrev Result := Host.Outcome State Fault Refusal

/-- The word of a bit set over 32 consecutive numbers starting at `lo`. -/
def packBits (f : Nat → Bool) (lo : Nat) : Nat :=
  ((List.range 32).map (fun i => bn (f (lo + i)) * 2 ^ i)).sum

/-- A CAN port takes part on its bus (R369, R370, R384): ON, its unit fitted and in service. -/
def State.canOn (s : State) (n : Nat) : Bool :=
  s.flag SYS.UNITS.CAN && s.reg CAN.CFG.MODE n == 1 && !s.flag CAN.STAT.RETIRED n && s.mode.runtimeRuns

/-- The criteria of R445 as they stand for part `p`; the MODEM's health query is answered. A fallback under PROBATION counts as migrated
(R446). -/
def State.meetsTrial (s : State) (p : Nat) : Bool :=
  if p = 0 then
    (s.upd.migrated || s.reg UPD.STAT.STATE == 6) && s.mode.dwells &&
      (s.struct.image.isSome || (!s.flag STRUCT.SLOT.VALID_A && !s.flag STRUCT.SLOT.VALID_B)) &&
      (List.range 16).all (fun b => s.reg BLK.STATUS.STATE b != BlockState.restarting)
  else if p = 1 then s.reg SAFE.STAT.STATE == 1 || s.reg SAFE.STAT.STATE == 2
  else if p = 2 then
    s.flag LOOP.STAT.FE_OK && (s.loops.sampleAt != 0 || (List.range 32).all (fun c =>
      s.reg LOOP.CHc_STAT.STATE c == 0 || s.reg LOOP.CHc_STAT.STATE c == 4))
  else true

/-- The end of a trial or probation window (R444, R446). -/
def State.windowEnd (s : State) : Nat := s.upd.windowAt - 1 + sec (60 * s.reg UPD.CFG.WINDOW)

/-- What a read of a field that it clears answers (R20): the events of the read's own fabric cycle are left for the next read. -/
def State.beforeCycle (s : State) (f : Fld) (i : Nat) : Nat := (s.eventsOf f i).before

/-- The value a field shows. Most fields show the register table; the others show state that has its home elsewhere. -/
def State.live (s : State) (f : Fld) (i : Nat) : Nat :=
  if f = SYS.MODE.CODE then s.mode.code
  else if f = SYS.MODE.PREV then s.prevMode.code
  else if f = PAIR.STAT.ROLE then s.mode.role
  else if f = SYS.HOLDUP.CHARGED then bn s.power.charged
  else if f = UPD.TRIAL.LEFT then if s.upd.windowAt = 0 then 0 else (s.windowEnd - s.now) / sec 1
  else if f = UPD.TRIAL.DWELL then
    if s.upd.dwellAt = 0 ∨ !s.meetsTrial (s.reg UPD.STAT.PART) then 0 else (s.now - (s.upd.dwellAt - 1)) / sec 1
  else if f = PORT.STAT.CELL_UP then bn (s.flag f i && s.isActive)
  else if f = PORT.STAT.PAIRADDR then bn s.isActive
  else if f = STN.RINGr_STAT.ORIGIN then bn (s.originates i)
  else if f = STN.RINGr_STAT.STATE then if s.flag STN.RINGr_CFG.EN i then s.reg f i else 0
  else if f = CAN.STAT.STATE then if s.canOn i then max 1 (s.reg f i) else 0
  else if f = CAN.STAT.MONITORING then bn (s.canOn i && !s.isActive)
  else if f = PHASE.BASEn_VAL_LO.VAL then wrap 32 (s.baseVal i)
  else if f = PHASE.BASEn_VAL_HI.VAL then s.baseVal i / 2 ^ 32
  else if f = PHASE.BASEn_STATUS.STATE then s.baseState i
  else if f = PHASE.BASEn_STATUS.KIND then s.baseKind i
  else if f = PHASE.BASEn_RATE.RATE then s.baseRate i
  else if f = PHASE.BASEn_SPEED.SPEED then s.baseSpeed i
  else if f = PHASE.BASEn_STATUS.DIR then bn (s.baseReverse i)
  else if f = PAIR.LAG.STREAM then min (s.streamAge / us 1) 65535
  else if f = PAIR.LAGMAX.STREAM then max (s.reg f i) (min (s.streamAge / us 1) 65535)
  else if f = IMAGE.SEQ_LO.SEQ then wrap 32 s.img.seq
  else if f = IMAGE.SEQ_HI.SEQ then s.img.seq / 2 ^ 32
  else if f = FPIN.PINp_STAT.RAW then bn (s.cells.rawLevel.get i)
  else if f = FPIN.PINp_STAT.LIMITED then bn (s.flag FPIN.PINp_STAT.DRIVE i && s.flag KETTLE.POOL_STAT.LIMITING)
  else if f = FPIN.LVL_LO.LEVEL then packBits (fun p => s.flag FPIN.PINp_STAT.LEVEL p) 0
  else if f = FPIN.LVL_HI.LEVEL then packBits (fun p => s.flag FPIN.PINp_STAT.LEVEL p) 32
  else if f = FPIN.TERM_LO.LEVEL then
    packBits (fun p => s.reg FPIN.PINp_CFG.DIR p == 2 && s.flag FPIN.PINp_STAT.LEVEL p) 0
  else if f = FPIN.TERM_HI.LEVEL then
    packBits (fun p => s.reg FPIN.PINp_CFG.DIR p == 2 && s.flag FPIN.PINp_STAT.LEVEL p) 32
  else if f = CELL.NETLVLk.LEVEL then packBits (fun n => s.cells.latch.get (netLatch n)) (32 * i)
  else if f = CELL.STRANDs_STAT.LIVE then
    ((List.range 32).filter (fun k => s.reg CELL.CELLc_CTRL.MODE (32 * i + k) != CellMode.off)).length
  else if f = LOOP.CHc_STAT.TRIPS then min 31 (s.occWithin 5 i).length
  else if f = CELL.CELLc_STAT.CHKFAIL then min (s.reg f i) (s.occWithin 1 i).length
  else if f = CELL.PINp_ROUTE.MOVED then bn (s.reg CELL.PINp_ROUTE.CUR i != s.reg CELL.PINp_ROUTE.HOME i)
  else if f = GUARD.MKEYm_RW.READ then (s.keyOf i 256).read
  else if f = GUARD.MKEYm_RW.WRITE then (s.keyOf i 256).write
  else if f = GUARD.MKEYm_X.EXEC then (s.keyOf i 256).exec
  else if f = LEAF.SCRUB_STAT.STATE then
    if s.reg f i = 1 ∧ toSigned 32 (s.reg KETTLE.SYSD_ACCT.ACCT) ≤ 0 then 2 else s.reg f i
  else if f = REC.OPTIME_LO.MS then wrap 32 s.opTime
  else if f = REC.OPTIME_HI.MS then wrap 16 (s.opTime / 2 ^ 32)
  else if f = CELL.CELLc_TARGET_LO.TARGET ∨ f = CELL.CELLc_TARGET_HI.TARGET then
    let m := s.reg CELL.CELLc_CTRL.MODE i
    if firesAtTarget m then s.reg f i else 0
  else if f = CELL.CELLc_TARGET_LO.WSTART ∨ f = CELL.CELLc_TARGET_HI.WWIDTH then
    if s.reg CELL.CELLc_CTRL.MODE i = CellMode.reflex then s.reg f i else 0
  else if f = CELL.CELLc_TARGET_LO.RESULT ∨ f = CELL.CELLc_TARGET_HI.RESULT then
    let m := s.reg CELL.CELLc_CTRL.MODE i
    if m = CellMode.capture ∨ m = CellMode.window then s.reg f i else 0
  else if f = CELL.CELLc_IN23.IN2 ∨ f = CELL.CELLc_IN23.IN3 then
    if s.reg CELL.CELLc_CTRL.MODE i = CellMode.move then 0 else s.reg f i
  else if f = CELL.CELLc_IN23.SIGNAL ∨ f = CELL.CELLc_IN23.DIR then
    if s.reg CELL.CELLc_CTRL.MODE i = CellMode.move then s.reg f i else 0
  else if f.acc = .RC then s.beforeCycle f i
  else s.reg f i

/-- The field takes part in a read: WO fields read 0 (R18). -/
def Fld.readable (f : Fld) : Bool := f.acc != .WO

/-- The 32-bit word at a register address, reserved bits 0 (R16, R17). -/
def State.word (s : State) (a : Nat) : Nat :=
  (((fieldsAt a).filter (fun x => x.1.readable)).map (fun x => wrap x.1.width (s.live x.1 x.2) * 2 ^ x.1.lo)).sum

/-- A read latches some registers for a master (R26). -/
def State.latchWords (s : State) (m : Nat) (addrs : List Nat) : State :=
  s.each addrs (fun s a => { s with latches := s.latches.set (m * 2 ^ 32 + a) (some (s.word a)) })

/-- What a master's latch holds of a register, if it holds it. -/
def State.latched (s : State) (m a : Nat) : Option Nat := s.latches.get (m * 2 ^ 32 + a)

/-- A latch is loaded with a word. -/
def State.setLatch (s : State) (m a w : Nat) : State :=
  { s with latches := s.latches.set (m * 2 ^ 32 + a) (some w) }

/-- The RC fields at an address are cleared by its read (R18); what the events of the read's own fabric cycle made of them stays set for the
next read (R20). -/
def State.clearRC (s : State) (a : Nat) : State :=
  s.each ((fieldsAt a).filter (fun x => x.1.acc == .RC)) (fun s x =>
    let r := s.eventsOf x.1 x.2
    let left : CycleEvents := if r.fresh = 0 then default else { r with before := 0 }
    ({ s with raced := s.raced.set (x.1.key x.2) left }).setReg x.1 x.2 r.fresh)

/-- The unit at an address range is absent on this variant (R5, R517). -/
def State.absentAt (s : State) (a : Nat) : Bool :=
  (!s.flag SYS.UNITS.CAN && decide (0x40100000 ≤ a ∧ a < 0x40140000)) ||
  (!s.flag SYS.UNITS.LOOP && decide (0x40140000 ≤ a ∧ a < 0x40150000)) ||
  (!s.flag SYS.UNITS.SAFE && decide (0x40160000 ≤ a ∧ a < 0x40170000)) ||
  (!s.flag SYS.UNITS.ACS && decide (0x40150500 ≤ a ∧ a < 0x40150520)) ||
  (!s.flag SYS.UNITS.MODEM && decide (0x400C0064 ≤ a ∧ a < 0x400C006C))

/-- An access to a range of R517 sets ABSENT_HIT and ABSENT_ADDR (R5, R520). -/
def State.absentHit (s : State) (a : Nat) : State :=
  let s := { s with power := { s.power with hitAt := s.now + 1 } }
  (s.setReg SYS.ABSENT_HIT.HIT 0 1).setReg SYS.ABSENT_ADDR.ADDR 0 a

/-- The address lies in a page of the control space (R516). -/
def inPage (a : Nat) : Bool :=
  decide (0x40000000 ≤ a ∧ a < 0x400F0000) || decide (0x40100000 ≤ a ∧ a < 0x40170000) ||
  decide (0x40200000 ≤ a ∧ a < 0x40340000) || decide (0x40400000 ≤ a ∧ a < 0x40430000)

/-- RWL registers take a write only in COMMISSION and SERVICE (R18). -/
def State.rwlOpen (s : State) : Bool := s.mode == .commission || s.mode == .service

/-- A write to an RWL field: performed in COMMISSION and SERVICE when its value is allowed, else ignored with a WRITE_REFUSED
record (R18, R523). -/
def State.guardWrite (s : State) (addr master : Nat) (isRwl valid : Bool) (f : State → State) : State :=
  if isRwl && !s.rwlOpen then s.writeRefused addr master 1
  else if !valid then s.writeRefused addr master 2
  else f s

end Sys2Proof.Machine
end

