-- ==== Sys2Proof/Machine/CanOps.lean ====
section
/-! DEFINITION. The CAN ports' shared operations (R376 to R382): which port sends, requests and the choice before arbitration, what a
commit issues, and what an input read takes from FIFOs and high-priority buffers. -/

namespace Sys2Proof.Machine

/-- Codes of TXBb_CFG.STATUS and CANRES (R392). -/
def TxStatus.pending : Nat := 1
def TxStatus.active : Nat := 2
def TxStatus.sent : Nat := 3
def TxStatus.cancelled : Nat := 4
def TxStatus.poison : Nat := 5
def TxStatus.failed : Nat := 6
def CanRes.done : Nat := 1
def CanRes.tooLate : Nat := 2
def CanRes.notPending : Nat := 3

/-- What the model keeps of a port. -/
def State.canPort (s : State) (n : Nat) : CanPort := s.can.get n

/-- Change what the model keeps of a port. -/
def State.updCan (s : State) (n : Nat) (f : CanPort → CanPort) : State := { s with can := s.can.upd n f }

/-! ### The CAN port area of the Tray (R75, R374, R376 to R378) -/

/-- The first word of place `p` of port `n`: each port has 184 places of 96 bytes, FIFO0 from 0, FIFO1 from 64, the high-priority buffers from
128, the transmit buffers from 136 and the queue entries from 168. The manual gives the sizes and not the order: DESIGN CHOICE
(notes/assumptions/80.md). -/
def canWord (n p : Nat) : Nat := trayCanWord + 12 * (184 * n + p)

/-- Places of the entries of a FIFO by number, of a high-priority buffer, of a transmit buffer, and of a queue entry by number. -/
def fifoPlace (k i : Nat) : Nat := 64 * k + i % 64
def hpPlace (h : Nat) : Nat := 128 + h
def txPlace (b : Nat) : Nat := 136 + b
def queuePlace (i : Nat) : Nat := 168 + i % 16

/-- The words of an entry (R374): IDW, DLC, ELEM and EPOCH, STAMP, SEQ64, a reserved word, and 64 data bytes. -/
def CanEntry.words (e : CanEntry) : List Nat :=
  [wrap 32 e.idw + wrap 5 e.dlc * 2 ^ 32 + wrap 8 e.elem * 2 ^ 40 + wrap 16 e.epoch * 2 ^ 48, wrap 64 e.stamp, wrap 64 e.seq64, 0] ++
    (List.range 8).map (fun k => ofBytes ((e.data.drop (8 * k)).take 8))

/-- The entry that some words hold. -/
def CanEntry.ofWords (l : List Nat) : CanEntry :=
  let w := fun k => wrap 64 (l.getD k 0)
  { idw := wrap 32 (w 0), dlc := bitField 32 5 (w 0), elem := bitField 40 8 (w 0), epoch := bitField 48 16 (w 0), stamp := w 1, seq64 := w 2
    data := ((List.range 8).map (fun k => leBytes 8 (w (4 + k)))).flatten }

/-- The words of a transmit buffer or a queue entry: the layout of R374, of which the engine takes IDW, DLC, DATA and STAMP (R378). -/
def CanFrame.words (f : CanFrame) : List Nat :=
  CanEntry.words { idw := f.idw, dlc := wrap 4 f.dlc, elem := 0, epoch := 0, stamp := f.stamp, seq64 := 0, data := f.data }

/-- The frame that some words hold. -/
def CanFrame.ofWords (l : List Nat) : CanFrame :=
  let e := CanEntry.ofWords l
  { idw := e.idw, dlc := wrap 4 e.dlc, data := e.data, stamp := e.stamp }

/-- The instance of a field of buffer `b`. -/
def txKey (n b : Nat) : Nat := n * 32 + b

/-- The status of a buffer. -/
def State.txStatus (s : State) (n b : Nat) : Nat := s.reg CAN.TXBb_CFG.STATUS (txKey n b)

/-- A buffer takes a status; TXPEND follows. -/
def State.setTx (s : State) (n b st : Nat) : State :=
  let s := s.setReg CAN.TXBb_CFG.STATUS (txKey n b) st
  s.setReg CAN.TXPEND.PEND n (putField b 1 (s.reg CAN.TXPEND.PEND n) (bn (st == TxStatus.pending || st == TxStatus.active)))

/-- A port sends frames (R369, R384, R385): normal mode, not bus-off nor about to be, not pausing. -/
def State.canSends (s : State) (n : Nat) : Bool :=
  s.canOn n && s.isActive && s.reg CAN.STAT.STATE n != 3 && decide (s.reg CAN.ERR.TEC n ≤ 255) && !s.flag CAN.STAT.PAUSED n

/-- The arbitration value of a frame: the identifier's bits in the order they are sent, a base frame before an extended one with the same
leading bits (ISO 11898-1; R381). -/
def arbitration (idw : Nat) : Nat :=
  if bitOf 29 idw then bitField 18 11 idw * 2 ^ 19 + 2 ^ 18 + bitField 0 18 idw else bitField 0 11 idw * 2 ^ 19

/-- The PENDING buffer with the lowest arbitration value, the lower number first (R381). -/
def State.lowestPending (s : State) (n : Nat) : Option Nat :=
  let pend := (List.range 32).filter (fun b => s.txStatus n b == TxStatus.pending)
  pend.foldl (fun best b => match best with
    | none => some b
    | some x => if arbitration ((s.canPort n).buf.get b).idw < arbitration ((s.canPort n).buf.get x).idw then some b else some x) none

/-- The engine's choice before an arbitration (R381): a buffer, or 32 for the head of the queue; a tie goes to the buffer. -/
def State.chooseTx (s : State) (n : Nat) : Option Nat :=
  match s.lowestPending n, (s.canPort n).queue with
  | none, [] => none
  | none, _ => some 32
  | some b, [] => some b
  | some b, q :: _ => if arbitration q.idw < arbitration ((s.canPort n).buf.get b).idw then some 32 else some b

/-- The frame a choice stands for; without BRSEN no frame switches its bit rate (R392). -/
def State.txFrame (s : State) (n b : Nat) : CanFrame :=
  let f := if b = 32 then (s.canPort n).queue.headD default else (s.canPort n).buf.get b
  if s.flag CAN.CFG.BRSEN n then f else { f with idw := putField 31 1 f.idw 0 }

/-- The data length of a DLC (ISO 11898-1, R378). -/
def dlcBytes (fd : Bool) (dlc : Nat) : Nat :=
  let d := dlc % 16
  if d ≤ 8 then d else if !fd then 8
  else match d with | 9 => 12 | 10 => 16 | 11 => 20 | 12 => 24 | 13 => 32 | 14 => 48 | _ => 64

/-- The port puts its next frame on the bus when none of its own is there. -/
def State.startTx (s : State) (n : Nat) : State :=
  if !s.canSends n || (s.canPort n).active.isSome then s
  else match s.chooseTx n with
    | none => s
    | some b =>
      let f := s.txFrame n b
      let s := s.updCan n (fun p => { p with active := some b })
      let s := if b = 32 then s else s.setTx n b TxStatus.active
      s.emit (.canFrame n f.idw (f.data.take (dlcBytes (bitOf 30 f.idw) f.dlc)))

/-- A frame whose format the port may not send (R392 CFG.FDEN). -/
def State.mayNotSend (s : State) (n : Nat) (f : CanFrame) : Bool := bitOf 30 f.idw && !s.flag CAN.CFG.FDEN n

/-- A request on a buffer (R380): it replaces a PENDING content, and waits for an ACTIVE frame to end. -/
def State.requestTx (s : State) (n b : Nat) (f : CanFrame) : State :=
  if s.mayNotSend n f then s
  else if s.txStatus n b = TxStatus.active then s.updCan n (fun p => { p with again := p.again.set b (some f) })
  else
    let s := s.updCan n (fun p => { p with buf := p.buf.set b f })
    let s := s.setReg CAN.TXBb_CFG.CANRES (txKey n b) 0
    (s.setTx n b TxStatus.pending).startTx n

/-- A push into the queue (R380). -/
def State.pushTx (s : State) (n : Nat) (f : CanFrame) : State :=
  if s.mayNotSend n f then s
  else if 16 ≤ (s.canPort n).queue.length then s.setReg CAN.TXQSTAT.FULL n 1
  else
    let s := s.updCan n (fun p => { p with queue := p.queue ++ [f] })
    (s.setReg CAN.TXQSTAT.FILL n (s.canPort n).queue.length).startTx n

/-- The signals of a map (R375). -/
def State.mapSignals (s : State) (n m : Nat) : List Nat :=
  (List.range (s.reg CAN.MAPm_SIG.COUNT (n * 64 + m) + 1)).map (fun k => s.reg CAN.MAPm_SIG.SIG (n * 64 + m) + k)

/-- The lowest DLC of an FD frame that carries `n` bytes. -/
def dlcFor (n : Nat) : Nat := ((List.range 16).find? (fun d => n ≤ dlcBytes true d)).getD 15

/-- The data of a MAPPED buffer (R378): the map's fields from byte OFF on, with the values the commit publishes. -/
def State.mapData (s : State) (n m : Nat) : List Nat :=
  List.replicate (s.reg CAN.MAPm_FMT.OFF (n * 64 + m)) 0 ++
    ((s.mapSignals n m).map (fun g => leBytes (fieldBytes (s.sigType g)) (s.slotRead g).value)).flatten

/-- A MAPPED buffer after a commit that published a signal of its map (R379): requested, or held when a slot is BAD, POISON or STALE. Its
identifier and format are not stated and free. -/
def State.requestMapped (s : State) (n b : Nat) : State :=
  let m := s.reg CAN.TXBb_CFG.MAP (txKey n b)
  let held := (s.mapSignals n m).any (fun g =>
    let q := s.copyQual g
    q == Quality.bad || q == Quality.poison || q == Quality.stale)
  if held then s.addReg CAN.MAPERR.HOLD n 1
  else
    let d := s.mapData n m
    let f : CanFrame := { (s.canPort n).buf.get b with idw := s.freeVal 32, data := d, dlc := dlcFor d.length }
    (s.nextFree.writeWords 1 (canWord n (txPlace b)) f.words).requestTx n b f

/-- The MAPPED buffers of a task whose map names a published signal. -/
def State.mappedOf (s : State) (n t : Nat) (published : List Nat) : List Nat :=
  (List.range 32).filter (fun b => s.flag CAN.TXBb_CFG.MAPPED (txKey n b) && s.reg CAN.TXBb_CFG.OWNER (txKey n b) == t &&
    (s.mapSignals n (s.reg CAN.TXBb_CFG.MAP (txKey n b))).any published.contains)

/-- The first word of the area of a staged request: of buffer `b`, or of the next queue entry (R379). -/
def State.areaWord (s : State) (n b : Nat) : Nat :=
  if b = 32 then canWord n (queuePlace ((s.canPort n).queueAt + (s.canPort n).queue.length)) else canWord n (txPlace b)

/-- A staged request or push takes effect (R379, R380): the CAN DMA copies its area into the port; one that carries poison, or that the
guard refuses, is not started (R282, R295). -/
def State.issueArea (s : State) (n b : Nat) : State :=
  let s := if b = 32 then s.setReg CAN.TXQSTAT.PUSH n 0
    else s.setReg CAN.TXREQ.REQ n (putField b 1 (s.reg CAN.TXREQ.REQ n) 0)
  let l := s.dmaWords canDma 256 1 (s.areaWord n b) 12
  let s := s.noteDma canDma 256 1 (s.areaWord n b) 12
  if l.any (bitOf 64) then if b = 32 then s else s.setTx n b TxStatus.poison
  else if b = 32 then s.pushTx n (CanFrame.ofWords l)
  else s.requestTx n b (CanFrame.ofWords l)

/-- A commit is complete (R379, R380): the task's staged requests and pushes take effect, and MAPPED buffers of published signals are
requested. -/
def State.issueCan (s : State) (t : Nat) (published : List Nat) : State :=
  let staged := (s.task t).canStaged
  let s := s.updTask t (fun d => { d with canStaged := [] })
  let s := s.each staged (fun s x => s.issueArea x.1 x.2)
  s.each ((List.range 4).filter s.canOn) (fun s n => s.each (s.mappedOf n t published) (fun s b => s.requestMapped n b))

/-- The entries of a FIFO. -/
def CanPort.fifo (p : CanPort) (k : Nat) : List CanEntry := if k = 0 then p.fifo0 else p.fifo1

/-- The number of a FIFO's oldest entry. -/
def CanPort.first (p : CanPort) (k : Nat) : Nat := if k = 0 then p.first0 else p.first1

/-- A FIFO takes a content whose oldest entry has number `i`. -/
def CanPort.setFifo (p : CanPort) (k i : Nat) (l : List CanEntry) : CanPort :=
  if k = 0 then { p with fifo0 := l, first0 := i } else { p with fifo1 := l, first1 := i }

/-- The entries of a FIFO that the input read of task `t` takes (R376): the oldest, up to RXMAX. -/
def State.fifoDue (s : State) (t n k : Nat) : Nat :=
  let owner := if k = 0 then s.reg CAN.CFG.FIFO0TASK n else s.reg CAN.CFG.FIFO1TASK n
  if owner ≠ t then 0 else min (s.reg CAN.FIFOk_STAT.RXMAX (n * 2 + k)) ((s.canPort n).fifo k).length

/-- The high-priority buffers that the input read of task `t` takes (R377). -/
def State.hpDue (s : State) (t n : Nat) : List Nat :=
  (List.range 8).filter (fun h => ((s.canPort n).hp.get h).isSome && s.reg CAN.HPh_CFG.TASK (n * 8 + h) == t)

/-- The first words of the entries that the input read of task `t` takes from the CAN ports (R101, R376, R377): by port, FIFO0, FIFO1 and the
high-priority buffers. -/
def State.canDue (s : State) (t : Nat) : List Nat :=
  ((List.range 4).filter s.canOn).flatMap (fun n =>
    [0, 1].flatMap (fun k => (List.range (s.fifoDue t n k)).map (fun i => canWord n (fifoPlace k ((s.canPort n).first k + i)))) ++
      (s.hpDue t n).map (fun h => canWord n (hpPlace h)))

/-- The taken entries leave a FIFO (R376). -/
def State.takeFifo (s : State) (t n k : Nat) : State :=
  let m := s.fifoDue t n k
  if m = 0 then s
  else
    let s := s.updCan n (fun p => p.setFifo k (p.first k + m) ((p.fifo k).drop m))
    s.setReg CAN.FIFOk_STAT.FILL (n * 2 + k) ((s.canPort n).fifo k).length

/-- The taken entries leave the high-priority buffers of a port (R377). -/
def State.takeHps (s : State) (t n : Nat) : State :=
  s.each (s.hpDue t n) (fun s h => (s.updCan n (fun p => { p with hp := p.hp.set h none })).setReg CAN.HPh_CFG.NEW (n * 8 + h) 0)

/-- R101, R376, R377: the block DMA `dma` copies what the input read of task `t` takes from the CAN ports, as it reads it from the Tray. -/
def State.takeCan (s : State) (dma t : Nat) : State :=
  let due := s.canDue t
  let seen := due.map (fun w => CanEntry.ofWords (s.dmaWords dma t 1 w 12))
  let s := s.each due (fun s w => s.noteDma dma t 1 w 12)
  let s := s.updTask t (fun d => { d with canView := seen })
  s.each ((List.range 4).filter s.canOn) (fun s n => ((s.takeFifo t n 0).takeFifo t n 1).takeHps t n)

/-- A port starts afresh (R369, R375, R384): error counters at 0, its sources accepted again; a time master that has sent no reference
message waits for the next multiple (R388). -/
def State.freshPort (s : State) (n : Nat) : State :=
  let s := (((s.setReg CAN.ERR.TEC n 0).setReg CAN.ERR.REC n 0).setReg CAN.ERR.RP n 0).setReg CAN.STAT.STATE n 1
  let s := s.setReg CAN.STAT.RECOVERING n 0
  let v := s.baseVal (min 5 (s.reg CAN.CTS_CFG.BASE n))
  let s := s.updCan n (fun p => { p with sentVal := if p.sentAt = 0 then v else p.sentVal })
  s.each (List.range 192) (fun s e => s.resetSource (1024 + n * 256 + e))

/-- R369, R388: at a takeover each port goes to normal mode with nothing pending, and the first reference message carries NOPREV. -/
def State.canTakeover (s : State) : State :=
  s.each ((List.range 4).filter s.canOn) (fun s n =>
    let s := s.updCan n (fun p => { p with
      prevOk := false, sending := false, sentAt := 0, active := none, ackErrs := 0, queue := [], queueAt := p.queueAt + p.queue.length, again := [], cancel := [] })
    let busy := fun b => s.txStatus n b == TxStatus.pending || s.txStatus n b == TxStatus.active
    let s := s.each ((List.range 32).filter busy) (fun s b => s.setTx n b 0)
    (s.setReg CAN.TXQSTAT.FILL n 0).freshPort n)

/-- The fields of the strainer elements (R373, R392). -/
def strainerFlds : List Fld :=
  [CAN.SFk_W0.TYPE, CAN.SFk_W0.ID1, CAN.SFk_W0.ID2, CAN.SFk_W1.ACTION, CAN.SFk_W1.MAPEN, CAN.SFk_W1.MAP, CAN.XFk_W0.ID1, CAN.XFk_W1.TYPE,
   CAN.XFk_W1.ID2, CAN.XFk_W2.WORD]

end Sys2Proof.Machine
end

