-- ==== Sys2Proof/Machine/Leaf.lean ====
section
/-! DEFINITION. The meanings of the protected memory, scrubber and guard commands (09_leaf_code_and_guards.md), but for
ROM_GATE_CALL (RomGate.lean). -/

namespace Sys2Proof.Machine

/-! ### What errors lead to (R290, R467) -/

/-- The words of a DRAM page. -/
def pageWords : Nat := 512

/-- The spare copy of a page (R290): clean and corrected words become valid, all others carry the mark. The copy meets each word like the
scrubber (R279; DEDUCED, notes/assumptions/109.md). -/
def State.copyPage (s : State) (p : Nat) : State :=
  let bad := (s.leaf.syn.filter (fun e => decide (p * pageWords ≤ e.1 ∧ e.1 < (p + 1) * pageWords))).map Prod.fst
  s.each bad (fun s w =>
    let s := s.noteRead 0 w 0x3F
    if s.poisonAt 0 w then s.putSyn 0 w poisonSyn
    else (s.putData 0 w (s.wordAt 0 w)).putSyn 0 w 0)

/-- The page is in the retirement map already, or waits for its copy. -/
def State.pageGone (s : State) (p : Nat) : Bool := s.leaf.pages.any (fun e => e.2 == p + 1) || s.leaf.copies.contains p

/-- The first free entry for a DRAM page. -/
def State.freePage (s : State) : Option Nat := (List.range 256).find? (fun i => s.leaf.pages.get i == 0)

/-- Page `p` is to be retired (R290, R467 kind 9): it enters the map when a spare is free, and its copy is owed. -/
def State.retirePage (s : State) (p code : Nat) : State :=
  if s.pageGone p then s
  else
    let s := { s with leaf := { s.leaf with copies := s.leaf.copies ++ [p] } }
    match s.freePage with
    | none => s
    | some i =>
      let s := { s with leaf := { s.leaf with pages := s.leaf.pages.set i (p + 1) } }
      (s.setReg LEAF.PAGES.COUNT 0 s.leaf.pages.length).retireItem 9 i 5 0 code

/-- The owed copy of a page takes place (R290): with no spare left the page stays in service, PAGE_FULL is set and the module is
DEGRADED. -/
def State.finishCopy (s : State) (p : Nat) : State :=
  if s.leaf.copies.contains p then
    let s := { s with leaf := { s.leaf with copies := s.leaf.copies.filter (fun q => q != p) } }
    if s.leaf.pages.any (fun e => e.2 == p + 1) then s.copyPage p
    else ((s.setReg LEAF.STAT.PAGE_FULL 0 1).note 5 0 [(4, p)]).cause 5 true
  else s

/-- The retry budgets judge a result (R290, R467): a CORRECTED word counts against its DRAM page, a worse one retires the page at
once; a worse result in a TCM counts against its block. Injected errors count toward none (R285). -/
def State.judgeResult (s : State) (m w kind : Nat) : State :=
  if kind = 0 ∨ s.injected m w then s
  else if m = 0 then
    let p := w / pageWords
    if kind = 1 then
      let s := s.occurs 9 p
      if s.permanent 9 p then s.retirePage p 0x501 else s
    else s.retirePage p (0x500 + kind)
  else if 6 ≤ m ∧ kind ≠ 1 then
    let b := (m - 6) % 16
    let s := s.occurs 3 b
    if s.permanent 3 b ∧ !s.isRetired 3 b then s.retireBlock b (0x500 + kind) else s
  else s

/-- A read by a master: counted, and judged. -/
def State.meetWord (s : State) (m w master : Nat) : State :=
  let k := (leafDecode (s.synAt m w)).kind
  (s.noteRead m w master).judgeResult m w k

/-- A master's read of `n` words, met as far as its guard allows (R279, R295, R296). -/
def State.meetDma (s : State) (master m w n : Nat) : State :=
  match s.firstRefused master 256 m w n with
  | none => s.each (List.range n) (fun s i => s.meetWord m (w + i) master)
  | some k =>
    let s := s.each (List.range k) (fun s i => s.meetWord m (w + i) master)
    s.guardRefuse master 0 (s.colourAt m (w + k)) (8 * physical m (w + k)) (decide (k ≠ 0))

/-- R283: a write of the bytes of `v` that `mask` names; a narrow one is a read-modify-write, and leaves the list of flipped words as
it is (R285). -/
def State.storeMasked (s : State) (m w v mask master : Nat) : State :=
  if mask = 255 then s.writeWord m w v
  else
    let s := s.meetWord m w master
    if s.poisonAt m w then ((s.putData m w (mergeBytes (s.dataAt m w) v mask)).putSyn m w poisonSyn).actFlip m w
    else ((s.putData m w (mergeBytes (s.wordAt m w) v mask)).putSyn m w 0).actFlip m w

/-! ### Core accesses -/

/-- mcause of a refused or failing core access by kind: `base` is the code of the fetch (0 misaligned, 1 access fault). -/
def accessCause (base kind : Nat) : Nat :=
  match kind with
  | 0 => base + 4
  | 2 => base
  | _ => base + 6

/-- A core access fails (R111, R295): the task in U mode faults, in M mode the block restarts. -/
def State.coreFault (s : State) (b mcause cause detail pc tval energy : Nat) : State :=
  match s.cycleTask b with
  | some t => s.takeException b t mcause pc tval cause detail energy
  | none => s.blockRestart b 0 mcause (some energy)

/-- The DRAM word lies in the task's state area (R105). -/
def State.inStateArea (s : State) (t m w : Nat) : Bool :=
  let c := s.tasks.cfg.get t
  m == 0 && decide (c.stateBase ≤ w / 8 ∧ w / 8 < c.stateBase + c.stateLines)

/-- The buffered word of a state area, and whether it carries poison (bit 64): the cycle's own store, else DRAM (R105). -/
def State.stateWord (s : State) (t w : Nat) : Nat × Bool :=
  match s.tasks.stateBuf.get (t * 2 ^ 40 + w) with
  | some v => (wrap 64 v, bitOf 64 v)
  | none => (s.wordAt 0 w, s.poisonAt 0 w)

/-- A store of a task (R76, R105, R283): to its state area into the block's state buffer; to a working slot, of which it
reaches only VALUE and QUALITY; to any other word directly. -/
def State.taskStore (s : State) (b t m w v mask pc energy : Nat) : State :=
  if s.inStateArea t m w then
    let d := s.task t
    if !d.lines.contains (w / 8) && decide (2048 ≤ d.lines.length) then
      s.nextFree.takeException b t (s.freeVal 32) pc (physical m w * 8) TaskCause.stateFull d.lines.length energy
    else
      let old := s.stateWord t w
      let new := mergeBytes old.1 v mask + bn (old.2 && mask != 255) * 2 ^ 64
      let s := { s with tasks := { s.tasks with stateBuf := s.tasks.stateBuf.set (t * 2 ^ 40 + w) (some new) } }
      s.updTask t (fun d => { d with lines := if d.lines.contains (w / 8) then d.lines else d.lines ++ [w / 8] })
  else if m = 1 ∧ trayImageWords ≤ w ∧ w < 2 * trayImageWords then
    let g := w % trayImageWords / 2
    let mask := if w % 2 = 0 then mask else mask &&& 0x40
    if mask = 0 then s
    else
      let s := s.storeMasked m w v mask b
      s.updTask t (fun d => { d with written := if d.written.contains g then d.written else d.written ++ [g] })
  else s.storeMasked m w v mask b

/-- The byte mask of an access of `size` bytes at byte `off` of a word. -/
def byteMask (off size : Nat) : Nat := wrap 8 ((2 ^ size - 1) * 2 ^ off)

/-- One access of a core that the guard has admitted: a load, an executed fetch and an AMO consume (R282), a store writes. -/
def State.coreDo (s : State) (b kind m w off size v pc energy : Nat) : State :=
  let addr := physical m w * 8 + off
  let mask := byteMask off size
  let task := s.cycleTask b
  let src : Nat × Bool := match task with
    | some t => if s.inStateArea t m w then s.stateWord t w else (s.wordAt m w, s.poisonAt m w)
    | none => (s.wordAt m w, s.poisonAt m w)
  let store : State → State := fun s => match task with
    | some t => s.taskStore b t m w (v * 2 ^ (8 * off)) mask pc energy
    | none => s.storeMasked m w (v * 2 ^ (8 * off)) mask b
  if kind = 1 then store s
  else
    let s := s.meetWord m w b
    if src.2 then s.coreFault b (if kind = 2 then 25 else 24) TaskCause.poison (wrap 32 addr) pc addr energy
    else
      let s := s.emit (.memory b addr (bitField (8 * off) (8 * size) src.1) false false)
      if kind = 3 then store s else s

/-- R90, R294, R295: an access of a core. -/
def State.coreAccess (s : State) (b kind addr size v pc energy : Nat) : State :=
  if !([1, 2, 4, 8].contains size) || decide (addr % size ≠ 0) then
    s.coreFault b (accessCause 0 kind) TaskCause.misaligned (wrap 32 addr) pc addr energy
  else match locate (addr / 8) with
    | none => s.coreFault b (accessCause 1 kind) TaskCause.access (wrap 32 addr) pc addr energy
    | some (m, w) =>
      let s := if m = 0 then s.finishCopy (w / pageWords) else s
      let c := s.colourAt m w
      if (s.keyOf b 256).admits kind c then s.coreDo b kind m w (addr % 8) size v pc energy
      else (s.guardRefuse b kind c addr false).coreFault b (accessCause 1 kind) TaskCause.access (wrap 32 addr) pc addr energy

/-! ### Accesses of the other masters (R296) -/

/-- The parts of an access: each lies in one granule, or in no memory at all. -/
def accessParts : Nat → Nat → Nat → List (Nat × Nat)
  | 0, _, _ => []
  | k + 1, addr, len =>
    if len = 0 then []
    else
      let room := match locate (addr / 8) with
        | some (m, w) => (granuleWords m - w % granuleWords m) * 8 - addr % 8
        | none => 8 - addr % 8
      let n := min len room
      (addr, n) :: accessParts k (addr + n) (len - n)

/-- The words a part touches, with the byte offset and size in each. -/
def partWords (addr len : Nat) : List (Nat × Nat × Nat) :=
  (List.range ((addr % 8 + len + 7) / 8)).map (fun i =>
    let off := if i = 0 then addr % 8 else 0
    (i, off, min (8 - off) (addr % 8 + len - 8 * i - off)))

/-- One admitted part of a read: its bytes as a number, poison, and the results counted. -/
def State.readPart (s : State) (master m w addr len : Nat) : Nat × Bool × State :=
  let ws := partWords addr len
  let v := (ws.map (fun x => bitField (8 * x.2.1) (8 * x.2.2) (s.wordAt m (w + x.1)) *
    2 ^ (8 * (8 * x.1 + x.2.1 - addr % 8)))).sum
  (v, ws.any (fun x => s.poisonAt m (w + x.1)), s.each ws (fun s x => s.meetWord m (w + x.1) master))

/-- One admitted part of a write. -/
def State.writePart (s : State) (master m w addr len v : Nat) : State :=
  s.each (partWords addr len) (fun s x =>
    s.storeMasked m (w + x.1) (v / 2 ^ (8 * (8 * x.1 + x.2.1 - addr % 8)) * 2 ^ (8 * x.2.1)) (byteMask x.2.1 x.2.2) master)

/-- The parts of an access in order (R296): the first that fails, and every later one, is not performed. Answers the bytes read,
poison and denied. -/
def State.doParts (s : State) (master serves kind v : Nat) : Nat → Nat → List (Nat × Nat) → Nat × Bool × Bool × State
  | _, acc, [] => (acc, false, false, s)
  | done, acc, (addr, n) :: l =>
    match locate (addr / 8) with
    | none => (acc, true, true, s)
    | some (m, w) =>
      let s := if m = 0 then s.finishCopy (w / pageWords) else s
      let c := s.colourAt m w
      if (s.keyOf master serves).admits kind c then
        if kind = 1 then
          (s.writePart master m w addr n (v / 2 ^ (8 * done))).doParts master serves kind v (done + n) acc l
        else
          let (x, p, s) := s.readPart master m w addr n
          let r := s.doParts master serves kind v (done + n) (acc + x * 2 ^ (8 * done)) l
          (r.1, p || r.2.1, r.2.2)
      else (acc, true, true, s.guardRefuse master kind c addr (decide (done ≠ 0)))

/-- An access of a master other than a core: what it delivers, and the state after it. -/
def State.dmaAccess (s : State) (master serves kind addr len v : Nat) : Nat × Bool × Bool × State :=
  s.doParts master serves kind v 0 0 (accessParts (len / 8 + 2) addr len)

/-- R294: a master's memory access. `serves` is the task a block DMA serves (256 none); `dmask` and `cmask` are errors that have
struck the data and check bits of the addressed word; `pc` and `energy` are the core's. -/
def execGuardedAccess (t master serves kind addr len value pc energy dmask cmask : Nat) (s : State) : Result :=
  let s := s.advance t
  let s := match locate (addr / 8) with
    | some (m, w) => if dmask = 0 ∧ cmask = 0 then s else s.strike m w dmask cmask 0
    | none => s
  if master < 16 then .next (s.coreAccess master kind addr len value pc energy)
  else if 38 ≤ master then .next s
  else
    let (v, p, d, s) := s.dmaAccess master serves kind addr len value
    .next (s.emit (.memory master addr v p d))

/-- R299: a tag parity error holds the access while the group is reloaded from the sealed copy, or stays colour 15. -/
def execTagReload (t master addr : Nat) (copyOk : Bool) (s : State) : Result :=
  let s := s.advance t
  match locate (addr / 8) with
  | none => .next s
  | some (m, w) =>
    let s := ((s.setReg GUARD.STAT.TAGERR 0 1).addReg GUARD.TAGERR.COUNT 0 1).lifeAdd 0x158 1
    let s := s.note 6 master []
    if copyOk then .next s
    else
      let g := cellKey m (w / granuleWords m / 8)
      let s := { s with leaf := { s.leaf with badGroup := s.leaf.badGroup.set g true } }
      .next ((s.setReg GUARD.STAT.TAG_DEGRADED 0 1).cause 6 true)

/-- R290: the copy of a retired page. -/
def execPageRetireCopy (t page : Nat) (s : State) : Result := .next ((s.advance t).finishCopy page)

/-! ### The scrubber (R286 to R289) -/

/-- Results of SCRUB_STAT.RESULT (R301). -/
def ScrubResult.done : Nat := 1
def ScrubResult.empty : Nat := 2
def ScrubResult.aborted : Nat := 3
def ScrubResult.errRange : Nat := 4
def ScrubResult.errOff : Nat := 5
def ScrubResult.busy : Nat := 6
def ScrubResult.errMem : Nat := 7

/-- A pass runs. -/
def State.scrubbing (s : State) : Bool := s.flag LEAF.SCRUB_STAT.STATE

/-- The memory is powered off or belongs to a retired block or region (R286). -/
def State.memOff (s : State) (m : Nat) : Bool :=
  let off := fun r => s.regionPower r == 2 || s.isRetired 4 r
  if m < 2 then false
  else if m < 6 then off (m - 2)
  else let b := (m - 6) % 16; off (b / 4) || s.isRetired 3 b

/-- The physical word range a GO names lies in the memory. -/
def State.scrubRange (s : State) (m : Nat) : Bool :=
  let a := s.reg LEAF.SCRUB_START_LO.ADDR + s.reg LEAF.SCRUB_START_HI.ADDR * 2 ^ 32
  decide (Config.memBase m ≤ a ∧ a + s.reg LEAF.SCRUB_LEN.WORDS ≤ Config.memBase m + memWords m)

/-- Clear the summary registers (R286). -/
def State.clearScrub (s : State) : State :=
  s.each [LEAF.SCRUB_CHECKED.COUNT, LEAF.SCRUB_CORR.COUNT, LEAF.SCRUB_UNC.COUNT, LEAF.SCRUB_ADDRF.COUNT,
    LEAF.SCRUB_POISON.COUNT, LEAF.SCRUB_FIRST_LO.ADDR, LEAF.SCRUB_FIRST_HI.ADDR, LEAF.SCRUB_LAST_LO.ADDR,
    LEAF.SCRUB_LAST_HI.ADDR, LEAF.SCRUB_TIME.TIME, LEAF.SCRUB_STAT.BADV, LEAF.SCRUB_STAT.RESULT] (fun s f => s.setReg f 0 0)

/-- R286: a GO, of this unit's own software or of the partner's (R289). -/
def State.scrubGo (s : State) (mirrored : Bool) : State :=
  let m := s.reg LEAF.SCRUB_MEM.MEM
  let refuse := fun r => s.setReg LEAF.SCRUB_STAT.RESULT 0 r
  if s.reg LEAF.SCRUB_LEN.WORDS = 0 then refuse ScrubResult.empty
  else if 38 ≤ m then refuse ScrubResult.errMem
  else if !s.scrubRange m then refuse ScrubResult.errRange
  else if s.memOff m then refuse ScrubResult.errOff
  else if s.scrubbing then refuse ScrubResult.busy
  else
    let a := s.reg LEAF.SCRUB_START_LO.ADDR + s.reg LEAF.SCRUB_START_HI.ADDR * 2 ^ 32
    let s := { s with leaf := { s.leaf with scrubMem := m, scrubStart := a - Config.memBase m,
                                            scrubLen := s.reg LEAF.SCRUB_LEN.WORDS, scrubAt := s.now } }
    (s.clearScrub.setReg LEAF.SCRUB_STAT.STATE 0 1).setFlag LEAF.SCRUB_STAT.MIRRORED 0 mirrored

/-- The scrubber meets one word that is not CLEAN (R287). -/
def State.scrubWord (s : State) (m w : Nat) : State :=
  let r := leafDecode (s.synAt m w)
  let a := physical m w
  let first := s.reg LEAF.SCRUB_FIRST_LO.ADDR + s.reg LEAF.SCRUB_FIRST_HI.ADDR * 2 ^ 32
  let last := s.reg LEAF.SCRUB_LAST_LO.ADDR + s.reg LEAF.SCRUB_LAST_HI.ADDR * 2 ^ 32
  let any := s.flag LEAF.SCRUB_STAT.BADV
  let first := if any then min first a else a
  let last := if any then max last a else a
  let s := (s.setReg LEAF.SCRUB_FIRST_LO.ADDR 0 first).setReg LEAF.SCRUB_FIRST_HI.ADDR 0 (first / 2 ^ 32)
  let s := (s.setReg LEAF.SCRUB_LAST_LO.ADDR 0 last).setReg LEAF.SCRUB_LAST_HI.ADDR 0 (last / 2 ^ 32)
  let s := (s.setReg LEAF.SCRUB_STAT.BADV 0 1).meetWord m w 0x3F
  match r with
  | .clean => s
  | .corrected f => (s.addReg LEAF.SCRUB_CORR.COUNT 0 1).writeWord m w (s.dataAt m w ^^^ f)
  | .uncorrectable => (s.addReg LEAF.SCRUB_UNC.COUNT 0 1).writePoison m w (s.dataAt m w)
  | .addressFault => s.addReg LEAF.SCRUB_ADDRF.COUNT 0 1
  | .poisoned => s.addReg LEAF.SCRUB_POISON.COUNT 0 1

/-- An engine of SYSD has worked: its energy is debited from the account as it draws it (R158). The manual gives no figure: a free value
(notes/assumptions/90.md). -/
def State.drawSysd (s : State) : State :=
  s.nextFree.setReg KETTLE.SYSD_ACCT.ACCT 0 (satSigned 32 (toSigned 32 (s.reg KETTLE.SYSD_ACCT.ACCT) - (s.freeVal 16 : Nat)))

/-- The pass ends over its first `n` words with a result: every word that is not CLEAN is met in ascending order, a word of a
page that waits for its copy after the copy (R300). -/
def State.scrubEnd (s : State) (n result : Nat) : State :=
  let m := s.leaf.scrubMem
  let lo := cellKey m s.leaf.scrubStart
  let n := min n s.leaf.scrubLen
  let bad := (s.leaf.syn.filter (fun e => decide (lo ≤ e.1 ∧ e.1 < lo + n))).map (fun e => e.1 - cellKey m 0)
  let s := s.each bad (fun s w =>
    let s := if m = 0 then s.finishCopy (w / pageWords) else s
    if s.synAt m w = 0 then s else s.scrubWord m w)
  let s := s.setReg LEAF.SCRUB_CHECKED.COUNT 0 n
  let s := s.setReg LEAF.SCRUB_TIME.TIME 0 (min ((s.now - s.leaf.scrubAt) / us 1) (2 ^ 32 - 1))
  ((s.setReg LEAF.SCRUB_STAT.STATE 0 0).setReg LEAF.SCRUB_STAT.RESULT 0 result).drawSysd

/-- The command and its range registers go to a STANDBY partner (R289). -/
def State.mirrorScrub (s : State) (op : Nat) : State :=
  if s.isActive && s.partnerStandby then
    let send := fun (s : State) (f : Fld) => s.mirrorReg (f.addrOf 0) (s.reg f)
    let s := s.each [LEAF.SCRUB_MEM.MEM, LEAF.SCRUB_START_LO.ADDR, LEAF.SCRUB_START_HI.ADDR, LEAF.SCRUB_LEN.WORDS] send
    s.mirrorReg (LEAF.SCRUB_CMD.OP.addrOf 0) op
  else s

/-- R286, R289: GO written to SCRUB_CMD. -/
def execScrubGo (t : Nat) (s : State) : Result := .next (((s.advance t).mirrorScrub 1).scrubGo false)

/-- R286, R289: ABORT written to SCRUB_CMD ends a running pass, after `checked` words. -/
def execScrubAbort (t checked : Nat) (s : State) : Result :=
  let s := (s.advance t).mirrorScrub 2
  .next (if s.scrubbing then s.scrubEnd checked ScrubResult.aborted else s)

/-- R287: the pass completes over its range; it pauses while SYSD is 0 or below (R158). -/
def execScrubDone (t : Nat) (s : State) : Result :=
  let s := s.advance t
  .next (if s.scrubbing && decide (0 < toSigned 32 (s.reg KETTLE.SYSD_ACCT.ACCT)) then
    s.scrubEnd s.leaf.scrubLen ScrubResult.done else s)

/-- A pass over a memory that a region stop takes away ends with ERR_OFF (R286); how far it had come is a free value. -/
def State.scrubOff (s : State) (r : Nat) : State :=
  let m := s.leaf.scrubMem
  let hit := decide (m = 2 + r) || (decide (6 ≤ m) && decide ((m - 6) % 16 / 4 = r))
  if s.scrubbing && hit then s.nextFree.scrubEnd (s.freeVal 32 % (s.leaf.scrubLen + 1)) ScrubResult.errOff else s

/-! ### Reads that latch, and the colour probe (R301, R302) -/

/-- R301: a read of LASTADDR_LO latches LASTADDR_HI, LASTERR and LASTSYN. -/
def execLeafLastaddrLoRead (t master : Nat) (s : State) : Result :=
  let s := s.advance t
  let a := LEAF.LASTADDR_LO.ADDR.addrOf 0
  let s := s.latchWords master [LEAF.LASTADDR_HI.ADDR.addrOf 0, LEAF.LASTERR.MEM.addrOf 0, LEAF.LASTSYN.SYN.addrOf 0]
  .next (s.emit (.readData master a (s.word a)))

/-- R302: a read of LAST_ADDR_LO latches LAST_ADDR_HI and LAST_MASTER. -/
def execGuardLastAddrLoRead (t master : Nat) (s : State) : Result :=
  let s := s.advance t
  let a := GUARD.LAST_ADDR_LO.ADDR.addrOf 0
  let s := s.latchWords master [GUARD.LAST_ADDR_HI.ADDR.addrOf 0, GUARD.LAST_MASTER.MASTER.addrOf 0]
  .next (s.emit (.readData master a (s.word a)))

/-- R302: a write of PROBE_ADDR_HI looks up the colour of the granule at the staged address for the master. -/
def execProbeAddrHiWrite (t master value : Nat) (s : State) : Result :=
  let s := (s.advance t).setReg GUARD.PROBE_ADDR_HI.ADDR 0 value
  let addr := s.reg GUARD.PROBE_ADDR_LO.ADDR + s.reg GUARD.PROBE_ADDR_HI.ADDR * 2 ^ 32
  let a := GUARD.PROBE_COL.COLOUR.addrOf 0
  match locate (addr / 8) with
  | some (m, w) => .next (s.setLatch master a (s.colourAt m w + 16))
  | none => .next (s.setLatch master a 0)

end Sys2Proof.Machine
end

