-- ==== Sys2Proof/Machine/Feed.lean ====
section
/-! DEFINITION. What the active unit sends to a partner in SYNC (R242): the structure image, the state items and the mirrored area, each
read when it is queued. -/

namespace Sys2Proof.Machine

/-! ### The safety state (R361, R362, R366) -/

/-- Pair states (R366). -/
def PairState.unused : Nat := 0
def PairState.released : Nat := 1
def PairState.demand : Nat := 2
def PairState.fault : Nat := 3
def PairState.faultHeld : Nat := 4

/-- Function states (R366). -/
def FunState.unused : Nat := 0
def FunState.inactive : Nat := 1
def FunState.delay : Nat := 2
def FunState.monitor : Nat := 3
def FunState.violated : Nat := 4
def FunState.encFault : Nat := 5
def FunState.noRef : Nat := 6

/-- Output states (R366). -/
def OutState.unused : Nat := 0
def OutState.fault : Nat := 1
def OutState.unconfirmed : Nat := 2
def OutState.startup : Nat := 3
def OutState.demand : Nat := 4
def OutState.waitRestart : Nat := 5
def OutState.armed : Nat := 6

/-- An output may be energised (R347): it is ARMED, requested, and the unit is in the ACTIVE role with its supply whole. -/
def State.outMayRun (s : State) (j : Nat) : Bool :=
  let o := s.safe.out.get j
  o.st == OutState.armed && o.req && s.isActive && !s.power.shed

/-- An off-pulse of output `j` is in progress (R351): one begins every TPP, and its TEST_PULSE has not come. -/
def State.outPulses (s : State) (j : Nat) : Bool := (s.safe.out.get j).on && decide ((s.safe.out.get j).pulseAt ≤ s.now)

/-- The state byte of output `j` (R366). Its PULSE bit shows a pre-energise test (R350) or an off-pulse. -/
def State.outByte (s : State) (j : Nat) : Nat :=
  let o := s.safe.out.get j
  o.st + 8 * bn o.on + 16 * bn o.req + 32 * bn (o.testAt != 0 || s.outPulses j)

/-- The state byte of pair `k`. -/
def State.pairByte (s : State) (k : Nat) : Nat :=
  let p := s.safe.pair.get k
  p.st + 8 * bn p.chA + 16 * bn p.chB

/-- The state of a function as its byte shows it: an SLP function without a reference shows NO_REF in place of VIOLATED. -/
def State.funShown (s : State) (i : Nat) : Nat :=
  let p := s.safe.params.funs.get i
  let st := (s.safe.fn.get i).st
  if st = FunState.violated ∧ p.type = 2 ∧ !s.safe.ref.get p.enc then FunState.noRef else st

/-- The state byte of function `i`. -/
def State.funByte (s : State) (i : Nat) : Nat := s.funShown i + 8 * (s.safe.params.funs.get i).type

/-- The 16 state bytes in the order of R361 and R362. -/
def State.safeBytes (s : State) : List Nat :=
  [0, 1, 2, 3].map s.outByte ++ [0, 1, 2, 3].map s.pairByte ++ (List.range 8).map s.funByte

/-! ### The items of a transfer -/

/-- Chunks of 1 KiB in the mirrored area of DRAM (R242: 1 GiB). -/
def mirroredChunks : Nat := 2 ^ 20

/-- Items of a transfer before the mirrored area, by kind: 0 the structure image, 1 a KiB of the image, 2 a force, 3 a capture entry, 4 a
task, 5 a register, 6 a base, 7 the safety state, 8 a word of a cell (8 × cell + place), 9 the RAW record of a force. -/
abbrev FeedItem := Nat × Nat

/-- Settings that differ from the structure image: run-time writes and RWL fields (R259, R260, R242), except cells; the offset of a virtual
base goes as a whole, its high word last, for that word applies it (R49, R230); with them the confirmed check value (R362). -/
def State.divergedKeys (s : State) : List Nat :=
  let ks := (s.regs.keys ++ s.settings.keys).dedup
  let ks := ks.filter (fun k => match fieldOfKey k with
    | some f => f.rst == .N && (f.acc == .RW || f.acc == .RWL) && decide (f.addr < 0x40400000) &&
        s.regs.get k != wrap f.width (s.settings.get k)
    | none => false)
  let lo := [0, 1, 2].filter (fun v => ks.contains (PHASE.VIRTv_OFF_LO.OFF.key v))
  let hi := [0, 1, 2].filter (fun v => ks.contains (PHASE.VIRTv_OFF_HI.OFF.key v))
  let isHi := fun k => [0, 1, 2].any (fun v => PHASE.VIRTv_OFF_HI.OFF.key v == k)
  let ks := ks.filter (fun k => !isHi k) ++ ((lo ++ hi).dedup).map (fun v => PHASE.VIRTv_OFF_HI.OFF.key v)
  if s.flag SYS.UNITS.SAFE then ks ++ [SAFE.CONFIRMED.VALUE.key 0] else ks

/-- The cells whose run-time words a partner needs. -/
def State.rtwCells (s : State) : List Nat :=
  (s.regs.filter (fun e => e.1 / 2 ^ 20 == CELL.CELLc_STAT.RTW.id && e.2 != 0)).map (fun e => e.1 % 2 ^ 20)

/-- The items of a transfer. -/
def State.feedList (s : State) : List FeedItem :=
  let mirrored := (s.img.dir.filter (fun x => match x.2 with | some d => d.mirrored | none => false)).map Prod.fst
  let of_ := fun (k : Nat) (l : List Nat) => l.map (fun i => (k, i))
  (0, 0) :: of_ 1 ((mirrored.map (fun g => g / 64)).dedup) ++ of_ 2 s.img.forces.keys ++ of_ 9 s.img.forces.keys ++
    of_ 3 ((List.range s.img.cq.length).map (fun i => s.img.cqFirst + i)) ++
    of_ 4 (s.taskList.filter (fun t => (s.tasks.cfg.get t).mirrored)) ++ of_ 5 s.divergedKeys ++
    of_ 6 ((List.range 15).map (fun i => i + 1)) ++ of_ 7 (if s.flag SYS.UNITS.SAFE then [0] else []) ++ of_ 8 (s.rtwCells.flatMap (fun c => (List.range 5).map (fun j => 8 * c + j)))

/-- 128 words of the committed image as the stream carries them (R224, R278, R281): as the mirror DMA reads them, each with its poison at
bit 64; signals that are not mirrored read 0. -/
def State.imageChunk (s : State) (k : Nat) : List Nat :=
  let l := s.dmaWords mirrorDma 256 1 (128 * k) 128
  (l.zip (List.range 128)).map (fun x => if s.isMirrored (64 * k + x.2 / 2) then x.1 else 0)

/-- RAW of a force as a slot of the signal's owner (R82, R85). -/
def State.rawSlot (s : State) (sig : Nat) (f : Force) : Slot :=
  let f := s.rawRead f
  let d := s.img.dir.get sig
  { value := f.rawValue, seq := wrap 32 f.rawSeq, source := (d.map (·.owner)).getD 0, qual := f.rawQual, detail := f.rawDetail
    type := s.sigType sig, aged := false, changed := false, stamped := false, mirrored := true, flag7 := false }

/-- A word of a cell's descriptor as a CELLW record carries it: staging copy first, CTRL last. -/
def State.cellWord (s : State) (c j : Nat) : Nat × Nat :=
  let d := s.cells.cell.get c
  match j with
  | 0 => (0x04, d.stLo)
  | 1 => (0x08, d.stHi)
  | 2 => (0x0C, d.stPer)
  | 3 => (0x1C, d.stPerHi)
  | _ => (0x00, s.word (0x40400000 + 0x20 * c))

/-- The record of an item as it stands now; none when the item is gone. -/
def State.feedBody (s : State) (x : FeedItem) : Option (Share × MBody) :=
  let i := x.2
  match x.1 with
  | 0 => s.struct.image.map (fun im => (.bulk, .struct im.id true))
  | 1 => some (.bulk, .bulk (physical 1 (128 * i) * 8) (s.imageChunk i))
  | 2 => (s.img.forces.get i).map (fun f => (.async, .force i true f.value f.port))
  | 3 => if i < s.img.cqFirst then none
    else (s.img.cq[i - s.img.cqFirst]?).map (fun e => (.ingress, .capture (s.captureRead i e) (s.captureMarks i)))
  | 4 => some (.async, .taskst i (s.tState i) (s.reg TASK.TASKt_STATE.CAUSE i) (s.reg TASK.TASKt_STATE.OVRRUN i) (s.task i).readPos)
  | 5 => (fieldOfKey i).map (fun f => let a := f.addrOf (i % 2 ^ 20); (.async, .regw a (s.word a)))
  | 6 => some (.async, .step i (s.baseVal i) (s.baseEpoch i) 0)
  | 7 => some (.async, .safety s.safeBytes)
  | 9 => (s.img.forces.get i).map (fun f => (.async, .slot i (s.rawSlot i f) (s.rawMarks f)))
  | _ => let w := s.cellWord (i / 8) (i % 8); some (.async, .cellw (i / 8) w.1 w.2)

/-- What the mirror DMA's reads for an item leave: results counted, refusals of its guard (R279, R295). -/
def State.noteItem (s : State) (x : FeedItem) : State :=
  match x.1 with
  | 1 => s.noteDma mirrorDma 256 1 (128 * x.2) 128
  | 3 => s.noteDma mirrorDma 256 1 (captureWord x.2) 4
  | 9 => match s.img.forces.get x.2 with
    | some f => s.noteRaw f mirrorDma
    | none => s
  | _ => s

/-- The number an item goes under: RAW's own, else the module sequence (R82, R222). -/
def State.itemSeq (s : State) (x : FeedItem) : Nat :=
  match x.1, s.img.forces.get x.2 with
  | 9, some f => f.rawSeq
  | _, _ => s.img.seq

/-- The bulk sync may go on: SYSD is paid (R158). -/
def State.sysdPaid (s : State) : Bool := decide (0 < toSigned 32 (s.reg KETTLE.SYSD_ACCT.ACCT))

/-- The physical byte address of chunk `k` of the mirrored area. -/
def chunkAddr (k : Nat) : Nat := (Config.memBase 0 + Config.mirrorBase + 128 * k) * 8

/-- One more record of the transfer is queued when its share has room; chunks of memory draw on SYSD and wait for it (R158). Answers whether one was, or an item was passed over. -/
def State.feedOne (s : State) : Bool × State :=
  if !s.streaming || !s.pair.feeding then (false, s)
  else match s.pair.feed with
    | x :: rest =>
      let after := { s with pair := { s.pair with feed := rest } }
      match s.feedBody x with
      | none => (true, after)
      | some (h, b) =>
        let engine := x.1 == 1
        if decide (s.shareUsed h + b.size ≤ h.size) && (!engine || s.sysdPaid) then
          (true, ((after.noteItem x).sendMirror h b (seq64 := s.itemSeq x) (bulk := true)).when engine State.drawSysd)
        else (false, s)
    | [] =>
      let k := s.pair.bulkNext
      if mirroredChunks ≤ k then (false, { s with pair := { s.pair with feeding := false } })
      else
        let w := Config.mirrorBase + 128 * k
        let b := MBody.bulk (chunkAddr k) (s.dmaWords mirrorDma 256 0 w 128)
        if s.sysdPaid && decide (s.shareUsed .bulk + b.size ≤ Share.bulk.size) then
          (true, ((({ s with pair := { s.pair with bulkNext := k + 1 } }).meetDma mirrorDma 0 w 128).sendMirror .bulk b (bulk := true)).drawSysd)
        else (false, s)

/-- As many records as have room, at most `n`. -/
def State.feedF : Nat → State → State
  | 0, s => s
  | n + 1, s => match s.feedOne with
    | (true, s) => State.feedF n s
    | (false, s) => s

/-- The transfer goes on as far as its shares have room. -/
def State.feedMore (s : State) : State := State.feedF (s.pair.feed.length + 128) s

/-- A transfer begins: the partner has entered SYNC (R242). -/
def State.startFeed (s : State) : State :=
  ({ s with pair := { s.pair with feeding := true, feedOwed := false, feed := s.feedList, bulkNext := 0 } }).feedMore

end Sys2Proof.Machine
end

