-- ==== Sys2Proof/Machine/PairOps.lean ====
section
/-! DEFINITION. The pair's shared operations (R215 to R245): hearing the partner, claims, taking over, resigning, demotion, and a
unit that catches up. -/

namespace Sys2Proof.Machine

/-- Change what the model keeps of the pair. -/
def State.updPair (s : State) (f : PairSt → PairSt) : State := { s with pair := f s.pair }

/-- Another copy of a request: the same sequence of the same client. -/
def Req.copied (r x : Req) : Bool := x.client == r.client && x.seq == r.seq

/-- A response leaves on the port of its request (R417) and is among the last four held for its client (R420). `hs` is the header's
status. A copy of the request that waited for it is a duplicate and is answered with it on its own port (R416, R420). -/
def State.respond (s : State) (r : Req) (op hs : Nat) (items : List (Nat × List Nat)) : State :=
  let o := Out.response r.port r.client r.seq op r.session hs items
  let l := s.port.clients.map (fun c => if c.id = r.client then { c with resp := ((r.seq, o) :: c.resp).take 4 } else c)
  let copies := s.port.copies.filter r.copied
  let s := ({ s with port := { s.port with clients := l, copies := s.port.copies.filter (fun x => !r.copied x) } }).emit o
  s.each copies (fun s x => (s.addReg PORT.DUPCNT.COUNT 0 1).emit (.response x.port r.client r.seq op r.session hs items))

/-- Force commands whose record has been applied are answered (R229): the header's status is that of the first failed item. -/
def State.answerForces (s : State) (done : Nat → Bool) : State :=
  let ready := s.port.forceWait.filter (fun x => done x.1)
  let s := { s with port := { s.port with forceWait := s.port.forceWait.filter (fun x => !done x.1) } }
  s.each ready (fun s x => s.respond x.2.1 x.2.2.1 ((x.2.2.2.find? (fun st => st != 0)).getD 0) (x.2.2.2.map (fun st => (st, []))))

/-- The open session ends (R425): PORT.SESSION and SESSION_ID show none; a transfer that was being received is dropped, and a staged
firmware image waits as before. -/
def State.closeSession (s : State) : State :=
  let s := { s with port := { s.port with session := none } }
  let s := ((s.setReg PORT.SESSION.STATE 0 0).setReg PORT.SESSION.KIND 0 0).setReg PORT.SESSION.PORT 0 0
  let s := s.setReg PORT.SESSION_ID.ID 0 0
  let s := if s.reg STRUCT.STAT.STATE = 1 then s.setReg STRUCT.STAT.STATE 0 0 else s
  if s.reg UPD.STAT.STATE = 1 then
    if s.upd.staged = 0 then (s.setReg UPD.STAT.STATE 0 0).setReg UPD.STAT.PART 0 0
    else (s.setReg UPD.STAT.STATE 0 5).setReg UPD.STAT.PART 0 (s.upd.staged - 1)
  else s

/-- R238: an accepted resignation is abandoned when the partner leaves STANDBY, or the pair stops being bumpless; one at removal or at a
power-fail warning only in the first case. Dispatch resumes. -/
def State.checkResign (s : State) : State :=
  if s.pair.resign = .none ∨ !s.isActive then s
  else if s.partnerStandby ∧ (s.pair.resignShort ∨ s.flag PAIR.STAT.BUMPLESS) then s
  else
    let s := s.resignRefused s.pair.resignReason
    let s := { s with upd := { s.upd with fallReset := 0 } }
    (s.updPair (fun p => { p with resign := .none })).setReg PAIR.CMDSTAT.RESULT 0 CmdStat.notReady

/-- What follows from a change of the partner's state or of the mirror stream: NO_PARTNER (R479), force commands that wait for no STANDBY
partner any more (R229), the bumpless state (R228), a resignation under way (R238). -/
def State.judgePair (s : State) : State :=
  let s := if s.isActive then s.cause 0 (!s.partnerStandby) else s
  let s := if s.isActive && !s.partnerStandby then s.answerForces (fun _ => true) else s
  s.judgeBumpless.checkResign

/-- A new transfer starts at CHECK (R242). -/
def State.restartTransfer (s : State) : State :=
  let s := s.updPair (fun p => { p with bulkKiB := 0, rxSet := [], prepared := [] })
  (s.setReg PAIR.BULK.PHASE 0 1).setReg PAIR.BULK.MIB 0 0

/-- A unit enters SYNC, or stays there for a new reason, and its transfer starts (R242, R243). Pins are not driven (R476). -/
def State.catchUp (s : State) (why : Nat) : State := (s.restartTransfer.enterSync why).showPins

/-- The high byte of a heartbeat (R216): mode, AUTH, LEAVING, RESIGN, slot. -/
def State.hbByte (s : State) : Nat :=
  s.mode.code + bn (s.flag PAIR.STAT.AUTH) * 16 + bn (s.flag PAIR.STAT.LEAVING) * 32 + bn s.pair.resignSent * 64 +
    s.reg PAIR.CFG.SLOT * 128

/-- CRC-8 of path 2 (R216): polynomial 0x07, initial value 0, most significant bit first. -/
def crc8Byte (crc b : Nat) : Nat :=
  (List.range 8).foldl (fun c _ => if 128 ≤ c then (c * 2 % 256) ^^^ 7 else c * 2 % 256) (crc ^^^ b % 256)

/-- The CRC-8 over the first three bytes of a path 2 heartbeat. -/
def hbCrc (b0 b1 b2 : Nat) : Nat := crc8Byte (crc8Byte (crc8Byte 0 b0) b1) b2

/-- The modes of the ACTIVE role. -/
def activeMode (m : Nat) : Bool := m == 7 || m == 8 || m == 9

/-- A heartbeat leaves on both paths (R215, R216, R223). -/
def State.beat (s : State) : State :=
  let n := wrap 8 (s.pair.hbCount + 1)
  let s := s.updPair (fun p => { p with hbCount := n, beatMode := s.mode.code })
  let m := if s.isActive then s.reg PAIR.MSEQ_SENT.MSEQ else s.reg PAIR.MSEQ_APPLIED.MSEQ
  let bumpless := s.reg PAIR.STAT.BUMPLESS + 2 * s.reg PAIR.STAT.NBWHY
  let e := wrap 8 (s.reg PAIR.EPOCH.EPOCH)
  let s := s.emit (.heartbeat2 s.hbByte n e (hbCrc s.hbByte n e))
  s.sendPlain (.hb s.hbByte n (s.reg PAIR.EPOCH.EPOCH) m (s.reg SYS.VARIANT.CODE) (s.reg UPD.MPROTO.OWN) bumpless)

/-! ### Ending and taking the ACTIVE role -/

/-- The cores stop (R485, R239): no task is on a core, no cycle goes on. -/
def State.stopCores (s : State) : State :=
  let s := s.each (s.tasks.task.keys.filter (fun t => (s.task t).phase != .none)) State.dropCycle
  s.each (List.range 16) (fun s b => s.freeCore b)

/-- The unit's side of the mirror stream is empty (R222). -/
def State.dropStream (s : State) : State :=
  (s.updPair (fun p => { p with mq := [], rxSet := [], prepared := [], openSets := [] })).showFill

/-- The stream ends with the unit's role: what waited for its acknowledgements is not answered (R421). -/
def State.clearStream (s : State) : State :=
  ({ s with port := { s.port with forceWait := [], olcWait := none } }).dropStream

/-- A unit that leaves the ACTIVE role abandons its probes and HART transactions (R312, R329). -/
def State.endLoops (s : State) : State :=
  let s := s.each ((List.range 32).filter (fun c => s.reg LOOP.CHc_STAT.STATE c == 2)) (fun s c =>
    let v := if s.power.shed then 0 else min (s.reg LOOP.CEIL.CEIL) (s.loops.chan.get c).probeV
    let s := { s with loops := { s.loops with chan := s.loops.chan.upd c (fun d => { d with vsup := v }) } }
    (s.setReg LOOP.CHc_STAT.STATE c 1).setReg LOOP.CHc_MEAS.VSUP c (v * 5))
  { s with loops := { s.loops with turn := [], passing := [], waiting := [] } }

/-- Sessions, the prepared change and the client table end (R489, DEMOTE). -/
def State.endTransfers (s : State) : State :=
  let s := s.closeSession
  let s := { s with
    port := { s.port with clients := [], attest := [], copies := [] }
    struct := { s.struct with loading := none, prepared := none, affected := [], commitMseq := none } }
  let s := (s.setReg STRUCT.STAT.STATE 0 0).setReg STRUCT.PEND_ID.ID 0 0
  s.each (List.range 8) (fun s k => s.setReg STRUCT.PHASHk.HASH k 0)

/-- Demotion to HALT (R221, R485, R486): DEMOTED record, every output released, tasks stopped, the recorder flushed. `cause`: 1 claim
released, 2 higher epoch seen. -/
def State.demote (s : State) (cause : Nat) : State :=
  let own := s.reg PAIR.EPOCH.EPOCH
  let hi := if cause = 2 then s.pair.hiRing.getD 0 else 0
  let s := s.record 0x905 0 .fault [(1, cause), (4, own), (4, hi)]
  let s := (s.setReg PAIR.STAT.AUTH 0 0).setReg SYS.HALTWHY.WHY 0 1
  let s := (s.setReg PAIR.STAT.BUMPLESS 0 0).setReg PAIR.STAT.NBWHY 0 0
  let s := s.stopCores.clearStream.endTransfers.endLoops
  let s := s.updPair (fun p => { p with resign := .none, claimFor := 0 })
  ((s.enterMode .halt).showPins).flushNow

/-- The candidate epoch (R220). -/
def State.candidate (s : State) : Nat :=
  let later := fun (a : Nat) (b : Option Nat) => match b with
    | some e => if laterMod 32 e a then e else a
    | none => a
  wrap 32 (later (later (s.reg PAIR.EPOCH.EPOCH) s.pair.hiPartner) s.pair.hiRing + 1)

/-- What a claim is for: a takeover, the answer to a resignation, a start. -/
def Claim.takeover : Nat := 1
def Claim.resignation : Nat := 2
def Claim.start : Nat := 3

/-- The unit presents a claim to the latch (R219, R233). -/
def State.claim (s : State) (what : Nat) : State :=
  let c := s.candidate
  (s.updPair (fun p => { p with claimFor := what, claimCand := c, waitLeaving := false })).emit (.claim c)

/-- A task on the new active unit (R233) or after HOLD (R480): mid-cycle states become IDLE, SKIP sits out a full ceiling, floors count
from now. -/
def State.resumeState (s : State) (t : Nat) : State :=
  let st := s.tState t
  let s := s.updTask t (fun d => { d with
    phase := .none, written := [], lines := [], wait := none, waitResult := none, resumable := false, waitAck := false
    ackMseq := none, canStaged := [], heldBy := false, floorBase := s.now, floorAt := s.reg TASK.TASKt_FLOOR.FLOOR t
    started := true, startDone := true, startQueued := false
    skipUntil := if st = TaskState.skip then s.now + us (s.reg TASK.TASKt_CEIL.CEIL t) else d.skipUntil })
  if st = TaskState.ready ∨ st = TaskState.running ∨ st = TaskState.preempted ∨ st = TaskState.waiting ∨
      st = TaskState.yielded ∨ st = TaskState.held ∨ st = TaskState.moving then s.setTState t TaskState.idle
  else s

/-- A unit that has become active sends a gratuitous ARP for both pair addresses (R426). -/
def State.announcePair (s : State) : State :=
  s.each ([0, 1].filter (fun p => s.reg PORT.PLp_PAIRIP.ADDR p != 0)) (fun s p =>
    s.emit (.arpReply (p + 1) (s.reg PORT.PLp_PAIRIP.ADDR p)))

/-- The unit is in the ACTIVE role from now on, in mode `m`, with tasks and rings resumed (R233, R239, R481). -/
def State.takeRole (s : State) (m : Mode) : State :=
  let s := s.updPair (fun p => { p with prepared := [], rxSet := [], openSets := [], mq := [], resign := .none, resignSent := false })
  let s := { s with tasks := { s.tasks with startOwed := false, stateBuf := [], preempted := [] } }
  let s := (s.setReg PAIR.BULK.PHASE 0 0).setReg IMAGE.STATUS.SEQ_JUMP 0 1
  let s := s.each s.taskList State.resumeState
  let s := s.enterMode m
  let s := ((s.startRings true).showPins).judgePair
  (s.announcePair).dispatchAll

/-- R65, R233: the sequence jumps by 2^24 beyond what was mirrored; the number last issued lies one below. -/
def State.jumpSeq (s : State) : State :=
  { s with img := { s.img with seq := wrap 64 (s.pair.lastApplied64 + 2 ^ 24 - 1) } }

/-! ### Hearing the partner (R216, R217, R223) -/

/-- The partner's modes while it holds the line with its outputs safe (R478). -/
def loadingMode (m : Nat) : Bool := m == 3 || m == 4 || m == 10

/-- R321: a change of partner presence, which is a change of PAIR.PARTNER.VALID from `was`, calls for a probe of every channel (DEDUCED: the
manual does not say what shows the presence; notes/assumptions/119.md). -/
def State.notePresence (s : State) (was : Bool) : State :=
  if s.flag PAIR.PARTNER.VALID = was then s
  else { s with loops := { s.loops with chan := (List.range 32).foldl (fun m c => m.upd c (fun d => { d with probeDue := true })) s.loops.chan } }

/-- A valid heartbeat on a path has said `b0` (R216): PARTNER follows; LEAVING and RESIGN are kept; a holder that loads sends a
STANDBY to SYNC, and its return restarts the transfer (R478); both units ACTIVE demotes the one without the line (R244). -/
def State.hear (s : State) (path b0 : Nat) : State :=
  let m := b0 % 16
  let old := s.reg PAIR.PARTNER.MODE
  let auth := bitOf 4 b0
  let s := s.updPair (fun p => { p with
    p1At := if path = 1 then s.now else p.p1At, p2At := if path = 2 then s.now else p.p2At
    partnerAuth := auth, partnerResign := bitOf 6 b0, partnerRole := m, resignSent := p.resignSent && !auth })
  let s := if path = 1 then s.setReg PAIR.STAT.PATH1_LOST 0 0 else s.setReg PAIR.STAT.PATH2_LOST 0 0
  let was := s.flag PAIR.PARTNER.VALID
  let s := (((s.setReg PAIR.PARTNER.MODE 0 m).setReg PAIR.PARTNER.VALID 0 1).setFlag PAIR.PARTNER.LEAVING 0 (bitOf 5 b0)).notePresence was
  let both := !s.flag PAIR.STAT.PATH1_LOST && !s.flag PAIR.STAT.PATH2_LOST
  let waits := s.mode == .halt && activeMode m && both
  let beats := if !waits then 0 else if s.power.haltBeats = 0 then s.now + 1 else s.power.haltBeats
  let s := { s with power := { s.power with haltBeats := beats } }
  let s := if s.mode = .standby ∧ auth ∧ loadingMode m then s.catchUp 1
    else if s.mode = .sync ∧ s.reg PAIR.STAT.SYNCWHY ≠ 10 ∧ loadingMode old ∧ activeMode m then s.restartTransfer else s
  if s.isActive ∧ activeMode m ∧ !s.flag PAIR.STAT.AUTH then s.demote 1
  else
    let s := s.judgePair
    if m ≠ 5 then { s with pair := { s.pair with feeding := false } } else if old ≠ 5 && s.isActive then s.startFeed else s

/-- A STANDBY or SYNC partner that leaves is absent at once: its silence is no path loss to warn of (R241). -/
def State.leavingPartner (s : State) : Bool :=
  s.flag PAIR.PARTNER.LEAVING && (s.reg PAIR.PARTNER.MODE == 6 || s.reg PAIR.PARTNER.MODE == 5)

/-- A path is lost (R217). -/
def State.losePath (s : State) (path : Nat) : State :=
  let s := if path = 1 then s.setReg PAIR.STAT.PATH1_LOST 0 1 else s.setReg PAIR.STAT.PATH2_LOST 0 1
  let was := s.flag PAIR.PARTNER.VALID
  let s := (s.setReg PAIR.PARTNER.VALID 0 (bn (was && !(s.flag PAIR.STAT.PATH1_LOST && s.flag PAIR.STAT.PATH2_LOST)))).notePresence was
  let s := { s with power := { s.power with haltBeats := 0 } }
  if s.leavingPartner then s
  else
    let s := if path = 1 then s.addReg PAIR.PATHS.P1LOSS 0 1 else s.addReg PAIR.PATHS.P2LOSS 0 1
    (s.lifeAdd (0x149 + path) 1).record 0x902 0 .warning [(1, path)]

/-! ### Resigning -/

/-- Signals that are not mirrored read 0 with quality BAD on a unit that follows the stream (R224). -/
def State.dropUnmirrored (s : State) : State :=
  s.each (s.img.dir.filter (fun x => match x.2 with | some d => !d.mirrored | none => false)) (fun s x =>
    ({ s with img := { s.img with slots := s.img.slots.set x.1 { (default : Slot) with qual := Quality.bad } } }).landSlot x.1)

/-- A hold for an on-line change ends with the role: the change stays prepared (R262, R265). -/
def State.dropHold (s : State) : State :=
  if s.struct.affected = [] ∧ s.struct.commitMseq.isNone ∧ s.reg STRUCT.STAT.STATE ≠ 4 then s
  else { s with struct := { s.struct with affected := [], commitMseq := none } }.setReg STRUCT.STAT.STATE 0 3

/-- R239 step 4: RESIGN is sent and shown, the latch released, the resignation recorded and counted; the unit stands by. -/
def State.releaseLine (s : State) : State :=
  let s := s.sendPlain (.resign (s.reg PAIR.EPOCH.EPOCH) (s.reg PAIR.MSEQ_SENT.MSEQ))
  let bump := s.reg PAIR.STAT.BUMPLESS
  let s := (s.setReg PAIR.STAT.AUTH 0 0).emit .latchRelease
  let s := s.record 0x906 0 .info [(1, s.pair.resignReason), (1, bump)]
  let s := (s.addReg PAIR.EVENTS.RESIGNS 0 1).lifeAdd 0x143 1
  let s := s.setReg PAIR.CMDSTAT.RESULT 0 CmdStat.done
  let s := s.updPair (fun p => { p with resign := .none, resignSent := true, lastApplied64 := s.img.seq })
  let s := s.stopCores.clearStream.endLoops.dropUnmirrored.dropHold
  let s := ((s.setReg PAIR.STAT.BUMPLESS 0 0).setReg PAIR.STAT.NBWHY 0 0).setCause 0 false
  (s.enterMode .standby).showPins

/-- Every record has been acknowledged and no commit is in progress (R239 steps 2 and 3). -/
def State.drained (s : State) : Bool := s.pair.mq.isEmpty && !s.cyclesOpen

/-- A shortened resignation (R241, R491): no further cycle from now on, a commit window of 0.5 ms. One under way is shortened. -/
def State.resignShort (s : State) (reason : Nat) : State :=
  s.updPair (fun p => { p with
    resign := if p.resign = .drain then .drain else .window, resignReason := reason, resignShort := true
    resignAt := if p.resign = .window ∨ p.resign = .drain then p.resignAt else s.now, leavingSince := s.now })

end Sys2Proof.Machine
end

