-- ==== Sys2Proof/Machine/Can.lean ====
section
/-! DEFINITION. The meanings of the CAN commands (12_can_fd_ports.md): reception and the Strainer, transmission, errors and bus-off, and
the CAN time service. -/

namespace Sys2Proof.Machine

/-! ### Reception (R373 to R377) -/

/-- An element of type `type` with `id1`, `id2` matches an identifier (R373). -/
def strainerMatches (type id1 id2 ident : Nat) : Bool :=
  match type with
  | 0 => decide (id1 ≤ ident ∧ ident ≤ id2)
  | 1 => ident == id1 || ident == id2
  | 2 => (ident ^^^ id1) &&& id2 == 0
  | _ => false

/-- Standard element `k` matches. -/
def State.sfMatches (s : State) (n ident k : Nat) : Bool :=
  let i := n * 128 + k
  strainerMatches (s.reg CAN.SFk_W0.TYPE i) (s.reg CAN.SFk_W0.ID1 i) (s.reg CAN.SFk_W0.ID2 i) ident

/-- Extended element `k` matches. -/
def State.xfMatches (s : State) (n ident k : Nat) : Bool :=
  let i := n * 64 + k
  strainerMatches (s.reg CAN.XFk_W1.TYPE i) (s.reg CAN.XFk_W0.ID1 i) (s.reg CAN.XFk_W1.ID2 i) ident

/-- The first element that matches a frame (R373), extended ones numbered from 128. -/
def State.strain (s : State) (n idw : Nat) : Option Nat :=
  if bitOf 29 idw then ((List.range 64).find? (s.xfMatches n (bitField 0 29 idw))).map (fun k => 128 + k)
  else (List.range 128).find? (s.sfMatches n (bitField 0 11 idw))

/-- What an element does (R374): its action, whether it delivers, its map. -/
def State.elemAction (s : State) (n e : Nat) : Nat × Bool × Nat :=
  if e < 128 then
    let i := n * 128 + e
    (s.reg CAN.SFk_W1.ACTION i, s.flag CAN.SFk_W1.MAPEN i, s.reg CAN.SFk_W1.MAP i)
  else
    let w := s.reg CAN.XFk_W2.WORD (n * 64 + (e - 128))
    (bitField 0 4 w, bitOf 10 w, bitField 4 6 w)

/-- The elements a frame is filtered under (R267): those an on-line change has replaced, for a frame that was already in reception. -/
def State.elements (s : State) (sof : Nat) : State :=
  if sof < s.struct.changedAt then { s with regs := s.struct.oldStrainer } else s

/-- ELEM of an entry (R374): bit 7 marks an extended element. -/
def elemByte (e : Nat) : Nat := e

/-- A frame is stored in FIFO `k` (R376): the CAN DMA writes it at its place in the Tray. -/
def State.storeFifo (s : State) (n k : Nat) (e : CanEntry) : State :=
  let l := (s.canPort n).fifo k
  let i := (s.canPort n).first k
  let overwrite := if k = 0 then s.flag CAN.CFG.FIFOPOL0 n else s.flag CAN.CFG.FIFOPOL1 n
  let full := decide (64 ≤ l.length)
  let s := s.when full (fun s => (s.addReg CAN.LOST.FIFO n 1).setReg CAN.FIFOk_STAT.FULL (n * 2 + k) 1)
  if full && !overwrite then s
  else
    let i := if full then i + 1 else i
    let l := if full then l.drop 1 ++ [e] else l ++ [e]
    let s := (s.updCan n (fun p => p.setFifo k i l)).dmaWrite canDma 256 1 (canWord n (fifoPlace k (i + l.length - 1))) e.words
    s.setReg CAN.FIFOk_STAT.FILL (n * 2 + k) l.length

/-- A frame lands in a high-priority buffer (R377): overwriting one that waits, and waking its task on the unit that runs tasks. -/
def State.storeHp (s : State) (n h : Nat) (e : CanEntry) : State :=
  let i := n * 8 + h
  let s := s.when (s.flag CAN.HPh_CFG.NEW i) (fun s => (s.setReg CAN.HPh_CFG.OVR i 1).addReg CAN.LOST.HPOVR n 1)
  let s := (s.updCan n (fun p => { p with hp := p.hp.set h (some e) })).dmaWrite canDma 256 1 (canWord n (hpPlace h)) e.words
  let s := s.setReg CAN.HPh_CFG.NEW i 1
  s.when (s.flag CAN.HPh_CFG.WAKE i && s.isActive) (fun s => s.addReg TASK.TASKt_WAKE.PENDING (s.reg CAN.HPh_CFG.TASK i) 1)

/-- A frame that an element keeps enters under one granted number (R374). -/
def State.keepFrame (s : State) (n act elem sof idw dlc : Nat) (data : List Nat) : State :=
  if act = 0 ∨ 11 ≤ act ∨ !s.ingressOn then s
  else
    let (seq64, s) := s.grantSeq 1
    let e : CanEntry :=
      { idw := wrap 32 idw, dlc := wrap 5 dlc, elem := elemByte elem, epoch := s.baseEpoch 0, stamp := wrap 64 (sof / 4), seq64 := seq64
        data := data }
    if act ≤ 2 then s.storeFifo n (act - 1) e else s.storeHp n (act - 3) e

/-- The values of a map's fields in a frame (R375). -/
def fieldValues : List Nat → List (Nat × Nat) → List (Nat × Nat)
  | _, [] => []
  | bytes, (g, w) :: l => (g, ofBytes (bytes.take w)) :: fieldValues (bytes.drop w) l

/-- A map delivers a frame (R375, R70 to R72): too short a frame counts as an error, and the counter of the element judges a delivery. -/
def State.deliverMap (s : State) (n elem m sof : Nat) (data : List Nat) : State :=
  let i := n * 64 + m
  let sigs := s.mapSignals n m
  let fields := sigs.map (fun g => (g, fieldBytes (s.sigType g)))
  let off := s.reg CAN.MAPm_FMT.OFF i
  let need := off + (fields.map Prod.snd).sum
  let cnt := s.flag CAN.MAPm_FMT.CNTEN i
  let at_ := s.reg CAN.MAPm_FMT.CNTOFF i
  if data.length < need ∨ (cnt ∧ data.length ≤ at_) then s.addReg CAN.MAPERR.ERR n 1
  else if !s.ingressOn then s
  else
    let source := 0x4000 + n
    let (ok, s) := if cnt then
        let r := s.judgeSource (1024 + n * 256 + elem) source 8 (data.getD at_ 0)
        (r.1, r.2.2)
      else (true, s)
    if ok then s.deliver source ((fieldValues (data.drop off) fields).map (fun x => (x.1, x.2, 0))) sof else s

/-- A frame received without error lowers REC (ISO 11898-1): by one, or in the error-passive receiver to a value from 119 to 127, which
is free. -/
def State.goodRx (s : State) (n : Nat) : State :=
  let s := s.setReg CAN.ERR.LEC n 0
  if s.flag CAN.ERR.RP n then (s.nextFree.setReg CAN.ERR.REC n (119 + s.freeVal 8 % 9)).setReg CAN.ERR.RP n 0
  else s.dropReg CAN.ERR.REC n

/-- REC rises by `k`; what passes its largest value 127 is shown by RP (R392, ISO 11898-1). -/
def State.raiseRec (s : State) (n k : Nat) : State :=
  let r := s.reg CAN.ERR.REC n + k
  (s.setReg CAN.ERR.REC n (min r 127)).when (decide (127 < r)) (fun s => s.setReg CAN.ERR.RP n 1)

/-- The error state of a port from its counters (ISO 11898-1, R383). -/
def State.judgeCan (s : State) (n : Nat) : State :=
  if s.reg CAN.STAT.STATE n = 3 then s
  else s.setReg CAN.STAT.STATE n (if 127 < s.reg CAN.ERR.TEC n || s.flag CAN.ERR.RP n then 2 else 1)

/-- R373 to R377: a frame is complete without error. `sof` is the instant of its start of frame on PB0; `dlc` holds ESI in bit 4. -/
def execCanFrameRx (t port sof idw dlc : Nat) (remote : Bool) (data : List Nat) (s : State) : Result :=
  let s := s.advance t
  if 4 ≤ port ∨ !s.canOn port ∨ s.reg CAN.STAT.STATE port = 3 then .next s
  else
    let s := (s.goodRx port).judgeCan port
    if remote then .next (s.addReg CAN.RXCNT.REMOTE port 1)
    else match (s.elements sof).strain port idw with
      | none => .next (s.addReg CAN.RXCNT.NOMATCH port 1)
      | some e =>
        let a := (s.elements sof).elemAction port e
        let s := s.keepFrame port a.1 e sof idw dlc data
        .next (if a.2.1 then s.deliverMap port e a.2.2 sof data else s)

/-- R383: a frame ends in an error during reception; `primary`: the port sees the dominant bit that follows its error flag (ISO 11898-1).
A time-service capture of the frame is discarded (R389), so none is made. -/
def execCanRxError (t port lec : Nat) (primary : Bool) (s : State) : Result :=
  let s := s.advance t
  if 4 ≤ port ∨ !s.canOn port ∨ s.reg CAN.STAT.STATE port = 3 then .next s
  else
    let s := (s.setReg CAN.ERR.LEC port (min lec 6)).raiseRec port (if primary then 8 else 1)
    let s := s.when s.isActive (fun s => s.addReg CAN.ERRCNT.FRAMES port 1)
    .next (s.judgeCan port)

/-! ### Transmission (R378 to R382) -/

/-- A store access fault of the core's task on registers that belong to another (R131, R379). -/
def State.canFault (s : State) (b task pc addr energy : Nat) : State :=
  s.takeException b task 7 pc addr TaskCause.access (wrap 32 addr) energy

/-- The owner has written an area (R378): `some f` the frame it holds, `none` poison. -/
def State.writeArea (s : State) (w : Nat) (f : Option CanFrame) : State :=
  match f with
  | some f => s.writeWords 1 w f.words
  | none => s.landWord 1 w true

/-- R379: a write of 1 to bits of TXREQ stages DIRECT requests for the owner's next commit. `areas` holds, for bits set in ascending
order, what the owner has written into the buffer's area, none where that carries poison; an area it does not speak of is as the Tray holds it. -/
def execTxreqWrite (t block port mask pc energy : Nat) (areas : List (Option CanFrame)) (s : State) : Result :=
  let s := s.advance t
  match s.cycleTask block with
  | none => .next s
  | some task =>
    if 4 ≤ port ∨ !s.canOn port then .next s
    else
      let bits := (List.range 32).filter (fun b => bitOf b mask)
      if bits.any (fun b => s.reg CAN.TXBb_CFG.OWNER (txKey port b) != task) then
        .next (s.canFault block task pc (CAN.TXREQ.REQ.addrOf port) energy)
      else
        let direct := bits.filter (fun b => !s.flag CAN.TXBb_CFG.MAPPED (txKey port b))
        let s := s.each ((bits.zip areas).filter (fun x => direct.contains x.1)) (fun s x => s.writeArea (canWord port (txPlace x.1)) x.2)
        let s := s.setReg CAN.TXREQ.REQ port (s.reg CAN.TXREQ.REQ port ||| wrap 32 (direct.map (fun b => 2 ^ b)).sum)
        .next (s.updTask task (fun d => { d with
          canStaged := d.canStaged.filter (fun x => !(x.1 == port && direct.contains x.2)) ++ direct.map (fun b => (port, b)) }))

/-- R379: a write of TXQSTAT.PUSH stages the next queue frame; `area` is what the owner has written into the area of the next queue entry, none
where that carries poison. -/
def execTxqPush (t block port pc energy : Nat) (area : Option CanFrame) (s : State) : Result :=
  let s := s.advance t
  match s.cycleTask block with
  | none => .next s
  | some task =>
    if 4 ≤ port ∨ !s.canOn port then .next s
    else if s.reg CAN.CFG.TXQTASK port ≠ task then .next (s.canFault block task pc (CAN.TXQSTAT.PUSH.addrOf port) energy)
    else
      let p := s.canPort port
      let ahead := ((s.task task).canStaged.filter (fun x => x == (port, 32))).length
      let s := s.writeArea (canWord port (queuePlace (p.queueAt + p.queue.length + ahead))) area
      let s := s.setReg CAN.TXQSTAT.PUSH port 1
      .next (s.updTask task (fun d => { d with canStaged := d.canStaged ++ [(port, 32)] }))

/-- R382: a cancel of one buffer. -/
def State.cancelTx (s : State) (n b : Nat) : State :=
  let st := s.txStatus n b
  if st = TxStatus.pending then
    (s.setTx n b TxStatus.cancelled).setReg CAN.TXBb_CFG.CANRES (txKey n b) CanRes.done
  else if st = TxStatus.active then s.updCan n (fun p => { p with cancel := p.cancel.set b true })
  else s.setReg CAN.TXBb_CFG.CANRES (txKey n b) CanRes.notPending

/-- R382: a write of 1 to bits of TXCANCEL. -/
def execTxcancelWrite (t _master port mask : Nat) (s : State) : Result :=
  let s := s.advance t
  if 4 ≤ port ∨ s.absentAt (CAN.TXCANCEL.CAN.addrOf port) then .next s
  else .next (s.each ((List.range 32).filter (fun b => bitOf b mask)) (fun s b => s.cancelTx port b))

/-- The frame of buffer `b` has left the bus: its cancel is answered, and content that waited becomes PENDING (R380, R382). -/
def State.leaveBus (s : State) (n b st : Nat) : State :=
  let cancelled := (s.canPort n).cancel.get b
  let next := (s.canPort n).again.get b
  let s := s.updCan n (fun p => { p with active := none, cancel := p.cancel.set b false, again := p.again.set b none })
  let res := if cancelled then if st = TxStatus.sent then CanRes.tooLate else CanRes.done else s.reg CAN.TXBb_CFG.CANRES (txKey n b)
  let s := s.setReg CAN.TXBb_CFG.CANRES (txKey n b) res
  let s := s.setTx n b (if cancelled && st != TxStatus.sent then TxStatus.cancelled else st)
  match next with
  | some f => (s.updCan n (fun p => { p with buf := p.buf.set b f })).setTx n b TxStatus.pending
  | none => s

/-- The loop delay measured in an FD frame (R372). -/
def State.noteTdcv (s : State) (n idw tdcv : Nat) : State :=
  if !bitOf 30 idw then s
  else
    let s := s.setReg CAN.TDC.TDCV n (min tdcv 127)
    if s.flag CAN.TDC.EN n ∧ 127 < tdcv + s.reg CAN.TDC.TDCO n then (s.setReg CAN.TDC.CLIP n 1).note 0xB n [] else s

/-- A reference message has been sent (R388): the master base at its start of frame. -/
def State.sentReference (s : State) (n sof : Nat) : State :=
  let b := min 5 (s.reg CAN.CTS_CFG.BASE n)
  let v := diffMod 64 (s.baseVal b) ((s.now - sof) / 4)
  s.updCan n (fun p => { p with prevSof := v, prevEpoch := s.baseEpoch b, prevOk := true, sending := false })

/-- R381, R385, R388: the port's frame is sent and acknowledged. `sof` is its start of frame, `tdcv` the measured loop delay. -/
def execTxSuccess (t port sof tdcv : Nat) (s : State) : Result :=
  let s := s.advance t
  match (s.canPort port).active with
  | none => .next s
  | some b =>
    let f := s.txFrame port b
    let s := ((s.addReg CAN.TXCNT.COUNT port 1).setReg CAN.ERR.LEC port 0).dropReg CAN.ERR.TEC port
    let s := (s.setReg CAN.STAT.NO_PARTNER port 0).updCan port (fun p => { p with ackErrs := 0 })
    let s := (s.noteTdcv port f.idw tdcv).judgeCan port
    let s := if b = 32 then
        let s := s.updCan port (fun p => { p with active := none, queue := p.queue.drop 1, queueAt := p.queueAt + 1 })
        s.setReg CAN.TXQSTAT.FILL port (s.canPort port).queue.length
      else
        let s := s.updCan port (fun p => { p with buf := p.buf.upd b (fun f => { f with stamp := wrap 64 (sof / 4) }) })
        let s := s.dmaWrite canDma 256 1 (canWord port (txPlace b) + 1) [wrap 64 (sof / 4)]
        s.leaveBus port b TxStatus.sent
    let s := if b = 31 ∧ s.reg CAN.CTS_CFG.ROLE port = 1 ∧ (s.canPort port).sending then s.sentReference port sof else s
    .next (s.startTx port)

/-- Consecutive acknowledgement errors (R385): the sixteenth sets NO_PARTNER and may begin a pause. -/
def State.ackError (s : State) (n : Nat) : State :=
  let c := (s.canPort n).ackErrs + 1
  let s := s.updCan n (fun p => { p with ackErrs := c })
  if c = 16 then
    let s := (s.setReg CAN.STAT.NO_PARTNER n 1).note 0xB n []
    if s.reg CAN.NPCFG.PAUSE n = 0 then s
    else (s.setReg CAN.STAT.PAUSED n 1).updCan n (fun p => { p with pauseAt := s.now + 1, prevOk := false })
  else s

/-- R372, R381, R383: the port's frame loses arbitration or meets an error; `passiveAck`: an error-passive transmitter's
acknowledgement error without a dominant bit in its error flag, which leaves TEC. -/
def execTxError (t port : Nat) (err : TxFault) (passiveAck : Bool) (s : State) : Result :=
  let s := s.advance t
  match (s.canPort port).active with
  | none => .next s
  | some b =>
    let lec := err.lec
    let s := match err.tdcv with
      | some v => s.noteTdcv port (s.txFrame port b).idw v
      | none => s
    let s := if lec = 0 then s
      else
        let s := (s.setReg CAN.ERR.LEC port (min lec 6)).addReg CAN.ERRCNT.FRAMES port 1
        let s := if passiveAck && lec == 3 && s.reg CAN.STAT.STATE port == 2 then s
          else s.setReg CAN.ERR.TEC port (min (s.reg CAN.ERR.TEC port + 8) 511)
        (if lec = 3 then s.ackError port else s.updCan port (fun p => { p with ackErrs := 0 })).judgeCan port
    let s := if b = 32 then s.updCan port (fun p => { p with active := none })
      else s.leaveBus port b (if s.flag CAN.TXBb_CFG.SINGLE (txKey port b) then TxStatus.failed else TxStatus.pending)
    .next (s.startTx port)

/-- R385: the NO_PARTNER pause ends. -/
def execNoPartnerPauseEnd (t port : Nat) (s : State) : Result :=
  let s := s.advance t
  let p := s.canPort port
  if s.flag CAN.STAT.PAUSED port ∧ p.pauseAt - 1 + msec (s.reg CAN.NPCFG.PAUSE port) ≤ s.now then
    .next (((s.setReg CAN.STAT.PAUSED port 0).updCan port (fun p => { p with ackErrs := 0, pauseAt := 0 })).startTx port)
  else .next s

/-! ### Bus-off (R384) -/

/-- R384, R467: the port, with TEC above 255 (ISO 11898-1), goes bus-off, keeps its requests, and counts toward its retry budget. -/
def execBusOff (t port : Nat) (s : State) : Result :=
  let s := s.advance t
  if 4 ≤ port ∨ !s.canOn port ∨ !s.isActive ∨ s.reg CAN.STAT.STATE port = 3 ∨ s.reg CAN.ERR.TEC port ≤ 255 then .next s
  else
    let s := s.record 0xB01 port .warning [(1, s.reg CAN.ERR.LEC port)]
    let s := (s.addReg CAN.ERRCNT.BUSOFF port 1).occur 8 port (0x134 + port)
    let s := match (s.canPort port).active with
      | some b => if b = 32 then s.updCan port (fun p => { p with active := none }) else s.leaveBus port b TxStatus.pending
      | none => s
    let s := (s.setReg CAN.STAT.STATE port 3).updCan port (fun p => { p with busOffAt := s.now + 1, prevOk := false })
    if s.permanent 8 port then .next ((s.retireItem 8 port 0xB port 0xB01).setReg CAN.STAT.RETIRED port 1)
    else .next s

/-- The port may begin its recovery sequence. -/
def State.busOffHere (s : State) (n : Nat) : Bool :=
  s.canOn n && s.reg CAN.STAT.STATE n == 3 && !s.flag CAN.STAT.RECOVERING n

/-- R384: after BOCFG.DELAY an AUTO port starts the recovery sequence. -/
def execBusOffDelayEnd (t port : Nat) (s : State) : Result :=
  let s := s.advance t
  if s.busOffHere port ∧ s.flag CAN.BOCFG.AUTO port ∧
      (s.canPort port).busOffAt - 1 + msec (s.reg CAN.BOCFG.DELAY port) ≤ s.now then .next (s.setReg CAN.STAT.RECOVERING port 1)
  else .next s

/-- R384: RECOVER written to CANn.CMD starts the recovery sequence. -/
def execRecover (t _master port : Nat) (s : State) : Result :=
  let s := s.advance t
  if s.busOffHere port then .next (s.setReg CAN.STAT.RECOVERING port 1) else .next s

/-- R384: 128 × 11 recessive bits have passed; the port resumes. -/
def execRecoveryDone (t port : Nat) (s : State) : Result :=
  let s := s.advance t
  if s.canOn port ∧ s.reg CAN.STAT.STATE port = 3 ∧ s.flag CAN.STAT.RECOVERING port then
    .next (((s.freshPort port).updCan port (fun p => { p with busOffAt := 0, ackErrs := 0 })).startTx port)
  else .next s

/-! ### The time service (R386 to R390) -/

/-- CTS_PERIOD in ns. -/
def State.ctsPeriod (s : State) (n : Nat) : Nat := max 1 (s.reg CAN.CTS_PERIOD.MS n) * 1000000

/-- A reference message is due (R388): the base has reached a multiple of the period since the last, not before half a period on PB0, and
at the latest after one and a half. The first is due at the first multiple after the port's start. -/
def State.referenceDue (s : State) (n : Nat) : Bool :=
  let p := s.canPort n
  let b := min 5 (s.reg CAN.CTS_CFG.BASE n)
  let per := s.ctsPeriod n
  let dt := s.now - p.sentAt
  let crossed := s.baseVal b / per != p.sentVal / per
  if p.sentAt = 0 then crossed else decide (6 * per ≤ dt) || (decide (2 * per ≤ dt) && crossed)

/-- R387: the payload of a reference message; the epoch of a base at no previous message is not stated and free. -/
def State.referenceData (s : State) (n mseq : Nat) : List Nat :=
  let p := s.canPort n
  let b := min 5 (s.reg CAN.CTS_CFG.BASE n)
  let noprev := !p.prevOk
  let stepped := p.sentAt != 0 && p.sentEpoch != s.baseEpoch b
  leBytes 8 (if noprev then 0 else p.prevSof) ++ leBytes 2 mseq ++
    leBytes 2 (if noprev then s.freeVal 16 else p.prevEpoch) ++ [b, bn noprev + 2 * bn stepped, 0, 0]

/-- R388, R391: the time master sends a reference message from TXB31; one due during a pause or a bus-off is not sent. -/
def execCtsReferenceSend (t port : Nat) (s : State) : Result :=
  let s := s.advance t
  if 4 ≤ port ∨ !s.canOn port ∨ !s.isActive ∨ s.reg CAN.CTS_CFG.ROLE port ≠ 1 ∨ !s.referenceDue port then .next s
  else
    let b := min 5 (s.reg CAN.CTS_CFG.BASE port)
    let mseq := wrap 16 (s.reg CAN.CTS_STAT.MSEQ port + 1)
    let f : CanFrame :=
      { idw := s.reg CAN.CTS_ID.ID port + bn (s.flag CAN.CTS_ID.IDE port) * 2 ^ 29 + 2 ^ 30 + bn (s.flag CAN.CFG.BRSEN port) * 2 ^ 31
        dlc := 10, data := s.referenceData port mseq, stamp := 0 }
    let sends := s.canSends port
    let s := if (s.canPort port).prevOk then s else s.nextFree
    let s := s.updCan port (fun p => { p with
      prevOk := false, sending := sends, sentAt := s.now, sentVal := s.baseVal b, sentEpoch := s.baseEpoch b })
    if sends then .next ((s.setReg CAN.CTS_STAT.MSEQ port mseq).requestTx port 31 f) else .next s

/-- The value PB12 had at an earlier instant of PB0, at its present rate. -/
def State.canTimeAt (s : State) (u : Nat) : Int :=
  let dt : Int := ((s.now - u : Nat) : Int)
  let rate : Int := toSigned 32 (s.reg PHASE.BASEn_RATE.RATE 12)
  (s.baseVal 12 : Int) - floorDiv (dt * ((2 : Int) ^ 40 + rate)) (2 ^ 42)

/-- The rate two pairs set, in 2^-40, within ±200 ppm (R389). -/
def pairRate (v1 t1 v2 t2 : Nat) : Int :=
  let dv : Int := toSigned 64 (diffMod 64 v2 v1)
  let dt : Int := ((t2 - t1 : Nat) : Int)
  let r := if dt = 0 then 0 else ((4 * dv - dt) * (2 : Int) ^ 40) / dt
  max (-219902325) (min r 219902325)

/-- A pair disciplines PB12 (R389): `v` is the master base at the PB0 instant `u`. -/
def State.disciplineCan (s : State) (n mseq v u : Nat) : State :=
  let st := s.reg PHASE.BASEn_STATUS.STATE 12
  let old := (s.canPort n).pair
  let s := s.updCan n (fun p => { p with pair := some (mseq, v, u), pairAt := s.now + 1 })
  if st = BaseState.invalid ∨ st = BaseState.acquiring then
    match old with
    | some (m1, v1, u1) =>
      if wrap 16 (m1 + 1) = mseq then
        let r := pairRate v1 u1 v u
        let now := ofSigned 64 ((v : Int) + floorDiv (((s.now - u : Nat) : Int) * ((2 : Int) ^ 40 + r)) (2 ^ 42))
        let s := s.setReg PHASE.BASEn_RATE.RATE 12 (ofSigned 32 r)
        let measured := s.now
        s.stepBase 12 Cause.acquisition true (fun s => (s.setBaseState 12 BaseState.locked).anchorFrom 12 now measured)
      else s.setBaseState 12 BaseState.acquiring
    | none => s.setBaseState 12 BaseState.acquiring
  else
    let here := s.canTimeAt u
    let offset : Int := toSigned 64 (ofSigned 64 ((v : Int) - here))
    let s := s.setReg CAN.CTS_OFFS.NS n (satSigned 32 offset)
    let s := s.setBaseState 12 BaseState.locked
    if offset.natAbs ≤ s.reg CAN.CTS_CFG.STEP_THR n * 1000 then s.beginSlew 12 (offset * (2 : Int) ^ 32) 107374
    else s.stepBase 12 Cause.canCorrection false (fun s => s.anchorAt 12 (ofSigned 64 ((s.baseVal 12 : Int) + offset)))

/-- R389: a reference message arrives at the time receiver, with its start of frame `sof` on PB0. A standby captures and does not use its
captures (R390). -/
def execCtsReferenceRx (t port sof mseq prevSof bepoch base flags : Nat) (s : State) : Result :=
  let s := s.advance t
  let _ := (bepoch, base)
  if 4 ≤ port ∨ !s.canOn port ∨ s.reg CAN.STAT.STATE port = 3 ∨ s.reg CAN.CTS_CFG.ROLE port ≠ 2 then .next s
  else
    let m := wrap 16 mseq
    let caps := (s.canPort port).captures
    let s := s.updCan port (fun p => { p with captures := ((m, sof) :: p.captures.filter (fun x => x.1 != m)).take 4 })
    let s := s.setReg CAN.CTS_STAT.MSEQ port m
    match (if bitOf 0 flags then none else caps.find? (fun x => x.1 == diffMod 16 m 1)) with
    | none => .next (s.setReg CAN.CTS_STAT.PAIRED port 0)
    | some c =>
      let s := s.setReg CAN.CTS_STAT.PAIRED port 1
      if s.mode = .standby ∨ s.mode = .sync then .next s
      else .next ((s.disciplineCan port m (wrap 64 prevSof) (c.2 - ns (s.reg CAN.CTS_PDLY.NS port))).steerRef 12)

/-- R389: no pair for 3 periods puts PB12 in HOLDOVER, and HOLDTO seconds later in UNLOCKED. -/
def execCtsHoldover (t port : Nat) (s : State) : Result :=
  let s := s.advance t
  let st := s.reg PHASE.BASEn_STATUS.STATE 12
  if 4 ≤ port ∨ s.reg CAN.CTS_CFG.ROLE port ≠ 2 ∨ s.mode = .standby ∨ s.mode = .sync then .next s
  else if st = BaseState.locked ∧ (s.canPort port).pairAt - 1 + 12 * s.ctsPeriod port ≤ s.now then
    .next ((s.setBaseState 12 BaseState.holdover).updBase 12 (fun d => { d with holdAt := s.now }))
  else if st = BaseState.holdover ∧ (s.phase.base.get 12).holdAt + sec (s.reg CAN.CTS_CFG.HOLDTO port) ≤ s.now then
    .next (s.setBaseState 12 BaseState.unlocked)
  else .next s

end Sys2Proof.Machine
end

