-- ==== Sys2Proof/Machine/Cells.lean ====
section
/-! DEFINITION. The meanings of the cell and strand commands (04_reflex_cells.md; 10_loops_and_fast_pins.md R305). -/

namespace Sys2Proof.Machine

/-! ### Firing -/

/-- A cell armed at its target may fire (R50, R126): in service, its base running, its instant reached, and not in a frame in which its
self-check has failed (R147). -/
def State.cellDue (s : State) (c : Nat) : Bool :=
  let b := s.reg CELL.CELLc_CTRL.BASE c
  s.armedOn b c && !s.keepsState c && s.baseFires b && reached (s.baseVal b) (s.cells.cell.get c).next

/-- R135, R522: a compare cell reaches its target. -/
def execCompareFire (t cell : Nat) (s : State) : Result :=
  let s := s.advance t
  let m := s.reg CELL.CELLc_CTRL.MODE cell
  if cell < 4096 ∧ (m = CellMode.once ∨ m = CellMode.periodic) ∧ s.cellDue cell then .next (s.fireCell cell false)
  else .next s

/-- R139: a MOVE cell fires; samples that waited for a grant go first (R63). -/
def execMoveFire (t cell : Nat) (s : State) : Result :=
  let s := (s.advance t).releaseHeld
  if cell < 4096 ∧ s.reg CELL.CELLc_CTRL.MODE cell = CellMode.move ∧ s.cellDue cell then .next (s.fireCell cell false)
  else .next s

/-! ### Pins -/

/-- The strand to which a pin is routed restarts (R148). -/
def State.pinWaits (s : State) (p : Nat) : Bool :=
  s.flag CELL.PINp_ROUTE.ROUTED p && s.cells.strandRestart.get (s.reg CELL.PINp_ROUTE.CUR p) != 0

/-- The level of a pin changes, and the reflex layer follows (R142, R144); the pin stage keeps the edge for a strand that restarts (R148). -/
def State.setLevel (s : State) (p : Nat) (b : Bool) : State :=
  let old := s.pinLevel p
  let s := if old != b ∧ s.pinWaits p then { s with cells := { s.cells with keptPins := s.cells.keptPins ++ [(p, b)] } } else s
  let s := s.senseFlag FPIN.PINp_STAT.LEVEL p b
  (s.noteLevel p s.now old (s.pinLevel p)).settle

/-- R144, R303, R305: an edge at a pin's input stage. An unfiltered input and the readback of an output pass it at once; a
filtered input waits for its filter time. -/
def execFastPinEdge (t pin : Nat) (level : Bool) (s : State) : Result :=
  let s := s.advance t
  let dir := s.reg FPIN.PINp_CFG.DIR pin
  if 64 ≤ pin ∨ dir = 0 then .next s
  else
    let s := { s with cells := { s.cells with rawLevel := s.cells.rawLevel.set pin level } }
    if dir = 1 ∧ s.reg FPIN.PINp_FILT.FILT pin ≠ 0 then
      .next { s with cells := { s.cells with rawSince := s.cells.rawSince.set pin (s.now + 1) } }
    else .next (s.setLevel pin level)

/-- R305: the raw level of a filtered input has held for the whole filter time. -/
def execInputFilterElapsed (t pin : Nat) (s : State) : Result :=
  let s := s.advance t
  let since := s.cells.rawSince.get pin
  if pin < 64 ∧ since ≠ 0 ∧ since - 1 + us (s.reg FPIN.PINp_FILT.FILT pin) ≤ s.now then
    let s := { s with cells := { s.cells with rawSince := s.cells.rawSince.set pin 0 } }
    .next (s.setLevel pin (s.cells.rawLevel.get pin))
  else .next s

/-- A PULSE that is over: its instant has come, and its cell holds its output neither DEAD nor through a restart of its strand (R140, R148,
R149). -/
def State.pulseOver (s : State) (e : Nat × Nat) : Bool :=
  decide (e.1 ≤ s.now) && !s.flag CELL.CELLc_STAT.DEAD e.2 && s.cells.strandRestart.get (s.hostOf (strandOf e.2)) == 0

/-- The PULSEs on a latch that are over clear it (R140). -/
def State.endPulses (s : State) (l : Nat) : State :=
  let p := s.cells.pulseEnd.get l
  if !p.any s.pulseOver then s
  else
    let rest := p.filter (fun e => !s.pulseOver e)
    ({ s with cells := { s.cells with pulseEnd := s.cells.pulseEnd.set l rest } }).actLatch l 2

/-- R140: a PULSE clears its latch after STRETCH frames. `latch` is a pin (0 to 63) or 64 + a net. -/
def execPulseEnd (t latch : Nat) (s : State) : Result :=
  let s := s.advance t
  if (s.cells.pulseEnd.get latch).any s.pulseOver then .next (s.endPulses latch).settle else .next s

/-- R136: the minimum high time of a REFLEX output runs out, and the layer evaluates. -/
def execStretchEnd (t cell : Nat) (s : State) : Result :=
  let s := s.advance t
  if s.reg CELL.CELLc_CTRL.MODE cell = CellMode.reflex ∧ (s.cells.cell.get cell).holdUntil ≤ s.now then .next s.settle
  else .next s

/-- R135, R136: the base of a REFLEX cell enters or leaves its window, and the layer evaluates. -/
def execPhasewinChange (t cell : Nat) (s : State) : Result :=
  let s := s.advance t
  if s.reg CELL.CELLc_CTRL.MODE cell = CellMode.reflex then .next s.settle else .next s

/-! ### CAPTURE and WINDOW (R137, R138) -/

/-- The instant a stamp stands for (R137): at a PIN input 105 ns and the filter time before the synchroniser, else the first
cell clock of the frame. -/
def State.stampInstant (s : State) (c at_ : Nat) : Nat :=
  let sel := s.reg CELL.CELLc_IN01.IN0 c
  if bitField 13 3 sel = 1 then at_ - ns 105 - us (s.reg FPIN.PINp_FILT.FILT (bitField 0 6 sel)) else at_ / Config.frame * Config.frame

/-- The edge at input 0 after INV (R130). -/
def State.edgeRises (s : State) (c : Nat) (rising : Bool) : Bool := rising != bitOf 12 (s.reg CELL.CELLc_IN01.IN0 c)

/-- The cell may record an edge now (R526). -/
def State.records (s : State) (c mode : Nat) : Bool :=
  decide (c < 4096) && s.reg CELL.CELLc_CTRL.MODE c == mode && s.flag CELL.CELLc_CTRL.ARM c && s.cellLive c

/-- The frame of an instant, plus one. -/
def frameOf (at_ : Nat) : Nat := at_ / Config.frame + 1

/-- A capture passes through the FIFO of the strand that runs its cell (R137): it enters the queue when the FIFO is empty, a number is
free and the FIFO is not `busy`, else it waits; a full FIFO loses it. How fast a FIFO passes its entries on the manual does not say:
DESIGN CHOICE, the command says whether it passes any at that instant (notes/assumptions/104.md). -/
def State.passCapture (s : State) (c : Nat) (e : CapEntry) (busy : Bool) : State :=
  let st := s.hostOf (strandOf c)
  let q := s.cells.fifo.get st
  if q.isEmpty && s.rateFree && !busy then (s.updCell c (fun d => { d with lossOwed := false })).grantCapture e
  else if q.length < Config.strandFifo then
    let s := s.updCell c (fun d => { d with lossOwed := false })
    { s with cells := { s.cells with fifo := s.cells.fifo.set st (q ++ [e]) } }
  else ((s.setReg CELL.CELLc_STAT.OVF c 1).addReg CELL.CQLOST.COUNT 0 1).updCell c (fun d => { d with lossOwed := true })

/-- The result of a CAPTURE or WINDOW cell goes to RESULT and, with CQ, to the capture queue (R73, R137, R231). -/
def State.publish (s : State) (c value epoch sub : Nat) (measure busy : Bool) : State :=
  let s := (s.setReg CELL.CELLc_TARGET_LO.RESULT c value).setReg CELL.CELLc_TARGET_HI.RESULT c (value / 2 ^ 32)
  let s := s.setReg CELL.CELLc_STAT.FIRED c 1
  if !s.flag CELL.CELLc_STAT.CQ c || !s.ingressOn then s
  else
    (if busy then s else s.drainFifos).passCapture c
      { seq64 := 0, stamp := value, signal := noSignal, epoch := epoch, base := s.reg CELL.CELLc_CTRL.BASE c, subNs := sub
        late := false, queueLoss := (s.cells.cell.get c).lossOwed, measure := measure, source := 0x5000 + c } busy

/-- The pin stage keeps the edge for later (R148): the strand of the cell restarts. -/
def State.keepsEdge (s : State) (c mode : Nat) : Bool :=
  decide (c < 4096) && s.reg CELL.CELLc_CTRL.MODE c == mode && s.flag CELL.CELLc_CTRL.ARM c && !s.flag CELL.CELLc_STAT.DEAD c &&
    s.cells.strandRestart.get (s.hostOf (strandOf c)) != 0

/-- An edge is kept until the strand resumes. -/
def State.keepEdge (s : State) (c at_ : Nat) (rising : Bool) : State :=
  { s with cells := { s.cells with kept := s.cells.kept ++ [{ cell := c, at_ := at_, rising := rising }] } }

/-- When a cell sees an edge (R147): in the next frame if its self-check has failed in this one. -/
def State.seenAt (s : State) (c at_ : Nat) : Nat := max at_ (s.cells.cell.get c).keepUntil

/-- The stamp of an edge that a cell sees at `at_` (R137): that of the pin edge whenever the cell sees it, else of the frame that sees it. -/
def State.edgeInstant (s : State) (c at_ : Nat) : Nat :=
  s.stampInstant c (if bitField 13 3 (s.reg CELL.CELLc_IN01.IN0 c) = 1 then at_ else s.seenAt c at_)

/-- A CAPTURE cell meets an edge (R137): it stamps a selected one; a second edge of one frame is lost. -/
def State.captureEdge (s : State) (cell at_ : Nat) (rising busy : Bool) : State :=
  let e := s.reg CELL.CELLc_RULE.EDGE cell
  let r := s.edgeRises cell rising
  if !s.records cell CellMode.capture ∨ !(e == 2 || (e == 0 && r) || (e == 1 && !r)) then s
  else if (s.cells.cell.get cell).lastFrame = frameOf (s.seenAt cell at_) then s.setReg CELL.CELLc_STAT.OVF cell 1
  else
    let s := s.updCell cell (fun d => { d with lastFrame := frameOf (s.seenAt cell at_) })
    let b := s.reg CELL.CELLc_CTRL.BASE cell
    let p := s.asOf (s.edgeInstant cell at_)
    (s.publish cell (p.baseVal b) (p.baseEpoch b) (p.baseSub b) false busy).blockInterrupt cell

/-- R137: a CAPTURE cell stamps a selected edge; `at_` is the instant at the synchroniser or the cell clock that sees it. -/
def execCaptureEdge (t cell at_ : Nat) (rising busy : Bool) (s : State) : Result :=
  let s := s.advance t
  if s.keepsEdge cell CellMode.capture then .next (s.keepEdge cell at_ rising) else .next (s.captureEdge cell at_ rising busy)

/-- The edge starts a measurement (R138). -/
def startsWindow (edge : Nat) (rises : Bool) : Bool := if edge = 0 ∨ edge = 2 then rises else !rises

/-- The edge completes a measurement (R138). -/
def endsWindow (edge : Nat) (rises : Bool) : Bool :=
  match edge with
  | 0 => !rises
  | 1 => rises
  | 2 => rises
  | _ => !rises

/-- A measurement starts with a stamp. -/
def State.startWindow (s : State) (c v sub epoch : Nat) : State :=
  s.updCell c (fun d => { d with winActive := true, winStart := v, winSub := sub, winEpoch := epoch, winT := s.now })

/-- A WINDOW cell meets an edge (R138): it starts or completes a measurement. That an edge which completes a measurement and is of the
starting kind also starts the next one the manual says of a discarded measurement only: DESIGN CHOICE, it does so after every one
(notes/assumptions/88.md). -/
def State.windowEdge (s : State) (cell at_ : Nat) (rising busy : Bool) : State :=
  let e := s.reg CELL.CELLc_RULE.EDGE cell
  let r := s.edgeRises cell rising
  let d := s.cells.cell.get cell
  let selected := if d.winActive then endsWindow e r else startsWindow e r
  if !s.records cell CellMode.window ∨ !selected then s
  else if d.lastFrame = frameOf (s.seenAt cell at_) then s.setReg CELL.CELLc_STAT.OVF cell 1
  else
    let s := s.updCell cell (fun d => { d with lastFrame := frameOf (s.seenAt cell at_) })
    let b := s.reg CELL.CELLc_CTRL.BASE cell
    let p := s.asOf (s.edgeInstant cell at_)
    let v := p.baseVal b
    let sub := p.baseSub b
    let ep := p.baseEpoch b
    if !d.winActive then s.startWindow cell v sub ep
    else
      let s := s.updCell cell (fun d => { d with winActive := false })
      let s := if d.winEpoch ≠ ep then s
        else
          let diff4 := diffMod 66 (v * 4 + sub) (d.winStart * 4 + d.winSub)
          s.publish cell (diff4 / 4) ep (if s.baseKind b = 0 then diff4 % 4 else 0) true busy
      if startsWindow e r then s.startWindow cell v sub ep else s

/-- R138: a WINDOW cell starts or completes a measurement. -/
def execWindowEdge (t cell at_ : Nat) (rising busy : Bool) (s : State) : Result :=
  let s := s.advance t
  if s.keepsEdge cell CellMode.window then .next (s.keepEdge cell at_ rising) else .next (s.windowEdge cell at_ rising busy)

/-- R138: no completing edge within PERIOD: the over-range value, with the epoch of the starting edge. -/
def execWindowTimeout (t cell : Nat) (busy : Bool) (s : State) : Result :=
  let s := s.advance t
  let d := s.cells.cell.get cell
  let b := s.reg CELL.CELLc_CTRL.BASE cell
  if s.records cell CellMode.window && d.winActive && decide (s.cellPeriod cell ≤ diffMod 64 (s.baseVal b) d.winStart) then
    let s := s.updCell cell (fun d => { d with winActive := false })
    .next (s.publish cell (2 ^ 64 - 1) d.winEpoch 0 true busy)
  else .next s

/-! ### Run-time writes (R131 to R133) -/

/-- The address of word `off` of a descriptor (R128). -/
def cellAddr (c off : Nat) : Nat := 0x40400000 + c * 0x20 + off

/-- R131: what a write to a descriptor meets: at a cell without RTW every master's is ignored with a record; a task that is not the owner
takes an access fault; another master is ignored with a record; the engineering bridge leaves a record. Answers whether the write goes on. -/
def State.cellWriter (s : State) (master cell off pc : Nat) : Bool × State :=
  let refused := s.writeRefused (cellAddr cell off) master 3
  if !s.flag CELL.CELLc_STAT.RTW cell then (false, refused)
  else if master < 16 then match s.cycleTask master with
    | some t =>
      if (s.cells.cfg.get cell).owner = some t then (true, s)
      else (false, s.nextFree.takeException master t 7 pc (cellAddr cell off) TaskCause.access (cellAddr cell off) (s.freeVal 32))
    | none => (true, s)
  else if master = 36 then (true, s.note 3 cell [(4, cellAddr cell off)])
  else (false, refused)

/-- The frame that is being evaluated completes under the old descriptors of the cells `l` (R126, R132, R146): each fires at every one of its
clocks still to come at which it is due, and the clock stands at the next frame boundary. -/
def State.endFrame (s : State) (l : List Nat) : State :=
  let b := roundUp Config.frame s.now
  let clocks := ([50, 40, 30, 20, 10].map (fun k => b - k)).filter (fun x => decide (s.now ≤ x))
  (s.each clocks (fun s x => s.each l (fun s c => if (s.at x).cellDue c then (s.at x).fireCell c false else s))).at b

/-- The W1C bits of STAT act (R132). -/
def State.clearCellStat (s : State) (c v : Nat) : State :=
  let s := s.when (bitOf 12 v) (fun s => s.setReg CELL.CELLc_STAT.FIRED c 0)
  let s := s.when (bitOf 13 v) (fun s => s.setReg CELL.CELLc_STAT.LATE c 0)
  s.when (bitOf 14 v) (fun s => s.setReg CELL.CELLc_STAT.OVF c 0)

/-- A write to TARGET_LO, TARGET_HI, PERIOD or STAT reaches the staging copy (R132). -/
def State.stageWord (s : State) (c off v : Nat) : State :=
  let v := wrap 32 v
  match off with
  | 0x04 => s.updCell c (fun d => { d with stLo := v })
  | 0x08 => s.updCell c (fun d => { d with stHi := v })
  | 0x0C => s.updCell c (fun d => { d with stPer := v })
  | 0x1C => (let s := s.updCell c (fun d => { d with stPerHi := wrap 8 v })
     if bitField 12 3 v = 0 then s else (s.endFrame [c]).clearCellStat c v)
  | _ => s

/-- The staging copy applies (R132). -/
def State.applyStage (s : State) (c : Nat) : State :=
  let d := s.cells.cell.get c
  let m := s.reg CELL.CELLc_CTRL.MODE c
  let s := (s.setReg CELL.CELLc_PERIOD.PERIOD c d.stPer).setReg CELL.CELLc_STAT.PERIOD_HI c d.stPerHi
  if firesAtTarget m then (s.setReg CELL.CELLc_TARGET_LO.TARGET c d.stLo).setReg CELL.CELLc_TARGET_HI.TARGET c d.stHi
  else if m = CellMode.reflex then
    (s.setReg CELL.CELLc_TARGET_LO.WSTART c d.stLo).setReg CELL.CELLc_TARGET_HI.WWIDTH c d.stHi
  else s

/-- The structural fields of a written CTRL word equal the current ones (R131). -/
def State.sameShape (s : State) (c v : Nat) : Bool :=
  bitField 0 3 v == s.reg CELL.CELLc_CTRL.MODE c && bitField 3 4 v == s.reg CELL.CELLc_CTRL.BASE c &&
    bitField 8 2 v == s.reg CELL.CELLc_CTRL.OUTDST c && bitField 13 1 v == s.reg CELL.CELLc_CTRL.INVOUT c

/-- A REFLEX cell reads the PHASEWIN input (R130). -/
def State.readsWindow (s : State) (c : Nat) : Bool := [0, 1, 2, 3].any (fun k => bitField 13 3 (s.selector c k) == 4)

/-- The staged period is one the mode takes (R135, R523). -/
def State.periodOk (s : State) (c : Nat) : Bool :=
  let d := s.cells.cell.get c
  let m := s.reg CELL.CELLc_CTRL.MODE c
  let needs := m == CellMode.periodic || m == CellMode.window || (m == CellMode.reflex && s.readsWindow c)
  !needs || d.stPer != 0 || d.stPerHi != 0

/-- An arm is applied (R34, R51, R133, R526): refused with ARMERR, or armed; a target already reached fires LATE. -/
def State.armCell (s : State) (c : Nat) : State :=
  let b := s.reg CELL.CELLc_CTRL.BASE c
  let m := s.reg CELL.CELLc_CTRL.MODE c
  let st := s.baseState b
  let given := s.flag CELL.CELLc_CTRL.EPOCHV c
  let e := s.reg CELL.CELLc_CTRL.EPOCH c
  let cur := s.baseEpoch b
  let disarm := fun (s : State) (err : Nat) => (s.setReg CELL.CELLc_CTRL.ARM c 0).setReg CELL.CELLc_STAT.ARMERR c err
  if st = BaseState.notFitted ∨ st = BaseState.unused then disarm s 2
  else if given && laterMod 16 e cur then disarm s 2
  else if given && laterMod 16 cur e then disarm s 1
  else
    let tgt := s.reg CELL.CELLc_TARGET_HI.TARGET c * 2 ^ 32 + s.reg CELL.CELLc_TARGET_LO.TARGET c
    let s := (s.setReg CELL.CELLc_CTRL.ARM c 1).setReg CELL.CELLc_STAT.ARMERR c 0
    let s := s.updCell c (fun d => { d with next := tgt, fired := false, armEpoch := cur, winActive := false })
    if firesAtTarget m && s.cellDue c then s.fireCell c true else s

/-- CTRL is applied with the staging copy (R132, R526): a REFLEX cell takes the staging copy only with ARM. -/
def State.applyCtrl (s : State) (c v : Nat) : State :=
  let arm := bitOf 7 v
  let s := (s.setReg CELL.CELLc_CTRL.OUTACT c (bitField 10 2 v)).setReg CELL.CELLc_CTRL.EPOCHV c (bitField 12 1 v)
  let s := s.setReg CELL.CELLc_CTRL.EPOCH c (bitField 16 16 v)
  let m := s.reg CELL.CELLc_CTRL.MODE c
  let s := if arm || m != CellMode.reflex then s.applyStage c else s
  let s := if m = CellMode.off then s
    else if arm then s.armCell c
    else (s.setReg CELL.CELLc_CTRL.ARM c 0).updCell c (fun d => { d with winActive := false })
  s.settle

/-- A run-time descriptor write goes to the partner (R223 CELLW). -/
def State.mirrorCell (s : State) (c off v : Nat) : State := s.sendMirror .async (.cellw c off (wrap 32 v))

/-- A write to CTRL that has passed R131 (R131, R523). -/
def State.writeCtrl (s : State) (master c v : Nat) : State :=
  if !s.sameShape c v then s.writeRefused (cellAddr c 0) master 4
  else if !s.periodOk c then s.writeRefused (cellAddr c 0) master 2
  else ((s.mirrorCell c 0 v).endFrame [c]).applyCtrl c v

/-- R131, R132: a write to a staged word (offset 0x04, 0x08, 0x0C or 0x1C) of a descriptor. -/
def execCellStageWrite (t master cell off value pc : Nat) (s : State) : Result :=
  let s := s.advance t
  if 4096 ≤ cell then .next s
  else
    let (ok, s) := s.cellWriter master cell off pc
    .next (if ok then (s.mirrorCell cell off value).stageWord cell off value else s)

/-- R131 to R133, R526: a write to CTRL. -/
def execCellCtrlWrite (t master cell value pc : Nat) (s : State) : Result :=
  let s := s.advance t
  if 4096 ≤ cell then .next s
  else
    let (ok, s) := s.cellWriter master cell 0 pc
    .next (if ok then s.writeCtrl master cell value else s)

/-- The latch of a cell is cleared at the next frame (R132, R136). -/
def State.clearLatch (s : State) (c : Nat) : State := ((s.endFrame [c]).updCell c (fun d => { d with clrReq := true })).settle

/-- R136: a write of 1 to RULE.CLR. -/
def execRuleClrWrite (t master cell value pc : Nat) (s : State) : Result :=
  let s := s.advance t
  if 4096 ≤ cell then .next s
  else
    let (ok, s) := s.cellWriter master cell 0x18 pc
    .next (if ok && bitOf 5 value then (s.mirrorCell cell 0x18 value).clearLatch cell else s)

/-! ### Self-check, remapping and strands (R147 to R149) -/

/-- The module notes a cell that is out of service (R149, R479). -/
def State.killCell (s : State) (c : Nat) : State :=
  if s.flag CELL.CELLc_STAT.DEAD c then s
  else ((s.setReg CELL.CELLc_STAT.DEAD c 1).addReg CELL.DEADCNT.COUNT 0 1).cause 3 true

/-- The cells of a logical strand that are in use. -/
def State.strandCells (s : State) (st : Nat) : List Nat :=
  ((List.range 32).map (fun i => 32 * st + i)).filter (fun c => s.reg CELL.CELLc_CTRL.MODE c != CellMode.off)

/-- Strand `p` is retired (R149): with a backup its own cells move there within 1 ms, their outputs holding; the cells it ran
for other strands, and its own without a backup, become DEAD. -/
def State.retireStrand (s : State) (p : Nat) : State :=
  let s := (s.retireItem 2 p 4 p 0x4E0).setReg CELL.STRANDs_STAT.STATE p 2
  let s := { s with cells := { s.cells with strandRestart := s.cells.strandRestart.set p (s.now + 1) } }
  let backup := s.reg CELL.STRANDs_CFG.BACKUP p
  let moves := s.flag CELL.STRANDs_CFG.BACKUP_EN p && s.hostOf p == p && !s.isRetired 2 backup
  let hosted := (List.range 128).filter (fun l => s.hostOf l == p && !(moves && l == p))
  let s := s.each (hosted.flatMap s.strandCells) State.killCell
  if moves then { s with cells := { s.cells with strandMoving := s.cells.strandMoving.set p true } } else s

/-- A cell in use runs on a spare or on a backup strand (R129, R150). -/
def State.isRemapped (s : State) (c : Nat) : Bool :=
  s.reg CELL.CELLc_CTRL.MODE c != CellMode.off && ((s.cells.cell.get c).spares != 0 || s.hostOf (strandOf c) != strandOf c)

/-- STAT.REMAPPED of some cells, and REMAPS, the count of them all (R150). -/
def State.showRemaps (s : State) (l : List Nat) : State :=
  let s := s.each l (fun s c => s.setFlag CELL.CELLc_STAT.REMAPPED c (s.isRemapped c))
  s.setReg CELL.REMAPS.COUNT 0 (s.usedCells.filter (fun c => s.flag CELL.CELLc_STAT.REMAPPED c)).length

/-- Cell `c` is retired (R147, R149): it waits for a spare of the strand that runs it; with none free, that strand is retired when it has a
backup, else the cell is DEAD. -/
def State.retireCell (s : State) (c : Nat) : State :=
  let s := s.retireItem 1 c 3 c 0x3E0
  let p := s.hostOf (strandOf c)
  if s.reg CELL.STRANDs_STAT.SPARES p < 4 then s.updCell c (fun d => { d with retired := true, remapAt := s.now })
  else if s.flag CELL.STRANDs_CFG.BACKUP_EN p then s.retireStrand p
  else s.killCell c

/-- R147: the two evaluators of a cell disagree: it keeps its state for the frame, and the failure is counted against its
budget; a spare that spends the budget again is replaced like the cell before it. -/
def execSelfCheckFail (t cell : Nat) (s : State) : Result :=
  let s := s.advance t
  if 4096 ≤ cell ∨ s.flag CELL.CELLc_STAT.DEAD cell then .next s
  else
    let s := s.addReg CELL.CHKCNT.COUNT 0 1
    let next := (s.now / Config.frame + 1) * Config.frame
    let s := s.updCell cell (fun d => { d with keepUntil := next })
    let s := { s with cells := { s.cells with moved := max s.cells.moved next } }
    let s := s.occur 1 cell (0x0C0 + cell / 256)
    let s := s.setReg CELL.CELLc_STAT.CHKFAIL cell (min 15 (s.life.occ.get (itemKey 1 cell)).length)
    let s := s.note 3 cell []
    .next (if s.permanent 1 cell ∧ !(s.cells.cell.get cell).retired then s.retireCell cell else s).settle

/-- A safe point of a cell (R147): no stretch or PULSE running and no armed target within the next 10 µs. -/
def State.safePoint (s : State) (c : Nat) : Bool :=
  let d := s.cells.cell.get c
  let b := s.reg CELL.CELLc_CTRL.BASE c
  let pulse := s.cells.pulseEnd.any (fun x => x.2.any (fun e => e.2 == c))
  let soon := s.flag CELL.CELLc_CTRL.ARM c && firesAtTarget (s.reg CELL.CELLc_CTRL.MODE c) &&
    reached ((s.at (s.now + us 10)).baseVal b) d.next
  decide (d.holdUntil ≤ s.now) && !pulse && !soon

/-- A retired cell takes a spare of the strand that runs it (R147). A spare that another cell has taken meanwhile is not free: the
strand retires, or the cell is DEAD, as at the retirement (R149). -/
def State.takeSpare (s : State) (c : Nat) : State :=
  let p := s.hostOf (strandOf c)
  let s := s.updCell c (fun d => { d with retired := false })
  if 4 ≤ s.reg CELL.STRANDs_STAT.SPARES p then
    if s.flag CELL.STRANDs_CFG.BACKUP_EN p then s.retireStrand p else s.killCell c
  else
    let s := (s.updCell c (fun d => { d with spares := d.spares + 1 })).addReg CELL.STRANDs_STAT.SPARES p 1
    ((s.showRemaps [c]).note 3 c []).settle

/-- R147: at a safe point, or 1 ms after the retirement, the cell's state is copied to a spare. -/
def execCellRemap (t cell : Nat) (s : State) : Result :=
  let s := s.advance t
  let d := s.cells.cell.get cell
  if d.retired ∧ !s.flag CELL.CELLc_STAT.DEAD cell ∧ (s.safePoint cell ∨ d.remapAt + msec 1 ≤ s.now) then .next (s.takeSpare cell)
  else .next s

/-- R148: a microsequencer parity error restarts the strand; its outputs hold. -/
def execStrandParityError (t strand : Nat) (s : State) : Result :=
  let s := s.advance t
  if 128 ≤ strand ∨ s.reg CELL.STRANDs_STAT.STATE strand = 2 then .next s
  else
    let s := (s.setReg CELL.STRANDs_STAT.STATE strand 1).addReg CELL.STRANDs_STAT.RESTARTS strand 1
    let s := { s with cells := { s.cells with strandRestart := s.cells.strandRestart.set strand (s.now + 1) } }
    let s := (s.occur 2 strand (0x0B0 + strand / 8)).note 4 strand []
    .next (if s.permanent 2 strand then s.retireStrand strand else s)

/-- A cell meets an edge that was kept for it; the FIFO of its strand passes entries on by then. -/
def State.takeEdge (s : State) (e : KeptEdge) : State :=
  if s.reg CELL.CELLc_CTRL.MODE e.cell = CellMode.window then s.windowEdge e.cell e.at_ e.rising false
  else s.captureEdge e.cell e.at_ e.rising false

/-- The REFLEX cells of a strand that resumes meet the edges that its pins had meanwhile, in their order, a frame each (R148): the other cells
have met them as they came. -/
def State.replayPins (s : State) : State :=
  let mine := s.cells.keptPins.filter (fun x => !s.pinWaits x.1)
  let held := mine.map (fun x => (x.1, s.cells.edges.get x.1))
  let resumed := mine.map (fun x => s.reg CELL.PINp_ROUTE.CUR x.1)
  let cells := (s.cellsIn CellMode.reflex).filter (fun c => s.cellLive c && resumed.contains (s.hostOf (strandOf c)))
  let putEdges := fun (s : State) (x : Nat × List (Nat × Bool)) => { s with cells := { s.cells with edges := s.cells.edges.set x.1 x.2 } }
  let s := { s with cells := { s.cells with keptPins := s.cells.keptPins.filter (fun x => s.pinWaits x.1) } }
  let s := s.each held (fun s x => putEdges s (x.1, []))
  let s := s.each mine.reverse (fun s x => s.senseFlag FPIN.PINp_STAT.LEVEL x.1 !x.2)
  let s := s.each mine (fun s x => (s.senseFlag FPIN.PINp_STAT.LEVEL x.1 x.2).evalCells s.nextFrame cells)
  s.each held putEdges

/-- The cells of a strand evaluate again (R148): the edges kept for them in their order, the PULSEs that ran out meanwhile, and the reflex
layer. -/
def State.resumeStrand (s : State) : State :=
  let waits := fun (e : KeptEdge) => s.cells.strandRestart.get (s.hostOf (strandOf e.cell)) != 0
  let now := s.cells.kept.filter (fun e => !waits e)
  let s := { s with cells := { s.cells with kept := s.cells.kept.filter waits } }
  let s := (s.each now State.takeEdge).replayPins
  (s.each s.cells.pulseEnd.keys State.endPulses).settle

/-- R148: the restart completes, and the held edges are evaluated. -/
def execStrandRestartDone (t strand : Nat) (s : State) : Result :=
  let s := s.advance t
  if strand < 128 ∧ s.reg CELL.STRANDs_STAT.STATE strand = 1 then
    let s := { s with cells := { s.cells with strandRestart := s.cells.strandRestart.set strand 0 } }
    .next (s.setReg CELL.STRANDs_STAT.STATE strand 0).resumeStrand
  else .next s

/-- The cells and pins of strand `p` run on strand `b` from now on (R149): no cell of it waits for a spare of its old strand any more. -/
def State.moveStrand (s : State) (p b : Nat) : State :=
  let cs := s.strandCells p
  let s := s.setReg CELL.STRANDs_HOST.HOST p b
  let s := s.each cs (fun s c => s.updCell c (fun d => { d with retired := false }))
  let pins := (List.range 64).filter (fun k => s.flag CELL.PINp_ROUTE.ROUTED k && s.reg CELL.PINp_ROUTE.CUR k == p)
  let s := s.each pins (fun s k =>
    (s.setReg CELL.PINp_ROUTE.CUR k b).setFlag CELL.PINp_ROUTE.MOVED k (s.reg CELL.PINp_ROUTE.HOME k != b))
  ((s.showRemaps cs).note 4 p []).resumeStrand

/-- R143, R149: the cells and pins of a retired strand move to its backup; a backup that was retired meanwhile takes none, and they are
DEAD. -/
def execStrandMove (t strand : Nat) (s : State) : Result :=
  let s := s.advance t
  if strand < 128 ∧ s.cells.strandMoving.get strand then
    let b := s.reg CELL.STRANDs_CFG.BACKUP strand
    let s := { s with cells := { s.cells with strandMoving := s.cells.strandMoving.set strand false } }
    .next (if s.isRetired 2 b then s.each (s.strandCells strand) State.killCell else s.moveStrand strand b)
  else .next s

end Sys2Proof.Machine
end

