-- ==== Sys2Proof/Machine/SafeUnit.lean ====
section
/-! DEFINITION. The safety unit (11_safety_unit.md): shared operations and the meanings of its commands. -/

namespace Sys2Proof.Machine

/-- Unit states of SAFE.STAT.STATE (R367). -/
def SafeState.starting : Nat := 0
def SafeState.run : Nat := 1
def SafeState.watch : Nat := 2
def SafeState.failsafe : Nat := 3

/-- Results of SAFE.MBOX_STAT (R367). -/
def MboxResult.done : Nat := 1
def MboxResult.denied : Nat := 2
def MboxResult.mismatch : Nat := 3
def MboxResult.locked : Nat := 4
def MboxResult.notWaiting : Nat := 5
def MboxResult.stillPresent : Nat := 6
def MboxResult.busy : Nat := 7

/-- Change a function. -/
def State.updFun (s : State) (i : Nat) (f : FunDyn → FunDyn) : State := s.updSafe (fun x => { x with fn := x.fn.upd i f })

/-- The state of the unit. -/
def State.safeState (s : State) : Nat := s.reg SAFE.STAT.STATE

/-- A fault of an item is recorded (R366, R460): SAFETY_FAULT, LASTFAULT, lifetime counter 0x156. `kind`: 0 output, 1 pair, 2 function,
3 unit. -/
def State.safeFault (s : State) (kind item code : Nat) : State :=
  let s := (s.setReg SAFE.LASTFAULT.CODE 0 code).setReg SAFE.LASTFAULT.ITEM 0 item
  (s.record 0xC01 (item + 16 * kind) .safety [(1, code)]).lifeAdd 0x156 1

/-- An output fault is latched and both switches open (R353). -/
def State.outFault (s : State) (j code : Nat) : State :=
  let s := s.updOut j (fun o => { o with
    fault := code, on := false, st := OutState.fault, testAt := 0, pulseEnd := 0, dueOn := false })
  let s := s.when (code == 2 || code == 3 || code == 4) (fun s => s.addReg SAFE.PULSEFAIL.COUNT 0 1)
  let s := s.when (code == 6) (fun s => s.setReg SAFE.STAT.EXT_HIGH 0 1)
  s.safeFault 0 j code

/-! ### The SAFE page -/

/-- The number four bytes spell, the first in the low bits. -/
def fourBytes (l : List Nat) : Nat := (l.zip [0, 1, 2, 3]).map (fun x => x.1 * 2 ^ (8 * x.2)) |>.sum

/-- The SAFE page shows the state bytes, and a change is owed to the image (R361) and the partner (R362). -/
def State.showSafe (s : State) : State :=
  let old := [s.reg SAFE.OUTS.OUT0, s.reg SAFE.OUTS.OUT1, s.reg SAFE.OUTS.OUT2, s.reg SAFE.OUTS.OUT3,
    s.reg SAFE.PAIRS.PAIRk, s.reg SAFE.FUNCS_LO.FUNi, s.reg SAFE.FUNCS_HI.FUNi]
  let b := s.safeBytes
  let new := b.take 4 ++ [fourBytes ((b.drop 4).take 4), fourBytes ((b.drop 8).take 4), fourBytes (b.drop 12)]
  let s := s.each ([SAFE.OUTS.OUT0, SAFE.OUTS.OUT1, SAFE.OUTS.OUT2, SAFE.OUTS.OUT3, SAFE.PAIRS.PAIRk,
    SAFE.FUNCS_LO.FUNi, SAFE.FUNCS_HI.FUNi].zip new) (fun s x => s.setReg x.1 0 x.2)
  let changed := old != new
  let s := s.when changed (fun s => s.updSafe (fun x => { x with due := true }))
  if s.isActive && (changed || decide (s.safe.sentAt + msec 10 ≤ s.now)) then
    (s.sendMirror .async (.safety b)).updSafe (fun x => { x with sentAt := s.now })
  else s

/-! ### One safety cycle -/

/-- R337 to R340: a pair's cycle. `a` and `b`: the channel demands. -/
def State.cyclePair (s : State) (k : Nat) (a b : Bool) : State :=
  let p := s.safe.params.pairs.get k
  let d := s.safe.pair.get k
  if p.use = 0 then s.updSafe (fun x => { x with pair := x.pair.set k default })
  else
    let n := if a != b then d.count + 1 else 0
    let hit := a != b && decide (max p.disc 1 ≤ n)
    let st :=
      if d.st = PairState.fault then (if a && b then PairState.faultHeld else PairState.fault)
      else if d.st = PairState.faultHeld then
        (if !a && !b then PairState.released else if hit then PairState.fault else PairState.faultHeld)
      else if hit then PairState.fault
      else if a || b then PairState.demand else PairState.released
    let s := s.updSafe (fun x => { x with pair := x.pair.set k { st := st, count := n, chA := a, chB := b } })
    let seen := bitOf k (s.reg SAFE.STARTUP.OPEN_SEEN)
    let tested := p.use == 2 || bitOf k (s.reg SAFE.STARTUP.TESTED) || (seen && st == PairState.released)
    let s := s.setReg SAFE.STARTUP.OPEN_SEEN 0 (putField k 1 (s.reg SAFE.STARTUP.OPEN_SEEN) (bn (seen || (a && b))))
    let s := s.setReg SAFE.STARTUP.TESTED 0 (putField k 1 (s.reg SAFE.STARTUP.TESTED) (bn tested))
    if st = PairState.fault ∧ d.st ≠ PairState.fault then s.safeFault 1 k 1 else s

/-- A pair stands in DEMAND, FAULT or FAULT_HELD. -/
def State.pairActs (s : State) (k : Nat) : Bool :=
  let st := (s.safe.pair.get k).st
  st == PairState.demand || st == PairState.fault || st == PairState.faultHeld

/-- The count change of an encoder over `win` cycles (R341). -/
def State.safeDelta (s : State) (e win : Nat) : Int :=
  match s.safe.hist.get e with
  | [] => 0
  | c :: l => c - ((c :: l)[win]?).getD (((c :: l).getLast?).getD c)

/-- The speed of an encoder over `win` cycles, in counts per second (R341). -/
def State.safeSpeed (s : State) (e win : Nat) : Int := s.safeDelta e win * 1000 / (max win 1 : Nat)

/-- R342: the condition of a function's type holds. An SDI function follows the movement, which the first reference does not change. -/
def State.violates (s : State) (i : Nat) : Bool :=
  let p := s.safe.params.funs.get i
  let pos := s.safe.pos.get p.enc
  let d := s.safe.fn.get i
  match p.type with
  | 1 => decide (p.lim1 * max p.win 1 < (s.safeDelta p.enc p.win).natAbs * 1000)
  | 2 => !s.safe.ref.get p.enc || decide (pos < toSigned 32 p.lim1) || decide (toSigned 32 p.lim2 < pos)
  | 3 =>
    let at_ := s.safe.total.get p.enc
    if p.lim2 = 0 then decide ((p.lim1 : Int) < d.furthest - at_) else decide ((p.lim1 : Int) < at_ - d.furthest)
  | _ => false

/-- The encoder moved in the last cycle. -/
def State.moved (s : State) (e : Nat) : Bool :=
  match s.safe.hist.get e with
  | a :: b :: _ => a != b
  | _ => false

/-- R343 to R345: a function's cycle. -/
def State.cycleFun (s : State) (i : Nat) : State :=
  let p := s.safe.params.funs.get i
  if p.type = 0 then s.updSafe (fun x => { x with fn := x.fn.set i default })
  else
    let active := p.act == 0 || s.pairActs (p.act - 1)
    let pos := s.safe.total.get p.enc
    let lost := s.safe.lossNow.get p.enc
    let s := s.when lost (fun s => s.updFun i (fun d => { d with badAt := s.now + 1 }))
    let d := s.safe.fn.get i
    if d.st = FunState.encFault then s
    else if lost then (s.updFun i (fun d => { d with st := FunState.encFault })).safeFault 2 i 8
    else if !active then s.updFun i (fun d => { d with st := FunState.inactive })
    else
      let s := if d.st = FunState.inactive ∨ d.st = FunState.unused then
          s.updFun i (fun d => { d with st := FunState.delay, delayAt := s.now })
        else s
      let d := s.safe.fn.get i
      let s := if d.st = FunState.delay ∧ d.delayAt + msec (10 * p.actdly) ≤ s.now then
          s.updFun i (fun d => { d with st := FunState.monitor, furthest := pos })
        else s
      let d := s.safe.fn.get i
      if d.st = FunState.monitor then
        let s := s.updFun i (fun d => { d with furthest := if p.lim2 = 0 then max d.furthest pos else min d.furthest pos })
        if s.violates i then s.updFun i (fun d => { d with st := FunState.violated, absentAt := s.now }) else s
      else if d.st = FunState.violated then
        let present := if p.type = 3 then s.moved p.enc else s.violates i
        if present then s.updFun i (fun d => { d with absentAt := s.now })
        else if d.absentAt + sec 1 ≤ s.now then
          s.updFun i (fun d => { d with st := FunState.monitor, furthest := pos })
        else s
      else s

/-- A governing pair or function calls for a demand on output `j` (R347). -/
def State.outDemand (s : State) (j : Nat) : Bool :=
  [0, 1, 2, 3].any (fun k => bitOf j (s.safe.params.pairs.get k).outs && s.pairActs k) ||
  (List.range 8).any (fun i =>
    let st := (s.safe.fn.get i).st
    bitOf j (s.safe.params.funs.get i).outs && (st == FunState.violated || st == FunState.encFault))

/-- A governing or activating GUARD pair of output `j` is not TESTED (R340, R347). -/
def State.outUntested (s : State) (j : Nat) : Bool :=
  [0, 1, 2, 3].any (fun k =>
    let governs := bitOf j (s.safe.params.pairs.get k).outs
    let activates := (List.range 8).any (fun i =>
      let f := s.safe.params.funs.get i
      f.type != 0 && bitOf j f.outs && f.act == k + 1)
    (s.safe.params.pairs.get k).use == 1 && (governs || activates) && !bitOf k (s.reg SAFE.STARTUP.TESTED))

/-- R347: the first state that applies to output `j`. -/
def State.outJudge (s : State) (j : Nat) : Nat :=
  let o := s.safe.out.get j
  let p := s.safe.params.outs.get j
  if s.safeState = SafeState.failsafe then OutState.fault
  else if p.use = 0 then OutState.unused
  else if o.fault ≠ 0 then OutState.fault
  else if !s.flag SAFE.STAT.CONFIRMED then OutState.unconfirmed
  else if s.outUntested j then OutState.startup
  else if s.outDemand j then OutState.demand
  else if o.wait ∨ (p.restart = 1 ∧ !o.released) then OutState.waitRestart
  else OutState.armed

/-- Output `j` opens both switches. One that goes off within an off-pulse keeps the pulse's end (R365). -/
def State.switchOff (s : State) (j : Nat) : State :=
  let tpw := us (s.safe.params.outs.get j).tpw
  let inPulse := s.outPulses j && decide (s.now < (s.safe.out.get j).pulseAt + tpw)
  s.updOut j (fun o => { o with on := false, testAt := 0, dueOn := false, pulseEnd := if inPulse then o.pulseAt + tpw + 1 else 0 })

/-- What an output's cause to be energised means (R350, R365): a switch-on that becomes due begins the pre-energise test, or, within the off-pulse
in which the output went off, waits for its end and needs no test; a cause that goes abandons the test. -/
def State.seeOut (s : State) (j : Nat) : State :=
  let o := s.safe.out.get j
  if !s.outMayRun j then
    if o.on then s.switchOff j else s.updOut j (fun o => { o with testAt := 0, dueOn := false })
  else if o.on ∨ o.testAt ≠ 0 then s
  else if o.dueOn then
    if s.now < o.pulseEnd - 1 then s
    else s.updOut j (fun o => { o with
      on := true, dueOn := false, pulseEnd := 0, pulseAt := o.pulseEnd - 1 + msec (s.safe.params.outs.get j).tpp })
  else if s.now < o.pulseEnd - 1 then s.updOut j (fun o => { o with dueOn := true })
  else s.updOut j (fun o => { o with testAt := s.now + 1, pulseEnd := 0 })

/-- R347, R349: an output's cycle. `reaction` is the time from a demand to both switches commanded open, in 0.1 ms (R472). -/
def State.cycleOut (s : State) (reaction j : Nat) (ext : Bool) : State :=
  let old := s.safe.out.get j
  let used := decide ((s.safe.params.outs.get j).use ≠ 0)
  let s := s.updOut j (fun o => { o with extHigh := ext })
  let s := if used && ext && !old.on && old.testAt == 0 && old.fault == 0 then s.outFault j 6 else s
  let st := s.outJudge j
  let held := decide (st = OutState.unconfirmed ∨ st = OutState.startup ∨ st = OutState.demand)
  let s := s.updOut j (fun o => { o with st := st, wait := o.wait && !held, released := o.released && !held })
  let s := s.seeOut j
  if st = OutState.demand ∧ old.st ≠ OutState.demand then
    ((s.addReg SAFE.DEMANDS.COUNT 0 1).lifeAdd 0x155 1).histAdd 23 reaction
  else s

/-- The encoder counts of a cycle (R341): the change since the last cycle, and the position, a signed 32-bit count, after a forward Z edge,
which gives the first reference. SPEEDe takes the window of the encoder's first function. DESIGN CHOICE: the position wraps, and WIN of that
function, 1 ms without one (notes/assumptions/96.md). -/
def State.cycleEnc (s : State) (e : Nat) (delta : Int) (z : Option Int) (lost : Bool) : State :=
  let total := s.safe.total.get e + delta
  let first := z.isSome && !s.safe.ref.get e
  let pos := toSigned 32 (ofSigned 32 (if first then z.getD 0 else s.safe.pos.get e + delta))
  let s := s.updSafe (fun x => { x with
    total := x.total.set e total, pos := x.pos.set e pos, ref := x.ref.set e (x.ref.get e || first)
    hist := x.hist.set e ((total :: x.hist.get e).take 9), lossNow := x.lossNow.set e lost })
  let win := match (List.range 8).find? (fun i => (s.safe.params.funs.get i).type != 0 && (s.safe.params.funs.get i).enc == e) with
    | some i => (s.safe.params.funs.get i).win
    | none => 1
  let s := s.setReg SAFE.SPEEDe.SPEED e (satSigned 32 (s.safeSpeed e win))
  s.setReg SAFE.POSe.POS e (if s.safe.ref.get e then ofSigned 32 pos else 0)

/-- A channel of pair `k` demands (R337): channel A, and B in EQUIV, when it was off in a sub-sample; B in ANTIV when it was on. -/
def State.channelDemands (s : State) (k : Nat) (offSeen onSeen : List Bool) (chB : Bool) : Bool :=
  let i := 2 * k + bn chB
  if chB && (s.safe.params.pairs.get k).mode == 1 then (onSeen[i]?).getD false else (offSeen[i]?).getD true

/-! ### What a request does (R349, R358, R360) -/

/-- R349, R365: RESTART arms the named outputs that wait and that nothing blocks in this cycle; another named one is answered NOT_WAITING. -/
def State.safeRestart (s : State) (mask : Nat) : Nat × State :=
  let named := [0, 1, 2, 3].filter (fun j => bitOf j mask)
  let waits := fun j => (s.safe.out.get j).st == OutState.waitRestart && s.outJudge j == OutState.waitRestart
  let r := if named.all waits then MboxResult.done else MboxResult.notWaiting
  (r, s.each (named.filter waits) (fun s j => s.updOut j (fun o => { o with wait := false, released := true })))

/-- R345, R353, R360: CLEAR of an output's fault (bit 8 clear) or a function's ENC_FAULT. -/
def State.safeClear (s : State) (arg : Nat) : Nat × State :=
  let i := arg % 8
  if bitOf 8 arg then
    let d := s.safe.fn.get i
    if d.st ≠ FunState.encFault then (MboxResult.done, s)
    else if s.now < d.badAt - 1 + sec 1 then (MboxResult.stillPresent, s)
    else (MboxResult.done, s.updFun i (fun d => { d with st := FunState.inactive }))
  else
    let o := s.safe.out.get i
    if o.fault = 0 then (MboxResult.done, s)
    else if o.extHigh then (MboxResult.stillPresent, s)
    else
      let s := s.updOut i (fun o => { o with fault := 0, released := false })
      (MboxResult.done, s.updOut i (fun o => { o with st := s.outJudge i }))

/-- R358: CONFIRM in COMMISSION; the fifth mismatch within 10 minutes locks it for 10 minutes. -/
def State.safeConfirm (s : State) (value : Nat) : Nat × State :=
  if s.flag SAFE.STAT.LOCKED then (MboxResult.locked, s)
  else if wrap 32 value = s.reg SAFE.CHECK.VALUE then
    (MboxResult.done, (s.setReg SAFE.CONFIRMED.VALUE 0 value).setReg SAFE.STAT.CONFIRMED 0 1)
  else
    let recent := s.now :: s.safe.mismatches.filter (fun x => decide (s.now ≤ x + sec 600))
    let s := (s.addReg SAFE.CONFAIL.COUNT 0 1).note 0xC 0x30 [(1, 3)]
    if 5 ≤ recent.length then
      (MboxResult.mismatch, (s.setReg SAFE.STAT.LOCKED 0 1).updSafe (fun x => { x with mismatches := [], lockedAt := s.now }))
    else (MboxResult.mismatch, s.updSafe (fun x => { x with mismatches := recent }))

/-- R360: the request being processed is completed; a command that waits for it is answered. -/
def State.endRequest (s : State) : State :=
  match s.safe.request with
  | none => s
  | some q =>
    let (r, s) := if q.op = 1 then s.safeRestart q.arg else if q.op = 2 then s.safeClear q.arg else s.safeConfirm q.arg
    let s := (s.updSafe (fun x => { x with request := none })).setReg SAFE.MBOX_STAT.BUSY 0 0
    let s := s.setReg SAFE.MBOX_STAT.RESULT 0 r
    match q.reply with
    | none => s
    | some (who, op) => s.respond who op 0 [(0, leBytes 4 r)]

/-- R332 to R353: one safety cycle. `offSeen` and `onSeen`: the inputs that were off, or on, at some sub-sample; `deltas`, `zs` and `losses`:
the encoders' count changes, positions after a forward Z edge, and lost signals. A request waiting is completed (R360): RESTART before the
outputs are judged, with the blockers of this cycle (R365). The unit's SAFETY records go on in STARTING and FAILSAFE (R362); `exts`: the outputs whose readback has stood above 15 V for
2 ms with both switches open. -/
def execSafetyCycle (t : Nat) (offSeen onSeen : List Bool) (deltas : List Int) (zs : List (Option Int)) (losses exts : List Bool)
    (reaction : Nat) (s : State) : Result :=
  let s := s.advance t
  if !s.flag SYS.UNITS.SAFE then .next s
  else if s.safeState = SafeState.starting ∨ s.safeState = SafeState.failsafe then .next s.endRequest.showSafe
  else
    let s := s.setReg SAFE.STAT.STATE 0 (if s.isActive then SafeState.run else SafeState.watch)
    let s := s.each [0, 1, 2, 3] (fun s e =>
      s.cycleEnc e ((deltas[e]?).getD 0) ((zs[e]?).getD none) ((losses[e]?).getD false))
    let s := s.each [0, 1, 2, 3] (fun s k =>
      s.cyclePair k (s.channelDemands k offSeen onSeen false) (s.channelDemands k offSeen onSeen true))
    let done := [0, 1, 2, 3].all (fun k =>
      (s.safe.params.pairs.get k).use != 1 || bitOf k (s.reg SAFE.STARTUP.TESTED))
    let s := s.setFlag SAFE.STAT.STARTUP_DONE 0 done
    let s := (s.each (List.range 8) State.cycleFun).endRequest
    let s := s.each [0, 1, 2, 3] (fun s j => s.cycleOut reaction j ((exts[j]?).getD false))
    .next s.showSafe

/-- FAILSAFE (R335): every output FAULT with both switches open, a record, the module DEGRADED. -/
def State.failSafe (s : State) (code : Nat) : State :=
  let s := (s.setReg SAFE.STAT.STATE 0 SafeState.failsafe).safeOff
  let s := s.each [0, 1, 2, 3] (fun s j => s.updOut j (fun o => { o with st := s.outJudge j }))
  ((s.safeFault 3 0 code).showSafe.cause 7 true).restartDwell 1

/-- R335: a self-test or diagnostic fails, at start-up or later; a repetition that passes is transient unless another failure came within 1 h. -/
def execSafetyDiagnostic (t : Nat) (repeatPassed : Bool) (s : State) : Result :=
  let s := s.advance t
  if !s.flag SYS.UNITS.SAFE ∨ s.safeState = SafeState.failsafe then .next s
  else
    let again := decide (s.safe.diagAt ≠ 0 ∧ s.now ≤ s.safe.diagAt - 1 + sec 3600)
    let s := s.updSafe (fun x => { x with diagAt := s.now + 1 })
    if repeatPassed then
      let s := ((s.addReg SAFE.DIAG.TRANSIENT 0 1).note 0xC 0x30 [(1, 9)]).restartDwell 1
      .next (if again then s.failSafe 9 else s)
    else .next (s.failSafe 9)

/-- R334, R335: the window watchdog expires. -/
def execSafetyWatchdogExpiry (t : Nat) (s : State) : Result :=
  let s := s.advance t
  if !s.flag SYS.UNITS.SAFE ∨ s.safeState = SafeState.failsafe then .next s else .next (s.failSafe 0xA)

/-- The cross-check begins anew at the present counts (R345). -/
def State.startCross (s : State) : State :=
  s.updSafe (fun x => { x with
    crossOwn := x.total
    crossAsic := [0, 1, 2, 3].foldl (fun m e => m.set e (s.reg FPIN.ENCe_COUNT.COUNT e)) x.crossAsic })

/-- R335: the full start-up self-tests are done. -/
def execSafetySelftestDone (t : Nat) (s : State) : Result :=
  let s := s.advance t
  if s.flag SYS.UNITS.SAFE ∧ s.safeState = SafeState.starting ∧ !s.flag UPD.PARTp_STAT.STOPPED 1 then
    .next ((s.startCross.setReg SAFE.STAT.STATE 0 (if s.isActive then SafeState.run else SafeState.watch)).restartDwell 1)
  else .next s

/-- R345: the change of the own count against that of FPIN.ENCe_COUNT over the last 10 ms. -/
def State.crossCheck (s : State) (e : Nat) : State :=
  let own := s.safe.total.get e - s.safe.crossOwn.get e
  let asic := s.reg FPIN.ENCe_COUNT.COUNT e
  let diff := (own - toSigned 32 (diffMod 32 asic (s.safe.crossAsic.get e))).natAbs
  let s := s.updSafe (fun x => { x with
    crossOwn := x.crossOwn.set e (x.total.get e), crossAsic := x.crossAsic.set e asic })
  let fns := (List.range 8).filter (fun i =>
    let f := s.safe.params.funs.get i
    f.type != 0 && f.enc == e && decide (f.xtol < diff))
  s.each fns (fun s i =>
    let s := s.updFun i (fun d => { d with badAt := s.now + 1 })
    if (s.safe.fn.get i).st = FunState.encFault then s
    else (s.updFun i (fun d => { d with st := FunState.encFault })).safeFault 2 i 7)

/-- R345: the cross-check of every encoder. -/
def execEncoderCrossCheck (t : Nat) (s : State) : Result :=
  let s := s.advance t
  if !s.flag SYS.UNITS.SAFE ∨ s.safeState = SafeState.failsafe ∨ s.safeState = SafeState.starting then .next s
  else .next (s.each [0, 1, 2, 3] State.crossCheck).showSafe

/-- R350: the pre-energise test of an output has ended: passed after both its steps of TPW, or failed; one whose cause has gone is abandoned
(R365). -/
def execPreEnergiseTest (t out : Nat) (passed : Bool) (s : State) : Result :=
  let s := s.advance t
  let o := s.safe.out.get out
  if 4 ≤ out ∨ !s.flag SYS.UNITS.SAFE ∨ o.testAt = 0 ∨ !s.outMayRun out then .next s
  else if passed then
    if s.now < o.testAt - 1 + us (2 * (s.safe.params.outs.get out).tpw) then .next s
    else .next (s.updOut out (fun o => { o with
      on := true, testAt := 0, pulseAt := s.now + msec (s.safe.params.outs.get out).tpp })).showSafe
  else .next (s.outFault out 4).showSafe

/-- R351: the readback of an off-pulse of an energised output has been judged: it fell within 80 µs of the pulse's start, and rose within 200 µs
of its end. The next pulse is that of the other switch. -/
def execTestPulse (t out : Nat) (fell rose : Bool) (s : State) : Result :=
  let s := s.advance t
  let o := s.safe.out.get out
  let p := s.safe.params.outs.get out
  let fin := o.pulseAt + us p.tpw
  if 4 ≤ out ∨ !o.on ∨ s.now < o.pulseAt then .next s
  else if !fell then .next (if s.now < o.pulseAt + us 80 then s else (s.outFault out 2).showSafe)
  else if !rose then .next (if s.now < fin + us 200 then s else (s.outFault out 3).showSafe)
  else if s.now < fin then .next s
  else .next ((s.bumpReg SAFE.PULSES.COUNT 0).updOut out (fun o => { o with
    pulseAt := o.pulseAt + msec p.tpp, lower := !o.lower }))

/-- R346, R353: an output has exceeded its trip for 1 ms. -/
def execOutputOvercurrent (t out : Nat) (s : State) : Result :=
  let s := s.advance t
  if 4 ≤ out ∨ !(s.safe.out.get out).on then .next s else .next (s.outFault out 5).showSafe

/-- R361: the 16 status signals are delivered on a change and otherwise every 100 ms. -/
def execSafeStatusDelivery (t : Nat) (s : State) : Result :=
  let s := s.advance t
  let p := s.safe.params
  if !s.flag SYS.UNITS.SAFE ∨ !p.statusEn ∨ !s.ingressOn ∨ !(s.safe.due ∨ s.safe.shownAt + msec 100 ≤ s.now) then .next s
  else
    let b := s.safeBytes
    let s := s.updSafe (fun x => { x with due := false, shownAt := s.now })
    .next (s.deliver 0x8000 (((List.range 16).zip b).map (fun x => (p.status + x.1, x.2, 0))) s.now)

/-! ### Requests (R349, R358, R360) -/

/-- R360: a request reaches a unit that is fitted (R5): DENIED of a source the operation does not accept, BUSY while another is processed, else
taken with the argument in MBOX_ARG; the next safety cycle completes it. -/
def State.mbox (s : State) (allowed : Bool) (op : Nat) (reply : Option (Req × Nat)) : State :=
  if !s.flag SYS.UNITS.SAFE then s
  else if !allowed then s.setReg SAFE.MBOX_STAT.RESULT 0 MboxResult.denied
  else if s.safe.request.isSome then s.setReg SAFE.MBOX_STAT.RESULT 0 MboxResult.busy
  else
    (s.updSafe (fun x => { x with request := some { op := op, arg := s.reg SAFE.MBOX_ARG.ARG, reply := reply } })).setReg SAFE.MBOX_STAT.BUSY 0 1

/-- R349, R360: who may ask for RESTART. `cls` is the command class the hardware attaches: 0 none (a core's RUNTIME), 1 OPERATE, 2 TUNE,
3 MAINTAIN; `port` the port of the engineering-port bridge. -/
def mayRestart (master cls port : Nat) : Bool :=
  (decide (master < 16) && cls == 0) || (master == 36 && cls == 1 && decide (port < 3))

/-- R360: who may ask for CLEAR: ENG at TUNE or SERVICE. -/
def State.mayClear (s : State) (master cls port : Nat) : Bool :=
  master == 36 && cls == 2 && port == 0 && decide (1 ≤ s.reg PORT.STAT.KEY)

/-- R358: who may ask for CONFIRM: ENG at SERVICE in COMMISSION. -/
def State.mayConfirm (s : State) (master cls port : Nat) : Bool :=
  master == 36 && cls == 3 && port == 0 && s.reg PORT.STAT.KEY == 2 && s.mode == .commission

/-- R349, R360: RESTART of MBOX_CMD. -/
def execSafeMboxRestart (t master cls port : Nat) (s : State) : Result :=
  .next ((s.advance t).mbox (mayRestart master cls port) 1 none)

/-- R360: CLEAR of MBOX_CMD. -/
def execSafeMboxClear (t master cls port : Nat) (s : State) : Result :=
  let s := s.advance t
  .next (s.mbox (s.mayClear master cls port) 2 none)

/-- R358: CONFIRM of MBOX_CMD. -/
def execSafeMboxConfirm (t master cls port : Nat) (s : State) : Result :=
  let s := s.advance t
  .next (s.mbox (s.mayConfirm master cls port) 3 none)

/-- R358: the lockout ends after 10 minutes. -/
def execConfirmLockEnd (t : Nat) (s : State) : Result :=
  let s := s.advance t
  .next (s.when (s.flag SAFE.STAT.LOCKED && decide (s.safe.lockedAt + sec 600 ≤ s.now)) (fun s => s.setReg SAFE.STAT.LOCKED 0 0))

/-! ### Commits and takeovers -/

/-- R348: the commit engine copies the request of a published safety signal; an output whose request goes is off (R347). -/
def State.copyToSafe (s : State) (sig : Nat) : State :=
  let sl := s.img.slots.get sig
  let q := s.copyQual sig
  let bad := q == Quality.bad || q == Quality.poison || q == Quality.stale
  let outs := [0, 1, 2, 3].filter (fun j => (s.safe.params.outs.get j).use != 0 && (s.safe.params.outs.get j).req == sig)
  s.each outs (fun s j => (s.updOut j (fun o => { o with req := !bad && sl.value % 2 == 1 })).seeOut j)

/-- A pair's state at a takeover (R363): its own, and what the mirrored state has latched as well. -/
def PairState.both (own mirrored : Nat) : Nat :=
  if own = PairState.fault ∨ mirrored = PairState.fault then PairState.fault
  else if mirrored = PairState.faultHeld then PairState.faultHeld
  else own

/-- R363: a new active unit keeps its own states and the latched ones the partner mirrored; an output that none of precedence 1 to 4 holds is
armed when it was, and else waits for a restart. -/
def State.safeTakeover (s : State) : State :=
  if !s.flag SYS.UNITS.SAFE then s
  else
    let byte := fun i => (s.safe.mirrored[i]?).getD 0 % 8
    let s := s.each [0, 1, 2, 3] (fun s k =>
      s.updSafe (fun x => { x with pair := x.pair.upd k (fun p => { p with st := PairState.both p.st (byte (4 + k)) }) }))
    let s := s.each (List.range 8) (fun s i =>
      let st := byte (8 + i)
      if (s.safe.fn.get i).st = FunState.encFault then s
      else if st = FunState.encFault then s.updFun i (fun d => { d with st := FunState.encFault })
      else if st = FunState.violated ∨ st = FunState.noRef then
        s.updFun i (fun d => { d with st := FunState.violated, absentAt := s.now })
      else s)
    let s := s.each [0, 1, 2, 3] (fun s j =>
      let armed := byte j == OutState.armed
      let s := s.updOut j (fun o => { o with wait := false, released := true })
      let frees := s.outJudge j == OutState.armed
      s.updOut j (fun o => { o with wait := frees && !armed, released := frees && armed }))
    (s.each [0, 1, 2, 3] (fun s j => s.updOut j (fun o => { o with st := s.outJudge j }))).showSafe

end Sys2Proof.Machine
end

