-- ==== Sys2Proof/Machine/Tasks.lean ====
section
/-! DEFINITION. The meanings of the task and block commands (03_cycle_and_tasks.md), but for COMMIT_COMPLETE (Commit.lean). -/

namespace Sys2Proof.Machine

/-- R98: one decision of the dispatcher of a block. -/
def execDispatch (t block : Nat) (s : State) : Result := .next ((s.advance t).dispatch block)

/-- One input as the view of task `t` shows it (R80), read by the block DMA `dma` through the task's key; a refused read is zeros with the
mark (R293, R295). -/
def State.viewOf (s : State) (dma t sig : Nat) : ViewSlot :=
  let sl := s.dmaSlot dma t sig
  let p := s.dmaPoison dma t sig
  if p.2 then
    { sig := sig, value := sl.value, seq := 0, source := 0xF004, qual := Quality.poison, detail := 0, poison := p.1 }
  else
    { sig := sig, value := sl.value, seq := sl.seq, source := sl.source
      qual := if p.1 then Quality.poison else sl.qual, detail := if p.1 then 0 else sl.detail
      poison := p.1 }

/-- The capture entries that are due to a task (R102), each with its absolute number: those of its subscription from its read position on
with SEQ64 at most S, up to CQMAX, and its read position afterwards. -/
def State.dueEntries (s : State) (t : Nat) : List (CapEntry × Nat) × Nat :=
  let d := s.task t
  let cfg := s.tasks.cfg.get t
  let lim := s.reg TASK.TASKt_CQ.CQMAX t
  let from_ := max d.readPos s.img.cqFirst
  let all := (s.img.cq.zip (List.range s.img.cq.length)).map (fun x => (x.1, s.img.cqFirst + x.2))
  let upToS := (all.filter (fun x => decide (from_ ≤ x.2))).takeWhile (fun x => decide (x.1.seq64 ≤ s.img.seq))
  let due := upToS.filter (fun x => cfg.follows x.1)
  let pos := match due[lim]? with
    | some x => x.2
    | none => from_ + upToS.length
  (due.take lim, pos)

/-- The first delivered entry carries an owed QUEUE_LOSS (R102). -/
def markLoss (owed : Bool) : List CapEntry → List CapEntry
  | [] => []
  | e :: l => if owed then { e with queueLoss := true } :: l else e :: l

/-- A capture entry as the block DMA delivers it (R278, R295), its poison as a mask of its words. -/
def State.captureSeen (s : State) (dma t : Nat) (x : CapEntry × Nat) : CapEntry × Nat :=
  if s.admitted dma t 0 1 (captureWord x.2) then (s.captureRead x.2 x.1, s.captureMarks x.2)
  else ({ x.1 with seq64 := 0, stamp := 0, signal := 0, epoch := 0, base := 0, subNs := 0, late := false, queueLoss := false, measure := false
                   source := 0 }, 15)

/-- The words of a delivered entry, each with its poison (R73, R281). -/
def entryWords (e : CapEntry) (marks : Nat) : List (Nat × Bool) := (List.range 4).map (fun k => (e.word k, bitOf k marks))

/-- The words of an input as the view receives them, each with its poison (R80). -/
def State.viewWords (s : State) (dma t sig : Nat) : List (Nat × Bool) :=
  let sl := s.dmaSlot dma t sig
  let p := s.dmaPoison dma t sig
  let rebuilt : Slot := { (default : Slot) with
    source := 0xF004, qual := Quality.poison, type := sl.type, mirrored := s.isMirrored sig }
  let w1 := if p.2 then rebuilt else if p.1 then { sl with qual := Quality.poison, detail := 0 } else sl
  [(sl.value, p.1), (w1.word1, false)]

/-- The block DMA writes words to a task's view from word address `a` on, each through the task's key (R91, R101, R293, R296). `done`: earlier
words of the access have been written. -/
def State.writeView (s : State) (master t : Nat) (done : Bool) : Nat → List (Nat × Bool) → State
  | _, [] => s
  | a, x :: l => match locate a with
    | none => s
    | some (m, w) =>
      let c := s.colourAt m w
      if (s.keyOf master t).admits 1 c then
        (if x.2 then s.writePoison m w x.1 else s.writeWord m w x.1).writeView master t true (a + 1) l
      else s.guardRefuse master 1 c (8 * a) done

/-- R101 to R103, R376, R377: the view is filled with the inputs, the capture entries and the CAN entries in that order, S taken, and the core
enters the task. A task that is pre-empted meanwhile is not served: its read ends after it has resumed (DEDUCED, notes/assumptions/112.md). -/
def execInputReadDone (t task : Nat) (s : State) : Result :=
  let s := s.advance t
  let d := s.task task
  if d.phase ≠ .reading ∨ s.current (s.tBlock task) ≠ some task then .next s
  else
    let cfg := s.tasks.cfg.get task
    let (entries, pos) := if s.reg TASK.TASKt_CQ.CQMAX task = 0 then ([], d.readPos) else s.dueEntries task
    let dma := 16 + s.tBlock task
    let seen := entries.map (s.captureSeen dma task)
    let out := markLoss d.cqLoss (seen.map Prod.fst)
    let args := match s.tKind task == TaskKind.error, d.invocations with
      | true, v :: _ => [task, v.failed.getD (2 ^ 64 - 1), v.cause, v.detail, cfg.viewAddr, out.length]
      | _, _ => [task, d.prevSeq, s.img.seq, cfg.viewAddr, d.wakeTaken, out.length]
    let s := s.updTask task (fun d => { d with
      phase := .running, snapshot := s.img.seq, view := cfg.inputs.map (s.viewOf dma task), capDelivered := out, readPos := pos
      cqLoss := d.cqLoss && decide (out = []) })
    let frames := (s.canDue task).flatMap (fun w => s.dmaWords dma task 1 w 12)
    let words := (cfg.inputs.map (s.viewWords dma task)).flatten ++ ((out.zip seen).map (fun x => entryWords x.1 x.2.2)).flatten ++
      frames.map (fun v => (wrap 64 v, bitOf 64 v))
    let s := s.each cfg.inputs (fun s g => s.noteDmaSlot dma task g)
    let s := s.each entries (fun s x => s.noteDma dma task 1 (captureWord x.2) 4)
    let s := s.writeView dma task false (cfg.viewAddr / 8) words
    let s := s.takeCan dma task
    .next (s.emit (.entry task args))

/-- What PWAIT answers at once (R119), if it does. `rs2` bits [3:0] base, bit 4 epoch given, [31:16] epoch, [63:32] timeout. -/
def State.pwaitNow (s : State) (target rs2 : Nat) : Option Nat :=
  let b := bitField 0 4 rs2
  let st := s.baseState b
  let given := bitOf 4 rs2
  let e := bitField 16 16 rs2
  let cur := s.baseEpoch b
  if bitField 5 11 rs2 ≠ 0 ∨ st = BaseState.notFitted ∨ st = BaseState.unused then some 4
  else if given && laterMod 16 e cur then some 4
  else if given && laterMod 16 cur e then some 3
  else if s.baseFires b && reached (s.baseVal b) target then some 1
  else if bitField 32 32 rs2 = 0 then some 2
  else none

/-- R119: PWAIT on the core of a block, whose word is `word` (R118). -/
def execPwait (t block pc word rs1 rs2 energy : Nat) (s : State) : Result :=
  let s := s.advance t
  match if isPwait word then s.cycleTask block else none with
  | none => .next (s.illegal block pc word energy)
  | some task =>
    let b := bitField 0 4 rs2
    match s.pwaitNow (wrap 64 rs1) rs2 with
    | some st =>
      let s := if st = 1 then s.noteLate b else s
      .next (s.emit (.coreResult block (st + s.baseEpoch b * 2 ^ 16)))
    | none =>
      let w : PWaitSt :=
        { base := b, target := wrap 64 rs1, epoch := if bitOf 4 rs2 then some (bitField 16 16 rs2) else none
          deadline := s.now + us (bitField 32 32 rs2) }
      let s := (s.setTState task TaskState.waiting).leaveCore task
      .next (s.updTask task (fun d => { d with wait := some w, resumable := false }))

/-- The wait of a task has reached its target by instant `u` (R24, R50). -/
def State.waitReached (s : State) (w : PWaitSt) (u : Nat) : Bool :=
  let p := s.at u
  p.baseFires w.base && reached (p.baseVal w.base) w.target

/-- R119: the wait ends by reaching its target, or by its timeout; steps end waits where they happen. -/
def execPwaitEnd (t task : Nat) (s : State) : Result :=
  let s := s.advance t
  match (s.task task).wait with
  | none => .next s
  | some w =>
    if s.waitReached w (min s.now w.deadline) then .next (s.endWait task 0)
    else if w.deadline ≤ s.now then .next (s.endWait task 2)
    else .next s

/-! ### The end of a cycle -/

/-- The cycle publishes nothing (R107, R120). -/
def TaskDyn.isEmpty (d : TaskDyn) : Bool := bitOf 0 d.scFlags || (d.written == [] && d.lines == [])

/-- A SYNC commit waits for its acknowledgement (R106): a mirrored SYNC task with something to publish and a STANDBY partner. -/
def State.syncWaits (s : State) (t : Nat) : Bool :=
  !s.flag TASK.TASKt_CFG.ASYNC t && (s.tasks.cfg.get t).mirrored && !(s.task t).isEmpty && s.partnerStandby

/-- The slot a commit will publish for a written output, before its number is known (R57, R76, R225): the commit engine reads the working
slot with single-bit errors corrected (R278). -/
def State.stagedSlot (s : State) (t sig : Nat) : Slot :=
  let w := s.workRead sig
  let c := cleanQuality w.qual (taskDetail w.detail)
  match s.img.dir.get sig with
  | some d => s.builtSlot d sig t w.value c.1 c.2 0
  | none => { w with source := t, qual := c.1, detail := c.2, seq := 0 }

/-- The bodies of a commit set (R223, R224): COMMIT, the published mirrored slots (a write that R61 refuses is none), the dirty lines. -/
def State.commitBodies (s : State) (t : Nat) (slot : Nat → Slot) (line : Nat → List Nat) : List MBody :=
  let d := s.task t
  let sl := d.written.filter (fun g => s.isMirrored g && s.owns g t)
  MBody.commit t (s.tBlock t) sl.length d.lines.length ::
    (sl.map (fun g => MBody.slot g (slot g) (s.workMarks g)) ++ d.lines.map (fun a => MBody.line a (line a)))

/-- Send a set: its records in order, LAST on the last. -/
def State.sendSet (s : State) (share : Share) (sync : Bool) (seq64 : Nat) (task : Option Nat) (l : List MBody) : State :=
  s.each (l.zip (List.range l.length)) (fun s x =>
    s.sendMirror share x.1 sync (decide (x.2 + 1 = l.length)) seq64 task)

/-- The bytes a set takes. -/
def setSize (l : List MBody) : Nat := (l.map MBody.size).sum

/-- The physical byte address of a DRAM line (R223 LINE). -/
def lineAddr (l : Nat) : Nat := (Config.memBase 0 + 8 * l) * 8

/-- The eight words of a state line as the cycle leaves it, each with its poison flag at bit 64 (R105, R281). -/
def State.lineWords (s : State) (t l : Nat) : List Nat :=
  (List.range 8).map (fun i => let x := s.stateWord t (8 * l + i); x.1 + bn x.2 * 2 ^ 64)

/-- The commit set of a task whose slots are `slot` (R224). -/
def State.commitSet (s : State) (t : Nat) (slot : Nat → Slot) : List MBody :=
  (s.commitBodies t slot (s.lineWords t)).map (fun b => match b with
    | .line l d => .line (lineAddr l) d
    | x => x)

/-- R225 step 1: the prepared set of a waiting SYNC commit is sent when fewer than 64 are open and the SYNC share has room (a set that finds none
shows MQFILL.FULL); the wait counts within the 20 µs of R106. -/
def State.sendPrepared (s : State) (t : Nat) : State :=
  let d := s.task t
  if !d.waitAck || d.ackMseq.isSome || decide (Config.preparedMax ≤ s.pair.openSets.length) then s
  else
    let l := s.commitSet t (s.stagedSlot t)
    if Share.sync.size < s.shareUsed .sync + setSize l then s.setReg PAIR.MQFILL.FULL 0 1
    else
      let s := s.sendSet .sync true 0 none l
      let m := s.reg PAIR.MSEQ_SENT.MSEQ
      let s := { s with pair := { s.pair with openSets := s.pair.openSets ++ [m] } }
      s.updTask t (fun d => { d with ackMseq := some m })

/-- Prepared sets that waited for an open place are sent, lower tasks first (R225). -/
def State.sendWaiting (s : State) : State :=
  s.each (s.taskList.filter (fun t => (s.task t).waitAck && (s.task t).ackMseq.isNone)) State.sendPrepared

/-- R113: the invocation an ERROR task serves is consumed by SCOMMIT; with RESTART its failed task restarts if it is FAULTED. -/
def State.consumeInvocation (s : State) (t flags : Nat) : State :=
  if s.tKind t ≠ TaskKind.error then s
  else match (s.task t).invocations with
    | [] => s
    | v :: l =>
      let s := s.updTask t (fun d => { d with invocations := l })
      match v.failed with
      | some f => if bitOf 1 flags && s.tState f == TaskState.faulted then s.restartTask f else s
      | none => s

/-- R120: SCOMMIT ends the cycle with the flags in rs1; any bit but 0 and 1 is an illegal instruction. `word` is the instruction (R118),
`energy` what the meter has counted since the last debit. -/
def execScommit (t block pc word flags energy : Nat) (s : State) : Result :=
  let s := s.advance t
  match if isScommit word then s.cycleTask block else none with
  | none => .next (s.illegal block pc word energy)
  | some task =>
    if 4 ≤ wrap 64 flags then .next (s.illegal block pc word energy)
    else
      let s := s.consumeInvocation task flags
      let s := s.updTask task (fun d => { d with phase := .committing, scFlags := flags, pendEnergy := energy, meterBlock := block })
      let s := s.leaveCore task
      if s.syncWaits task then
        .next ((s.updTask task (fun d => { d with waitAck := true, ackMseq := none, commitSentAt := s.now })).sendPrepared task)
      else .next s

/-- R106: no acknowledgement within 20 µs: the commit goes on without it, and the pair reports NOT BUMPLESS. -/
def execSyncAckTimeout (t task : Nat) (s : State) : Result :=
  let s := s.advance t
  let d := s.task task
  if d.waitAck ∧ d.commitSentAt + Config.syncAckLimit ≤ s.now then
    .next ((s.updTask task (fun d => { d with waitAck := false })).addReg PAIR.SYNCACK.TIMEOUTS 0 1).ackTimedOut
  else .next s

/-- R109: the skip ends one ceiling after the commit. -/
def execSkipEnd (t task : Nat) (s : State) : Result :=
  let s := s.advance t
  if s.tState task = TaskState.skip ∧ (s.task task).skipUntil ≤ s.now then
    .next (((s.setTState task TaskState.idle).mirrorTask task).promote (s.tBlock task))
  else .next s

/-- An overrun or a HANG is counted (R109, R110): OVRTOT, lifetime counter 0x144, the histogram bin, OVR. -/
def State.countOverrun (s : State) (task bin : Nat) : State :=
  (((s.addReg TASK.TASKt_OVRTOT.COUNT task 1).lifeAdd 0x144 1).histAdd 13 bin).setReg TASK.TASKt_STATE.OVR task 1

/-- R110: the cycle has reached 4 × its ceiling without SCOMMIT. -/
def execHang (t task energy : Nat) (s : State) : Result :=
  let s := s.advance t
  let ct := s.cycleTime task
  if s.inCycle task ∧ 4 * us (s.task task).ceilAt ≤ ct then
    let s := ((s.addReg TASK.TASKt_OVRTOT.COUNT task 1).lifeAdd 0x144 1).histAdd 13 30
    let s := s.debit (s.tBlock task) energy
    .next (s.faultTask task TaskCause.hang (ct / msec 1)).settleHold
  else .next s

/-- R121, R152, R163: BYIELD yields the core; the energy since the last debit is charged. -/
def execByield (t block pc word estimate energy : Nat) (s : State) : Result :=
  let s := s.advance t
  match if isByield word then s.cycleTask block else none with
  | none => .next (s.illegal block pc word energy)
  | some task =>
    let s := s.debit block energy
    let s := (s.setTState task TaskState.yielded).leaveCore task
    .next ((s.updTask task (fun d => { d with
      estimate := wrap 64 estimate, charged := satAdd 64 d.charged energy, yieldT := s.now, didYield := true, resumable := false
      firstPiece := if d.didYield then d.firstPiece else energy })).markResumable block)

/-- R122: SEQREAD; `rest` is the instruction word but for its SEL field (R118). -/
def execSeqread (t block pc rest sel energy : Nat) (s : State) : Result :=
  let s := s.advance t
  let word := putField 20 5 rest sel
  match isSeqread word, sel, s.cycleTask block with
  | true, 0, _ => .next (s.emit (.coreResult block s.img.seq))
  | true, 1, some task => .next (s.emit (.coreResult block (s.task task).snapshot))
  | true, 2, some task =>
    .next (s.emit (.coreResult block (s.reg TASK.TASKt_LSEQ_LO.SEQ task + s.reg TASK.TASKt_LSEQ_HI.SEQ task * 2 ^ 32)))
  | _, _, _ => .next (s.illegal block pc word energy)

/-- The detail of a task exception (R111): the address, the instruction word, the pc or the dirty line count. -/
def State.excDetail (s : State) (task cause pc tval : Nat) : Nat :=
  if cause = TaskCause.breakpoint then wrap 32 pc
  else if cause = TaskCause.stateFull then (s.task task).lines.length
  else wrap 32 tval

/-- R111, R115: a task exception with its R111 cause (0x03 to 0x08); in M mode the block restarts. -/
def execTaskException (t block cause mcause pc tval energy : Nat) (s : State) : Result :=
  let s := s.advance t
  match s.cycleTask block with
  | none => .next (s.blockRestart block 0 mcause (some energy))
  | some task => .next (s.takeException block task mcause pc tval cause (s.excDetail task cause pc tval) energy)

/-- R114: a write to TASK.RESTART restarts a FAULTED task, and is ignored and recorded for any other. -/
def execTaskRestartWrite (t master value : Nat) (s : State) : Result :=
  let s := s.advance t
  let task := wrap 8 value
  if s.tState task = TaskState.faulted then .next (s.restartTask task)
  else .next (s.writeRefused (TASK.RESTART.TASK.addrOf 0) master 5)

/-- R95, R96, R230: a write of FLOOR or CEIL within its range acts at the next dispatch and is mirrored. -/
def execTaskTimingWrite (t master task : Nat) (ceil : Bool) (value : Nat) (s : State) : Result :=
  let s := s.advance t
  if 256 ≤ task then .next s
  else
    let f := if ceil then TASK.TASKt_CEIL.CEIL else TASK.TASKt_FLOOR.FLOOR
    let lo := if ceil then 50 else 0
    if lo ≤ wrap 32 value ∧ wrap 32 value ≤ 10000000 then
      .next ((s.setReg f task value).mirrorReg (f.addrOf task) (wrap 32 value))
    else .next (s.writeRefused (f.addrOf task) master 2)

/-- R115: the runtime has not served the core watchdog for 10 ms. The mcause of the record is a free value: no trap happened. -/
def execCoreWatchdogExpiry (t block : Nat) (s : State) : Result :=
  let s := s.advance t
  if 16 ≤ block then .next s else .next (s.nextFree.blockRestart block 2 (s.freeVal 32))

/-- R115: a block restarts after an M-mode exception (cause 0) or an uncorrectable error in the runtime's memory (cause 1). -/
def execBlockRestart (t block cause mcause energy : Nat) (s : State) : Result :=
  let s := s.advance t
  if 16 ≤ block then .next s else .next (s.blockRestart block cause mcause (some energy))

/-- R115: the restart completes within 5 ms, once no commit of the block is in progress (R120), and dispatch resumes, but for new cycles
in a region that is STOPPING (R171). -/
def execBlockRestartDone (t block : Nat) (s : State) : Result :=
  let s := s.advance t
  if s.reg BLK.STATUS.STATE block = BlockState.restarting ∧
      !(s.tasksOn block).any (fun x => (s.task x).phase == .committing) then
    let s := { s with tasks := { s.tasks with restartAt := s.tasks.restartAt.set block 0 } }
    let st := if s.regionPower (block / 4) = 0 then BlockState.idle else BlockState.movingOut
    .next ((s.setReg BLK.STATUS.STATE block st).dispatch block)
  else .next s

/-- R117: a moved task becomes IDLE on its new block, or SKIP while a skip interval runs, and its block takes a dispatch decision for its first
cycle there. -/
def execTaskMoveDone (t task : Nat) (s : State) : Result :=
  let s := s.advance t
  if s.tState task = TaskState.moving then
    .next (((s.setTState task (s.restState task)).mirrorTask task).dispatch (s.tBlock task))
  else .next s

/-- R97: the floor has elapsed, and the task may become ready. -/
def execTaskFloorElapsed (t task : Nat) (s : State) : Result :=
  let s := s.advance t
  .next (s.promote (s.tBlock task))

/-- R123: a read of LSEQ_LO latches LSEQ_HI. -/
def execTaskLseqLoRead (t master task : Nat) (s : State) : Result :=
  let s := s.advance t
  let a := TASK.TASKt_LSEQ_LO.SEQ.addrOf task
  if 256 ≤ task then .next s
  else .next ((s.latchWords master [a + 4]).emit (.readData master a (s.word a)))

/-- R124: a read of EPC_LO latches EPC_HI, and one of TVAL_LO latches TVAL_HI. -/
def execBlkEpcLoRead (t master block : Nat) (tval : Bool) (s : State) : Result :=
  let s := s.advance t
  let a := if tval then BLK.TVAL_LO.TVAL.addrOf block else BLK.EPC_LO.EPC.addrOf block
  if 16 ≤ block then .next s
  else .next ((s.latchWords master [a + 4]).emit (.readData master a (s.word a)))

end Sys2Proof.Machine
end

