-- ==== Sys2Proof/Machine/Commit.lean ====
section
/-! DEFINITION. The completion of a commit (R76 to R78, R105 to R110, R162, R225): publication, what is mirrored, the judgement of the
cycle time, and what the end of a cycle sets free. -/

namespace Sys2Proof.Machine

/-- A commit's write of a slot under number `n` (R76, R82): the write is accepted, to RAW while the signal is forced, and a write that reaches
the slot is copied to the pins and cells and to the safety unit (R139, R307, R348). -/
def State.commitSlot (s : State) (sig source value qual detail n marks : Nat) : State :=
  let forced := (s.img.forces.get sig).isSome
  let s := s.acceptWrite sig source value qual detail n s.now (marks := marks)
  if forced then s else (s.copyToPins sig).copyToSafe sig

/-- R61, R76, R77, R281: one output is published under the commit's number, its invalid quality replaced and counted; the commit engine reads
the working slot, single-bit errors corrected and counted for the block's DMA (R278, R279), and the poison of its words goes with it. -/
def State.publishSlot (s : State) (t n sig : Nat) : State :=
  let w := s.workRead sig
  let marks := s.workMarks sig
  let s := s.noteWork sig (16 + s.tBlock t)
  if !s.owns sig t then s.ownerRefused sig t else s.commitSlot sig t w.value w.qual (taskDetail w.detail) n marks

/-- The words of a task's dirty lines, with their poison flags (R105). -/
def State.dirtyWords (s : State) (t : Nat) : List (Nat × Nat) :=
  ((s.task t).lines.map (fun l => ((List.range 8).map (fun i => 8 * l + i)).zip (s.lineWords t l))).flatten

/-- R105: the dirty lines of a cycle reach the state area in DRAM. -/
def State.storeLines (s : State) (t : Nat) : State :=
  let s := s.each (s.dirtyWords t) (fun s x =>
    if bitOf 64 x.2 then s.writePoison 0 x.1 (wrap 64 x.2) else s.writeWord 0 x.1 (wrap 64 x.2))
  { s with tasks := { s.tasks with stateBuf := s.tasks.stateBuf.filter (fun e => e.1 / 2 ^ 40 != t) } }

/-- The owner's slot of a published signal as the stream carries it (R223). -/
def State.sentSlot (s : State) (t n sig : Nat) : Slot := { s.stagedSlot t sig with seq := wrap 32 n }

/-- R225: after its grant, a prepared set that was sent is granted; otherwise the commit goes as an ASYNC set. -/
def State.mirrorCommit (s : State) (t n : Nat) (l : List MBody) : State :=
  if !(s.tasks.cfg.get t).mirrored then s
  else match (s.task t).ackMseq with
    | some m =>
      let s := s.updPair (fun p => { p with openSets := p.openSets.filter (fun x => x != m) })
      s.sendMirror .sync (.grant m) (seq64 := n) (task := some t)
    | none => s.sendSet .async false n (some t) l

/-- A commit that publishes something (R62, R76 to R78): one number for all of it. -/
def State.publishAll (s : State) (t : Nat) : State :=
  let d := s.task t
  let (n, s) := s.grantSeq 1
  let l := s.commitSet t (s.sentSlot t n)
  let s := s.mirrorCommit t n l
  let s := s.each d.written (fun s g => s.publishSlot t n g)
  let s := s.storeLines t
  let s := (s.setReg TASK.TASKt_LSEQ_LO.SEQ t n).setReg TASK.TASKt_LSEQ_HI.SEQ t (n / 2 ^ 32)
  s.updTask t (fun d => { d with prevSeq := n })

/-- R107: an EMPTY commit takes no number; what was staged is dropped. -/
def State.publishNone (s : State) (t : Nat) : State :=
  let s := { s with tasks := { s.tasks with stateBuf := s.tasks.stateBuf.filter (fun e => e.1 / 2 ^ 40 != t) } }
  (s.when (bitOf 0 (s.task t).scFlags) (fun s => s.dropStaged t)).updTask t (fun d => { d with prevSeq := 0 })

/-- R100, R109, R472: the cycle time enters the registers and the histogram. -/
def State.noteCycle (s : State) (t ct : Nat) : State :=
  let us_ := min (ct / us 1) (2 ^ 32 - 1)
  let s := ((s.setReg TASK.TASKt_LAST.TIME t us_).maxReg TASK.TASKt_MAX.TIME t us_).bumpReg TASK.TASKt_CYCLES.COUNT t
  s.histAdd (9 + s.tClass t) (ct * 16 / max 1 (us (s.task t).ceilAt))

/-- R109, R110: an overrun is recorded and counted, and the task sits out one ceiling (a task that is MOVING or HELD meanwhile shows SKIP
after that); the count that reaches FAULT_LIM faults it. -/
def State.judgeOverrun (s : State) (t ct : Nat) : State :=
  let ceil := us (s.task t).ceilAt
  if ct ≤ ceil then s.setReg TASK.TASKt_STATE.OVRRUN t 0
  else
    let s := (s.countOverrun t (min 29 ((ct - ceil) * 10 / max 1 ceil))).addReg TASK.OVRCNT.COUNT 0 1
    let s := s.addReg TASK.TASKt_STATE.OVRRUN t 1
    let run := s.reg TASK.TASKt_STATE.OVRRUN t
    let s := s.record 0x001 t .warning [(4, ct / us 1), (1, run)]
    if s.tState t = TaskState.faulted then s
    else if s.reg TASK.TASKt_CFG.FAULT_LIM t ≤ run then s.faultTask t TaskCause.overrunLimit run
    else
      let s := s.updTask t (fun d => { d with skipUntil := s.now + ceil })
      if s.tState t = TaskState.idle then s.setTState t TaskState.skip else s

/-- R152, R162, R163: the cycle's energy is debited from the account of the block that metered it and the cost estimate follows it. -/
def State.chargeCycle (s : State) (t : Nat) : State :=
  let d := s.task t
  let s := s.debit d.meterBlock d.pendEnergy
  let m := if d.didYield then d.firstPiece else d.pendEnergy
  s.setReg KETTLE.TASKt_COST.COST t (newCost (s.cost t) m (s.reg KETTLE.COSTCFG.SHIFT))

/-- R97, R115: a START task's commit serves the tasks that wait for it. -/
def State.serveStart (s : State) (t : Nat) : State :=
  if s.tKind t ≠ TaskKind.start then s
  else
    let s := s.each (s.task t).startFor (fun s x => s.updTask x (fun d => { d with startDone := true }))
    s.updTask t (fun d => { d with startFor := [], startQueued := false })

/-- A cycle's end leaves the task IDLE, HELD for an on-line change (R264), MOVING or FAULTED when it has become so while its commit was in
progress (R117, R120), or moves it home (R172). -/
def State.endCycle (s : State) (t : Nat) : State :=
  let d := s.task t
  let s := s.updTask t (fun d => { d with
    phase := .none, written := [], lines := [], waitAck := false, ackMseq := none, moveTo := none, pendEnergy := 0 })
  let st := s.tState t
  let s := if st = TaskState.faulted ∨ st = TaskState.moving then s
    else s.setTState t (if d.heldBy then TaskState.held else TaskState.idle)
  match d.moveTo with
  | some h => if s.hasRoom h t then s.moveTask t h else s
  | none => s

/-- The stream has room for the commit (R226): for the GRANT of a prepared set in the SYNC share, or for the set in the ASYNC share. -/
def State.commitFits (s : State) (t : Nat) : Bool :=
  !(s.tasks.cfg.get t).mirrored || !s.streaming ||
    (if (s.task t).ackMseq.isSome then decide (s.shareUsed .sync + (MBody.grant 0).size ≤ Share.sync.size)
     else decide (s.shareUsed .async + setSize (s.commitSet t (s.stagedSlot t)) ≤ Share.async.size))

/-- A commit completes (R77, R107 to R110): publication or nothing, the frames, the charge, the end of the cycle, its overrun. -/
def State.finishCommit (s : State) (task : Nat) : State :=
  let d := s.task task
  let pub := if d.isEmpty then [] else d.written
  let s := if d.isEmpty then s.publishNone task else s.publishAll task
  let ct := s.cycleTime task
  let s := ((s.issueCan task pub).noteCycle task ct).chargeCycle task
  let s := (s.endCycle task).judgeOverrun task ct
  let s := ((s.serveStart task).checkStarved task).mirrorTask task
  s.sendWaiting.judgePair.settleHold

/-- R106 to R110: the commit engine completes the commit of a cycle that has executed SCOMMIT. A SYNC commit still waits for its
acknowledgement, and any waits while its share has no room (R226); the frames of the cycle leave with its commit, before its overrun is
judged (R110, R379). The tasks that wait for a START task whose overrun reaches FAULT_LIM fault with it, its cycle with SCOMMIT not counted for
them (DEDUCED, notes/assumptions/111.md). -/
def execCommitComplete (t task : Nat) (s : State) : Result :=
  let s := s.advance t
  let d := s.task task
  if d.phase ≠ .committing ∨ d.waitAck then .next s
  else if !d.isEmpty && !s.commitFits task then .next (s.setReg PAIR.MQFILL.FULL 0 1)
  else .next (s.finishCommit task)

end Sys2Proof.Machine
end

