-- ==== Sys2Proof/Machine/Kettle.lean ====
section
/-! DEFINITION. The meanings of the Kettle's commands (05_kettle_budget.md): refill, sensors, heat and clock levels, region stop,
quotas, the budget and the output current pool. -/

namespace Sys2Proof.Machine

/-! ### The refill (R155 to R161) -/

/-- BUDGET_EFF from BUDGET and the derate step, rounded down (R156). -/
def State.showBudget (s : State) : State :=
  let p := match s.reg KETTLE.BUDGET_EFF.DERATE with
    | 0 => 100
    | 1 => 80
    | _ => 60
  s.setReg KETTLE.BUDGET_EFF.EFF 0 (s.reg KETTLE.BUDGET.BUDGET * p / 100)

/-- The class A total (R157). -/
def State.classATotal (s : State) : Nat := ((List.range 16).map (fun b => s.reg KETTLE.BLKb_RA.RA b)).sum

/-- The region of a block takes part in the refill (R159). -/
def State.refills (s : State) (b : Nat) : Bool := s.regionPower (b / 4) == 0

/-- The heat level of a region. -/
def State.heat (s : State) (r : Nat) : Nat := s.reg KETTLE.RGNr_STATE.HEAT r

/-- The factor of R168 in halves, by class (1 B, 2 C, 3 D) and heat level. -/
def heatFactor (c heat : Nat) : Nat :=
  match c, heat with
  | 1, 3 => 1
  | 1, _ => 2
  | 2, 0 => 2
  | 2, 1 => 2
  | 2, 2 => 1
  | 2, _ => 0
  | _, 0 => 2
  | _, _ => 0

/-- demand(c, b): the estimates of the ready class c tasks of the block, and the BYIELD estimates of its yielded ones. -/
def State.demand (s : State) (c b : Nat) : Nat :=
  ((s.tasksOn b).map (fun t =>
    if s.tClass t ≠ c then 0
    else if s.tState t = TaskState.ready then s.cost t
    else if s.tState t = TaskState.yielded then min (s.task t).estimate (s.quota b)
    else 0)).sum

/-- The SYSD account's number among the accounts; the blocks are 0 to 15. -/
def sysd : Nat := 16

/-- An account (R158, R161). -/
def State.acct (s : State) (x : Nat) : Int := if x = sysd then toSigned 32 (s.reg KETTLE.SYSD_ACCT.ACCT) else s.account x

/-- An account takes a value. -/
def State.setAcct (s : State) (x : Nat) (v : Int) : State :=
  if x = sysd then s.setReg KETTLE.SYSD_ACCT.ACCT 0 (satSigned 32 v) else s.setAccount x v

/-- The class weight of an account (R159). -/
def State.weight (s : State) (c x : Nat) : Nat :=
  if x = sysd then s.reg KETTLE.SYSD_CFG.WEIGHT
  else match c with
    | 1 => s.reg KETTLE.BLKb_WEIGHT.WB x
    | 2 => s.reg KETTLE.BLKb_WEIGHT.WC x
    | _ => s.reg KETTLE.BLKb_WEIGHT.WD x

/-- Pass 2 of R159: what is left fills the remaining needs in order. -/
def fillNeeds : Nat → List (Nat × Nat) → List (Nat × Nat)
  | _, [] => []
  | d, (x, n) :: l => (x, min d n) :: fillNeeds (d - min d n) l

/-- The distribution of `d` to the needs of one class (R159): shares by weight, rounded down, then the rest in order. Answers what
each account gets. -/
def distribute (d : Nat) (needs : List (Nat × Nat × Nat)) : List (Nat × Nat) :=
  let live := needs.filter (fun x => x.2.1 != 0)
  let w := (live.map (fun x => x.2.2)).sum
  let give := live.map (fun x => (x.1, x.2.1, if w = 0 then 0 else min x.2.1 (d * x.2.2 / w)))
  let left := d - (give.map (fun x => x.2.2)).sum
  let more := fillNeeds left (give.map (fun x => (x.1, x.2.1 - x.2.2)))
  (give.zip more).map (fun p => (p.1.1, p.1.2.2 + p.2.2))

/-- One class of the refill: the state, what is left of D, and each block's demand so far. The spec gives no rounding of ½ × an odd demand:
DESIGN CHOICE, the product is rounded down (notes/assumptions/117.md). -/
def State.refillClass (s : State) (c : Nat) (d : Int) (dem : List Nat) : State × Int × List Nat :=
  let blocks := (List.range 16).filter s.refills
  let dem := (List.range 16).map (fun b =>
    (dem[b]?).getD 0 + if s.refills b then heatFactor c (s.heat (b / 4)) * s.demand c b / 2 else 0)
  let need := fun (b : Nat) => ((((dem[b]?).getD 0 : Nat) : Int) - max (s.acct b) 0).toNat
  let hottest := max (max (s.heat 0) (s.heat 1)) (max (s.heat 2) (s.heat 3))
  let needSys := if c = 3 then heatFactor 3 hottest * ((10000 : Int) - max (s.acct sysd) 0).toNat / 2 else 0
  let needs := blocks.map (fun b => (b, need b, s.weight c b)) ++ (if c = 3 then [(sysd, needSys, s.weight 3 sysd)] else [])
  let give := distribute d.toNat needs
  let short := (needs.map (fun x => x.2.1)).sum ≠ (give.map Prod.snd).sum
  let s := s.each give (fun s x => s.setAcct x.1 (s.acct x.1 + x.2))
  let flag := match c with
    | 1 => KETTLE.STAT.SHORT_B
    | 2 => KETTLE.STAT.SHORT_C
    | _ => KETTLE.STAT.SHORT_D
  (s.when (decide short) (fun s => s.setReg flag 0 1), d - ((give.map Prod.snd).sum : Nat), dem)

/-- Some need of the tick has not been paid in full (R160). -/
def State.shortNow (s : State) : Bool :=
  s.flag KETTLE.STAT.SHORT_B || s.flag KETTLE.STAT.SHORT_C || s.flag KETTLE.STAT.SHORT_D

/-- The refill of one tick (R159, R160), with the non-block energy of the last tick. -/
def State.refill (s : State) (nonblk : Nat) : State :=
  let s := s.showBudget.setReg KETTLE.NONBLK.E 0 nonblk
  let s := s.each (List.range 16) State.promote
  let pays := (List.range 16).filter s.refills
  let d0 : Int := (s.reg KETTLE.BUDGET_EFF.EFF * 100 : Nat) - (nonblk : Int)
  let s := s.each pays (fun s b => s.setAcct b (s.acct b + s.reg KETTLE.BLKb_RA.RA b))
  let d := d0 - ((pays.map (fun b => s.reg KETTLE.BLKb_RA.RA b)).sum : Nat)
  let s := (s.setReg KETTLE.DIST.D 0 (satSigned 32 d)).when (decide (d < 0)) (fun s => s.setReg KETTLE.STAT.NEG_DIST 0 1)
  let held := (s.reg KETTLE.STAT.SHORT_B, s.reg KETTLE.STAT.SHORT_C, s.reg KETTLE.STAT.SHORT_D)
  let s := ((s.setReg KETTLE.STAT.SHORT_B 0 0).setReg KETTLE.STAT.SHORT_C 0 0).setReg KETTLE.STAT.SHORT_D 0 0
  let (s, d, dem) := s.refillClass 1 d []
  let (s, d, dem) := s.refillClass 2 d dem
  let (s, _, _) := s.refillClass 3 d dem
  let s := s.when s.shortNow (fun s => s.addReg KETTLE.SHORTCNT.COUNT 0 1)
  let s := s.when (held.1 != 0) (fun s => s.setReg KETTLE.STAT.SHORT_B 0 1)
  let s := s.when (held.2.1 != 0) (fun s => s.setReg KETTLE.STAT.SHORT_C 0 1)
  let s := s.when (held.2.2 != 0) (fun s => s.setReg KETTLE.STAT.SHORT_D 0 1)
  let s := s.each (List.range 16) (fun s b => s.setAcct b (min (s.acct b) (s.quota b)))
  s.setAcct sysd (min (s.acct sysd) 10000)

/-- R158, R159: a refill tick. `nonblk` is the non-block energy of the last tick, `sysdUsed` what the SYSD engines have drawn and no command of
theirs has debited (`State.drawSysd`), `power` and `busy` the blocks' meter readings averaged over 100 ms. -/
def execKettleRefill (t nonblk sysdUsed : Nat) (power busy : List Nat) (s : State) : Result :=
  let s := s.advance t
  let s := s.each (power.zip (List.range 16)) (fun s x => s.setReg KETTLE.BLKb_POWER.MW x.2 (min x.1 65535))
  let s := s.each (busy.zip (List.range 16)) (fun s x => s.setReg BLK.LOAD.BUSY x.2 (min x.1 10000))
  let s := s.setAcct sysd (s.acct sysd - sysdUsed)
  let s := (s.refill nonblk).bumpReg KETTLE.TICKS.COUNT 0
  .next s.dispatchAll

/-! ### Region stop (R171, R172) -/

/-- STAT.REGION_OFF and degradation cause 1 follow the regions (R171, R176, R479). -/
def State.showRegions (s : State) : State :=
  let off := [0, 1, 2, 3].any (fun r => s.regionPower r != 0)
  (s.setFlag KETTLE.STAT.REGION_OFF 0 off).cause 1 off

/-- The blocks of a region. -/
def regionBlocks (r : Nat) : List Nat := [4 * r, 4 * r + 1, 4 * r + 2, 4 * r + 3]

/-- R171: the region becomes STOPPING: no refill, no new cycle, 1 ms for the cycles in progress. -/
def State.stopRegion (s : State) (r temp : Nat) : State :=
  let s := (s.setReg KETTLE.RGNr_STATE.POWER r 1).addReg KETTLE.RGNr_STEPS.STOPS r 1
  let s := { s with kettle := { s.kettle with stopAt := s.kettle.stopAt.set r (s.now + 1) } }
  let s := s.each (regionBlocks r) (fun s b =>
    if s.blockServes b then s.setReg BLK.STATUS.STATE b BlockState.movingOut else s)
  let s := (s.lifeAdd 0x147 1).record 0x202 r .fault [(2, temp)]
  (s.scrubOff r).showRegions

/-- The tasks of a region's blocks move (R116, R171). -/
def State.emptyRegion (s : State) (r : Nat) : State := s.rehome (regionBlocks r)

/-- The words of a region's memory slice and of its blocks' TCMs stand at data 0 with valid check bits (R280). -/
def State.clearRegionMemory (s : State) (r : Nat) : State :=
  let gone := fun (e : Nat × Nat) =>
    let m := e.1 / 2 ^ 36
    m == 2 + r || (decide (6 ≤ m ∧ m ≤ 37) && (m - 6) % 16 / 4 == r)
  { s with leaf := { s.leaf with data := s.leaf.data.filter (fun e => !gone e)
                                 syn := s.leaf.syn.filter (fun e => !gone e) } }

/-- The region's cores and memories are powered off (R171, R521): contents lost, the RGN page at its power-on values. -/
def State.regionOff (s : State) (r : Nat) : State :=
  let s := s.each (regionBlocks r) (fun s b =>
    let s := s.setReg BLK.STATUS.CURVALID b 0
    if s.reg BLK.STATUS.STATE b = BlockState.retired then s else s.setReg BLK.STATUS.STATE b BlockState.stopped)
  let s := (s.clearRegionMemory r).each [RGN.STAT.BLOCKS, RGN.STAT.RETIRED, RGN.STAT.ISOLATED, RGN.FABCFG.WA, RGN.FABCFG.WB, RGN.FABCFG.WC, RGN.FABCFG.WD,
    RGN.SLICE.USED] (fun s f => s.setReg f r (State.resetRegs.get (f.key r)))
  let s := s.each [0, 1, 2, 3] (fun s c => s.setReg RGN.FABWAITc.COUNT (4 * r + c) 0)
  let s := s.setReg KETTLE.RGNr_STATE.POWER r 2
  { s with kettle := { s.kettle with stopAt := s.kettle.stopAt.set r 0, coolSince := s.kettle.coolSince.set r 0 } }

/-- Some task of the region has found no home (R116). -/
def State.homeless (s : State) (r : Nat) : Bool :=
  (regionBlocks r).any (fun b => (s.tasksOn b).any (fun t =>
    s.tState t == TaskState.faulted && s.reg TASK.TASKt_STATE.CAUSE t == TaskCause.noHome))

/-- R171: the 1 ms commit window ends; cycles without SCOMMIT are lost, and the tasks move; one that finds no home leaves the module DEGRADED
(R116, R238). -/
def execRegionStopWindowEnd (t r : Nat) (s : State) : Result :=
  let s := s.advance t
  let at_ := s.kettle.stopAt.get r
  if r < 4 ∧ s.regionPower r = 1 ∧ at_ ≠ 0 ∧ at_ - 1 + msec 1 ≤ s.now then
    let s := ((s.each (regionBlocks r) State.loseCyclesOn).emptyRegion r).settleHold
    .next (s.when (s.homeless r) State.preferPartner)
  else .next s

/-- R171: the last task has moved, or 50 ms have passed since the stop: the region is powered off. -/
def execRegionPowerOff (t r : Nat) (s : State) : Result :=
  let s := s.advance t
  let empty := (regionBlocks r).all (fun b => (s.tasksOn b).isEmpty)
  if r < 4 ∧ s.regionPower r = 1 ∧ (empty ∨ s.kettle.stopAt.get r - 1 + msec 50 ≤ s.now) then
    .next (s.regionOff r).showRegions
  else .next s

/-- RGN.STAT of a region from the retirement map (R521). -/
def State.showRgn (s : State) (r : Nat) : State :=
  let b := ((List.range 4).map (fun i => bn (!s.isRetired 3 (4 * r + i) && !s.isRetired 4 r) * 2 ^ i)).sum
  let s := (s.setReg RGN.STAT.BLOCKS r b).setFlag RGN.STAT.RETIRED r (s.isRetired 4 r)
  s.each [RGN.FABCFG.WA, RGN.FABCFG.WB, RGN.FABCFG.WC, RGN.FABCFG.WD] (fun s f => s.reload f r)

/-- The higher valid reading of a region's sensors, as a register pattern; none with both invalid (R154). -/
def State.regionTemp (s : State) (r : Nat) : Option Int :=
  let a := toSigned 16 (s.reg KETTLE.RGNr_TEMP.SENS0 r)
  let b := toSigned 16 (s.reg KETTLE.RGNr_TEMP.SENS1 r)
  match s.flag KETTLE.RGNr_STATE.S0FAIL r, s.flag KETTLE.RGNr_STATE.S1FAIL r with
  | false, false => some (max a b)
  | false, true => some a
  | true, false => some b
  | true, true => none

/-- The pattern a record carries for a temperature. -/
def tempBits (x : Option Int) : Nat := ofSigned 16 (x.getD 0)

/-- STAT.ANY_WARM follows the heat levels. -/
def State.showWarm (s : State) : State :=
  s.setFlag KETTLE.STAT.ANY_WARM 0 ([0, 1, 2, 3].any (fun r => s.heat r != 0))

/-- No region runs faster than FCAP allows (R169). -/
def State.capClocks (s : State) : State :=
  s.each [0, 1, 2, 3] (fun s r => s.maxReg KETTLE.RGNr_STATE.FLEVEL r (s.reg KETTLE.RGNr_FCAP.FMAX r))

/-- R172, R280: after 60 s below 90.0 °C an OFF region is powered on, its blocks IDLE and empty and its memories written 0. -/
def execRegionPowerOn (t r : Nat) (s : State) : Result :=
  let s := s.advance t
  let c := s.kettle.coolSince.get r
  if r < 4 ∧ s.regionPower r = 2 ∧ c ≠ 0 ∧ c - 1 + sec 60 ≤ s.now then
    let s := (s.setReg KETTLE.RGNr_STATE.POWER r 0).setReg KETTLE.RGNr_STATE.HEAT r 0
    let s := (s.clearRegionMemory r).setReg KETTLE.RGNr_STATE.FLEVEL r (s.reg KETTLE.RGNr_FCAP.FMAX r)
    let s := { s with kettle := { s.kettle with coolSince := s.kettle.coolSince.set r 0 } }
    let s := s.each (regionBlocks r) (fun s b =>
      if s.reg BLK.STATUS.STATE b = BlockState.stopped then s.setReg BLK.STATUS.STATE b BlockState.idle else s)
    .next ((s.showRgn r).record 0x203 r .info [(2, tempBits (s.regionTemp r))]).showRegions.showWarm
  else .next s

/-- A task goes back to its home block (R172): at once when it is in no cycle, else when its cycle ends. -/
def State.goHome (s : State) (t : Nat) : State :=
  let h := s.reg TASK.TASKt_CFG.HOME t
  if s.tBlock t = h then s
  else if (s.task t).phase ≠ .none then s.updTask t (fun d => { d with moveTo := some h })
  else if s.hasRoom h t then s.moveTask t h
  else s

/-- R172: a write of region bits to REHOME; a bit for a region that is not ON is ignored. -/
def execRehomeWrite (t _master value : Nat) (s : State) : Result :=
  let s := s.advance t
  .next (s.each ((List.range 4).filter (fun r => bitOf r value && s.regionPower r == 0)) (fun s r =>
    let l := s.taskList.filter (fun t => s.reg TASK.TASKt_CFG.HOME t / 4 == r && s.tBlock t != s.reg TASK.TASKt_CFG.HOME t)
    s.each (s.moveOrder l) State.goHome))

/-! ### Sensors, heat and clock levels (R154, R156, R168 to R170) -/

/-- A sensor reading is invalid outside −40 to +150 °C (R154). -/
def sensorBad (x : Int) : Bool := decide (x < -160 ∨ 600 < x)

/-- A sensor fault arises: recorded and shown (R154). -/
def State.sensorFault (s : State) (code inst sensor kind : Nat) (x : Int) : State :=
  (s.setReg KETTLE.STAT.SENSOR_FAULT 0 1).record code inst .warning [(1, sensor), (1, kind), (2, ofSigned 16 x)]

/-- Keep an instant (plus one) of since when a condition holds, 0 when it does not. -/
def keepSince (m : Tab Nat) (k now : Nat) (holds : Bool) : Tab Nat :=
  if holds then if m.get k = 0 then m.set k (now + 1) else m else m.set k 0

/-- The enter and leave values of a heat level in 0.25 °C (R168). -/
def heatEnter (l : Nat) : Int := match l with | 1 => 380 | 2 => 388 | _ => 396
def heatLeave (l : Nat) : Int := match l with | 1 => 368 | 2 => 376 | _ => 384

/-- The enter and leave values of a clock level (R169). -/
def clockEnter (l : Nat) : Int := match l with | 1 => 400 | 2 => 416 | _ => 428
def clockLeave (l : Nat) : Int := match l with | 1 => 388 | 2 => 404 | _ => 416

/-- The level a temperature calls for at once. -/
def levelFor (enter : Nat → Int) (x : Int) : Nat :=
  if enter 3 ≤ x then 3 else if enter 2 ≤ x then 2 else if enter 1 ≤ x then 1 else 0

/-- The region takes a slower clock level (R169, R170). -/
def State.slowClock (s : State) (r level : Nat) : State :=
  if s.reg KETTLE.RGNr_STATE.FLEVEL r < level then
    let s := (s.setReg KETTLE.RGNr_STATE.FLEVEL r level).addReg KETTLE.RGNr_STEPS.SLOWS r 1
    let s := { s with kettle := { s.kettle with clockStepAt := s.kettle.clockStepAt.set r (s.now + 1) } }
    s.lifeAdd 0x148 1
  else s

/-- The temperature of a region acts (R168, R169, R171, R172); an OFF region has a heat level and no clock. -/
def State.regionHeat (s : State) (r : Nat) : State :=
  match s.regionTemp r with
  | none => if s.regionPower r = 2 then s else s.slowClock r 2
  | some x =>
    let track := fun (m : Tab Nat) (leave : Nat → Int) =>
      [1, 2, 3].foldl (fun m l => keepSince m (4 * r + l) s.now (decide (x < leave l))) m
    let s := { s with kettle := { s.kettle with
      heatBelow := track s.kettle.heatBelow heatLeave, clockBelow := track s.kettle.clockBelow clockLeave
      coolSince := keepSince s.kettle.coolSince r s.now (decide (x < 360) && s.regionPower r == 2) } }
    let s := s.setReg KETTLE.RGNr_STATE.HEAT r (max (s.heat r) (levelFor heatEnter x))
    if s.regionPower r = 2 then s
    else
      let s := s.slowClock r (levelFor clockEnter x)
      if 440 ≤ x ∧ s.regionPower r = 0 then s.stopRegion r (ofSigned 16 x) else s

/-- The readings of a region's two sensors (R154). -/
def State.readRegion (s : State) (r : Nat) (a b : Int) : State :=
  let was := (s.flag KETTLE.RGNr_STATE.S0FAIL r, s.flag KETTLE.RGNr_STATE.S1FAIL r)
  let s := (s.setReg KETTLE.RGNr_TEMP.SENS0 r (ofSigned 16 a)).setReg KETTLE.RGNr_TEMP.SENS1 r (ofSigned 16 b)
  let s := (s.setFlag KETTLE.RGNr_STATE.S0FAIL r (sensorBad a)).setFlag KETTLE.RGNr_STATE.S1FAIL r (sensorBad b)
  let s := s.when (sensorBad a && !was.1) (fun s => s.sensorFault 0x201 r 0 1 a)
  let s := s.when (sensorBad b && !was.2) (fun s => s.sensorFault 0x201 r 1 1 b)
  let differ := !sensorBad a && !sensorBad b && decide (40 < (a - b).natAbs)
  let s := s.when (differ && !s.kettle.sensorBad.get r) (fun s => s.sensorFault 0x201 r (if a < b then 1 else 0) 2 (max a b))
  { s with kettle := { s.kettle with sensorBad := s.kettle.sensorBad.set r differ } }

/-- A change of the derate step (R156). -/
def State.setDerate (s : State) (d : Nat) (x : Nat) : State :=
  if s.reg KETTLE.BUDGET_EFF.DERATE = d then s
  else ((s.setReg KETTLE.BUDGET_EFF.DERATE 0 d).showBudget).record 0xF0A 0 .warning [(1, d), (2, x)]

/-- The interior reading (R154, R156): thresholds 85.0 and 90.0 °C, left at 82.0 and 87.0 °C and below. -/
def State.readInterior (s : State) (x : Int) : State :=
  let s := s.setReg KETTLE.INT_TEMP.TEMP 0 (ofSigned 16 x)
  let bad := sensorBad x
  let s := s.when (bad && !s.kettle.sensorBad.get 8) (fun s => s.sensorFault 0xF0B 0 0 1 x)
  let s := { s with kettle := { s.kettle with sensorBad := s.kettle.sensorBad.set 8 bad } }
  if bad then s
  else
    let below := keepSince (keepSince s.kettle.derateBelow 1 s.now (decide (x ≤ 328))) 2 s.now (decide (x ≤ 348))
    let s := { s with kettle := { s.kettle with derateBelow := below } }
    let want := if 360 ≤ x then 2 else if 340 ≤ x then 1 else 0
    s.setDerate (max (s.reg KETTLE.BUDGET_EFF.DERATE) want) (ofSigned 16 x)

/-- R154: the sensors are sampled. `a` and `b` hold sensor 0 and 1 of regions 0 to 3, in 0.25 °C. -/
def execSensorSample (t : Nat) (a b : List Int) (interior : Int) (s : State) : Result :=
  let s := s.advance t
  let s := s.each ((List.range 4).zip (a.zip b)) (fun s x => (s.readRegion x.1 x.2.1 x.2.2).regionHeat x.1)
  .next (s.showWarm.readInterior interior)

/-- A leave time has run: the instant is kept and lies a second back. -/
def State.secondPast (s : State) (m : Tab Nat) (k : Nat) : Bool := m.get k != 0 && decide (m.get k - 1 + sec 1 ≤ s.now)

/-- R168: 1 s below its leave value the region leaves its heat level for the next lower one. -/
def execHeatLevelLeave (t r : Nat) (s : State) : Result :=
  let s := s.advance t
  let l := s.heat r
  if r < 4 ∧ l ≠ 0 ∧ s.secondPast s.kettle.heatBelow (4 * r + l) then
    .next (s.setReg KETTLE.RGNr_STATE.HEAT r (l - 1)).showWarm
  else .next s

/-- R169: 1 s below its leave value the region moves one clock level cooler, at most one step per second and never faster than
FCAP; with both sensors invalid it stays at F2. -/
def execClockLevelLeave (t r : Nat) (s : State) : Result :=
  let s := s.advance t
  let l := s.reg KETTLE.RGNr_STATE.FLEVEL r
  let last := s.kettle.clockStepAt.get r
  let floor_ := max (s.reg KETTLE.RGNr_FCAP.FMAX r) (if (s.regionTemp r).isNone then 2 else 0)
  if r < 4 ∧ floor_ < l ∧ s.secondPast s.kettle.clockBelow (4 * r + l) ∧ (last = 0 ∨ last - 1 + sec 1 ≤ s.now) then
    let s := { s with kettle := { s.kettle with clockStepAt := s.kettle.clockStepAt.set r (s.now + 1) } }
    .next (s.setReg KETTLE.RGNr_STATE.FLEVEL r (l - 1))
  else .next s

/-- R156: 1 s at 3.0 °C below its threshold the derate step is left. -/
def execDerateLeave (t : Nat) (s : State) : Result :=
  let s := s.advance t
  let d := s.reg KETTLE.BUDGET_EFF.DERATE
  if d ≠ 0 ∧ s.secondPast s.kettle.derateBelow d then .next (s.setDerate (d - 1) (s.reg KETTLE.INT_TEMP.TEMP))
  else .next s

/-! ### Quota and budget writes -/

/-- R167: a STARVED task whose cost the quota covers again becomes IDLE. -/
def State.feed (s : State) (t : Nat) : State :=
  if s.tState t = TaskState.starved ∧ s.cost t ≤ s.quota (s.tBlock t) then
    ((s.setTState t (s.restState t)).showStarved (s.tBlock t)).mirrorTask t
  else s

/-- R164, R165, R167: a write of BLKb_QUOTA. -/
def execQuotaWrite (t master b value : Nat) (s : State) : Result :=
  let s := s.advance t
  let v := wrap 32 value
  let f := KETTLE.BLKb_QUOTA.QUOTA
  if 16 ≤ b then .next s
  else if v < s.reg KETTLE.BLKb_RA.RA b ∨ 0x7FFFFFFF < v then .next (s.writeRefused (f.addrOf b) master 2)
  else
    let s := (s.setReg f b v).mirrorReg (f.addrOf b) v
    let s := s.setAccount b (min (s.account b) v)
    let s := s.each (s.tasksOn b) State.feed
    .next (s.each ((s.tasksOn b).filter (fun t => (s.task t).phase == .none)) State.checkStarved)

/-- R155: a run-time write of BUDGET; it acts from the next tick. -/
def execBudgetWrite (t master value : Nat) (s : State) : Result :=
  let s := s.advance t
  let v := bitField 0 10 value
  let f := KETTLE.BUDGET.BUDGET
  if s.reg KETTLE.BUDGET.IMAGE < v ∨ v < 100 ∨ v * 100 < 2 * s.classATotal then
    .next (s.writeRefused (f.addrOf 0) master 2)
  else .next ((s.setReg f 0 v).mirrorReg (f.addrOf 0) v)

/-! ### The output current pool (R173, R174) -/

/-- The energised fast outputs. -/
def State.energised (s : State) : Nat := ((List.range 64).filter (fun p => s.flag FPIN.PINp_STAT.DRIVE p)).length

/-- R173: the limit L for a safety current and n outputs. -/
def poolLimit (safe n : Nat) : Nat := if n = 0 then 50 else min 50 ((720 - safe) / n)

/-- An episode of limiting starts (R173). -/
def State.startLimiting (s : State) (total safe : Nat) : State :=
  if s.flag KETTLE.POOL_STAT.LIMITING then s
  else
    let s := (s.setReg KETTLE.POOL_STAT.LIMITING 0 1).setReg KETTLE.STAT.POOL_LIMITING 0 1
    ((s.addReg KETTLE.POOL_EVENTS.COUNT 0 1).lifeAdd 0x149 1).record 0xF0C 0 .warning [(1, 1), (2, total), (2, safe)]

/-- R173, R174: the pool is measured, in mA. -/
def execPoolMeasure (t total safe : Nat) (s : State) : Result :=
  let s := s.advance t
  let s := (s.setReg KETTLE.POOL_I.TOTAL 0 (min total 4095)).setReg KETTLE.POOL_I.SAFE 0 (min safe 4095)
  let high := decide (720 ≤ safe)
  let s := s.when (high && !s.flag KETTLE.POOL_STAT.SAFE_HIGH) (fun s => s.record 0xF0D 0 .warning [(2, safe)])
  let s := s.setFlag KETTLE.POOL_STAT.SAFE_HIGH 0 high
  if 750 < total ∨ high then
    let s := (s.startLimiting total safe).setReg KETTLE.POOL_STAT.LIMIT 0 (if high then 0 else poolLimit safe s.energised)
    .next { s with kettle := { s.kettle with limitSince := s.now, lastRise := 0 } }
  else .next s

/-- R173: after 100 ms of limiting, L rises by 5 mA every 10 ms until 50 mA, where the episode ends. -/
def execPoolLimitRise (t : Nat) (s : State) : Result :=
  let s := s.advance t
  let k := s.kettle
  if s.flag KETTLE.POOL_STAT.LIMITING ∧ !s.flag KETTLE.POOL_STAT.SAFE_HIGH ∧ k.limitSince + msec 100 ≤ s.now ∧
      (k.lastRise = 0 ∨ k.lastRise - 1 + msec 10 ≤ s.now) then
    let l := min 50 (s.reg KETTLE.POOL_STAT.LIMIT + 5)
    let s := { s with kettle := { s.kettle with lastRise := s.now + 1 } }
    let s := s.setReg KETTLE.POOL_STAT.LIMIT 0 l
    if l = 50 then
      let s := (s.setReg KETTLE.POOL_STAT.LIMITING 0 0).setReg KETTLE.STAT.POOL_LIMITING 0 0
      .next (s.record 0xF0C 0 .warning [(1, 0), (2, s.reg KETTLE.POOL_I.TOTAL), (2, s.reg KETTLE.POOL_I.SAFE)])
    else .next s
  else .next s

end Sys2Proof.Machine
end

