-- ==== Sys2Proof/Machine/Real.lean ====
section
/-! DEFINITION. Exact comparison of IEEE 754 values (R427): finite patterns as integers in units of 2^-1074. -/

namespace Sys2Proof.Machine

/-- The pattern of binary64 is neither an infinity nor a NaN. -/
def finite64 (v : Nat) : Bool := bitField 52 11 v != 2047

/-- A finite binary64 pattern in units of 2^-1074. -/
def scaled64 (v : Nat) : Int :=
  let e := bitField 52 11 v
  let f := bitField 0 52 v
  let m : Nat := if e = 0 then f else (2 ^ 52 + f) * 2 ^ (e - 1)
  if bitOf 63 v then -(m : Int) else m

/-- The pattern of binary32 is finite. -/
def finite32 (v : Nat) : Bool := bitField 23 8 v != 255

/-- A finite binary32 pattern in units of 2^-1074; every one is exact in binary64. -/
def scaled32 (v : Nat) : Int :=
  let e := bitField 23 8 v
  let f := bitField 0 23 v
  let m : Nat := (if e = 0 then f else (2 ^ 23 + f) * 2 ^ (e - 1)) * 2 ^ (1074 - 149)
  if bitOf 31 v then -(m : Int) else m

/-- A natural number of at most 64 bits rounded to 53 significant bits, ties to even. -/
def round53 (n : Nat) : Nat :=
  if n < 2 ^ 53 then n
  else
    let k := Nat.log2 n - 52
    let q := n / 2 ^ k
    let r := n % 2 ^ k
    let up := decide (2 ^ (k - 1) < r ∨ (r = 2 ^ (k - 1) ∧ q % 2 = 1))
    (if up then q + 1 else q) * 2 ^ k

/-- The value of a slot of a type (R56), converted to REAL64, in units of 2^-1074; none for an infinity or a NaN. -/
def realOf (type v : Nat) : Option Int :=
  match type with
  | 1 => some (toSigned 32 v * 2 ^ 1074)
  | 3 => if finite32 v then some (scaled32 v) else none
  | 4 => if finite64 v then some (scaled64 v) else none
  | _ => some ((round53 v : Int) * 2 ^ 1074)

/-- A quotient of naturals rounded to a natural, ties to even. -/
def roundDiv (n d : Nat) : Nat :=
  let q := n / d
  let r := n % d
  if d < 2 * r ∨ (2 * r = d ∧ q % 2 = 1) then q + 1 else q

/-- The binary32 pattern nearest to n / d, which counts units of 2^-149, ties to even; beyond the range it is the infinity. -/
def ratio32 (n : Int) (d : Nat) : Nat :=
  let a := n.natAbs
  let k := Nat.log2 (a / d) - 23
  let p := if a / d < 2 ^ 24 then roundDiv a d else k * 2 ^ 23 + roundDiv a (d * 2 ^ k)
  min p 0x7F800000 + bn (decide (n < 0)) * 2 ^ 31

/-- A finite binary32 pattern in units of 2^-149. -/
def units32 (v : Nat) : Int := scaled32 v / 2 ^ (1074 - 149)

end Sys2Proof.Machine
end

