-- ==== Sys2Proof/Machine/Loops.lean ====
section
/-! DEFINITION. Loop channels, HART and the fast pins' shorts (10_loops_and_fast_pins.md): shared operations and the meanings of their
commands. Currents are in 0.1 µA, resistances in 0.1 Ω, supplies in steps of 0.05 V, computed voltages in 10^-8 V. -/

namespace Sys2Proof.Machine

/-- Channel modes of CHc_CFG.MODE (R330). -/
def LoopMode.analogHart : Nat := 2
def LoopMode.multidrop : Nat := 3

/-- Channel states of CHc_STAT.STATE (R330). -/
def LoopState.off : Nat := 0
def LoopState.run : Nat := 1
def LoopState.probing : Nat := 2
def LoopState.thermalOff : Nat := 3
def LoopState.retired : Nat := 4
def LoopState.parked : Nat := 5

/-- The lowest and highest supply in steps (R313). -/
def supplyMin : Nat := 160
def supplyMax : Nat := 560

/-- The state of a channel. -/
def State.loopState (s : State) (c : Nat) : Nat := s.reg LOOP.CHc_STAT.STATE c

/-- What the model keeps of a channel. -/
def State.chan (s : State) (c : Nat) : LoopDyn := s.loops.chan.get c

/-- Change what the model keeps of a channel. -/
def State.updChan (s : State) (c : Nat) (f : LoopDyn → LoopDyn) : State :=
  { s with loops := { s.loops with chan := s.loops.chan.upd c f } }

/-- The LOOP unit works: it is fitted, its front end runs, and so does RUNTIME. -/
def State.loopsRun (s : State) : Bool := s.flag SYS.UNITS.LOOP && s.flag LOOP.STAT.FE_OK && s.mode.runtimeRuns

/-- The learned line resistance, or the one the image gives (R322). -/
def State.rline (s : State) (c : Nat) : Nat :=
  if s.flag LOOP.CHc_LEARN.VALID c then s.reg LOOP.CHc_LEARN.RLINE c else s.reg LOOP.CHc_LINE.RDEF c

/-- The drop over burden and line at a current, in 10^-8 V. -/
def State.lineDrop (s : State) (c x : Nat) : Nat := x * (500 + s.rline c)

/-- V_term of R318, in 10^-8 V. -/
def State.vterm (s : State) (c vsup x : Nat) : Int := (vsup * 5000000 : Nat) - 40000000 - (s.lineDrop c x : Int)

/-- V_set of R318, rounded up and clamped. -/
def State.vset (s : State) (c x : Nat) : Nat :=
  let v := s.reg LOOP.CHc_CFG.VMIN c * 10000000 + 140000000 + s.lineDrop c x
  max supplyMin (min supplyMax ((v + 4999999) / 5000000))

/-- The target a unit sets (R312): a unit outside the ACTIVE role stays 0.5 V below. -/
def State.ownTarget (s : State) (c x : Nat) : Nat :=
  if s.mode = .standby ∨ s.mode = .sync then max supplyMin (s.vset c x - 10) else s.vset c x

/-- The supply of a channel takes a value, shown in CHc_MEAS. -/
def State.setSupply (s : State) (c v : Nat) : State :=
  let v := if s.power.shed then 0 else v
  (s.updChan c (fun d => { d with vsup := v })).setReg LOOP.CHc_MEAS.VSUP c (v * 5)

/-- R320: the supply is set to a target, but not above the common ceiling. -/
def State.capSupply (s : State) (c v : Nat) : State :=
  let ceil := s.reg LOOP.CEIL.CEIL
  (s.setFlag LOOP.CHc_STAT.CAPPED c (decide (ceil < v))).setSupply c (min v ceil)

/-- R318, R320: the supply follows its target: up at once, down by at most 0.5 V/s, never above the common ceiling. -/
def State.followTarget (s : State) (c : Nat) : State :=
  let d := s.chan c
  let want := s.ownTarget c d.x
  let ceil := s.reg LOOP.CEIL.CEIL
  let s := s.setFlag LOOP.CHc_STAT.CAPPED c (decide (ceil < want))
  let want := min want ceil
  let v := min d.vsup ceil
  if v ≤ want then s.setSupply c want
  else if d.downAt + msec 100 ≤ s.now then (s.setSupply c (v - 1)).updChan c (fun d => { d with downAt := s.now })
  else s.setSupply c v

/-- The next exchange with each HART device of a channel is command 0 (R325). -/
def State.forgetHart (s : State) (c : Nat) : State :=
  { s with loops := { s.loops with dev := (List.range 5).foldl (fun m k => m.upd (5 * c + k) (fun d => { d with known := false })) s.loops.dev } }

/-- A channel enters or returns to service (R71, R315, R325): damping starts at the next sample, its next delivery is accepted whatever its
sequence, its HART devices are addressed anew, and a probe is due (R321). -/
def State.enterService (s : State) (c : Nat) : State :=
  ((s.updChan c (fun d => { d with fresh := true, probeDue := true, probedAt := s.now })).forgetHart c).resetSource (256 + c)

/-- A channel at the start of its service after a load or reset (R321, R323, R468). What has been learned of the line stays (R322). -/
def State.startChannel (s : State) (c : Nat) : State :=
  let s := if s.flag LOOP.CHc_LEARN.VALID c then s else s.setReg LOOP.CHc_LEARN.RLINE c (s.reg LOOP.CHc_LINE.RDEF c)
  if s.isRetired 5 c then s.setReg LOOP.CHc_STAT.STATE c LoopState.retired
  else if s.reg LOOP.CHc_CFG.MODE c = 0 then s.setReg LOOP.CHc_STAT.STATE c LoopState.off
  else
    let s := ((s.setReg LOOP.CHc_STAT.STATE c LoopState.run).updChan c (fun d => { (default : LoopDyn) with points := d.points })).enterService c
    s.capSupply c (s.ownTarget c 0)

/-- The next sampling instant after base value `v`. -/
def nextSample (v : Nat) : Nat := (v / 10000000 + 1) * 10000000

/-- Sampling starts at the next multiple of 10 ms that its base reaches (R314). -/
def State.armSampling (s : State) : State :=
  let b := s.reg LOOP.CFG.BASE
  { s with loops := { s.loops with sampleAt := 0, next := nextSample (s.baseVal b), epoch := s.baseEpoch b } }

/-- Every channel, and the HART devices, start (R312, R325). -/
def State.startLoops (s : State) : State :=
  let s := { s with loops := { s.loops with dev := [], turn := [], poll := [], passing := [], waiting := [], due := [] } }
  s.armSampling.each (List.range 32) State.startChannel

/-! ### Quality (R316, R319, R326) -/

/-- R316: quality and detail of an undamped current. -/
def currentQuality (x : Nat) : Nat × Nat :=
  if 210000 ≤ x then (Quality.bad, 4)
  else if 205000 < x then (Quality.uncertain, 2)
  else if 38000 ≤ x then (Quality.good, 0)
  else if 36000 < x then (Quality.uncertain, 1)
  else (Quality.bad, 3)

/-- The device's loop current is fixed (R326). -/
def State.hartFixed (s : State) (c : Nat) : Bool :=
  s.reg LOOP.CHc_CFG.MODE c == LoopMode.analogHart && bitOf 11 (s.loops.dev.get (5 * c)).status

/-- The quality of a channel's sample; in MULTIDROP the current is a diagnostic, GOOD (R327). -/
def State.loopQuality (s : State) (c x : Nat) : Nat × Nat :=
  if s.reg LOOP.CHc_CFG.MODE c = LoopMode.multidrop then (Quality.good, 0)
  else
  let q := currentQuality x
  let q := if s.flag LOOP.CHc_STAT.HEADROOM_LOW c then combineQuality q (Quality.uncertain, 5) else q
  if s.hartFixed c then combineQuality q (Quality.uncertain, 7) else q

/-- One delivery of a channel's signals (R317, R327), with the next source sequence. In MULTIDROP only the current is delivered. A loss counter
of the source's own (R69) the LOOP page does not give: DESIGN CHOICE, the channel has none, and a loss counts in LOSSCNT alone
(notes/assumptions/83.md). -/
def State.deliverLoop (s : State) (c value ma : Nat) (q : Nat × Nat) : State :=
  let md := decide (s.reg LOOP.CHc_CFG.MODE c = LoopMode.multidrop)
  let qd := q.1 + q.2 * 16
  let slots := (if s.flag LOOP.CHc_SIG.EN c && !md then [(s.reg LOOP.CHc_SIG.SIGNAL c, value, qd)] else []) ++
    (if s.flag LOOP.CHc_SIGMA.EN c then [(s.reg LOOP.CHc_SIGMA.SIGNAL c, ma, qd)] else [])
  let s := (s.setReg LOOP.CHc_STAT.QUAL c q.1).setReg LOOP.CHc_STAT.DETAIL c q.2
  if slots = [] ∨ !s.ingressOn then s
  else
    let (ok, _, s) := s.judgeSource (256 + c) (0x3000 + c) 16 (s.chan c).seqNo
    if ok then s.deliver (0x3000 + c) slots s.now else s

/-- 1 − exp(−0.01 s / τ) in 2^-64, τ in 0.1 s (R315): the series of the exponential, each term cut at 2^-64 (DESIGN CHOICE: the manual gives the
resolution neither of `a` nor of `y`; notes/assumptions/118.md). -/
def dampGain (tau : Nat) : Nat :=
  if tau = 0 then 2 ^ 64
  else
    let r := (List.range 12).foldl (fun (acc : Int × Nat) k =>
      let term := acc.2 / (10 * tau * (k + 1))
      (if k % 2 = 0 then acc.1 + term else acc.1 - term, term)) (0, 2 ^ 64)
    r.1.toNat

/-- LO + (y − 4 mA) × (HI − LO) / 16 mA (R316), y in 2^-16 of 0.1 µA, rounded once to the nearest binary32, ties to even (DESIGN CHOICE: the
manual gives no rounding; notes/assumptions/118.md). -/
def scaleCurrent (y lo hi : Nat) : Nat :=
  if finite32 lo && finite32 hi then
    let l := units32 lo
    ratio32 (l * (160000 * 2 ^ 16) + ((y : Int) - 40000 * 2 ^ 16) * (units32 hi - l)) (160000 * 2 ^ 16)
  else Config.scaleReal y lo hi

/-- A current in mA as binary32 (R317), y in 2^-16 of 0.1 µA. -/
def currentMa (y : Nat) : Nat := ratio32 ((y : Int) * 2 ^ 149) (10000 * 2 ^ 16)

/-- R315, R317, R318: a sample of a channel in service. -/
def State.sampleRun (s : State) (c x : Nat) : State :=
  let d := s.chan c
  let a := dampGain (s.reg LOOP.CHc_DAMP.TAU c)
  let x16 : Int := (x * 2 ^ 16 : Nat)
  let y : Nat := if d.fresh then x * 2 ^ 16 else ((d.y : Int) + (x16 - (d.y : Int)) * (a : Int) / 2 ^ 64).toNat
  let vt := s.vterm c d.vsup x
  let ceil := s.reg LOOP.CEIL.CEIL
  let low := decide (ceil ≤ d.vsup ∧ vt < (s.reg LOOP.CHc_CFG.VMIN c * 10000000 : Nat))
  let s := (s.setReg LOOP.CHc_VTERM.VTERM c (satSigned 16 (vt / 1000000))).setFlag LOOP.CHc_STAT.HEADROOM_LOW c low
  let v := scaleCurrent y (s.reg LOOP.CHc_SCALE_LO.LO c) (s.reg LOOP.CHc_SCALE_HI.HI c)
  let ma := currentMa y
  let s := s.updChan c (fun d => { d with y := y, fresh := false, held := v, heldMa := ma })
  (s.deliverLoop c v ma (s.loopQuality c x)).followTarget c

/-! ### The probe (R321, R322) -/

/-- A NOTE record of a loop channel. -/
def State.noteLoop (s : State) (c : Nat) : State := s.note 0xA c []

/-- R322: the two newest points that lie 2 mA apart give R_line and VLIFT; the results go to the partner. -/
def State.learn (s : State) (c : Nat) : State :=
  match (s.chan c).points with
  | [] => s
  | p :: rest =>
    let apart := fun (q : Nat × Nat) => decide (20000 ≤ ((p.1 : Int) - q.1).natAbs)
    match rest.find? apart with
    | none => s
    | some q =>
      let sg : Int := if p.1 < q.1 then -1 else 1
      let di : Int := ((p.1 : Int) - q.1) * sg
      let dv : Int := ((p.2 : Int) - q.2) * sg
      let r : Int := dv * 5000000 / di - 500
      if r < 0 ∨ 65535 < r then s.noteLoop c
      else
        let lift : Int := (((p.2 : Int) * 5000000) - 40000000 - (p.1 : Int) * (500 + r)) / 1000000
        let s := (s.setReg LOOP.CHc_LEARN.RLINE c r.toNat).setReg LOOP.CHc_LEARN.VLIFT c (lift.toNat)
        let s := s.setReg LOOP.CHc_LEARN.VALID c 1
        s.mirrorReg (LOOP.CHc_LEARN.RLINE.addrOf c) (s.word (LOOP.CHc_LEARN.RLINE.addrOf c))

/-- The probe ends: the supply is restored, the partner unparked, deliveries resume (R321). -/
def State.endProbe (s : State) (c : Nat) : State :=
  let s := (s.setReg LOOP.CHc_STAT.STATE c LoopState.run).capSupply c (s.chan c).probeV
  s.mirrorReg (LOOP.CHc_CMD.OP.addrOf c) 3

/-- A sample of a probing channel (R321). -/
def State.sampleProbe (s : State) (c x : Nat) : State :=
  let d := s.chan c
  if x + 500 < d.probeX0 then
    let band := d.probeX0 / 20000
    let pt := (d.probeX0, min (d.vsup + 1) d.probeV)
    let s := s.updChan c (fun d => { d with points := pt :: d.points.filter (fun p => p.1 / 20000 != band) })
    (s.endProbe c).learn c
  else if 80 ≤ d.probeSteps ∨ d.vsup ≤ supplyMin then
    (s.setReg LOOP.CHc_LEARN.PROBE_FAIL c 1).endProbe c
  else (s.setSupply c (d.vsup - 1)).updChan c (fun d => { d with probeSteps := d.probeSteps + 1 })

/-- A HART transaction runs on the channel (R329). -/
def State.hartBusy (s : State) (c : Nat) : Bool := s.loops.turn.get (c / 8) != 0 && (s.loops.turn.get (c / 8) - 1) / 8 == c

/-- R321: a probe begins; one that meets a HART transaction waits (R329). MULTIDROP channels never probe (R322). -/
def State.startProbe (s : State) (c : Nat) : State :=
  let m := s.reg LOOP.CHc_CFG.MODE c
  if !s.isActive ∨ !s.loopsRun ∨ 32 ≤ c ∨ m = 0 ∨ m = LoopMode.multidrop ∨ s.loopState c ≠ LoopState.run then s
  else if s.hartBusy c then s.updChan c (fun d => { d with probeDue := true })
  else
    let s := s.mirrorReg (LOOP.CHc_CMD.OP.addrOf c) 2
    (s.setReg LOOP.CHc_STAT.STATE c LoopState.probing).updChan c (fun d => { d with
      probeX0 := d.x, probeSteps := 0, probeV := d.vsup, probeDue := false, probedAt := s.now })

/-! ### HART (R325, R326) -/

/-- The devices of a channel, by their places in CHc_HADDR. -/
def State.hartDevices (s : State) (c : Nat) : List Nat :=
  let m := s.reg LOOP.CHc_CFG.MODE c
  if m = LoopMode.analogHart then [0]
  else if m = LoopMode.multidrop then
    (List.range 5).filter (fun k => bitField (6 * k) 6 (s.reg LOOP.CHc_HADDR.ADDR c) != 0)
  else []

/-- The devices of a group in polling order, as channel × 8 + device. -/
def State.groupDevices (s : State) (g : Nat) : List Nat :=
  ((List.range 8).map (fun i =>
    let c := 8 * g + i
    if s.loopState c = LoopState.run then (s.hartDevices c).map (fun k => c * 8 + k) else [])).flatten

/-- The module's frame to a device (R325): command 0 under the polling address, or command 3 under the long address; the preambles last. -/
def State.hartSend (s : State) (c k : Nat) : State :=
  let d := s.loops.dev.get (5 * c + k)
  let pre := 5 + s.reg LOOP.CHc_CFG.HPRE c
  s.emit (.hart c (if d.known then [d.uid, 3, pre] else [bitField (6 * k) 6 (s.reg LOOP.CHc_HADDR.ADDR c), 0, pre]))

/-- The group's modem takes its next turn (R325): a pass-through request first, unless its channel probes (R329), else the device after the
one polled last. -/
def State.nextTurn (s : State) (g : Nat) : State :=
  let mine := s.loops.waiting.find? (fun p => p.channel / 8 == g && s.loopState p.channel != LoopState.probing)
  match mine with
  | some p =>
    let s := { s with loops := { s.loops with
      waiting := s.loops.waiting.erase p, turn := s.loops.turn.set g (p.channel * 8 + 1), passing := s.loops.passing.set g (some p) } }
    s.emit (.hart p.channel p.data)
  | none =>
    let l := s.groupDevices g
    let n := match l.find? (fun x => decide (s.loops.poll.get g ≤ x)) with
      | some x => some x
      | none => l.head?
    let s := { s with loops := { s.loops with passing := s.loops.passing.set g none } }
    match n with
    | none => { s with loops := { s.loops with turn := s.loops.turn.set g 0 } }
    | some x =>
      ({ s with loops := { s.loops with turn := s.loops.turn.set g (x + 1), poll := s.loops.poll.set g (x + 1) } }).hartSend (x / 8) (x % 8)

/-- A transaction of the group has ended: a probe that waited begins, and the modem goes on (R329). -/
def State.endTurn (s : State) (g : Nat) : State :=
  let last := s.loops.turn.get g - 1
  let s := { s with loops := { s.loops with turn := s.loops.turn.set g 0, passing := s.loops.passing.set g none } }
  let c := last / 8
  let s := if (s.chan c).probeDue then s.startProbe c else s
  s.nextTurn g

/-- R326: a device's five signals are delivered. -/
def State.deliverHart (s : State) (c k : Nat) : State :=
  if !s.flag LOOP.CHc_HSIG.EN c ∨ !s.ingressOn then s
  else
    let d := s.loops.dev.get (5 * c + k)
    let base := s.reg LOOP.CHc_HSIG.SIGNAL c + 5 * k
    let bad := d.noResponse || bitOf 15 d.status
    let q := fun i => if bad then Quality.bad + 7 * 16 else if i = 0 ∧ bitOf 8 d.status then Quality.uncertain + 7 * 16 else 0
    let vars := (List.range 4).map (fun i => (base + i, (d.vars[i]?).getD 0, q i))
    s.deliver (0x3000 + c) (vars ++ [(base + 4, d.status + bn d.noResponse * 2 ^ 16, 0)]) s.now

/-- The response to a pass-through request (R325, R417): OP 0x0205, one item. -/
def State.answerPass (s : State) (p : HartPass) (status : Nat) (bytes : List Nat) : State :=
  s.respond p.req 0x205 status [(status, bytes)]

/-! ### The commands -/

/-- R314: a sampling instant is due: the base has reached its multiple, between the guards of 5 and 15 ms from the instant before, if there was
one. -/
def State.sampleDue (s : State) : Bool :=
  let l := s.loops
  let b := s.reg LOOP.CFG.BASE
  let since := s.now - (l.sampleAt - 1)
  let target := if s.baseEpoch b = l.epoch then l.next
    else nextSample ((s.at (max (l.sampleAt - 1) (s.phase.base.get b).anchorT)).baseVal b)
  let hit := reached (s.baseVal b) target
  if l.sampleAt = 0 then hit else decide (msec 15 ≤ since) || (decide (msec 5 ≤ since) && hit)

/-- R321: the channel's entry to service, a change of partner presence or its interval calls for a probe. From when PROBE_INT counts the manual
does not say: DESIGN CHOICE, from the last probe's start or the entry to service (notes/assumptions/119.md). -/
def State.probeWanted (s : State) (c : Nat) : Bool :=
  let d := s.chan c
  let n := s.reg LOOP.CHc_CFG.PROBE_INT c
  s.isActive && (d.probeDue || (n != 0 && decide (d.probedAt + sec (60 * n) ≤ s.now)))

/-- R314 to R323: one sample of one channel. -/
def State.sampleChannel (s : State) (c x temp : Nat) : State :=
  let s := (s.setReg LOOP.CHc_MEAS.I c (min (x / 10) 65535)).setReg LOOP.CHc_VTERM.TEMP c temp
  let s := s.updChan c (fun d => { d with x := x, seqNo := wrap 16 (d.seqNo + 1) })
  let d := s.chan c
  let st := s.loopState c
  if st = LoopState.run then (s.sampleRun c x).when (s.probeWanted c) (fun s => s.startProbe c)
  else if st = LoopState.probing then s.sampleProbe c x
  else if st = LoopState.thermalOff ∨ st = LoopState.retired then
    if s.reg LOOP.CHc_CFG.MODE c = 0 then s else s.deliverLoop c d.held d.heldMa (Quality.bad, 6)
  else s

/-- POWER.OUT, in mW (R320). -/
def State.loopPower (s : State) : Nat :=
  ((List.range 32).map (fun c => (s.chan c).vsup * (s.chan c).x)).sum / 200000

/-- A value cut to the width of the field a key belongs to. -/
def fitKey (k v : Nat) : Nat :=
  match fieldOfKey k with
  | some f => wrap f.width v
  | none => 0

/-- Channel settings that an on-line change altered take effect at this sample (R267): a channel whose MODE changes starts anew. -/
def State.takeChannels (s : State) : State :=
  let keys := s.loops.due
  let of := fun (f : Fld) => (List.range 32).filter (fun c => keys.contains (f.key c))
  let s := { s with loops := { s.loops with due := [] }, regs := keys.foldl (fun r k => r.set k (fitKey k (s.settings.get k))) s.regs }
  let s := s.each ((of LOOP.CHc_LINE.RDEF).filter (fun c => !s.flag LOOP.CHc_LEARN.VALID c)) (fun s c =>
    s.setReg LOOP.CHc_LEARN.RLINE c (s.reg LOOP.CHc_LINE.RDEF c))
  let s := s.each (of LOOP.CHc_HADDR.ADDR) State.forgetHart
  s.each (of LOOP.CHc_CFG.MODE) State.startChannel

/-- R314: all channels sample. `xs` are the currents, `temps` the pass elements' temperatures as register patterns, `input` the input
power in mW. -/
def execLoopSample (t : Nat) (xs temps : List Nat) (input : Nat) (s : State) : Result :=
  let s := s.advance t
  if !s.loopsRun ∨ !s.sampleDue then .next s
  else
    let b := s.reg LOOP.CFG.BASE
    let s := (s.when (s.loops.sampleAt == 0) (fun s => s.restartDwell 2)).takeChannels
    let s := s.each (List.range 32) (fun s c => s.sampleChannel c ((xs[c]?).getD 0) ((temps[c]?).getD 0))
    let s := { s with loops := { s.loops with sampleAt := s.now + 1, next := nextSample (s.baseVal b), epoch := s.baseEpoch b } }
    let s := (s.setReg LOOP.POWER.OUT 0 (min s.loopPower 65535)).setReg LOOP.POWER.IN 0 (min input 65535)
    let idle := [0, 1, 2, 3].filter (fun g => s.loops.turn.get g == 0)
    .next (s.when s.isActive (fun s => s.each idle (fun s g => s.nextTurn g)))

/-- R320: the common ceiling moves, and channels above it come down to it. -/
def State.setCeil (s : State) (v : Nat) : State :=
  let was := s.flag LOOP.STAT.POWER_CAP
  let s := (s.setReg LOOP.CEIL.CEIL 0 v).setFlag LOOP.STAT.POWER_CAP 0 (decide (v < supplyMax))
  let s := if was = s.flag LOOP.STAT.POWER_CAP then s else s.noteLoop 0
  let s := s.each (List.range 32) (fun s c =>
    if s.loopState c = LoopState.run then s.followTarget c
    else if v < (s.chan c).vsup then (s.setFlag LOOP.CHc_STAT.CAPPED c true).setSupply c v else s)
  { s with loops := { s.loops with capAt := s.now } }

/-- R320: a step of the common ceiling, down by 0.5 V every 100 ms or up by 0.5 V per second. -/
def execPowerCapStep (t : Nat) (s : State) : Result :=
  let s := s.advance t
  let p := s.loopPower
  let v := s.reg LOOP.CEIL.CEIL
  if !s.loopsRun then .next s
  else if 10800 < p ∧ s.loops.capAt + msec 100 ≤ s.now ∧ supplyMin < v then .next (s.setCeil (max supplyMin (v - 10)))
  else if p < 10000 ∧ s.loops.capAt + sec 1 ≤ s.now ∧ v < supplyMax then .next (s.setCeil (min supplyMax (v + 10)))
  else .next s

/-- R321: PROBE. -/
def execProbe (t channel : Nat) (s : State) : Result := .next ((s.advance t).startProbe channel)

/-- R321: PARK of the partner drops this unit's supply to 8 V. -/
def State.park (s : State) (c : Nat) : State :=
  if 32 ≤ c ∨ s.isActive ∨ !s.loopsRun ∨ s.loopState c ≠ LoopState.run then s
  else
    let s := (s.setReg LOOP.CHc_STAT.STATE c LoopState.parked).setSupply c supplyMin
    s.updChan c (fun d => { d with parkedAt := s.now + 1 })

/-- R321: the supply is restored to its target; while the front end restarts it holds (R328), and is restored after the restart. -/
def State.unpark (s : State) (c : Nat) : State :=
  if 32 ≤ c ∨ s.loopState c ≠ LoopState.parked then s
  else
    let s := s.updChan c (fun d => { d with parkedAt := 0 })
    if s.flag LOOP.STAT.FE_OK then
      (s.setReg LOOP.CHc_STAT.STATE c LoopState.run).capSupply c (s.ownTarget c (s.chan c).x)
    else s

/-- R323: a pass element opens for 2 s; a probe in progress is abandoned (R329). -/
def State.openElement (s : State) (c : Nat) : State :=
  if s.loopState c = LoopState.off ∨ s.loopState c = LoopState.retired then s
  else
    let s := if s.loopState c = LoopState.probing then s.mirrorReg (LOOP.CHc_CMD.OP.addrOf c) 3 else s
    (s.setReg LOOP.CHc_STAT.STATE c LoopState.thermalOff).updChan c (fun d => { d with openAt := s.now + 1, parkedAt := 0 })

/-- R321: PARK in a REGW record. -/
def execPark (t channel : Nat) (s : State) : Result := .next ((s.advance t).park channel)

/-- R321: UNPARK in a REGW record. -/
def execUnpark (t channel : Nat) (s : State) : Result := .next ((s.advance t).unpark channel)

/-- R321: 1.5 s have passed since PARK. -/
def State.parkOver (s : State) (c : Nat) : Bool :=
  let p := (s.chan c).parkedAt
  p != 0 && decide (p - 1 + msec 1500 ≤ s.now)

/-- R321: 1.5 s after PARK the supply is restored by itself. -/
def execParkTimeout (t channel : Nat) (s : State) : Result :=
  let s := s.advance t
  .next (if s.parkOver channel then s.unpark channel else s)

/-- R323: TRIP in a REGW record opens this unit's element with the partner's; it is not counted here. -/
def execTrip (t channel : Nat) (s : State) : Result :=
  let s := s.advance t
  .next (if 32 ≤ channel ∨ s.isActive then s else s.openElement channel)

/-- R323: a pass element has reached 125 °C: counted, told to the partner, retired at the N-th within W. -/
def execThermalTrip (t channel : Nat) (s : State) : Result :=
  let s := s.advance t
  if 32 ≤ channel ∨ !s.flag SYS.UNITS.LOOP ∨ s.loopState channel = LoopState.off ∨ s.loopState channel = LoopState.retired ∨
      s.loopState channel = LoopState.thermalOff then .next s
  else
    let s := (s.openElement channel).noteLoop channel
    let s := (s.addReg LOOP.CHc_STAT.TRIPTOT channel 1).occur 5 channel (0x0D0 + channel)
    let s := s.setReg LOOP.CHc_STAT.TRIPS channel (min 31 (s.occWithin 5 channel).length)
    let s := if s.isActive then s.mirrorReg (LOOP.CHc_CMD.OP.addrOf channel) 4 else s
    if s.permanent 5 channel then
      .next ((s.setReg LOOP.CHc_STAT.STATE channel LoopState.retired).retireItem 5 channel 0xA channel 0xAE0).preferPartner
    else .next s

/-- R323: after 2 s the channel retries. -/
def execThermalRetry (t channel : Nat) (s : State) : Result :=
  let s := s.advance t
  let o := (s.chan channel).openAt
  if s.loopState channel = LoopState.thermalOff ∧ o ≠ 0 ∧ o - 1 + sec 2 ≤ s.now then
    .next (((s.setReg LOOP.CHc_STAT.STATE channel LoopState.run).updChan channel (fun d => { d with openAt := 0 })).enterService
      channel)
  else .next s

/-- Change what the model keeps of a HART device. -/
def State.updHart (s : State) (c k : Nat) (f : HartDyn → HartDyn) : State :=
  { s with loops := { s.loops with dev := s.loops.dev.upd (5 * c + k) f } }

/-- R312: a STANDBY or SYNC unit listens to HART: it keeps what a device answers, and where its group's polling has come to. A response
without variables is that to command 0 (DEDUCED, notes/assumptions/121.md). -/
def State.hearHart (s : State) (c k uid status : Nat) (vars : List Nat) : State :=
  if (s.mode ≠ .standby ∧ s.mode ≠ .sync) ∨ !s.loopsRun ∨ !(s.hartDevices c).contains k then s
  else
    let s := { s with loops := { s.loops with poll := s.loops.poll.set (c / 8) (c * 8 + k + 1) } }
    s.updHart c k (fun d =>
      let d := { d with uid := uid, known := true, fails := 0 }
      if vars = [] then d else { d with noResponse := false, vars := vars, status := wrap 16 status + 2 ^ 17 * bn (bitOf 17 status) })

/-- R312: a STANDBY or SYNC unit hears no answer of a device to the active unit; after the third try the device is NO_RESPONSE (R325). -/
def State.missHart (s : State) (c k : Nat) : State :=
  if (s.mode ≠ .standby ∧ s.mode ≠ .sync) ∨ !s.loopsRun ∨ !(s.hartDevices c).contains k then s
  else
    let s := { s with loops := { s.loops with poll := s.loops.poll.set (c / 8) (c * 8 + k + 1) } }
    s.updHart c k (fun d =>
      if d.fails < 2 then { d with fails := d.fails + 1 } else { d with fails := 0, noResponse := true, known := false })

/-- R325, R326: a device answers its group's modem: command 0 gives its unique identifier, later ones its variables and status. A
pass-through's answer goes to the port that asked. A unit that follows listens (R312). `status` holds response code, device status and the communication error bit. -/
def execHartResponse (t channel device uid status : Nat) (vars : List Nat) (s : State) : Result :=
  let s := s.advance t
  let g := channel / 8
  if !s.isActive then .next (s.hearHart channel device uid status vars)
  else if !s.loopsRun ∨ s.loops.turn.get g ≠ channel * 8 + device + 1 then .next s
  else
    let s := s.addReg LOOP.CHc_HCNT.OK channel 1
    match s.loops.passing.get g with
    | some p => .next ((s.answerPass p 0 vars).endTurn g)
    | none =>
      let d := s.loops.dev.get (5 * channel + device)
      if !d.known then
        let s := if d.uid ≠ 0 ∧ d.uid ≠ uid then s.noteLoop channel else s
        .next ((s.updHart channel device (fun d => { d with uid := uid, known := true, fails := 0 })).endTurn g)
      else
        let s := s.updHart channel device (fun d => { d with fails := 0, noResponse := false, vars := vars, status := wrap 16 status + 2 ^ 17 * bn (bitOf 17 status) })
        .next ((s.deliverHart channel device).endTurn g)

/-- A failed transaction is tried again (R325): the pass-through request, or the module's own command. -/
def State.hartAgain (s : State) (c k : Nat) : State :=
  match s.loops.passing.get (c / 8) with
  | some p => s.emit (.hart c p.data)
  | none => s.hartSend c k

/-- R325: no response within 28 character times: a failure, retried twice; the third in a row is NO_RESPONSE. -/
def execHartTimeout (t channel device : Nat) (s : State) : Result :=
  let s := s.advance t
  let g := channel / 8
  if !s.isActive then .next (s.missHart channel device)
  else if !s.loopsRun ∨ s.loops.turn.get g ≠ channel * 8 + device + 1 then .next s
  else
    let s := s.addReg LOOP.CHc_HCNT.FAIL channel 1
    let n := (s.loops.dev.get (5 * channel + device)).fails + 1
    let s := s.updHart channel device (fun d => { d with fails := if n < 3 then n else 0 })
    if n < 3 then .next (s.hartAgain channel device)
    else match s.loops.passing.get g with
      | some p => .next ((s.nextFree.answerPass p (s.freeVal 8) []).endTurn g)
      | none =>
        let s := s.updHart channel device (fun d => { d with noResponse := true, known := false })
        .next ((s.deliverHart channel device).endTurn g)

/-- R324: a burst frame is ignored and counted. -/
def execHartBurstRx (t channel : Nat) (s : State) : Result :=
  let s := s.advance t
  .next (s.when s.loopsRun (fun s => s.addReg LOOP.CHc_HCNT.FAIL channel 1))

/-- The front end stops, to restart (R328): targets hold, deliveries, probes and HART stop; a pass-through request under way fails. -/
def State.stopFrontend (s : State) : State :=
  let s := s.setReg LOOP.STAT.FE_OK 0 0
  let s := s.each ((List.range 32).filter (fun c => s.loopState c == LoopState.probing)) State.endProbe
  let s := s.each (s.loops.passing.filterMap Prod.snd) (fun s p => s.nextFree.answerPass p (s.freeVal 8) [])
  { s with loops := { s.loops with turn := [], passing := [], restarting := true } }

/-- R328: the front end's watchdog expires. -/
def execFrontendWatchdogExpiry (t : Nat) (s : State) : Result :=
  let s := s.advance t
  if !s.loopsRun then .next s else .next s.stopFrontend

/-- R328: the front end runs: sampling starts anew, and a supply whose park has ended meanwhile is restored (R321). -/
def State.frontendRuns (s : State) : State :=
  let s := (s.setReg LOOP.STAT.FE_OK 0 1).armSampling
  (s.each (List.range 32) (fun s c => if (s.chan c).parkedAt = 0 ∨ s.parkOver c then s.unpark c else s)).restartDwell 2

/-- R328: the front end runs again, unless its firmware is held stopped (R448); a restart is counted and recorded, and a dwell of the part
starts again (R445). -/
def execFrontendRestartDone (t : Nat) (s : State) : Result :=
  let s := s.advance t
  .next (s.when (s.flag SYS.UNITS.LOOP && s.mode.runtimeRuns && !s.flag UPD.PARTp_STAT.STOPPED 2) (fun s =>
    let s := s.when s.loops.restarting (fun s => (s.addReg LOOP.FERST.COUNT 0 1).noteLoop 0)
    ({ s with loops := { s.loops with restarting := false } }).frontendRuns))

/-- R448: with the front end's firmware held stopped every channel in use delivers BAD, detail 0x6. -/
def State.deliverStopped (s : State) : State :=
  if s.flag SYS.UNITS.LOOP && s.flag UPD.PARTp_STAT.STOPPED 2 && s.ingressOn then
    s.each ((List.range 32).filter (fun c => s.loopState c != LoopState.off && s.loopState c != LoopState.retired)) (fun s c =>
      let qd := Quality.bad + 6 * 16
      let slots := (if s.flag LOOP.CHc_SIG.EN c then [(s.reg LOOP.CHc_SIG.SIGNAL c, (s.chan c).held, qd)] else []) ++
        (if s.flag LOOP.CHc_SIGMA.EN c then [(s.reg LOOP.CHc_SIGMA.SIGNAL c, (s.chan c).heldMa, qd)] else [])
      let s := (s.setReg LOOP.CHc_STAT.QUAL c Quality.bad).setReg LOOP.CHc_STAT.DETAIL c 6
      if slots = [] then s else s.deliver (0x3000 + c) slots s.now)
  else s

/-- The recorder instance of a fast pin (R459). -/
def pinInstance (p : Nat) : Nat := 0x40 + p

/-- R306: an output has stood at its limit for 1 ms and switches off; the N-th within W retires it. -/
def execPinShort (t pin : Nat) (s : State) : Result :=
  let s := s.advance t
  if 64 ≤ pin ∨ !s.pinCommand pin then .next s
  else
    let s := ((s.setReg FPIN.PINp_STAT.SHORT pin 1).addReg FPIN.PINp_STAT.SHORTS pin 1).addReg FPIN.SHORTCNT.COUNT 0 1
    let s := { s with loops := { s.loops with shortAt := s.loops.shortAt.set pin (s.now + 1) } }
    let s := ((s.note 0xA (pinInstance pin) []).occur 6 pin (0x0F0 + pin)).showPin pin
    if s.permanent 6 pin then
      let s := (s.setReg FPIN.PINp_STAT.RETIRED pin 1).retireItem 6 pin 0xA (pinInstance pin) 0xAE0
      .next ((s.showPin pin).cause 4 true).preferPartner
    else .next s

/-- R306: 100 ms later the output is on again if it is still commanded. -/
def execPinShortRetry (t pin : Nat) (s : State) : Result :=
  let s := s.advance t
  let o := s.loops.shortAt.get pin
  if pin < 64 ∧ o ≠ 0 ∧ o - 1 + msec 100 ≤ s.now then
    let s := { s with loops := { s.loops with shortAt := s.loops.shortAt.set pin 0 } }
    .next ((s.setReg FPIN.PINp_STAT.SHORT pin 0).showPin pin)
  else .next s

/-- R310: an AC sense input rises above 120 % of nominal, or falls back. -/
def execAcOvervoltage (t m : Nat) (above : Bool) (s : State) : Result :=
  let s := s.advance t
  .next (s.when (s.flag SYS.UNITS.ACS && decide (m < 2)) (fun s => s.senseFlag FPIN.ACm_STAT.OVERV m above))

end Sys2Proof.Machine
end

