-- ==== Sys2Proof/Machine/Phase.lean ====
section
/-! DEFINITION. The meanings of the phase base commands (01_phase_bases.md; 10_loops_and_fast_pins.md R309). -/

namespace Sys2Proof.Machine


/-- R26: the read returns VAL_LO and latches VAL_HI, EPOCH and STATUS of the base for the master. -/
def execBaseValLoRead (t master base : Nat) (s : State) : Result :=
  let s := s.advance t
  if 16 ≤ base then .next s
  else
    let a := PHASE.BASEn_VAL_LO.VAL.addrOf base
    let s := s.latchWords master [a + 4, a + 8, a + 12]
    .next (s.emit (.readData master a (s.word a)))

/-- The error of a measured mains angle against the running base, signed, in 2^-32 turn. The measurement gives no turn: DESIGN CHOICE, the
base takes the turn in which the measured angle lies nearest to the running value, at its first lock as well; from a value near 0 that can be
the turn before it (notes/assumptions/105.md). -/
def State.mainsError (s : State) (m angle : Nat) : Int :=
  toSigned 32 (diffMod 32 (angle + s.reg PHASE.MAINSm_OFFSET.OFFSET m) (s.baseVal (6 + m)))

/-- What a measurement of the mains shows (R39, R52): presence, frequency, amplitude, jitter and the speed of the base. -/
def State.noteMains (s : State) (m freq rms perr : Nat) : State :=
  let s := ((s.sense FPIN.ACm_STAT.PRESENT m 1).sense FPIN.ACm_STAT.FREQ_OK m 1).setReg FPIN.ACm_FREQ.FREQ m freq
  let s := (s.setReg PHASE.MAINSm_QUAL.RMS m rms).setReg PHASE.MAINSm_QUAL.PERR m (min perr 65535)
  s.setReg PHASE.BASEn_SPEED.SPEED (6 + m) (freq * 65536 / 1000)

/-- A mains base is LOCKED and goes on at a measured frequency (R39, R40). -/
def State.lockMains (s : State) (b freq : Nat) : State :=
  (s.setBaseState b BaseState.locked).updBase b (fun d => { d with freqMilliHz := freq, lockedOnce := true })

/-- The input of a mains base is valid (R39): 45 to 65 Hz, and at least 20 % of the nominal RMS. -/
def State.mainsValid (s : State) (m freq rms : Nat) : Bool :=
  decide (45000 ≤ freq ∧ freq ≤ 65000 ∧ s.reg PHASE.MAINSm_CFG.NOMV m ≤ 5 * wrap 16 rms)

/-- R29, R39, R41, R42: lock or re-lock on a measured angle and frequency. The first lock is a step; a later error of at most
STEP_THR is slewed out at no more than 1° per cycle, a larger one is a step. -/
def execMainsLock (t m angle freq rms perr : Nat) (s : State) : Result :=
  let s := s.advance t
  let b := 6 + m
  let st := s.baseState b
  if 2 ≤ m ∨ st = BaseState.notFitted ∨ st = BaseState.unused ∨ !s.mainsValid m freq rms then .next s
  else
    let s := s.noteMains m freq rms perr
    let err := s.mainsError m angle
    let first := !(s.phase.base.get b).lockedOnce || st == BaseState.invalid || st == BaseState.acquiring
    let target := ofSigned 64 ((s.baseVal b : Int) + err)
    let measured := s.now
    if first then .next (s.stepBase b Cause.acquisition true (fun s => (s.anchorFrom b target measured).lockMains b freq))
    else if err.natAbs * 3600 ≤ s.reg PHASE.MAINSm_CFG.STEP_THR m * 2 ^ 32 then
      .next ((s.beginSlew b (err * 2 ^ 32) (2 ^ 64 / 360 * freq / (4 * 10 ^ 12))).lockMains b freq)
    else .next (s.stepBase b Cause.relock false (fun s => (s.anchorFrom b target measured).lockMains b freq))

/-- R39, R40: a loss over 2 consecutive cycles puts a LOCKED base in HOLDOVER; it goes on at the last frequency. -/
def execMainsLoss (t m : Nat) (freqOut : Bool) (s : State) : Result :=
  let s := s.advance t
  let b := 6 + m
  if 2 ≤ m then .next s
  else
    let s := s.sense FPIN.ACm_STAT.PRESENT m 0
    let s := s.when freqOut (fun s => s.sense FPIN.ACm_STAT.FREQ_OK m 0)
    if s.baseState b = BaseState.locked then
      .next ((s.setBaseState b BaseState.holdover).updBase b (fun d => { d with holdAt := s.now }))
    else .next s

/-- R39: after 2 s in HOLDOVER the base is UNLOCKED. -/
def execMainsHoldoverTimeout (t m : Nat) (s : State) : Result :=
  let s := s.advance t
  let b := 6 + m
  if m < 2 ∧ s.baseState b = BaseState.holdover ∧ (s.phase.base.get b).holdAt + sec 2 ≤ s.now then
    .next (s.setBaseState b BaseState.unlocked)
  else .next s

/-- Change what the model keeps of an encoder. -/
def State.updEnc (s : State) (e : Nat) (f : EncSt → EncSt) : State :=
  { s with phase := { s.phase with enc := s.phase.enc.upd e f } }

/-- BASEn_SPEED of a shaft base in 2^-16 turn/s from the velocity estimate (R44, R52). -/
def State.showSpeed (s : State) (e : Nat) : State :=
  let v := (s.phase.enc.get e).velocity
  let cpt := max (s.reg PHASE.ENCe_CFG.CPT e) 1
  let st := s.baseState (8 + e)
  let sp : Int := if st = BaseState.fault then 0 else floorDiv (v.1 * 4000000000 * 65536) (v.2 * cpt)
  s.setReg PHASE.BASEn_SPEED.SPEED (8 + e) (satSigned 32 sp)

/-- R309: an edge on one line less than 100 ns after the line's last edge at `last` (plus one; 0 none). -/
def State.tooQuick (s : State) (last : Nat) : Bool := last != 0 && decide (s.now < last - 1 + us 1 / 10)

/-- The levels of A and B after an edge, and the instants of the lines' edges (R309, R331). No command tells when Z falls: after an edge of A
or B its level is a free value (notes/assumptions/120.md). -/
def State.seeLines (s : State) (e : Nat) (a b : Bool) : State :=
  let ea := a != s.flag FPIN.ENCe_STAT.A e
  let eb := b != s.flag FPIN.ENCe_STAT.B e
  let s := s.updEnc e (fun d => { d with aAt := if ea then s.now + 1 else d.aAt, bAt := if eb then s.now + 1 else d.bAt })
  let s := (s.senseFlag FPIN.ENCe_STAT.A e a).senseFlag FPIN.ENCe_STAT.B e b
  s.when (s.flag FPIN.ENCe_STAT.Z e) (fun s => s.nextFree.sense FPIN.ENCe_STAT.Z e (s.freeVal 1))

/-- The edges that bring A and B to their levels follow the lines' last edges by less than 100 ns (R309). -/
def State.quickLines (s : State) (e : Nat) (a b : Bool) : Bool :=
  let d := s.phase.enc.get e
  (a != s.flag FPIN.ENCe_STAT.A e && s.tooQuick d.aAt) || (b != s.flag FPIN.ENCe_STAT.B e && s.tooQuick d.bAt)

/-- R44 to R46: a counted edge crosses a boundary of the count; a reversal restarts the estimate, which keeps VELN + 2 edges.
A transition that skips a state, or two edges on one line less than 100 ns apart (R309), changes no count. When a base under IGNORE
leaves ACQUIRING the manual does not say: DESIGN CHOICE, at its first counted edge, by an acquisition step (notes/assumptions/74.md). -/
def execEncoderEdge (t e : Nat) (forward illegal a b : Bool) (s : State) : Result :=
  let s := s.advance t
  if 4 ≤ e ∨ s.reg PHASE.ENCe_CFG.CPT e = 0 then .next s
  else
    let illegal := illegal || s.quickLines e a b
    let s := s.seeLines e a b
    if illegal then .next (s.addReg PHASE.ENCe_SLIPCNT.ILLEGAL e 1)
    else
      let fwd := forward != s.flag PHASE.ENCe_CFG.INVERT e
      let d := s.phase.enc.get e
      let pos : Int := if fwd then d.count + 1 else d.count
      let dir := if fwd then 1 else 2
      let hist := ((if dir = d.dir then d.hist else []) ++ [(pos, s.now)])
      let keep := s.reg PHASE.ENCe_CFG.VELN e + 2
      let first := s.baseState (8 + e) = BaseState.acquiring ∧ s.reg PHASE.ENCe_CFG.ZMODE e = 0
      let upd : State → State := fun s => s.updEnc e (fun d => { d with
        hist := hist.drop (hist.length - keep), count := if fwd then d.count + 1 else d.count - 1, edgePos := pos
        edgeT := s.now, dir := dir, stalled := false })
      let s := if first then
          s.stepBase (8 + e) Cause.acquisition true (fun s => upd (s.setBaseState (8 + e) BaseState.locked))
        else upd s.keepPast
      let s := (s.setFlag PHASE.BASEn_STATUS.DIR (8 + e) (!fwd)).showSpeed e
      let raw := s.reg FPIN.ENCe_COUNT.COUNT e
      .next (s.setReg FPIN.ENCe_COUNT.COUNT e (if fwd then raw + 1 else diffMod 32 raw 1))

/-- The alignment changes so that the base value moves by `delta` (in 2^-32 turn); what a slew has absorbed stays. -/
def State.realign (s : State) (e : Nat) (delta : Int) : State :=
  let cpt := s.reg PHASE.ENCe_CFG.CPT e
  s.updEnc e (fun d => { d with
    alignment := ofSigned 64 ((d.alignment : Int) + d.absorbed d.edgePos cpt + delta), slewLeft := 0, aligned := true })

/-- A Z edge: the level of Z and the instant of its edge (R331). It is the rising edge (DEDUCED, notes/assumptions/120.md). -/
def State.seeZ (s : State) (e : Nat) : State :=
  (s.updEnc e (fun d => { d with zAt := s.now + 1 })).sense FPIN.ENCe_STAT.Z e 1

/-- R43, R44: a Z edge aligns the base under ALIGN and CHECK, brings it out of FAULT by a step once the signal has returned, and under CHECK tests a forward
edge: a mismatch of up to SLIP counts is absorbed over the next quarter turn, a larger one realigns by a step. How a mismatch is measured
in counts the manual does not say: DESIGN CHOICE, its whole counts (rounded down), so that less than one count is no mismatch and SLIP
counts and a fraction are absorbed (notes/assumptions/75.md). An edge too soon after the last is illegal (R309). Z sets the fraction and gives no turn: DESIGN CHOICE, the base goes to ZOFF the
shorter way, which can change its turn count by one in either direction (notes/assumptions/106.md). -/
def execEncoderZEdge (t e : Nat) (forward : Bool) (s : State) : Result :=
  let s := s.advance t
  let b := 8 + e
  let st := s.baseState b
  let mode := s.reg PHASE.ENCe_CFG.ZMODE e
  if 4 ≤ e ∨ s.reg PHASE.ENCe_CFG.CPT e = 0 then .next s
  else
    let quick := s.tooQuick (s.phase.enc.get e).zAt
    let s := s.seeZ e
    if quick then .next (s.addReg PHASE.ENCe_SLIPCNT.ILLEGAL e 1)
    else if mode = 0 then .next s
    else
      let cpt := s.reg PHASE.ENCe_CFG.CPT e
      let fwd := forward != s.flag PHASE.ENCe_CFG.INVERT e
      let held := s.baseVal b
      let off : Int := toSigned 32 (diffMod 32 (s.reg PHASE.ENCe_ZOFF.ZOFF e) held)
      let counts := off.natAbs * cpt / 2 ^ 32
      if st = BaseState.fault ∧ !s.sensed FPIN.ENCe_STAT.SIGOK e then .next s
      else if st = BaseState.fault then
        let running := (s.setBaseState b BaseState.locked).baseVal b
        .next ((s.stepBase b Cause.zAlign false (fun s =>
          (s.setBaseState b BaseState.locked).realign e ((held : Int) + off - (running : Int)))).showSpeed e)
      else if !(s.phase.enc.get e).aligned then
        let acq := decide (st = BaseState.acquiring ∨ st = BaseState.invalid)
        .next (s.stepBase b (if acq then Cause.acquisition else Cause.zAlign) acq (fun s =>
          (s.setBaseState b BaseState.locked).realign e off))
      else if mode = 2 ∧ fwd ∧ counts ≠ 0 then
        if counts ≤ s.reg PHASE.ENCe_CFG.SLIP e then
          let s := (s.keepPast.realign e 0).addReg PHASE.ENCe_SLIPCNT.SLIP e 1
          .next (s.updEnc e (fun d => { d with slewLeft := off, slewPos := d.edgePos }))
        else .next (s.stepBase b Cause.zAlign false (fun s => s.realign e off))
      else .next s

/-- R44: with no edge for longer than the stall time the estimate falls to zero. -/
def execEncoderStall (t e : Nat) (s : State) : Result :=
  let s := s.advance t
  if e < 4 ∧ (s.phase.enc.get e).edgeT + s.reg PHASE.ENCe_STALL.STALL e * us 100 < s.now then
    .next ((s.keepPast.updEnc e (fun d => { d with stalled := true })).showSpeed e)
  else .next s

/-- R44, R309: the signal is lost: SIGOK clears, LOSS counts, the base is in FAULT with its value held and its speed 0. -/
def execEncoderSignalLoss (t e : Nat) (s : State) : Result :=
  let s := s.advance t
  if 4 ≤ e then .next s
  else
    let s := ((s.sense FPIN.ENCe_STAT.SIGOK e 0).addReg FPIN.ENCe_STAT.LOSS e 1).lifeAdd (0x138 + e) 1
    let b := 8 + e
    if s.baseState b = BaseState.unused ∨ s.baseState b = BaseState.fault then .next s
    else
      let s := (s.keepPast.anchorAt b (s.baseVal b)).setBaseState b BaseState.fault
      .next (s.setReg PHASE.BASEn_SPEED.SPEED b 0)

/-- R44: the signal returns; under IGNORE the base leaves FAULT at once by a step of zero size, else it waits for Z. -/
def execEncoderSignalReturn (t e : Nat) (s : State) : Result :=
  let s := s.advance t
  if 4 ≤ e then .next s
  else
    let s := s.sense FPIN.ENCe_STAT.SIGOK e 1
    let b := 8 + e
    if s.baseState b = BaseState.fault ∧ s.reg PHASE.ENCe_CFG.ZMODE e = 0 then
      let held := s.baseVal b
      .next ((s.stepBase b Cause.relock false (fun s =>
        let s := s.setBaseState b BaseState.locked
        s.realign e ((held : Int) - (s.baseVal b : Int)))).showSpeed e)
    else .next s

/-- The 64-bit offset staged in VIRTv_OFF_LO and VIRTv_OFF_HI. -/
def State.stagedOffset (s : State) (v : Nat) : Nat :=
  s.reg PHASE.VIRTv_OFF_HI.OFF v * 2 ^ 32 + s.reg PHASE.VIRTv_OFF_LO.OFF v

/-- R49: the staged offset applies as a step of the virtual base. -/
def State.applyOffset (s : State) (v : Nat) : State :=
  let off := s.stagedOffset v
  if off = s.phase.virtOff.get v then s
  else s.stepBase (13 + v) Cause.setting false (fun s =>
    { s with phase := { s.phase with virtOff := s.phase.virtOff.set v off } })

/-- R49: a write of VIRTv_OFF_HI applies the 64-bit offset at the tick after it, and is mirrored (R230). -/
def execVirtOffHiWrite (t _master v value : Nat) (s : State) : Result :=
  let s := s.advance t
  if 3 ≤ v then .next s
  else
    let s := s.setReg PHASE.VIRTv_OFF_HI.OFF v value
    let s := s.mirrorReg (PHASE.VIRTv_OFF_LO.OFF.addrOf v) (s.reg PHASE.VIRTv_OFF_LO.OFF v)
    let s := s.mirrorReg (PHASE.VIRTv_OFF_HI.OFF.addrOf v) (wrap 32 value)
    .next ((s.advance (tickAfter t)).applyOffset v)

/-- The three settings of a virtual base. -/
def virtField : Nat → Fld
  | 0 => PHASE.VIRTv_SRC.SRC
  | 1 => PHASE.VIRTv_NUM.NUM
  | _ => PHASE.VIRTv_DEN.DEN

/-- R16, R47, R48: a source below the base's own number, its reserved bits ignored; a numerator and a denominator other than 0. -/
def virtValid (v which value : Nat) : Bool :=
  match which with
  | 0 => decide (wrap 4 value < 13 + v)
  | _ => decide (wrap 32 value ≠ 0)

/-- A setting of a virtual base changes by `f` (R29, R49): a base that leaves INVALID or ACQUIRING for LOCKED by it takes its first value by an
acquisition step; any other change of its value is a step with the cause setting write. -/
def State.setVirtual (s : State) (v : Nat) (f : State → State) : State :=
  let b := 13 + v
  let after := f s
  if s.acquires b after then s.stepBase b Cause.acquisition true f
  else if after.baseVal b = s.baseVal b then after
  else s.stepBase b Cause.setting false f

/-- R49, R523: a permitted write of SRC, NUM or DEN that changes the value steps the base at the next tick, with the cause setting write. -/
def execVirtSettingWrite (t master v which value : Nat) (s : State) : Result :=
  let s := s.advance t
  if 3 ≤ v ∨ 3 ≤ which then .next s
  else
    let f := virtField which
    .next (s.guardWrite (f.addrOf v) master true (virtValid v which value) (fun s =>
      (s.advance (tickAfter t)).setVirtual v (fun s => s.setReg f v value)))

/-- R49: a permitted write of MAINSm_OFFSET steps its mains base by the change of the offset, at the tick after the write. -/
def execMainsOffsetWrite (t master m value : Nat) (s : State) : Result :=
  let s := s.advance t
  if 2 ≤ m then .next s
  else
    let b := 6 + m
    let f := PHASE.MAINSm_OFFSET.OFFSET
    .next (s.guardWrite (f.addrOf m) master true true (fun s =>
      let s := s.advance (tickAfter t)
      let d : Int := toSigned 32 (diffMod 32 value (s.reg f m))
      if s.baseFires b ∧ d ≠ 0 then
        s.stepBase b Cause.setting false (fun s =>
          (s.reanchor b).setReg f m value |>.updBase b (fun x => { x with anchor := ofSigned 96 ((x.anchor : Int) + d * 2 ^ 32) }))
      else s.setReg f m value))

end Sys2Proof.Machine
end

