-- ==== Sys2Proof/Machine/Ptp.lean ====
section
/-! DEFINITION. The meanings of the network time commands (13_network_time.md) and of the port links: the domain tracks PB2 to PB5, and
plant time PB1 that follows them. -/

namespace Sys2Proof.Machine

/-- What the model keeps of a track. -/
def State.trk (s : State) (k : Nat) : TrackSt := s.ptp.track.get k

/-- Change what the model keeps of a track. -/
def State.updTrk (s : State) (k : Nat) (f : TrackSt → TrackSt) : State := { s with ptp := { s.ptp with track := s.ptp.track.upd k f } }

/-- Change what the model keeps of plant time. -/
def State.updPtp (s : State) (f : PtpSt → PtpSt) : State := { s with ptp := f s.ptp }

/-- A duration of 2^log seconds. -/
def logSeconds (log : Int) : Nat := if 0 ≤ log then sec 1 * 2 ^ log.toNat else sec 1 / 2 ^ (-log).toNat

/-- The enabled track that a message of a domain belongs to, by its transport and its plant port (R393, R394). -/
def State.trackFor (s : State) (port trans dom : Nat) : Option Nat :=
  (List.range 4).find? (fun k => s.flag PTP.DOMk_CFG.EN k && s.reg PTP.DOMk_CFG.NUM k == dom && s.reg PTP.DOMk_CFG.TRANS k == trans &&
    bitOf port (s.reg PTP.DOMk_CFG.PORTS k))

/-- PTP runs with RUNTIME (R393, R476). -/
def State.ptpOn (s : State) (port : Nat) : Bool := s.mode.runtimeRuns && decide (port < 2)

/-- PB1 follows this unit's tracks: not on a unit whose PB1 is slaved to its partner's (R230, R400). -/
def State.plantOwn (s : State) : Bool :=
  s.reg PTP.PLANT_CFG.SRC == 1 && s.mode != .standby && s.mode != .sync

/-! ### Best master (R394) -/

/-- The data set comparison of the default BMCA (IEEE 1588-2019): the values in the order they are compared, lower is better. -/
def Ann.rank (a : Ann) : List Nat := [a.prio1, a.cls, a.acc, a.var, a.prio2, a.gm, a.steps, a.sender, a.port]

/-- Lexicographic order of ranks. -/
def rankBelow : List Nat → List Nat → Bool
  | x :: l, y :: m => if x < y then true else if y < x then false else rankBelow l m
  | _, _ => false

/-- The Announce of the best master. -/
def bestAnn (l : List Ann) : Option Ann :=
  l.foldl (fun best a => match best with | none => some a | some b => if rankBelow a.rank b.rank then some a else some b) none

/-- The receipt timeout of an Announce has not passed (R396). -/
def State.annFresh (s : State) (k : Nat) (a : Ann) : Bool :=
  decide (s.now < a.at_ + s.reg PTP.DOMk_CFG.ANNTO k * logSeconds a.logInt)

/-- The UTC word shows the selected domain (R395). -/
def State.showUtc (s : State) : State :=
  let k := s.reg PTP.PLANT_STAT.SEL
  if !s.flag PTP.PLANT_STAT.SELVALID then s
  else match bestAnn (s.trk k).anns with
    | none => s
    | some a =>
      let s := (s.setReg PTP.UTC.OFFSET 0 a.utc).setReg PTP.UTC.VALID 0 (bitField 16 1 a.utc)
      (s.setReg PTP.UTC.LI61 0 (bitField 17 1 a.utc)).setReg PTP.UTC.LI59 0 (bitField 18 1 a.utc)

/-- The track takes the best of its masters (R394, R396, R397): a new grandmaster identity is counted and recorded, and a track without
a master begins to acquire. -/
def State.rechoose (s : State) (k : Nat) : State :=
  match bestAnn (s.trk k).anns with
  | none => s
  | some a =>
    let gm := s.reg PTP.DOMk_GMID_LO.ID k + s.reg PTP.DOMk_GMID_HI.ID k * 2 ^ 32
    let s := s.when ((s.trk k).seen && gm != a.gm) (fun s => (s.addReg PTP.DOMk_CNT.GMCHG k 1).note 7 (2 + k) [])
    let s := (s.setReg PTP.DOMk_GMID_LO.ID k a.gm).setReg PTP.DOMk_GMID_HI.ID k (a.gm / 2 ^ 32)
    let s := ((s.setReg PTP.DOMk_STAT.PORT k a.port).setReg PTP.DOMk_STAT.GMCLASS k a.cls).setFlag PTP.DOMk_STAT.PTPTS k a.ptpts
    let s := s.when ((s.trk k).chosen != some (a.port, a.sender)) (fun s => s.updTrk k (fun d => { d with
      chosen := some (a.port, a.sender), waiting := none, asked := false }))
    let s := s.updTrk k (fun d => { d with seen := true })
    let st := s.reg PHASE.BASEn_STATUS.STATE (2 + k)
    let s := s.when (st == BaseState.invalid || st == BaseState.unused) (fun s =>
      (s.setBaseState (2 + k) BaseState.acquiring).updTrk k (fun d => { d with good := 0, outlier := false }))
    s.showUtc

/-! ### Qualification and plant time (R399 to R405) -/

/-- A track is qualified (R399). -/
def State.qualifies (s : State) (k : Nat) : Bool :=
  s.flag PTP.DOMk_CFG.EN k && s.reg PHASE.BASEn_STATUS.STATE (2 + k) == BaseState.locked && (s.trk k).syncAt != 0 &&
    decide (s.now ≤ (s.trk k).syncAt - 1 + 3 * logSeconds (s.trk k).logSync) &&
    decide (s.reg PTP.DOMk_STAT.GMCLASS k ≤ s.reg PTP.PLANT_CFG.CLASSMAX)

/-- DOMk_STAT.QUAL of every track; a track that is not qualified may disagree again, and the time since which the primary has been
qualified (R399, R403, R404). -/
def State.judgeQual (s : State) : State :=
  let s := s.each (List.range 4) (fun s k => s.setFlag PTP.DOMk_STAT.QUAL k (s.qualifies k))
  let p := s.reg PTP.PLANT_CFG.PRIM
  s.updPtp (fun d => { d with
    bad := d.bad.filter (fun k => s.flag PTP.DOMk_STAT.QUAL k)
    primSince := if s.flag PTP.DOMk_STAT.QUAL p then (if d.primSince = 0 then s.now + 1 else d.primSince) else 0 })

/-- PB1 may take track `k`: qualified, and not one that disagreed (R403). -/
def State.usable (s : State) (k : Nat) : Bool := s.flag PTP.DOMk_STAT.QUAL k && !s.ptp.bad.contains k

/-- The secondary is in use (R400). -/
def State.secUsable (s : State) : Bool := s.flag PTP.PLANT_CFG.SECEN && s.usable (s.reg PTP.PLANT_CFG.SEC)

/-- PB1 minus a track, in 2^-32 ns (R402). -/
def State.plantOffset (s : State) (k : Nat) : Int := toSigned 96 (diffMod 96 (s.timeRaw 1) (s.timeRaw (2 + k)))

/-- One microsecond in 2^-32 ns. -/
def fracUs (n : Nat) : Nat := n * 1000 * 2 ^ 32

/-- The pace of 50 ppm, in 2^-32 ns per quarter nanosecond (R402). -/
def pace50 : Nat := 53687

/-- An offset of PB1 from track `k` is removed by slewing (R402, R403): PB1 takes the track's rate and at most 50 ppm beside it, and exactly
50 ppm where `full`. -/
def State.slewPlant (s : State) (k : Nat) (o : Int) (full : Bool) : State :=
  let s := s.beginSlew 1 (-o) pace50
  let s := s.when full (fun s => s.updBase 1 (fun d => { d with slewPace := pace50 }))
  let s := s.setReg PHASE.BASEn_RATE.RATE 1 (s.reg PHASE.BASEn_RATE.RATE (2 + k))
  s.setFlag PTP.PLANT_STAT.SLEWING 0 (decide (fracUs 1 ≤ o.natAbs))

/-- PB1 follows track `k` from now on. -/
def State.selectTrack (s : State) (k : Nat) : State :=
  let s := (s.setReg PTP.PLANT_STAT.SEL 0 k).setReg PTP.PLANT_STAT.SELVALID 0 1
  let s := s.setFlag PTP.PLANT_STAT.ONSEC 0 (k != s.reg PTP.PLANT_CFG.PRIM)
  (s.setBaseState 1 BaseState.locked).showUtc

/-- R401: PB1's first value, by the acquisition step. -/
def State.acquirePlant (s : State) (k : Nat) : State :=
  s.stepBase 1 Cause.acquisition true (fun s =>
    let v := s.timeRaw (2 + k)
    let s := s.updBase 1 (fun d => { d with anchor := v, anchorT := s.now, slewLeft := 0 })
    (s.setReg PHASE.BASEn_RATE.RATE 1 (s.reg PHASE.BASEn_RATE.RATE (2 + k))).selectTrack k)

/-- R403: a seamless switch to track `k`, or a refusal where the two disagree. -/
def State.switchPlant (s : State) (k : Nat) : State :=
  let o := s.plantOffset k
  if o.natAbs ≤ fracUs (s.reg PTP.PLANT_SWMAX.MAX) then
    let s := (s.addReg PTP.SWITCHES.COUNT 0 1).note 7 1 []
    ((s.selectTrack k).updPtp (fun d => { d with switchSlew := true })).slewPlant k o false
  else
    let s := ((s.setReg PTP.PLANT_STAT.DISAGREE 0 1).addReg PTP.SWITCHES.DISAGREE 0 1).note 7 1 []
    s.updPtp (fun d => { d with bad := d.bad ++ [k] })

/-- R405: PB1 has no qualified track: it goes on at its last rate, and what is left of a slew is not removed. -/
def State.plantHoldover (s : State) : State :=
  let s := (s.setReg PTP.PLANT_STAT.SELVALID 0 0).setReg PTP.PLANT_STAT.SLEWING 0 0
  let s := s.updPtp (fun d => { d with switchSlew := false })
  if s.reg PHASE.BASEn_STATUS.STATE 1 = BaseState.locked then
    let s := (s.reanchor 1).updBase 1 (fun d => { d with slewLeft := 0 })
    (s.setBaseState 1 BaseState.holdover).updBase 1 (fun d => { d with holdAt := s.now })
  else s

/-- R402: PB1's offset from its selected track is acted on. -/
def State.plantStep (s : State) (k : Nat) (o : Int) : State :=
  if o.natAbs ≤ fracUs (s.reg PTP.PLANT_STEP.THR) then s.slewPlant k o false
  else if s.flag PTP.PLANT_CFG.STEPACT then
    let s := s.stepBase 1 Cause.ptpStep false (fun s =>
      let v := s.timeRaw (2 + k)
      (s.updBase 1 (fun d => { d with anchor := v, anchorT := s.now, slewLeft := 0 })).setReg PHASE.BASEn_RATE.RATE 1
        (s.reg PHASE.BASEn_RATE.RATE (2 + k)))
    s.setReg PTP.PLANT_STAT.SLEWING 0 0
  else s.slewPlant k o true

/-- PB1 chooses its track (R401, R403 to R405, R407). -/
def State.followPlant (s : State) : State :=
  let p := s.reg PTP.PLANT_CFG.PRIM
  let c := s.reg PTP.PLANT_CFG.SEC
  let st := s.reg PHASE.BASEn_STATUS.STATE 1
  let want : Option Nat := if s.usable p then some p else if s.secUsable then some c else none
  if !s.plantOwn then s
  else if st = BaseState.invalid ∨ st = BaseState.acquiring then
    match want with | some k => s.acquirePlant k | none => s
  else if s.ptp.takeover then
    let s := ((s.setReg PTP.PLANT_STAT.SEL 0 p).setReg PTP.PLANT_STAT.SELVALID 0 0).updPtp (fun d => { d with takeover := false })
    let s := match want with | some k => s.switchPlant k | none => s
    if s.flag PTP.PLANT_STAT.SELVALID then s else s.plantHoldover
  else if s.flag PTP.PLANT_STAT.SELVALID then
    let sel := s.reg PTP.PLANT_STAT.SEL
    if s.flag PTP.DOMk_STAT.QUAL sel then s
    else
      let s := (s.setReg PTP.PLANT_STAT.SELVALID 0 0)
      let s := match want with | some k => s.switchPlant k | none => s
      if s.flag PTP.PLANT_STAT.SELVALID then s else s.plantHoldover
  else match want with
    | none => s
    | some k =>
      if k = s.reg PTP.PLANT_STAT.SEL then (s.selectTrack k).plantStep k (s.plantOffset k)
      else s.switchPlant k

/-- What follows every network time event: qualification, and plant time's choice. -/
def State.settlePtp (s : State) : State := (s.judgeQual).followPlant

/-- R402, R472: the offset of PB1, once per Sync of the selected track; `stepped`: the track stepped at this Sync, which ends a switch's
slew (R409). -/
def State.plantSync (s : State) (k : Nat) (stepped : Bool) : State :=
  if !s.plantOwn || !s.flag PTP.PLANT_STAT.SELVALID || s.reg PTP.PLANT_STAT.SEL != k then s
  else
    let o := s.plantOffset k
    let s := s.setReg PTP.PLANT_OFFS.NS 0 (satSigned 32 (floorDiv o (2 ^ 32)))
    let s := s.histAdd 19 (log2Bin (o.natAbs / 2 ^ 32))
    let s := s.when (stepped || decide (o.natAbs < fracUs 1)) (fun s => s.updPtp (fun d => { d with switchSlew := false }))
    (if s.ptp.switchSlew then s.slewPlant k o false else s.plantStep k o).steerRef 1

/-! ### Announce (R394 to R397) -/

/-- R394, R397: an Announce of a domain arrives on plant port `port` (0 A, 1 B) over transport `trans`. -/
def execAnnounceRx (t port trans dom : Nat) (a : Ann) (s : State) : Result :=
  let s := s.advance t
  match (if s.ptpOn port ∧ a.steps < 255 then s.trackFor port trans dom else none) with
  | none => .next s
  | some k =>
    let a := { a with port := port, at_ := s.now, gm := wrap 64 a.gm }
    let s := s.updTrk k (fun d => { d with
      anns := a :: (d.anns.filter (fun b => s.annFresh k b && !(b.port == a.port && b.sender == a.sender))) })
    .next ((s.rechoose k).settlePtp)

/-- R396: no valid Announce within the receipt timeout. -/
def execAnnounceTimeout (t track : Nat) (s : State) : Result :=
  let s := s.advance t
  if 4 ≤ track ∨ !s.flag PTP.DOMk_CFG.EN track ∨ (s.trk track).chosen = none then .next s
  else
    let s := s.updTrk track (fun d => { d with anns := d.anns.filter (s.annFresh track) })
    if (s.trk track).anns ≠ [] then .next ((s.rechoose track).settlePtp)
    else
      let s := s.reanchor (2 + track)
      let s := (s.setBaseState (2 + track) BaseState.invalid).updTrk track (fun d => { d with
        chosen := none, waiting := none, asked := false, good := 0, outlier := false })
      .next s.settlePtp

/-! ### Sync (R393, R396) -/

/-- The asymmetry correction of the chosen master's port, in ns (R398). -/
def State.asymmetry (s : State) (k port : Nat) : Int :=
  toSigned 16 (if port = 0 then s.reg PTP.DOMk_ASYM.A k else s.reg PTP.DOMk_ASYM.B k)

/-- The master's time at the receipt of its Sync, in 2^-32 ns: origin and correction, the path delay and the asymmetry. -/
def State.masterTime (s : State) (k port origin : Nat) (corr : Int) : Int :=
  (origin : Int) * 2 ^ 32 + corr * 2 ^ 16 + ((s.reg PTP.DOMk_DELAY.NS k * 2 ^ 32 / 100 : Nat) : Int) + s.asymmetry k port * 2 ^ 32

/-- What a time base advances in `dt` quarter nanoseconds at its present rate, in 2^-32 ns (R22). -/
def State.advanceOf (s : State) (b dt : Nat) : Int :=
  floorDiv ((dt : Int) * ((2 : Int) ^ 40 + toSigned 32 (s.reg PHASE.BASEn_RATE.RATE b))) (2 ^ 10)

/-- The rate a track takes from its servo: within ±100 ppm of the reference, otherwise free (R396 bounds rate and correction together by 200
ppm). -/
def State.servoRate (s : State) (k : Nat) : State :=
  let r : Int := ((s.freeVal 32 % 219902327 : Nat) : Int) - 109951163
  s.nextFree.setReg PHASE.BASEn_RATE.RATE (2 + k) (ofSigned 32 r)

/-- An offset below 1 µs counts toward LOCKED, another starts the count again (R396). -/
def State.countGood (s : State) (k : Nat) (off : Int) : State :=
  s.updTrk k (fun d => { d with good := if off.natAbs < fracUs 1 then min 8 (d.good + 1) else 0 })

/-- R396: the offset `off` (2^-32 ns) of a track from its master is acted on. The result says whether the track stepped. -/
def State.trackOffset (s : State) (k : Nat) (off masterNow : Int) : Bool × State :=
  let b := 2 + k
  let st := s.reg PHASE.BASEn_STATUS.STATE b
  let s := s.setReg PTP.DOMk_OFFS.NS k (satSigned 32 (floorDiv off (2 ^ 32)))
  if st = BaseState.acquiring ∨ st = BaseState.invalid then
    let s := s.countGood k off
    if (s.trk k).good < 8 then (false, s)
    else
      let v := ofSigned 96 (masterNow + off)
      let measured := s.now
      (true, s.stepBase b Cause.acquisition true (fun s =>
        let s := s.servoRate k
        (s.updBase b (fun d => { d with anchor := v, anchorT := measured, slewLeft := 0 })).setBaseState b BaseState.locked))
  else if fracUs 10 < off.natAbs then
    if (s.trk k).outlier then
      let v := ofSigned 96 masterNow
      let s := s.updTrk k (fun d => { d with outlier := false, good := 0 })
      let measured := s.now
      (true, s.stepBase b Cause.ptpStep false (fun s =>
        let s := s.servoRate k
        let s := s.updBase b (fun d => { d with anchor := v, anchorT := measured, slewLeft := 0, holdAt := measured })
        s.setBaseState b BaseState.holdover))
    else (false, s.updTrk k (fun d => { d with outlier := true }))
  else
    let s := s.when (s.trk k).outlier (fun s =>
      (s.addReg PTP.DOMk_CNT.OUTLIER k 1).updTrk k (fun d => { d with outlier := false }))
    let s := (s.beginSlew b (-off) 107374).servoRate k
    let s := s.countGood k off
    if st ≠ BaseState.locked ∧ 8 ≤ (s.trk k).good then (false, s.setBaseState b BaseState.locked) else (false, s)

/-- A Sync whose time is complete (R396, R402): received at PB0 instant `rx`; `acq` is the converging servo's offset while the track
acquires, in ns. -/
def State.completeSync (s : State) (k port rx origin : Nat) (corr acq : Int) : State :=
  let b := 2 + k
  let m := s.masterTime k port origin corr
  let st := s.reg PHASE.BASEn_STATUS.STATE b
  let dt := s.now - rx
  let off : Int := if st = BaseState.acquiring ∨ st = BaseState.invalid then acq * 2 ^ 32
    else toSigned 96 (ofSigned 96 ((s.timeRaw b : Int) - s.advanceOf b dt - m))
  let s := (s.bumpReg PTP.DOMk_RX.SYNC k).updTrk k (fun d => { d with
    syncAt := s.now + 1, waiting := none, lastRx := rx, lastTime := (origin : Int) * 2 ^ 32 + corr * 2 ^ 16 })
  let (stepped, s) := s.trackOffset k off (m + s.advanceOf b dt)
  (s.settlePtp).plantSync k stepped

/-- The track that takes a message of the sender on the port (R394). -/
def State.trackOfMaster (s : State) (port trans dom sender : Nat) : Option Nat :=
  match (if s.ptpOn port then s.trackFor port trans dom else none) with
  | some k => if (s.trk k).chosen = some (port, sender) then some k else none
  | none => none

/-- R393, R396: a Sync of the chosen master, received at `rx` on PB0. A two-step Sync waits for its Follow_Up; a message with another
interval than the supported ones is invalid. `origin` is in ns, `corr` the correctionField in 2^-16 ns. -/
def execSyncRx (t port trans dom sender seq rx : Nat) (twoStep : Bool) (origin : Nat) (corr logInt acq : Int) (s : State) : Result :=
  let s := s.advance t
  match (if -7 ≤ logInt ∧ logInt ≤ 1 then s.trackOfMaster port trans dom sender else none) with
  | none => .next s
  | some k =>
    let rx := min rx s.now
    let s := (s.updTrk k (fun d => { d with logSync := logInt })).setReg PTP.DOMk_STAT.LOGSYNC k (ofSigned 4 logInt)
    if twoStep then .next (s.updTrk k (fun d => { d with waiting := some (seq, rx, corr) }))
    else .next (s.completeSync k port rx origin corr acq)

/-- R393: the Follow_Up of a two-step Sync. -/
def execFollowUpRx (t port trans dom sender seq origin : Nat) (corr acq : Int) (s : State) : Result :=
  let s := s.advance t
  match s.trackOfMaster port trans dom sender with
  | none => .next s
  | some k =>
    match (s.trk k).waiting with
    | some (q, rx, c) => if q = seq then .next (s.completeSync k port rx origin (c + corr) acq) else .next s
    | none => .next s

/-- R396, R399: three Sync intervals without a valid Sync put a LOCKED track in HOLDOVER. -/
def execSyncTimeout (t track : Nat) (s : State) : Result :=
  let s := s.advance t
  if track < 4 ∧ s.flag PTP.DOMk_CFG.EN track ∧ s.reg PHASE.BASEn_STATUS.STATE (2 + track) = BaseState.locked ∧
      (s.trk track).syncAt - 1 + 3 * logSeconds (s.trk track).logSync ≤ s.now then
    let s := (s.setBaseState (2 + track) BaseState.holdover).updBase (2 + track) (fun d => { d with holdAt := s.now })
    .next (s.updTrk track (fun d => { d with good := 0 })).settlePtp
  else .next s

/-- R396: ten seconds in HOLDOVER. -/
def execDomainHoldoverTimeout (t track : Nat) (s : State) : Result :=
  let s := s.advance t
  if track < 4 ∧ s.reg PHASE.BASEn_STATUS.STATE (2 + track) = BaseState.holdover ∧
      (s.phase.base.get (2 + track)).holdAt + sec 10 ≤ s.now then
    .next ((s.setBaseState (2 + track) BaseState.unlocked).settlePtp)
  else .next s

/-! ### Delay (R393) -/

/-- R393: the track sends its delay request: Delay_Req (kind 1) to its master, or Pdelay_Req (kind 2) on its port. -/
def execDelayReqSend (t track : Nat) (s : State) : Result :=
  let s := s.advance t
  let d := s.trk track
  let gap := max (logSeconds (s.reg PTP.DOMk_CFG.LOGDREQ track)) (if d.minReq = 0 then 0 else logSeconds (d.minReq - 1))
  if 4 ≤ track ∨ !s.flag PTP.DOMk_CFG.EN track ∨ !s.mode.runtimeRuns ∨ d.chosen = none ∨
      (d.reqAt ≠ 0 ∧ s.now < d.reqAt - 1 + gap) then .next s
  else
    let kind := if s.flag PTP.DOMk_CFG.DELAY track then 2 else 1
    .next ((s.updTrk track (fun d => { d with reqAt := s.now + 1, asked := true })).emit (.ptp track kind [s.reg PTP.DOMk_STAT.PORT track]))

/-- The track that takes a delay response: from its chosen master, or with peer delay from the neighbour on its port (R393, R394). -/
def State.trackOfResponder (s : State) (port trans dom sender : Nat) : Option Nat :=
  match (if s.ptpOn port then s.trackFor port trans dom else none) with
  | some k => if s.flag PTP.DOMk_CFG.DELAY k && (s.trk k).chosen.map Prod.fst == some port then some k else s.trackOfMaster port trans dom sender
  | none => none

/-- R393: the response to the track's latest request. `stamp` is the master's receive timestamp in ns (request-response), or the responder's
turnaround in ns (peer delay); `rx` the PB0 instant of its receipt; `corr` the corrections in 2^-16 ns; `minLog` the announced least
interval of requests. The delay is in 0.01 ns. -/
def execDelayRespRx (t port trans dom sender rx stamp : Nat) (corr minLog : Int) (s : State) : Result :=
  let s := s.advance t
  match s.trackOfResponder port trans dom sender with
  | none => .next s
  | some k =>
    let d := s.trk k
    if !d.asked then .next s
    else
      let t1 := d.reqAt - 1
      -- in 2^-32 ns
      let round : Int := if s.flag PTP.DOMk_CFG.DELAY k then
          ((rx - t1 : Nat) : Int) * 2 ^ 30 - (stamp : Int) * 2 ^ 32 - corr * 2 ^ 16
        else
          (stamp : Int) * 2 ^ 32 - corr * 2 ^ 16 - d.lastTime - ((t1 : Int) - (d.lastRx : Int)) * 2 ^ 30
      let mean := max 0 (round * 100 / 2 ^ 33)
      let s := s.updTrk k (fun d => { d with asked := false, minReq := if s.flag PTP.DOMk_CFG.DELAY k then 0 else minLog + 1 })
      .next (s.setReg PTP.DOMk_DELAY.NS k (min mean.toNat (2 ^ 32 - 1)))

/-- R393: a Pdelay_Req on a port that runs the peer-to-peer profile is answered in two steps: Pdelay_Resp (kind 3) and its Follow_Up (kind
10). -/
def execPdelayReqRx (t port trans dom seq : Nat) (s : State) : Result :=
  let s := s.advance t
  match (if s.ptpOn port then s.trackFor port trans dom else none) with
  | none => .next s
  | some k =>
    if s.flag PTP.DOMk_CFG.DELAY k then .next ((s.emit (.ptp k 3 [port, seq])).emit (.ptp k 10 [port, seq])) else .next s

/-! ### Plant time commands -/

/-- R404: the primary has been qualified for REVERT seconds. -/
def execPlantRevert (t : Nat) (s : State) : Result :=
  let s := (s.advance t).judgeQual
  let p := s.reg PTP.PLANT_CFG.PRIM
  let r := s.reg PTP.PLANT_CFG.REVERT
  if s.plantOwn ∧ s.flag PTP.PLANT_STAT.SELVALID ∧ s.flag PTP.PLANT_STAT.ONSEC ∧ s.usable p ∧ r ≠ 0 ∧
      s.ptp.primSince ≠ 0 ∧ s.ptp.primSince - 1 + sec r ≤ s.now then .next (s.switchPlant p)
  else .next s

/-- R405: HOLDTO seconds without a qualified track. -/
def execPlantHoldoverTimeout (t : Nat) (s : State) : Result :=
  let s := s.advance t
  if s.plantOwn ∧ s.reg PHASE.BASEn_STATUS.STATE 1 = BaseState.holdover ∧
      (s.phase.base.get 1).holdAt + sec (s.reg PTP.PLANT_CFG.HOLDTO) ≤ s.now then .next (s.setBaseState 1 BaseState.unlocked)
  else .next s

/-- R400: a write of PLANT_SET_HI applies the staged value in MANUAL, and is ignored and recorded in PTP. On a unit whose PB1 is slaved to its
partner's it has no effect either (R230). -/
def execPlantSetHiWrite (t master hi : Nat) (s : State) : Result :=
  let s := s.advance t
  if s.reg PTP.PLANT_CFG.SRC = 1 ∨ s.mode = .standby ∨ s.mode = .sync then
    .next (s.writeRefused (PTP.PLANT_SET_HI.VAL.addrOf 0) master 5)
  else
    let v := wrap 32 hi * 2 ^ 32 + s.reg PTP.PLANT_SET_LO.VAL
    let first := s.reg PHASE.BASEn_STATUS.STATE 1 = BaseState.invalid
    .next (s.stepBase 1 (if first then Cause.acquisition else Cause.plantSet) first (fun s =>
      ((s.anchorAt 1 v).setReg PHASE.BASEn_RATE.RATE 1 0).setBaseState 1 BaseState.locked))

/-- R26, R410: a read of DOMk_GMID_LO latches GMID_HI for the master. -/
def execPtpGmidLoRead (t master track : Nat) (s : State) : Result :=
  let s := s.advance t
  if 4 ≤ track then .next s
  else
    let a := PTP.DOMk_GMID_LO.ID.addrOf track
    .next ((s.latchWords master [a + 4]).emit (.readData master a (s.word a)))

/-! ### Links (R409, R432) -/

/-- The link bit of a port (0 ENG, 1 PLANT A, 2 PLANT B). -/
def State.setLink (s : State) (port : Nat) (up : Bool) : State :=
  if port = 0 then s.senseFlag PORT.STAT.ENG_LINK 0 up
  else if port = 1 then s.senseFlag PORT.STAT.PLA_LINK 0 up
  else if port = 2 then s.senseFlag PORT.STAT.PLB_LINK 0 up
  else s

/-- R409: a port link goes down; a track enabled on both plant ports goes on with the masters of the other. -/
def execPortLinkDown (t port : Nat) (s : State) : Result :=
  let s := (s.advance t).setLink port false
  if port = 0 ∨ 3 ≤ port then .next s
  else
    let s := s.each (List.range 4) (fun s k =>
      let rest := (s.trk k).anns.filter (fun a => a.port != port - 1 && s.annFresh k a)
      if rest = [] then s else (s.updTrk k (fun d => { d with anns := rest })).rechoose k)
    .next s.settlePtp

/-- R432: a port link comes up. -/
def execPortLinkUp (t port : Nat) (s : State) : Result := .next ((s.advance t).setLink port true)

end Sys2Proof.Machine
end

