-- ==== Sys2Proof/Machine/Apply.lean ====
section
/-! DEFINITION. Applying a structure image (R86, R134, R251, R256, R258 to R260, R268, R525): which fields it sets, the directory,
tasks, cells, bases and every unit that starts from it. -/

namespace Sys2Proof.Machine

/-! ### Settings -/

/-- Fields of reset code N whose value comes from the Caddy or from what happened, not from the structure image. -/
def storedFlds : List Fld :=
  [PHASE.BASEn_STATUS.KIND, IMAGE.SEQ_LO.SEQ, IMAGE.SEQ_HI.SEQ, CELL.CELLc_STAT.REMAPPED, CELL.CELLc_STAT.DEAD,
   CELL.STRANDs_STAT.STATE, CELL.STRANDs_STAT.SPARES, CELL.STRANDs_STAT.LIVE, CELL.STRANDs_HOST.HOST, CELL.PINp_ROUTE.CUR,
   CELL.PINp_ROUTE.MOVED, CELL.REMAPS.COUNT, CELL.DEADCNT.COUNT, STN.PORTp_STAT.RETIRED, STRUCT.SLOT.ACTIVE,
   STRUCT.SLOT.VALID_A, STRUCT.SLOT.VALID_B, STRUCT.IMAGE_ID.ID, STRUCT.OLC_COMMIT.ID, STRUCT.OLC_SEQ_LO.SEQ,
   STRUCT.OLC_SEQ_HI.SEQ, STRUCT.KEYS.COUNT, STRUCT.KEYS.MASK, STRUCT.HASHk.HASH, LEAF.STAT.PAGE_FULL, LEAF.PAGES.COUNT,
   FPIN.PINp_STAT.RETIRED, SAFE.STAT.CONFIRMED, SAFE.CHECK.VALUE, SAFE.CONFIRMED.VALUE, CAN.STAT.RETIRED, UPD.PSTORE.LIVE,
   UPD.PSTORE.TRIALV, UPD.PSTORE.LIVEFMT, UPD.PSTORE.TRIALFMT, UPD.MPROTO.OWN, UPD.PARTp_STAT.PRESENT,
   UPD.PARTp_STAT.ACTIVE, UPD.PARTp_STAT.TRIAL, UPD.PARTp_STAT.VALID_A, UPD.PARTp_STAT.VALID_B,
   UPD.PARTp_STAT.PROBATION, UPD.PARTp_STAT.STOPPED, UPD.PARTp_VA_HI.MAJOR, UPD.PARTp_VA_LO.PATCH, UPD.PARTp_VA_LO.MINOR,
   UPD.PARTp_VB_HI.MAJOR, UPD.PARTp_VB_LO.PATCH, UPD.PARTp_VB_LO.MINOR, REC.NEWEST.RECNO, REC.OLDEST.RECNO,
   KETTLE.BUDGET.IMAGE, STN.RINGr_MINP.MINP, REC.HORIZON.RECNO, REC.OPTIME_LO.MS, REC.OPTIME_HI.MS, REC.PCYC.COUNT, LIFE.RETCNTk.COUNT, RGN.STAT.BLOCKS,
   RGN.STAT.RETIRED]

/-- The field takes its value from the structure image (R19 code N, R251). -/
def Fld.fromImage (f : Fld) : Bool := f.rst == .N && !storedFlds.any (fun g => g.id == f.id)

/-- A key of the register table belongs to such a field, at an instance the map holds. -/
def keyFromImage (k : Nat) : Bool :=
  match fieldOfKey k with
  | some f => f.fromImage && decide (k % 2 ^ 20 < f.count)
  | none => false

/-- Some settings take values: each that belongs to the image. -/
def State.putSettings (s : State) (l : Tab Nat) : State :=
  let l := l.filter (fun x => keyFromImage x.1)
  { s with regs := l.foldl (fun r x => r.set x.1 (fitKey x.1 x.2)) s.regs }

/-- The rings' defaults: 1 ms on PB1, DROPN 3 (R188, R201). -/
def ringDefaults : Tab Nat :=
  [(STN.RINGr_CFG.BASE.key 0, 1), (STN.RINGr_CFG.BASE.key 1, 1), (STN.RINGr_CFG.DROPN.key 0, 3), (STN.RINGr_CFG.DROPN.key 1, 3),
   (STN.RINGr_PLEN_LO.PLEN.key 0, 1000000), (STN.RINGr_PLEN_LO.PLEN.key 1, 1000000)]

/-- The settings an image gives; one without a RINGS section leaves the rings at their defaults. -/
def Image.given (im : Image) : Tab Nat :=
  if im.sects.contains 7 then im.settings else ringDefaults.foldl (fun m x => m.set x.1 x.2) im.settings

/-- Every setting takes its image value (R256). -/
def State.adoptSettings (s : State) (im : Image) : State :=
  let l := im.given
  let s := { s with regs := s.regs.filter (fun x => !keyFromImage x.1), settings := l }
  s.putSettings l

/-- The default budgets of R467 (N, W in s) of kinds 1 to 9. -/
def defaultBudgets : List (Nat × Nat) :=
  [(3, 1), (4, 3600), (3, 600), (2, 2592000), (5, 600), (100, 600), (10, 3600), (20, 3600), (4, 86400)]

/-- A retry budget no image sets has its default (R467). -/
def State.fillBudgets (s : State) : State :=
  s.each (defaultBudgets.zip (List.range 9)) (fun s x =>
    if s.reg LIFE.BUDGETk.N x.2 = 0 then (s.setReg LIFE.BUDGETk.N x.2 x.1.1).setReg LIFE.WINDOWk.W x.2 x.1.2 else s)

/-- BUDGET.IMAGE shows the image's budget (R176), and each ring its shortest period (R193). -/
def State.showDerived (s : State) : State :=
  let b := s.settings.get (KETTLE.BUDGET.BUDGET.key 0)
  ((s.setReg KETTLE.BUDGET.IMAGE 0 b).showMinp 0).showMinp 1

/-- R260: an RWL field differs from its image value. -/
def State.showDiverged (s : State) : State :=
  let waits := fun (k : Nat) => s.rings.due.any (fun x => (x.2.getD []).contains k) || s.loops.due.contains k
  let differs := fun (f : Fld) => (List.range f.count).any (fun i =>
    s.reg f i != wrap f.width (s.settings.get (f.key i)) && !waits (f.key i))
  s.setFlag STRUCT.STAT.DIVERGED 0 (s.struct.image.isSome && (fieldTable.filter (fun f => f.acc == .RWL)).any differs)

/-! ### Ceilings (R412, R413) -/

/-- The ceiling of a port before the structure image lowers it (R412): bits READ, OPERATE, TUNE, ENGINEER, MAINTAIN. -/
def State.portClasses (s : State) (port : Nat) : Nat :=
  let key := s.reg PORT.STAT.KEY
  if port = 0 then (match key with | 0 => 3 | 1 => 15 | _ => 31)
  else if port ≤ 2 then (if key = 1 ∧ s.flag PORT.CFG.REMENG then 15 else 7)
  else 3

/-- The image ceiling of a port (R413); with no structure image nothing is lowered. -/
def State.imageClasses (s : State) (port : Nat) : Nat :=
  if s.struct.image.isNone then 31 else bitField (8 * port) 5 (s.reg PORT.IMGCEIL.WORD)

/-- PORT.CEIL shows the effective ceilings (R413). -/
def State.showCeil (s : State) : State :=
  let c := fun p => s.portClasses p &&& s.imageClasses p
  (((s.setReg PORT.CEIL.ENG 0 (c 0)).setReg PORT.CEIL.PLA 0 (c 1)).setReg PORT.CEIL.PLB 0 (c 2)).setReg PORT.CEIL.CELL 0 (c 3)

/-! ### Directory, forces and signals (R86, R269, R525) -/

/-- The type a directory gives a signal. -/
def typeIn (dir : Tab (Option DirEntry)) (g : Nat) : Option Nat := (dir.get g).map (·.type)

/-- The signals a directory declares, ascending. -/
def declared (dir : Tab (Option DirEntry)) : List Nat := (dir.filter (fun x => x.2.isSome)).map Prod.fst

/-- R86: the forces of signals the new directory deletes or retypes are dropped, each with a record (cause 1 deleted, 2 type); the slot
of one that survives keeps its content, and its owner's next write carries source 0xF003. -/
def State.dropForces (s : State) (dir : Tab (Option DirEntry)) : State :=
  let lost := (s.img.forces.keys).filter (fun g => typeIn dir g != typeIn s.img.dir g || typeIn dir g == none)
  let s := s.each lost (fun s g =>
    let gone := (typeIn dir g).isNone
    let s := s.freeForce g
    let s := { s with img := { s.img with forceDropped := s.img.forceDropped.set g (!gone) } }
    s.record 0xF09 0 .info [(3, g), (1, if gone then 1 else 2)])
  if lost = [] then s else s.countForces

/-- The signals that are new or have another type under a directory, and keep nothing of a dropped force (R525). -/
def State.freshSignals (s : State) (dir : Tab (Option DirEntry)) : List Nat :=
  (declared dir).filter (fun g => typeIn dir g != typeIn s.img.dir g && !s.img.forceDropped.get g)

/-- The directory is replaced: slots of identities no longer declared read zero bytes, working slots carry the new type and mirror
mark (R54, R75). -/
def State.putDirectory (s : State) (dir : Tab (Option DirEntry)) : State :=
  let keepSlot := s.img.slots.filter (fun x => (dir.get x.1).isSome)
  let work := (dir.filterMap (fun x => x.2.map (fun d => (x.1, d)))).foldl (fun (m : Tab Slot) x =>
    m.upd x.1 (fun sl => { sl with type := x.2.type, mirrored := x.2.mirrored })) (s.img.working.filter (fun x => (dir.get x.1).isSome))
  let s := s.writeDirectory dir
  let s := { s with img := { s.img with slots := keepSlot, working := work
                                        lastWrite := s.img.lastWrite.filter (fun x => (dir.get x.1).isSome)
                                        forceDropped := s.img.forceDropped.filter (fun x => (dir.get x.1).isSome) } }
  s.showAged

/-- R525, R269: value 0, BAD, detail 0xD, source 0xF005, one number each in ascending order. -/
def State.initSignals (s : State) (l : List Nat) : State :=
  s.deliverModule 0xF005 (l.map (fun g => (g, 0, Quality.bad + 0xD * 16)))

/-! ### Tasks (R101, R115, R117) -/

/-- A task as a load leaves it (R256): IDLE at its home, nothing counted, nothing queued; it reads capture entries from now on. -/
def State.freshTask (s : State) (t : Nat) : State :=
  let home := s.reg TASK.TASKt_CFG.HOME t
  let st := if s.tKind t = 0 then TaskState.unused else TaskState.idle
  let d : TaskDyn := { (default : TaskDyn) with readPos := s.img.cqFirst + s.img.cq.length }
  let s := { s with tasks := { s.tasks with task := s.tasks.task.set t d } }
  let s := (s.setReg TASK.TASKt_STATE.STATE t st).setReg TASK.TASKt_STATE.CURBLK t home
  let s := (s.setReg TASK.TASKt_STATE.OVRRUN t 0).setReg TASK.TASKt_STATE.CAUSE t 0
  let s := ((s.setReg TASK.TASKt_STATE.OVR t 0).setReg TASK.TASKt_STATE.REHOMED t 0).setReg TASK.TASKt_WAKE.PENDING t 0
  (s.setReg TASK.TASKt_LSEQ_LO.SEQ t 0).setReg TASK.TASKt_LSEQ_HI.SEQ t 0

/-- The initial state area of a task (R251 CODE). -/
def State.initArea (s : State) (im : Image) (t : Nat) : State :=
  let c := im.tasks.get t
  s.each (List.range (8 * c.stateLines)) (fun s i => s.writeWord 0 (8 * c.stateBase + i) (im.init.get (8 * c.stateBase + i)))

/-- Free TCM of a block (R124): 64 KiB and 128 KiB in units of 64 bytes, less the footprints of its tasks. -/
def State.showTcm (s : State) (b : Nat) : State :=
  let ts := s.tasksOn b
  let i := (ts.map (fun t => s.reg TASK.TASKt_FOOT.ITCM t)).sum
  let d := (ts.map (fun t => s.reg TASK.TASKt_FOOT.DTCM t)).sum
  ((s.setReg BLK.TCMFREE.ITCM b (1024 - i)).setReg BLK.TCMFREE.DTCM b (2048 - d)).showHomed b

/-- The tasks of a load: all fresh, with their initial state areas; start tasks are owed; tasks of retired blocks move at once
(R115, R256, R468). -/
def State.loadTasks (s : State) (im : Image) : State :=
  let old := s.tasks.task.keys
  let s := s.stopCores
  let s := { s with tasks := { task := [], cfg := im.tasks, preempted := [], restartAt := s.tasks.restartAt, stateBuf := []
                               startOwed := true } }
  let s := s.each ((old ++ s.taskList).dedup) State.freshTask
  let s := s.each s.taskList (fun s t => s.initArea im t)
  let s := s.each (List.range 16) State.showTcm
  let out := (List.range 16).filter (fun b => s.reg BLK.STATUS.STATE b == BlockState.retired || s.regionPower (b / 4) != 0)
  (s.rehome out).showFaults

/-! ### Cells (R129 to R134, R146, R149) -/

/-- The fields that give a cell its shape; the others are run-time fields (R131). -/
def cellShape : List Fld :=
  [CELL.CELLc_CTRL.MODE, CELL.CELLc_CTRL.BASE, CELL.CELLc_CTRL.OUTDST, CELL.CELLc_CTRL.INVOUT, CELL.CELLc_IN01.IN0,
   CELL.CELLc_IN01.IN1, CELL.CELLc_IN23.IN2, CELL.CELLc_IN23.IN3, CELL.CELLc_IN23.SIGNAL, CELL.CELLc_IN23.DIR,
   CELL.CELLc_RULE.OP, CELL.CELLc_RULE.STORE, CELL.CELLc_RULE.EDGE, CELL.CELLc_RULE.STRETCH, CELL.CELLc_STAT.RTW,
   CELL.CELLc_STAT.CQ]

/-- The run-time fields of a cell. -/
def cellRunTime : List Fld :=
  [CELL.CELLc_CTRL.ARM, CELL.CELLc_CTRL.OUTACT, CELL.CELLc_CTRL.EPOCHV, CELL.CELLc_CTRL.EPOCH, CELL.CELLc_TARGET_LO.TARGET,
   CELL.CELLc_TARGET_HI.TARGET, CELL.CELLc_TARGET_LO.WSTART, CELL.CELLc_TARGET_HI.WWIDTH, CELL.CELLc_PERIOD.PERIOD,
   CELL.CELLc_STAT.PERIOD_HI]

/-- Two register tables agree on some fields of instance `i`. -/
def sameFields (a b : Tab Nat) (l : List Fld) (i : Nat) : Bool := l.all (fun f => a.get (f.key i) == b.get (f.key i))

/-- A cell starts from its image descriptor (R134, R256): latch and stretch stay when its shape is the one it had; the staging copy holds
the image's run-time fields, a MOVE cell to a pin the slot as committed last (R139), and ARM arms it. That only a REFLEX cell has an output of
its own to show, and every other reads 0 in STAT.OUT and at a CELL input, is the model's reading (R129, R135; DESIGN CHOICE,
notes/assumptions/114.md). -/
def State.loadCell (s : State) (kept : Bool) (c : Nat) : State :=
  let old := s.cells.cell.get c
  let m := s.reg CELL.CELLc_CTRL.MODE c
  let base : CellDyn := if kept then { old with winActive := false, lossOwed := false, clrReq := false }
    else { (default : CellDyn) with retired := old.retired, remapAt := old.remapAt, spares := old.spares }
  let lo := if m = CellMode.reflex then CELL.CELLc_TARGET_LO.WSTART else CELL.CELLc_TARGET_LO.TARGET
  let hi := if m = CellMode.reflex then CELL.CELLc_TARGET_HI.WWIDTH else CELL.CELLc_TARGET_HI.TARGET
  let s := s.updCell c (fun _ => { base with
    stLo := s.reg lo c, stHi := s.reg hi c, stPer := s.reg CELL.CELLc_PERIOD.PERIOD c, stPerHi := s.reg CELL.CELLc_STAT.PERIOD_HI c })
  let s := s.when (decide (m ≠ CellMode.reflex)) (fun s =>
    (s.setReg CELL.CELLc_STAT.OUT c 0).noteLevel (cellPlace c) s.now (s.flag CELL.CELLc_STAT.OUT c) false)
  let g := s.reg CELL.CELLc_IN23.SIGNAL c
  let s := s.when (decide (m = CellMode.move) && s.flag CELL.CELLc_IN23.DIR c) (fun s =>
    s.updCell c (fun d => { d with moveSample := (s.slotRead g).value, moveQual := s.copyQual g }))
  if m != CellMode.off && s.flag CELL.CELLc_CTRL.ARM c then s.armCell c else s

/-- A net that no cell drives reads 0 (R135, R141). -/
def State.dropNets (s : State) : State :=
  s.each ((s.cells.latch.keys).filter (fun l => decide (64 ≤ l) && (s.netBlock (l - 64)).isNone)) (fun s l => s.putLatch s.now l false)

/-- Strands and pins stand at home, or on the backup of a retired strand (R149, R150). -/
def State.placeStrands (s : State) : State :=
  let s := s.each (List.range 128) (fun s p =>
    let away := s.isRetired 2 p && s.flag CELL.STRANDs_CFG.BACKUP_EN p && !s.isRetired 2 (s.reg CELL.STRANDs_CFG.BACKUP p)
    s.setReg CELL.STRANDs_HOST.HOST p (if away then s.reg CELL.STRANDs_CFG.BACKUP p else p))
  s.each (List.range 64) (fun s p =>
    s.setReg CELL.PINp_ROUTE.CUR p (s.hostOf (s.reg CELL.PINp_ROUTE.HOME p)))

/-- A retired cell without a spare or the prospect of one, or one of a retired strand without a backup, is DEAD (R147, R149, R468). -/
def State.showDead (s : State) (c : Nat) : State :=
  let st := strandOf c
  let gone := s.isRetired 2 (s.hostOf st) || (s.isRetired 1 c && !s.flag CELL.CELLc_STAT.REMAPPED c &&
    !(s.cells.cell.get c).retired)
  if gone && s.reg CELL.CELLc_CTRL.MODE c != CellMode.off then s.killCell c else s

/-- The cells of a load. `old` is the register table before it. -/
def State.loadCells (s : State) (im : Image) (old : Tab Nat) : State :=
  let s := { s with cells := { s.cells with cfg := im.cells } }
  let used := fun (r : Tab Nat) => (List.range 4096).filter (fun c => r.get (CELL.CELLc_CTRL.MODE.key c) != 0)
  let cs := (used old ++ used s.regs).dedup
  let s := s.placeStrands
  let s := s.each cs (fun s c => s.loadCell (sameFields old s.regs cellShape c) c)
  let s := s.showRemaps cs
  let s := s.each (used s.regs) State.showDead
  s.dropNets.settle.showPins

/-! ### Bases (R21, R29, R53, R395) -/

/-- Base `b` starts: NOT_FITTED or UNUSED where `off` says so; otherwise it keeps what it has while its settings are the same and it is in
use, else it is not acquired. What a permitted write of the settings of a running shaft, mains or CAN base does the manual does not say:
DESIGN CHOICE, the base starts afresh, a shaft base at count 0 in ACQUIRING, with no step at the jump; it steps when it is acquired
(notes/assumptions/76.md). -/
def State.startBase (s : State) (b : Nat) (off : Option Nat) (start : Nat) (same : Bool) : State :=
  match off with
  | some st => s.setBaseState b st
  | none =>
    let cur := s.reg PHASE.BASEn_STATUS.STATE b
    let on := cur != BaseState.invalid && cur != BaseState.notFitted && cur != BaseState.unused
    if same && on then s
    else (s.updBase b (fun d => { d with lockedOnce := false, slewLeft := 0, holdAt := 0 })).setBaseState b start

/-- The encoder settings. -/
def encFlds : List Fld :=
  [PHASE.ENCe_CFG.CPT, PHASE.ENCe_CFG.ZMODE, PHASE.ENCe_CFG.VELN, PHASE.ENCe_CFG.SLIP, PHASE.ENCe_CFG.INVERT,
   PHASE.ENCe_ZOFF.ZOFF, PHASE.ENCe_STALL.STALL]

/-- The settings of a mains base. -/
def mainsFlds : List Fld := [PHASE.MAINSm_CFG.NOMV, PHASE.MAINSm_CFG.NOMF, PHASE.MAINSm_CFG.STEP_THR, PHASE.MAINSm_OFFSET.OFFSET]

/-- The settings of a domain track. -/
def trackFlds : List Fld :=
  [PTP.DOMk_CFG.EN, PTP.DOMk_CFG.NUM, PTP.DOMk_CFG.TRANS, PTP.DOMk_CFG.DELAY, PTP.DOMk_CFG.PORTS]

/-- Every base after a load or a permitted write of its settings; `old` is the register table before. A mains base acquires from its nominal
frequency (R53). -/
def State.startBases (s : State) (old : Tab Nat) : State :=
  let s := s.setBaseState 0 BaseState.locked
  let s := s.startBase 1 none BaseState.invalid (sameFields old s.regs [PTP.PLANT_CFG.SRC] 0)
  let s := s.each [0, 1, 2, 3] (fun s k =>
    let same := sameFields old s.regs trackFlds k
    let s := if same then s else s.updTrk k (fun _ => default)
    s.startBase (2 + k) (if s.flag PTP.DOMk_CFG.EN k then none else some BaseState.unused) BaseState.invalid same)
  let s := s.each [0, 1] (fun s m =>
    let nominal := if s.flag PHASE.MAINSm_CFG.NOMF m then 60000 else 50000
    let same := sameFields old s.regs mainsFlds m && (s.phase.base.get (6 + m)).lockedOnce
    let s := if same then s else s.updBase (6 + m) (fun d => { d with freqMilliHz := nominal })
    s.startBase (6 + m) (if s.flag SYS.UNITS.ACS then none else some BaseState.notFitted) BaseState.acquiring
      (sameFields old s.regs mainsFlds m))
  let s := s.each [0, 1, 2, 3] (fun s e =>
    let same := sameFields old s.regs encFlds e
    let s := if same then s else { s with phase := { s.phase with enc := s.phase.enc.set e default } }
    s.startBase (8 + e) (if s.reg PHASE.ENCe_CFG.CPT e = 0 then some BaseState.unused else none) BaseState.acquiring same)
  let roles := (List.range 4).filter (fun n => s.reg CAN.CTS_CFG.ROLE n != 0)
  let off := if !s.flag SYS.UNITS.CAN then some BaseState.notFitted else if roles = [] then some BaseState.unused else none
  s.startBase 12 off BaseState.invalid ((List.range 4).all (fun n => sameFields old s.regs [CAN.CTS_CFG.ROLE, CAN.CTS_CFG.BASE] n))

/-- A virtual base after a load (R27, R29, R49): its offset, source and ratio are those of the image. A value other than it had, or its
first one, is a step; `before` is the state before the load. The cells and tasks of the load meet the bases as they stand after it. -/
def State.loadVirtual (s : State) (before : State) (v : Nat) : State :=
  let b := 13 + v
  let s := { s with phase := { s.phase with virtOff := s.phase.virtOff.set v (s.stagedOffset v) } }
  let acq := before.acquires b s
  if acq || (before.baseFires b && s.baseFires b && s.baseVal b != before.baseVal b) then
    s.countStep b (before.baseVal b) (if acq then Cause.acquisition else Cause.setting)
  else s

/-- Every base after a load (R49, R53); `old` is the register table before it. -/
def State.loadBases (s : State) (old : Tab Nat) : State :=
  let before := { s.toTick with regs := old }
  (s.toTick.keepPastOf old).startBases old |>.each [0, 1, 2] (fun s v => s.loadVirtual before v)

/-! ### The other units -/

/-- What a load makes of the start-up test of pair `k` (R340): a STOP pair is TESTED, and what a pair has shown is kept until the module loses
power, also under another use. -/
def State.pairUse (s : State) (k use : Nat) : State :=
  s.when (use == 2) (fun s => s.setReg SAFE.STARTUP.TESTED 0 (putField k 1 (s.reg SAFE.STARTUP.TESTED) 1))

/-- What a load makes of function `i` (R343, R345): an ENC_FAULT stays latched; a function whose parameters the load changes begins INACTIVE
(DESIGN CHOICE, notes/assumptions/122.md). -/
def State.reloadFun (s : State) (im : SafeParams) (i : Nat) : State :=
  if s.safe.params.funs.get i = im.funs.get i ∨ (s.safe.fn.get i).st = FunState.encFault then s
  else s.updSafe (fun x => { x with fn := x.fn.upd i (fun d => { (default : FunDyn) with st := FunState.inactive, badAt := d.badAt }) })

/-- The safety parameters (R335, R354, R357): the check value, whether it is confirmed, every output off with no request. What is latched of
pairs, functions and outputs no load clears (R339, R345, R353). -/
def State.loadSafety (s : State) (im : Image) : State :=
  if !s.flag SYS.UNITS.SAFE then s
  else
    let s := s.setReg SAFE.CHECK.VALUE 0 im.safety.check
    let s := s.setFlag SAFE.STAT.CONFIRMED 0 (s.flag SAFE.STAT.CONFIRMED && s.reg SAFE.CONFIRMED.VALUE == s.reg SAFE.CHECK.VALUE)
    let s := s.each [0, 1, 2, 3] (fun s k => s.pairUse k (im.safety.pairs.get k).use)
    let s := s.each (List.range 8) (fun s i => s.reloadFun im.safety i)
    let s := (s.updSafe (fun x => { x with params := im.safety })).safeOff
    (s.each [0, 1, 2, 3] (fun s j => (s.updOut j (fun o => { o with req := false })).updOut j (fun o => { o with st := s.outJudge j }))).showSafe

/-- The CAN ports (R369, R379, R468): nothing pending, nothing received. -/
def State.loadCan (s : State) : State :=
  let s := { s with can := [] }
  let s := s.each (List.range 128) (fun s k =>
    (s.setReg CAN.TXBb_CFG.STATUS k 0).setReg CAN.TXBb_CFG.CANRES k 0)
  let s := s.each (List.range 32) (fun s k => s.setReg CAN.HPh_CFG.NEW k 0)
  let s := s.each [0, 1, 2, 3] (fun s n =>
    let s := (s.setReg CAN.TXQSTAT.FILL n 0).setReg CAN.TXPEND.PEND n 0
    ((s.setReg CAN.FIFOk_STAT.FILL (2 * n) 0).setReg CAN.FIFOk_STAT.FILL (2 * n + 1) 0).setFlag CAN.STAT.RETIRED n (s.isRetired 8 n))
  s.each ((List.range 4).filter s.canOn) State.freshPort

/-- The station rings (R198, R207): every configured station ABSENT, the others UNUSED. -/
def State.loadRings (s : State) (im : Image) : State :=
  let s := ({ s with rings := { s.rings with cfg := im.stations, sta := [], due := [] } }).showDerived
  let s := s.each (List.range 256) (fun s k =>
    let st := if s.flag STN.RINGr_STAa_CFG.PRESENT k then StaState.absent else StaState.unused
    (s.setReg STN.RINGr_STAa_STAT.STATE k st).setReg STN.RINGr_STAa_STAT.MISS k 0 |>.setReg STN.RINGr_STAa_STAT.ADMIT k 0)
  let s := s.each (List.range 256) (fun s k => s.resetSource k)
  (s.startRings false).showGood 0 |>.showGood 1

/-- R525: the inputs of every configured station, one delivery per station. -/
def State.initStations (s : State) : State :=
  s.each ((List.range 256).filter (fun k => s.flag STN.RINGr_STAa_CFG.PRESENT k)) (fun s k =>
    s.deliverModule 0xF001 ((s.rings.cfg.get k).inputs.map (fun g => (g, 0, Quality.bad + 8 * 16))))

/-- A hash of 256 bits in eight registers of 32 bits. -/
def State.showHash (s : State) (f : Fld) (h : Nat) : State := s.each (List.range 8) (fun s k => s.setReg f k (bitField (32 * k) 32 h))

/-- The image is applied (R254, R256): the LOAD step as a whole. In SYNC (`fresh` false) no module write is made (R525). -/
def State.loadImage (s : State) (im : Image) (fresh : Bool) : State :=
  let old := s.regs
  let s := s.dropForces im.dir
  let news := s.freshSignals im.dir
  let s := s.adoptSettings im
  let s := { s with struct := { s.struct with image := some im, changedAt := 0, oldStrainer := [] } }
  let s := (s.fillBudgets).putDirectory im.dir
  let s := (s.setReg STRUCT.IMAGE_ID.ID 0 im.id).showHash STRUCT.HASHk.HASH im.hash
  let s := { s with leaf := { s.leaf with colour := im.colours, badGroup := [] } }
  let s := (s.setReg GUARD.STAT.TAG_DEGRADED 0 0).setCause 6 false
  let s := s.loadTasks im
  let s := if fresh then s.initSignals news else s
  let s := (((s.loadBases old).loadCells im old).loadSafety im).loadCan
  let s := (s.loadRings im).startLoops
  let s := (s.each (List.range 64) (fun s p => s.setReg FPIN.PINp_STAT.RELEASED p 0)).showPins
  let s := if fresh then s.initStations else s
  ((((s.each (List.range 16) State.showStarved).capClocks).showBudget).showCeil).showDiverged

end Sys2Proof.Machine
end

