-- ==== Sys2Proof/Machine/FwOps.lean ====
section
/-! DEFINITION. Firmware parts (R433 to R449, R453): slots and control words, compatibility, the choice of a slot at boot, and what a
trial shows. Part codes run from 1; parts are numbered 0 RUNTIME, 1 SAFETY, 2 FRONTEND, 3 MODEM. -/

namespace Sys2Proof.Machine

/-- UPD.STAT.STATE. -/
def UpdState.idle : Nat := 0
def UpdState.receiving : Nat := 1
def UpdState.trial : Nat := 4
def UpdState.staged : Nat := 5
def UpdState.probation : Nat := 6

/-- Change what the model keeps of firmware. -/
def State.updUpd (s : State) (f : UpdSt → UpdSt) : State := { s with upd := f s.upd }

/-- The firmware image in a slot of a part. -/
def State.fwSlot (s : State) (p sl : Nat) : Option FwImage := s.upd.slots.get (2 * p + sl)

/-- The active slot of a part. -/
def State.fwActive (s : State) (p : Nat) : Nat := s.reg UPD.PARTp_STAT.ACTIVE p

/-- The slot of a part that is not active. -/
def State.fwOther (s : State) (p : Nat) : Nat := 1 - s.fwActive p

/-- The control word says that a slot holds a valid image. -/
def State.fwValid (s : State) (p sl : Nat) : Bool :=
  s.flag (if sl = 0 then UPD.PARTp_STAT.VALID_A else UPD.PARTp_STAT.VALID_B) p

/-- A slot's valid flag and the version registers, which read 0 when it is invalid (R457). -/
def State.setFwValid (s : State) (p sl : Nat) (b : Bool) : State :=
  let v := if b then ((s.fwSlot p sl).map (·.version)).getD 0 else 0
  if sl = 0 then
    (((s.setFlag UPD.PARTp_STAT.VALID_A p b).setReg UPD.PARTp_VA_HI.MAJOR p (v / 2 ^ 32)).setReg UPD.PARTp_VA_LO.MINOR p
      (v / 2 ^ 16)).setReg UPD.PARTp_VA_LO.PATCH p v
  else
    (((s.setFlag UPD.PARTp_STAT.VALID_B p b).setReg UPD.PARTp_VB_HI.MAJOR p (v / 2 ^ 32)).setReg UPD.PARTp_VB_LO.MINOR p
      (v / 2 ^ 16)).setReg UPD.PARTp_VB_LO.PATCH p v

/-- The slot of a part that would boot next (R442): the trial slot while a trial runs. -/
def State.fwNext (s : State) (p : Nat) : Nat := if s.flag UPD.PARTp_STAT.TRIAL p then s.fwOther p else s.fwActive p

/-- The slot a part runs from (R448). -/
def State.fwRunning (s : State) (p : Nat) : Nat :=
  if s.flag UPD.PARTp_STAT.TRIAL p && s.upd.attempted.get p then s.fwOther p
  else if s.fwValid p (s.fwActive p) then s.fwActive p else s.fwOther p

/-- The installed image of a part (R442). -/
def State.installed (s : State) (p : Nat) : Option FwImage := s.fwSlot p (s.fwNext p)

/-- An image's compatibility list accepts a version of a part code (R436). -/
def FwImage.accepts (x : FwImage) (code v : Nat) : Bool :=
  match x.compat.find? (fun e => e.1 == code) with
  | some e => decide (e.2.1 ≤ v ∧ v ≤ e.2.2)
  | none => true

/-- R442: image `x` for part `p` and every other part present accept each other. -/
def State.fwFits (s : State) (x : FwImage) (p : Nat) : Bool :=
  (List.range 4).all (fun q =>
    q == p || !s.flag UPD.PARTp_STAT.PRESENT q ||
      match s.installed q with
      | some y => x.accepts (q + 1) y.version && y.accepts (p + 1) x.version
      | none => true)

/-- R443: the RUNTIME images of the two units accept each other. -/
def peersAccept (x y : FwImage) : Bool := x.accepts 0x81 y.version && y.accepts 0x81 x.version

/-- An FW_EVENT record (R460): event, slot, major and minor version, with the part code as instance. -/
def State.fwEvent (s : State) (event p sl : Nat) : State :=
  let v := ((s.fwSlot p sl).map (·.version)).getD 0
  s.record 0xE06 (p + 1) (if 3 ≤ event ∧ event ≤ 5 then .fault else .info)
    [(1, event), (1, sl), (2, v / 2 ^ 32), (2, v / 2 ^ 16)]

/-- UPD.STAT.STATE and PART. -/
def State.setUpdState (s : State) (st p : Nat) : State := (s.setReg UPD.STAT.STATE 0 st).setReg UPD.STAT.PART 0 p

/-- The window and the dwell of part `p` open (R444, R446). -/
def State.openWindow (s : State) (st p : Nat) : State :=
  (s.setUpdState st p).updUpd (fun u => { u with windowAt := s.now + 1, dwellAt := s.now + 1 })

/-- STRUCT.KEYS follows the keys. -/
def State.showKeys (s : State) : State :=
  let held := (List.range 4).filter (fun p => (s.struct.keys.get p).isSome)
  (s.setReg STRUCT.KEYS.COUNT 0 held.length).setReg STRUCT.KEYS.MASK 0 ((held.map (fun p => 2 ^ p)).sum)

/-- What the parameter store holds (R451): the project keys, the confirmed check value and that it confirms the load. -/
def State.paramStore (s : State) : Tab (Option Nat) × Nat × Bool :=
  (s.struct.keys, s.reg SAFE.CONFIRMED.VALUE, s.flag SAFE.STAT.CONFIRMED)

/-- The RUNTIME runs on these settings of the parameter store. -/
def State.useParams (s : State) (x : Tab (Option Nat) × Nat × Bool) : State :=
  let s := { s with struct := { s.struct with keys := x.1 } }
  ((s.showKeys).setReg SAFE.CONFIRMED.VALUE 0 x.2.1).setFlag SAFE.STAT.CONFIRMED 0 x.2.2

/-- A failed trial of the RUNTIME leaves the old firmware its own area exactly as it left it (R453). -/
def State.restoreParams (s : State) : State :=
  match s.upd.kept with
  | some x => (s.useParams x).updUpd (fun u => { u with kept := none })
  | none => s

/-- R454: a RUNTIME that cannot migrate runs on defaults: no project keys, nothing confirmed. -/
def State.defaultParams (s : State) : State := s.useParams ([], 0, false)

/-- The area of a trial migration is released (R453). -/
def State.freeTrialArea (s : State) : State := (s.setReg UPD.PSTORE.TRIALV 0 0).setReg UPD.PSTORE.TRIALFMT 0 0

/-- R453, R454: a trial RUNTIME writes the settings in its own format into the other area when the live format lies within its range;
otherwise it runs on defaults. The live area keeps what it holds. -/
def State.migrate (s : State) (x : FwImage) : State :=
  let s := s.updUpd (fun u => { u with kept := some s.paramStore })
  let f := s.reg UPD.PSTORE.LIVEFMT
  if x.psmigMin ≤ f ∧ f ≤ x.psfmt then
    ((s.setReg UPD.PSTORE.TRIALV 0 1).setReg UPD.PSTORE.TRIALFMT 0 x.psfmt).updUpd (fun u => { u with migrated := true })
  else (s.defaultParams.setReg UPD.STAT.MIGFAIL 0 1).updUpd (fun u => { u with migrated := false })

/-- How the boot of a part goes on (R448). -/
inductive BootWay where
  | runs | recovery | stopped
  deriving DecidableEq, Repr

/-- The part enters RECOVERY, or its slot is settled on (R448). -/
def State.trialFailed (s : State) (p : Nat) : State × Bool :=
  let sl := s.fwOther p
  let s := (s.setReg UPD.PARTp_STAT.TRIAL p 0).updUpd (fun u => { u with attempted := u.attempted.set p false })
  let s := if p = 0 then s.freeTrialArea.restoreParams else s
  let s := (((s.fwEvent 3 p sl).setReg UPD.STAT.FELLBACK 0 1).addReg UPD.COUNTS.FALLBACKS 0 1).lifeAdd 0x152 1
  let policy := s.reg UPD.CFG.POLICY
  if policy = 1 then (s, true)
  else if policy = 2 then (s.setReg UPD.PARTp_STAT.PROBATION p 1, false)
  else (s, false)

/-- The boot ROM takes the active slot of a part, or the other one, or none (R448). -/
def State.settleSlot (s : State) (p : Nat) : State × BootWay :=
  let a := s.fwActive p
  let o := s.fwOther p
  let fits := match s.fwSlot p o with
    | some x => s.fwFits x p
    | none => false
  if s.fwValid p a then (s, .runs)
  else if s.fwValid p o && fits then (s.fwEvent 4 p a, .runs)
  else if p = 0 then (s, .recovery)
  else ((s.setReg UPD.PARTp_STAT.STOPPED p 1).fwEvent 5 p a, .stopped)

/-- R448: the boot ROM chooses the slot of a part. -/
def State.bootPart (s : State) (p : Nat) : State × BootWay :=
  if !s.flag UPD.PARTp_STAT.PRESENT p then (s, .runs)
  else
    let s := s.setReg UPD.PARTp_STAT.STOPPED p 0
    if s.flag UPD.PARTp_STAT.PROBATION p then (s, .recovery)
    else if s.flag UPD.PARTp_STAT.TRIAL p then
      if !s.upd.attempted.get p && s.fwValid p (s.fwOther p) then
        let s := s.updUpd (fun u => { u with attempted := u.attempted.set p true })
        let s := s.openWindow UpdState.trial p
        (match s.fwSlot p (s.fwOther p) with
          | some x => if p = 0 then s.migrate x else s
          | none => s, .runs)
      else
        let (s, rec_) := s.trialFailed p
        if rec_ then (s, .recovery)
        else
          let (s, w) := s.settleSlot p
          let s := if s.flag UPD.PARTp_STAT.PROBATION p && w == .runs then s.openWindow UpdState.probation p else s
          (s, w)
    else s.settleSlot p

/-- The boot ROM goes through the parts in ascending order and stops at one that sends it to RECOVERY (R448). -/
def State.bootParts : List Nat → State → State × Option Nat
  | [], s => (s, none)
  | p :: l, s =>
    match s.bootPart p with
    | (s, .recovery) => (s, some p)
    | (s, _) => State.bootParts l s

/-- MPROTO.OWN and the degradation cause of stopped parts after a choice of slots (R457, R479). -/
def State.showParts (s : State) : State :=
  let own := match s.fwSlot 0 (s.fwRunning 0) with
    | some x => x.mproto
    | none => s.reg UPD.MPROTO.OWN
  let stopped := (List.range 4).any (fun p => s.flag UPD.PARTp_STAT.STOPPED p)
  (s.setReg UPD.MPROTO.OWN 0 own).cause 8 stopped

/-- A staged image is still waiting after a reset (R441). -/
def State.showStaged (s : State) : State :=
  if s.upd.staged ≠ 0 ∧ s.reg UPD.STAT.STATE = UpdState.idle then s.setUpdState UpdState.staged (s.upd.staged - 1) else s

end Sys2Proof.Machine
end

