-- ==== Sys2Proof/Machine/Reset.lean ====
section
/-! DEFINITION. Module resets (R19, R468, R469, R485 to R489): what each kind restores, what survives it, and the way through BOOT. -/

namespace Sys2Proof.Machine

/-- Reset kinds (R486). -/
def ResetKind.power : Nat := 0
def ResetKind.brownout : Nat := 1
def ResetKind.carrier : Nat := 2
def ResetKind.watchdog : Nat := 3
def ResetKind.module : Nat := 4

/-- SYS.RESET.CAUSE of a MODULE reset (R519). -/
def ResetCause.modeReset : Nat := 1
def ResetCause.syncLost : Nat := 2
def ResetCause.trialStart : Nat := 3
def ResetCause.trialFailure : Nat := 4
def ResetCause.fromHalt : Nat := 5
def ResetCause.reinserted : Nat := 6

/-- Fields of code K that the Caddy or a contact holds: the authority epoch (R220) and the slot pin (R507). -/
def heldFlds : List Fld := [PAIR.EPOCH.EPOCH, PAIR.CFG.SLOT]

/-- A reset of kind `kind` leaves a field as it is (R19, R486): MODULE and above restore code M, BROWNOUT and POWER also code K. -/
def Fld.survives (f : Fld) (kind : Nat) : Bool :=
  match f.rst with
  | .P => true
  | .N => true
  | .K => decide (ResetKind.carrier ≤ kind) || heldFlds.any (fun g => g.id == f.id)
  | .M => false

/-- The register table after a reset: what does not survive takes its reset value; every run-time setting returns to its image value (R259,
R260), but for the descriptors of the cells, which run on until the image is applied (R134); the learned line resistance takes the
configured one (R330). -/
def State.restoreRegs (s : State) (kind : Nat) : State :=
  let keep := s.regs.filter (fun x => match fieldOfKey x.1 with
    | some f => f.survives kind
    | none => false)
  let back := fieldTable.filter (fun f => !f.survives kind && f.dflt != 0)
  let s := { s with regs := keep }
  let s := s.each back (fun s f => s.each (List.range f.count) (fun s i => s.setReg f i f.dflt))
  let ofCells := fun (k : Nat) => (fieldOfKey k).any (fun f => f.addr / 2 ^ 16 == 0x4040)
  let s := { s with regs := s.regs.filter (fun x => !keyFromImage x.1 || ofCells x.1) }
  let s := s.putSettings (s.settings.filter (fun x => !ofCells x.1))
  let s := { s with phase := { s.phase with virtOff := (List.range 3).foldl (fun (m : Tab Nat) v => m.set v (s.stagedOffset v)) [] } }
  s.each (List.range 32) (fun s c => s.setReg LOOP.CHc_LEARN.RLINE c (s.reg LOOP.CHc_LINE.RDEF c))

/-! ### The retirement map (R468, R469) -/

/-- A cell is in service again (R469). -/
def State.reviveCell (s : State) (c : Nat) : State :=
  if s.flag CELL.CELLc_STAT.DEAD c then (s.setReg CELL.CELLc_STAT.DEAD c 0).dropReg CELL.DEADCNT.COUNT 0 else s

/-- A cleared item returns to service with an empty history (R469). -/
def State.returnItem (s : State) (e : RetEntry) : State :=
  let s := { s with life := { s.life with
    occ := s.life.occ.set (itemKey e.kind e.index) []
    retired := s.life.retired.filter (fun x => !(x.kind == e.kind && x.index == e.index)) } }
  let s := s.dropReg LIFE.RETCNTk.COUNT (e.kind - 1)
  match e.kind with
  | 1 =>
    let p := s.hostOf (strandOf e.index)
    let n := s.reg CELL.STRANDs_STAT.SPARES p - (s.cells.cell.get e.index).spares
    let s := (s.reviveCell e.index).setReg CELL.STRANDs_STAT.SPARES p n
    (s.updCell e.index (fun d => { d with retired := false, spares := 0 })).showRemaps [e.index]
  | 2 =>
    let s := (s.setReg CELL.STRANDs_STAT.STATE e.index 0).setReg CELL.STRANDs_HOST.HOST e.index e.index
    let s := { s with cells := { s.cells with strandRestart := s.cells.strandRestart.set e.index 0 } }
    let cs := ((List.range 128).filter (fun l => s.hostOf l == e.index)).flatMap s.strandCells
    (s.each cs State.reviveCell).showRemaps cs
  | 6 => s.setReg FPIN.PINp_STAT.RETIRED e.index 0
  | 7 => s.setReg STN.PORTp_STAT.RETIRED e.index 0
  | 8 => s.setReg CAN.STAT.RETIRED e.index 0
  | 9 =>
    let s := { s with leaf := { s.leaf with pages := s.leaf.pages.set e.index 0 } }
    (s.setReg LEAF.PAGES.COUNT 0 s.leaf.pages.length).setReg LEAF.STAT.PAGE_FULL 0 0
  | _ => s

/-- Every item marked CLEAR_PENDING returns (R469). -/
def State.returnItems (s : State) : State := s.each (s.life.retired.filter (·.clearPending)) State.returnItem

/-- The items of the map are out of service from the start (R468), and the causes of R479 that outlast a reset stand. -/
def State.applyRetired (s : State) : State :=
  let rgn := fun r => s.isRetired 4 r
  let blk := fun b => s.isRetired 3 b || rgn (b / 4)
  let s := s.each ((List.range 16).filter blk) (fun s b => s.setReg BLK.STATUS.STATE b BlockState.retired)
  let s := s.each ((List.range 16).filter (fun b => !blk b && s.regionPower (b / 4) != 0)) (fun s b =>
    s.setReg BLK.STATUS.STATE b BlockState.stopped)
  let s := s.each [0, 1, 2, 3] (fun s r =>
    (s.setFlag RGN.STAT.RETIRED r (rgn r)).setReg RGN.STAT.BLOCKS r
      (([0, 1, 2, 3].map (fun k => if blk (4 * r + k) then 0 else 2 ^ k)).sum))
  let s := s.each [0, 1, 2, 3] (fun s r => s.setFlag KETTLE.STAT.REGION_OFF 0 (s.flag KETTLE.STAT.REGION_OFF || s.regionPower r != 0))
  let pins := (List.range 64).any (fun p => s.flag FPIN.PINp_STAT.RETIRED p && s.reg FPIN.PINp_CFG.DIR p == 2)
  let s := s.setCause 1 ([0, 1, 2, 3].any (fun r => s.regionPower r != 0))
  let s := (s.setCause 3 (s.reg CELL.DEADCNT.COUNT != 0)).setCause 4 pins
  (s.setCause 5 (s.flag LEAF.STAT.PAGE_FULL)).setCause 9 ((List.range 16).any blk)

/-! ### What survives (R489) -/

/-- Phase bases after a reset: PB1 to PB15 are to be acquired again; PB0 runs on, or starts from 0 in a new epoch. -/
def State.resetBases (s : State) (kind : Nat) : State :=
  let zero : BaseSt := default
  let b0 := if kind ≤ ResetKind.brownout then zero else s.phase.base.get 0
  let others : Tab BaseSt := (List.range 12).foldl (fun m i => m.set (i + 1) { zero with anchorT := s.now }) []
  let s := { s with phase := { s.phase with base := others.set 0 b0, enc := [], past := [] } }
  let s := { s with ptp := default }
  let s := (s.setReg PHASE.BASEn_EPOCH.EPOCH 0 s.pcyc).setBaseState 0 BaseState.locked
  s

/-- What of a cell lies in the retirement map (R150): that it waits for a spare, and the spares it has taken. -/
def CellDyn.evidence (d : CellDyn) : CellDyn :=
  { (default : CellDyn) with retired := d.retired, remapAt := d.remapAt, spares := d.spares }

/-- Cells and the pin stage (R134): kept by MODULE, WATCHDOG and CARRIER; with the supply all but the evidence is lost, and a restart of a
strand ends. -/
def State.resetCells (s : State) (kind : Nat) : State :=
  if ResetKind.brownout < kind then s
  else
    let cell : Tab CellDyn := s.cells.cell.foldl (fun (m : Tab CellDyn) x => m.set x.1 x.2.evidence) []
    let s := s.each ((List.range 128).filter (fun p => s.reg CELL.STRANDs_STAT.STATE p == 1)) (fun s p => s.setReg CELL.STRANDs_STAT.STATE p 0)
    { s with cells := { (default : CellsSt) with rawLevel := s.cells.rawLevel, cell := cell } }

/-- Memories (R280, R285, R489): the supply's loss initialises all of them and the Tray with the image and the forces; any reset reloads TCM
and region memory and ends flips and a pass of the scrubber. -/
def State.resetMemory (s : State) (kind : Nat) : State :=
  let off := decide (kind ≤ ResetKind.brownout)
  let keep := fun (x : Nat × Nat) => !off && decide (x.1 / 2 ^ 36 < 2)
  let s := { s with leaf := { (default : LeafSt) with
    data := s.leaf.data.filter keep, syn := s.leaf.syn.filter keep, colour := if off then sealedColours else s.leaf.colour
    pages := s.leaf.pages } }
  if off then
    { s with raced := [], img := { (default : ImageSt) with savedSeq := s.img.savedSeq, savedForces := s.img.savedForces }
             struct := { s.struct with image := none } }
  else
    { s with raced := [], img := { s.img with working := [], src := [], moveHeld := [], cmdHeld := [], issued := [], forceDropped := s.img.forceDropped } }

/-- The pair supervisor's side (R220): no claim, no stream; the epochs seen are kept while the supply is. -/
def State.resetPair (s : State) (kind : Nat) : State :=
  let p := s.pair
  let off := decide (kind ≤ ResetKind.brownout)
  { s with pair := { (default : PairSt) with
    linkUp := p.linkUp, linkDownAt := p.linkDownAt, hiPartner := if off then none else p.hiPartner
    hiRing := if off then none else p.hiRing, lastApplied64 := s.img.seq } }

/-- Recorder and evidence (R463, R467, R470, R488): the buffer and the occurrence histories go with the supply, lifetime counters go on
from the newer Caddy copy. -/
def State.resetRecorder (s : State) (kind : Nat) : State :=
  if kind ≤ ResetKind.brownout then
    let l := s.life
    let newer := !l.nextB
    { s with
      recorder := { s.recorder with buffer := [], lastRec := none, flushCount := 0, flushAgain := false, lostFault := 0, lostOther := 0
                                    cursor := [], window := [] }
      life := { l with occ := [], ctr := if newer then l.ctrB else l.ctrA, hist := if newer then l.histB else l.histA } }
  else { s with recorder := { s.recorder with cursor := [], window := [] } }

/-- The supply side (R487, R491 to R494): the shedding ends with the sequence; a recharge is owed after a loss of power; CARRIER and above
empty the history of WATCHDOG resets. -/
def State.resetPower (s : State) (kind : Nat) : State :=
  { s with power := { s.power with
    shed := false, warned := false, warnAt := 0, bootAt := s.now, holdPending := false, haltBeats := 0
    earlyBroke := false, resetKind := kind, hitAt := 0
    charged := if kind ≤ ResetKind.brownout then false else s.power.charged
    watchdogs := if kind ≤ ResetKind.carrier then [] else s.power.watchdogs } }

/-- BOOT begins (R448, R486): the boot ROM chooses the slots; a part that cannot run sends the unit to RECOVERY. A buffer that lived
through a WATCHDOG or CARRIER reset is flushed (R488). -/
def State.beginBoot (s : State) (kind : Nat) : State :=
  let s := (s.record 0xF03 0 .info [(1, kind)])
  let s := if kind = ResetKind.watchdog ∨ kind = ResetKind.carrier then s.startFlush else s
  let (s, rec_) := State.bootParts [0, 1, 2, 3] s
  match rec_ with
  | some p => (s.updUpd (fun u => { u with recovering := p + 1 })).enterMode .recovery
  | none =>
    let s := if s.upd.recovering = 0 then s else (s.setReg UPD.STAT.RECOVERED 0 1).updUpd (fun u => { u with recovering := 0 })
    s.showParts.showStaged

/-- With the supply gone PB0 starts from 0 (R28, R489); operating time goes on. -/
def State.restartClock (s : State) (kind : Nat) : State :=
  if kind ≤ ResetKind.brownout then
    { s with recorder := { s.recorder with opBase := s.opTime }, power := { s.power with wall := s.power.wall + s.now }, now := 0 }
  else s

/-- The Kettle after a reset (R172): the power state of a region and its count toward the 60 s lie in the always-on domain; a region that is
STOPPING becomes OFF at once. -/
def State.resetKettle (s : State) (kind : Nat) : State :=
  let cool := if kind ≤ ResetKind.brownout then [] else s.kettle.coolSince
  let s := { s with kettle := { (default : KettleSt) with coolSince := cool } }
  (s.each ([0, 1, 2, 3].filter (fun r => s.regionPower r == 1)) State.regionOff).capClocks

/-- A reset of a kind that passes BOOT (R486 to R489). -/
def State.resetUnit (s : State) (kind cause : Nat) : State :=
  let s := if kind = ResetKind.module then s.flushNow else s
  let old := s.mode
  let s := s.stopCores.clearStream
  let s := s.enterMode .boot
  let s := s.emit .moduleReset
  let count := s.reg SYS.RESET.COUNT
  let s := s.restoreRegs kind
  let s := (s.setReg SYS.RESET.KIND 0 kind).setReg SYS.RESET.CAUSE 0 cause
  let s := if ResetKind.carrier ≤ kind then s.setReg SYS.RESET.COUNT 0 (satAdd 16 count 1) else s
  let s := { (s.restartClock kind) with latches := [], prevMode := .off }
  let s := { s with tasks := { (default : TasksSt) with cfg := s.tasks.cfg } }
  let s := (((s.resetBases kind).resetCells kind).resetMemory kind).resetPair kind
  let s := (s.resetRecorder kind).resetPower kind
  let s := { (s.resetKettle kind) with
    can := [], loops := { (default : LoopSt) with shortAt := [] }
    rings := { (default : RingsSt) with cfg := s.rings.cfg }
    safe := { (default : SafeSt) with params := s.safe.params }
    struct := { s.struct with loading := none, prepared := none, affected := [], commitMseq := none, traffic := 0, holdAt := 0, commitAt := 0,
                               changedAt := 0, oldStrainer := [] }
    port := default
    upd := { s.upd with windowAt := 0, dwellAt := 0, migrated := false } }
  let s := if kind ≤ ResetKind.brownout then s else (s.countForces).setReg IMAGE.AGEDCNT.COUNT 0
    (s.img.slots.filter (fun x => x.2.aged)).length
  let s := s.returnItems.applyRetired
  let s := if kind ≤ ResetKind.brownout then s.record 0xF05 0 .info [(1, old.code), (1, Mode.boot.code), (2, 0), (1, 0), (1, 0)] else s
  ((s.beginBoot kind).showPins).showCeil

/-- A MODULE reset (R486). A MODE RESET empties the history of watchdog resets (R487). -/
def State.moduleReset (s : State) (cause : Nat) : State :=
  let s := if cause = ResetCause.modeReset then { s with power := { s.power with watchdogs := [] } } else s
  s.resetUnit ResetKind.module cause

/-! ### Restarting one firmware part (R444, R447, R448) -/

/-- The safety unit restarts with full self-tests: its outputs de-energise, its page is as after a module reset (R364, R444). -/
def State.restartSafety (s : State) : State :=
  let s := s.each (fieldTable.filter (fun f => f.addr / 2 ^ 16 == 0x4016 && f.rst == .M)) (fun s f =>
    s.each (List.range f.count) (fun s i => s.setReg f i f.dflt))
  ({ s with safe := { (default : SafeSt) with params := s.safe.params } }).cause 7 false

/-- The modem restarts: CELL is down meanwhile (R444). -/
def State.restartModem (s : State) : State := (s.sense PORT.CELL_STAT.REG 0 0).sense PORT.STAT.CELL_UP 0 0

/-- A part starts again: RUNTIME through a module reset, the others by themselves, from the slot the boot ROM chooses (R444, R447, R448).
A choice that leads to RECOVERY passes BOOT (R482). -/
def State.restartPart (s : State) (p cause : Nat) : State :=
  if p = 0 then s.moduleReset cause
  else
    let u := (s.setUpdState 0 0).setReg UPD.STAT.FAILED 0 0
    match (u.updUpd (fun x => { x with windowAt := 0, dwellAt := 0 })).bootPart p with
    | (_, .recovery) => s.moduleReset cause
    | (u, _) =>
      let u := u.showParts.showStaged
      if p = 1 then u.restartSafety else if p = 2 then u.stopFrontend else u.restartModem

/-- R487: a WATCHDOG reset; the third within 1 h of operating time sends the next BOOT to HALT. -/
def State.watchdogReset (s : State) (cause : Nat) : State :=
  let recent := s.opTime :: s.power.watchdogs.filter (fun x => decide (s.opTime ≤ x + 3600000))
  let s := ({ s with power := { s.power with watchdogs := recent } }).lifeAdd 0x150 1
  let s := s.resetUnit ResetKind.watchdog cause
  if 3 ≤ recent.length ∧ s.mode = .boot then
    ((s.setReg SYS.HALTWHY.WHY 0 2).enterMode .halt).showPins.flushNow
  else s

/-! ### Variants (R3) -/

/-- The units a variant carries (R3), in the order of UNITS: SAFE, MODEM, CAN, LOOP, ACS. Codes: 0 X, 1 N, 2 P, 3 B (R519). -/
def variantUnits (v : Nat) : Nat :=
  match v with
  | 0 => 31
  | 1 => 29
  | 2 => 28
  | _ => 0

/-- The flags of SYS.UNITS with their bits. -/
def unitFlds : List (Fld × Nat) :=
  [(SYS.UNITS.SAFE, 0), (SYS.UNITS.MODEM, 1), (SYS.UNITS.CAN, 2), (SYS.UNITS.LOOP, 3), (SYS.UNITS.ACS, 4)]

/-- A firmware part the variant does not have (R433). -/
def State.withoutPart (s : State) (p : Nat) : State :=
  let s := (s.setReg UPD.PARTp_STAT.PRESENT p 0).setReg UPD.PARTp_STAT.VALID_A p 0
  s.updUpd (fun u => { u with slots := u.slots.set (2 * p) none })

/-- A unit of variant `v` right after reset (R3, R433): its code, its units and the parts that run on them. Variant X is `State.reset`. -/
def State.resetOf (v : Nat) : State :=
  let u := variantUnits v
  let s := State.reset.setReg SYS.VARIANT.CODE 0 v
  let s := s.each unitFlds (fun s x => s.setFlag x.1 0 (bitOf x.2 u))
  s.each [(1, 0), (2, 3), (3, 1)] (fun s x => if bitOf x.2 u then s else s.withoutPart x.1)

end Sys2Proof.Machine
end

