-- ==== Sys2Proof/Machine/Valid.lean ====
section
/-! DEFINITION. The values the manual allows a field (R252 reasons 8 and 9, R523): ranges of single fields, and rules that join fields. -/

namespace Sys2Proof.Machine

/-- The ranges the field maps state, as field, lowest and highest value. A field that is not listed takes any value of its width. -/
def fieldRanges : List (Fld × Nat × Nat) :=
  [(PHASE.ENCe_CFG.ZMODE, 0, 2), (PHASE.ENCe_STALL.STALL, 1, 65535), (PHASE.MAINSm_CFG.NOMV, 1000, 2400),
   (PHASE.MAINSm_CFG.STEP_THR, 1, 255), (PHASE.REF_CFG.SRC, 0, 2), (PHASE.VIRTv_NUM.NUM, 1, 2 ^ 32 - 1),
   (PHASE.VIRTv_DEN.DEN, 1, 2 ^ 32 - 1), (TASK.TASKt_CFG.FAULT_LIM, 1, 255), (TASK.TASKt_FLOOR.FLOOR, 0, 10000000),
   (TASK.TASKt_CEIL.CEIL, 50, 10000000), (TASK.TASKt_CQ.CQMAX, 0, 1024), (CELL.CELLc_CTRL.MODE, 0, 6),
   (CELL.CELLc_RULE.OP, 0, 3), (CELL.CELLc_RULE.STORE, 0, 2), (KETTLE.BUDGET.BUDGET, 100, 300),
   (KETTLE.BLKb_QUOTA.QUOTA, 0, 0x7FFFFFFF), (KETTLE.COSTCFG.SHIFT, 1, 6)] ++
  [(STN.RINGr_CFG.DROPN, 1, 15), (STRUCT.OLC_CFG.HOLDMAX, 1, 1000), (LOOP.CHc_CFG.VMIN, 50, 200),
   (LOOP.CHc_DAMP.TAU, 0, 320), (FPIN.PINp_CFG.DIR, 0, 2), (CAN.CFG.MODE, 0, 1), (CAN.NPCFG.PAUSE, 0, 60000),
   (CAN.BOCFG.DELAY, 0, 10000), (CAN.NBT.TSEG1, 1, 255), (CAN.FIFOk_STAT.RXMAX, 1, 64), (CAN.CTS_CFG.ROLE, 0, 2),
   (CAN.CTS_CFG.BASE, 0, 5), (CAN.CTS_CFG.HOLDTO, 1, 255),
   (CAN.CTS_CFG.STEP_THR, 1, 65535), (CAN.CTS_PERIOD.MS, 10, 1000), (CAN.SFk_W1.ACTION, 0, 10),
   (PTP.PLANT_CFG.HOLDTO, 1, 255), (PTP.PLANT_STEP.THR, 1, 1000000), (PTP.PLANT_SWMAX.MAX, 1, 1000000),
   (PTP.DOMk_CFG.LOGDREQ, 0, 5), (PTP.DOMk_CFG.ANNTO, 2, 10), (UPD.CFG.POLICY, 0, 2), (UPD.CFG.WINDOW, 1, 120),
   (UPD.CFG.DWELL, 10, 600), (LIFE.WINDOWk.W, 1, 16777215)]

/-- The range of N of each retry budget (R467). -/
def budgetRange (kind : Nat) : Nat × Nat :=
  match kind with
  | 1 => (2, 10) | 2 => (2, 20) | 3 => (2, 10) | 4 => (2, 4) | 5 => (2, 20) | 6 => (10, 1000) | 7 => (2, 100) | 8 => (2, 100)
  | _ => (2, 64)

/-- One field's value alone lies within its range. -/
def fieldValid (f : Fld) (i v : Nat) : Bool :=
  if f = PHASE.ENCe_CFG.CPT then v == 0 || (v % 4 == 0 && decide (4 ≤ v ∧ v ≤ 65532))
  else if f = LIFE.BUDGETk.N then let r := budgetRange (i + 1); decide (r.1 ≤ v ∧ v ≤ r.2)
  else if f = PHASE.VIRTv_SRC.SRC then decide (v < 13 + i)
  else if f = CAN.XFk_W2.WORD then decide (bitField 0 4 v ≤ 10)
  else match fieldRanges.find? (fun x => x.1.id == f.id) with
    | some (_, lo, hi) => decide (lo ≤ v ∧ v ≤ hi)
    | none => true

/-! ### Rules that join settings -/

/-- R112: a CYCLIC task names an ERROR task, and a START task when it names one, of its own class or higher. -/
def State.errTaskOk (s : State) (t : Nat) : Bool :=
  let named := fun (x kind : Nat) => s.tKind x == kind && x != t && decide (s.tClass x ≤ s.tClass t)
  s.tKind t != TaskKind.cyclic || (named (s.reg TASK.TASKt_CFG.ERRTASK t) TaskKind.error &&
    (!s.flag TASK.TASKt_START.EN t || named (s.reg TASK.TASKt_START.TASK t) TaskKind.start))

/-- R394: an enabled track has a port, and shares its domain and transport with no other. -/
def State.tracksOk (s : State) : Bool :=
  let on := (List.range 4).filter (fun k => s.flag PTP.DOMk_CFG.EN k)
  on.all (fun k => s.reg PTP.DOMk_CFG.PORTS k != 0 && on.all (fun j => j == k ||
    !(s.reg PTP.DOMk_CFG.NUM j == s.reg PTP.DOMk_CFG.NUM k && s.reg PTP.DOMk_CFG.TRANS j == s.reg PTP.DOMk_CFG.TRANS k)))

/-- R400: with SRC PTP the primary is enabled, and so is another track named as secondary. -/
def State.plantOk (s : State) : Bool :=
  let p := s.reg PTP.PLANT_CFG.PRIM
  let q := s.reg PTP.PLANT_CFG.SEC
  !s.flag PTP.PLANT_CFG.SRC || (s.flag PTP.DOMk_CFG.EN p && (!s.flag PTP.PLANT_CFG.SECEN || (p != q && s.flag PTP.DOMk_CFG.EN q)))

/-- R386: at most one port has a role, and a master does not steer the reference it reads. -/
def State.rolesOk (s : State) : Bool :=
  let l := (List.range 4).filter (fun n => s.reg CAN.CTS_CFG.ROLE n != 0)
  decide (l.length ≤ 1) && !(s.reg PHASE.REF_CFG.SRC == 2 && l.any (fun n => s.reg CAN.CTS_CFG.ROLE n == 1))

/-- R326, R327: the HART addresses of a channel. Address 0 stands only in ANALOG_HART, as the channel's single device; a word of 0 in another
slot is an empty slot. -/
def State.hartAddrOk (s : State) (c : Nat) : Bool :=
  let a := (List.range 5).map (fun k => bitField (6 * k) 6 (s.reg LOOP.CHc_HADDR.ADDR c))
  match s.reg LOOP.CHc_CFG.MODE c with
  | 2 => a.drop 1 == [0, 0, 0, 0]
  | 3 => (a.head? != some 0) && !s.flag LOOP.CHc_SIG.EN c
  | _ => true

/-- The directory gives a signal a type. -/
def State.declaredAs (s : State) (g type : Nat) : Bool := (s.img.dir.get g).any (fun d => d.type == type)

/-- The source class of a signal's owner (R60); none for an unused identity. -/
def State.ownerClass (s : State) (g : Nat) : Option Nat := (s.img.dir.get g).map (fun d => d.owner / 4096)

/-- R317, R326: the types of the signals a channel delivers into. -/
def State.loopTypesOk (s : State) (c : Nat) : Bool :=
  let real := fun (en sig : Fld) => !s.flag en c || s.declaredAs (s.reg sig c) 3
  let h := s.reg LOOP.CHc_HSIG.SIGNAL c
  let devices := if s.flag LOOP.CHc_HSIG.EN c then s.hartDevices c else []
  real LOOP.CHc_SIG.EN LOOP.CHc_SIG.SIGNAL && real LOOP.CHc_SIGMA.EN LOOP.CHc_SIGMA.SIGNAL &&
    devices.all (fun k => ([0, 1, 2, 3].all (fun v => s.declaredAs (h + 5 * k + v) 3)) && s.declaredAs (h + 5 * k + 4) 2)

/-- The rules of a loop channel in use (R317, R326, R327, R330). -/
def State.channelOk (s : State) (c : Nat) : Bool :=
  s.reg LOOP.CHc_CFG.MODE c == 0 ||
    (s.hartAddrOk c && s.loopTypesOk c && s.reg LOOP.CHc_SCALE_LO.LO c != s.reg LOOP.CHc_SCALE_HI.HI c)

/-- R188: the base of a ring is not a shaft base nor derived from one, and its period in time lies between 250 µs and 100 ms. -/
def State.ringGridOk (s : State) (r : Nat) : Bool :=
  let b := s.rootBase 3 (s.reg STN.RINGr_CFG.BASE r)
  let p := s.periodTime r
  (decide (b < 8) || b == 12) && decide (us 250 ≤ p ∧ p ≤ msec 100)

/-- R188, R193: the grid of a ring is allowed, and its period is not below the ring's shortest one. -/
def State.ringOk (s : State) (r : Nat) : Bool := s.ringGridOk r && decide (s.minPeriod r ≤ s.periodTime r)

/-- The quanta of a bit, in CAN clocks of 80 MHz (R371): the fields hold their values less 1. -/
def bitClocks (brp tseg1 tseg2 : Nat) : Nat := (brp + 1) * (1 + (tseg1 + 1) + (tseg2 + 1))

/-- The image gives a port one of its bit rates: the port is ON, or a field of the rate is stated (R371). -/
def State.givesRate (s : State) (n : Nat) (fs : List Fld) : Bool := s.reg CAN.CFG.MODE n == 1 || fs.any (fun f => s.reg f n != 0)

/-- R368, R371, R372: the bit timing of a port, ON or OFF: SJW within TSEG2, the nominal rate from 10 kbit/s to 1 Mbit/s, the data rate from
it to 8 Mbit/s, compensation with a data prescaler of 1 or 2 and with any data rate above 1 Mbit/s. A rate that the image gives no field of
is not judged (notes/assumptions/91.md). -/
def State.timingOk (s : State) (n : Nat) : Bool :=
  let nom := bitClocks (s.reg CAN.NBT.BRP n) (s.reg CAN.NBT.TSEG1 n) (s.reg CAN.NBT.TSEG2 n)
  let dat := bitClocks (s.reg CAN.DBT.BRP n) (s.reg CAN.DBT.TSEG1 n) (s.reg CAN.DBT.TSEG2 n)
  let hasNom := s.givesRate n [CAN.NBT.BRP, CAN.NBT.TSEG1, CAN.NBT.TSEG2, CAN.NBT.SJW]
  let hasDat := s.givesRate n [CAN.DBT.BRP, CAN.DBT.TSEG1, CAN.DBT.TSEG2, CAN.DBT.SJW]
  decide (s.reg CAN.NBT.SJW n ≤ s.reg CAN.NBT.TSEG2 n ∧ s.reg CAN.DBT.SJW n ≤ s.reg CAN.DBT.TSEG2 n) &&
    (!hasNom || decide (80 ≤ nom ∧ nom ≤ 8000)) && (!hasDat || (decide (10 ≤ dat) && (!hasNom || decide (dat ≤ nom)))) &&
    (if s.flag CAN.TDC.EN n then decide (s.reg CAN.DBT.BRP n ≤ 1) else !hasDat || decide (80 ≤ dat))

/-- R375: the fields of a map lie within the 64 data bytes, and its counter byte outside its fields. -/
def State.mapFits (s : State) (n m : Nat) : Bool :=
  let off := s.reg CAN.MAPm_FMT.OFF (n * 64 + m)
  let fin := off + ((s.mapSignals n m).map (fun g => fieldBytes (s.sigType g))).sum
  let c := s.reg CAN.MAPm_FMT.CNTOFF (n * 64 + m)
  decide (fin ≤ 64) && (!s.flag CAN.MAPm_FMT.CNTEN (n * 64 + m) || decide (c < off ∨ fin ≤ c))

/-- The maps of a port that its filters deliver through (R375). -/
def State.rxMaps (s : State) (n : Nat) : List Nat :=
  let std := ((List.range 128).filter (fun k => s.flag CAN.SFk_W1.MAPEN (n * 128 + k))).map (fun k => s.reg CAN.SFk_W1.MAP (n * 128 + k))
  let ext := ((List.range 64).map (fun k => s.reg CAN.XFk_W2.WORD (n * 64 + k))).filter (fun w => bitOf 10 w)
  (std ++ ext.map (bitField 4 6)).dedup

/-- R375, R378: every map in use fits, its signals are owned by the port, or by the owner task of the MAPPED buffer that uses it. -/
def State.mapsOk (s : State) (n : Nat) : Bool :=
  let owned := fun (m o : Nat) => (s.mapSignals n m).all (fun g => (s.img.dir.get g).any (fun d => d.owner == o))
  let bufs := (List.range 32).filter (fun b => s.flag CAN.TXBb_CFG.MAPPED (txKey n b))
  (s.rxMaps n).all (fun m => s.mapFits n m && owned m (0x4000 + n)) &&
    bufs.all (fun b => let m := s.reg CAN.TXBb_CFG.MAP (txKey n b)
      s.mapFits n m && owned m (s.reg CAN.TXBb_CFG.OWNER (txKey n b)))

/-- The rules of a CAN port: its bit timing, and its maps while it is ON (R368 to R378). -/
def State.portOk (s : State) (n : Nat) : Bool := s.timingOk n && (s.reg CAN.CFG.MODE n != 1 || s.mapsOk n)

/-- R307: a FOLLOW pin names a BOOL that a task owns. -/
def State.followOk (s : State) (p : Nat) : Bool :=
  let g := s.reg FPIN.PINp_FOLLOW.SIGNAL p
  !(s.reg FPIN.PINp_CFG.DIR p == 2 && s.flag FPIN.PINp_CFG.SRC p) || (s.declaredAs g 0 && s.ownerClass g == some 0)

/-- R141, R303: what one of the used cells `l` drives has one REFLEX driver or any number of others; a driven pin is an output that
follows no signal. -/
def State.driverOk (s : State) (l : List Nat) (c : Nat) : Bool :=
  let d := (s.cells.cfg.get c).dest
  let alone := fun (kind : Nat) =>
    let same := l.filter (fun k => s.drives k kind && (s.cells.cfg.get k).dest == d)
    same.length == 1 || !same.any (fun k => s.reg CELL.CELLc_CTRL.MODE k == CellMode.reflex)
  if s.drives c 1 then decide (d < 64) && alone 1 && s.reg FPIN.PINp_CFG.DIR d == 2 && !s.flag FPIN.PINp_CFG.SRC d
  else if s.drives c 2 then decide (d < 1024) && alone 2
  else true

/-- The input selectors a mode uses (R135). -/
def State.selectors (s : State) (c : Nat) : List Nat :=
  let m := s.reg CELL.CELLc_CTRL.MODE c
  let first := s.reg CELL.CELLc_IN01.IN0 c
  if m = CellMode.reflex then [first, s.reg CELL.CELLc_IN01.IN1 c, s.reg CELL.CELLc_IN23.IN2 c, s.reg CELL.CELLc_IN23.IN3 c]
  else if m = CellMode.capture ∨ m = CellMode.window ∨ (m = CellMode.move ∧ !s.flag CELL.CELLc_IN23.DIR c) then [first]
  else []

/-- R303: no input of a cell names a pin that is UNUSED. -/
def State.pinInputsOk (s : State) (c : Nat) : Bool :=
  (s.selectors c).all (fun w => bitField 13 3 w != 1 || s.reg FPIN.PINp_CFG.DIR (bitField 0 12 w) != 0)

/-- The fast pins' settings as they join with the cells and the directory (R141, R303, R307). -/
def State.pinsOk (s : State) : Bool :=
  let l := s.usedCells
  (List.range 64).all (fun p => s.followOk p) && l.all (fun c => s.driverOk l c && s.pinInputsOk c)

/-- The tasks homed on block `b` (R94). -/
def State.homedOn (s : State) (b : Nat) : List Nat :=
  (List.range 256).filter (fun t => s.tKind t != 0 && s.reg TASK.TASKt_CFG.HOME t == b)

/-- R94: at most 32 tasks are homed on a block. -/
def State.homesFit (s : State) (b : Nat) : Bool := decide ((s.homedOn b).length ≤ Config.tasksPerBlock)

/-- R94: the footprints of a block's tasks, in units of 64 bytes, fit its instruction TCM of 64 KiB and its data TCM of 128 KiB. -/
def State.footFits (s : State) (b : Nat) : Bool :=
  let foot := fun (f : Fld) => ((s.homedOn b).map (fun t => s.reg f t)).sum
  decide (foot TASK.TASKt_FOOT.ITCM ≤ 1024 ∧ foot TASK.TASKt_FOOT.DTCM ≤ 2048)

/-- The rules that join the registers of a task's page (R94, R112). -/
def State.taskPageOk (s : State) (t : Nat) : Bool :=
  let b := s.reg TASK.TASKt_CFG.HOME t
  (List.range 256).all (fun u => s.errTaskOk u) && s.homesFit b && s.footFits b

/-- The joined rules a written register of a page must keep, judged on the state the write would give (R523). -/
def State.pageOk (s : State) (addr : Nat) : Bool :=
  let page := addr / 2 ^ 16
  if page = 0x4004 then let t := (addr % 2 ^ 16) / 64; !decide (t < 256) || s.taskPageOk t
  else if page = 0x400D then s.tracksOk && s.plantOk
  else if page = 0x400E then s.ringOk 0 && s.ringOk 1
  else if 0x4010 ≤ page ∧ page < 0x4014 then s.rolesOk && s.portOk (page - 0x4010)
  else if page = 0x4015 then s.pinsOk
  else if page = 0x4002 then s.rolesOk
  else if page = 0x4014 then
    let c := (addr % 2 ^ 16) / 64
    !decide (c < 32) || s.channelOk c
  else true

/-! ### A whole image -/

/-- The section of a structure image that holds the fields of a page (R251). -/
def sectionOf (addr : Nat) : Nat :=
  match addr / 2 ^ 16 with
  | 0x4001 => 8 | 0x4002 => 6 | 0x4004 => 2 | 0x4005 => 0xE | 0x4006 => 0x10 | 0x4008 => 9 | 0x4009 => 0x10 | 0x400A => 0x10
  | 0x400B => 0x10 | 0x400C => 0xD | 0x400D => 0xC | 0x400E => 7 | 0x4014 => 0xB | 0x4015 => 5 | 0x4016 => 0xF
  | 0x4040 => 4 | 0x4041 => 4 | 0x4042 => 5
  | p => if 0x4010 ≤ p ∧ p < 0x4014 then 0xA else if 0x4020 ≤ p ∧ p < 0x4030 then 2 else 8

/-! ### What an on-line change may alter (R270) -/

/-- Pages whose settings an on-line change may not alter, with their sections: PHASE, TIME, PAIR, SYSTEM. -/
def frozenSection (sec_ : Nat) : Bool := sec_ == 6 || sec_ == 0xC || sec_ == 0xE || sec_ == 0x10

/-- Fields in other sections that an on-line change may not alter. -/
def frozenFlds : List Fld :=
  [STN.RINGr_CFG.EN, STN.RINGr_CFG.BASE, STN.RINGr_PLEN_LO.PLEN, STN.RINGr_PLEN_HI.PLEN, STN.RINGr_ANCH_LO.ANCH,
   STN.RINGr_ANCH_HI.ANCH, FPIN.PINp_CFG.ITYPE, CAN.NBT.BRP, CAN.NBT.TSEG1, CAN.NBT.TSEG2, CAN.NBT.SJW,
   CAN.DBT.BRP, CAN.DBT.TSEG1, CAN.DBT.TSEG2, CAN.DBT.SJW, CAN.TDC.TDCO, CAN.TDC.EN, CAN.CTS_CFG.ROLE]

/-- The keys of two settings tables that differ. -/
def changedKeys (a b : Tab Nat) : List Nat :=
  ((a.keys ++ b.keys).dedup).filter (fun k => keyFromImage k && fitKey k (a.get k) != fitKey k (b.get k))

/-- A change of a pin's direction that R270 bars: from input to output or back; a pin may come into use or go out of it. -/
def turnsPin (a b : Tab Nat) (k : Nat) : Bool :=
  k / 2 ^ 20 == FPIN.PINp_CFG.DIR.id && fitKey k (a.get k) != 0 && fitKey k (b.get k) != 0

/-- R270: the first thing the resulting image may not change, as section and item. -/
def frozenFault (old new : Image) : Option (Nat × Nat) :=
  let mask := fun (im : Image) => fitKey (PORT.IMGCEIL.WORD.key 0) (im.settings.get (PORT.IMGCEIL.WORD.key 0))
  let reme := fun (im : Image) => im.settings.get (PORT.CFG.REMENG.key 0) % 2
  let flags := fun (im : Image) (g : Nat) => (im.dir.get g).map (fun d => (d.mirrored, d.safety))
  if let some g := (declared old.dir).find? (fun g => (flags new g).isSome && flags new g != flags old g) then some (1, g)
  else if let some k := (changedKeys old.given new.given).find? (fun k => match fieldOfKey k with
      | some f => frozenFlds.any (fun g => g.id == f.id) || turnsPin old.given new.given k || frozenSection (sectionOf f.addr)
      | none => false) then
    some (((fieldOfKey k).map (fun f => sectionOf f.addr)).getD 0, k % 2 ^ 20)
  else if mask new &&& mask old ≠ mask new ∨ reme old < reme new then some (0xD, 0)
  else if new.remote.any (fun r => !old.remote.any (fun q => q.sig == r.sig)) then some (0xD, 1)
  else if new.safety ≠ old.safety then some (0xF, 0)
  else if new.key ≠ old.key then some (0x11, 0)
  else none

end Sys2Proof.Machine
end

