-- ==== Sys2Proof/Machine/LoadCheck.lean ====
section
/-! DEFINITION. What a structure image is judged by (R252 reasons 7 to 10): the settings of each section alone, the rules that join them,
the sizes, and the units they name. A flaw is a reason, a section and an item; among flaws of one reason the lowest section and then
the lowest item counts (notes/assumptions/91.md). -/

namespace Sys2Proof.Machine

/-- A failure under R252: reason code, section identifier, item index. -/
abbrev Flaw := Nat × Nat × Nat

/-- The first item of a list that breaks a rule, as a flaw. -/
def flawAt (reason sec_ : Nat) (l : List Nat) (bad : Nat → Bool) : List Flaw := ((l.find? bad).map (fun i => (reason, sec_, i))).toList

/-- A rule of a whole section, as a flaw at item 0. -/
def flawIf (reason sec_ : Nat) (bad : Bool) : List Flaw := if bad then [(reason, sec_, 0)] else []

/-- The state as the image would set it, as far as the checks read it. -/
def State.trying (s : State) (im : Image) : State :=
  let s := s.adoptSettings im
  { s with img := { s.img with dir := im.dir }, cells := { s.cells with cfg := im.cells }, rings := { s.rings with cfg := im.stations }
           tasks := { s.tasks with cfg := im.tasks } }

/-! ### Single values (reason 8) -/

/-- The image gives the item a field belongs to: a declared task, a channel and a port in use, a role, a track; the other pages give every
item they hold, but for the retry budgets, which have defaults (R467). An item it does not give has no value to judge
(notes/assumptions/91.md). -/
def State.gives (s : State) (f : Fld) (i : Nat) : Bool :=
  let page := f.addr / 2 ^ 16
  if page = 0x4004 then s.tKind i != 0
  else if page = 0x4014 then s.reg LOOP.CHc_CFG.MODE i != 0
  else if page = 0x400D then (if f.count = 4 then s.flag PTP.DOMk_CFG.EN i else true)
  else if page = 0x4010 then
    let n := i / (f.count / 4)
    if [CAN.CTS_CFG.HOLDTO, CAN.CTS_CFG.STEP_THR, CAN.CTS_PERIOD.MS].contains f then s.reg CAN.CTS_CFG.ROLE n != 0
    else s.reg CAN.CFG.MODE n == 1
  else page != 0x400A

/-- The fields whose value is judged alone. -/
def rangedFlds : List Fld :=
  [PHASE.ENCe_CFG.CPT, CAN.XFk_W2.WORD, LIFE.BUDGETk.N] ++ fieldRanges.map Prod.fst

/-- A field of an image outside its range: a value it states, or the 0 of an item it gives and states no value for. -/
def State.outOfRange (s : State) (f : Fld) (i : Nat) : Bool := !fieldValid f i (s.reg f i) && (s.reg f i != 0 || s.gives f i)

/-- The widest ceiling of a port over the key positions (R412, R413). -/
def State.widestClasses (s : State) (port : Nat) : Nat :=
  if port = 0 then 31 else if port ≤ 2 then (if s.flag PORT.CFG.REMENG then 15 else 7) else 3

/-- The selectors of a cell's descriptor that are selectors in its mode (R129). -/
def State.allSelectors (s : State) (c : Nat) : List Nat :=
  [s.reg CELL.CELLc_IN01.IN0 c, s.reg CELL.CELLc_IN01.IN1 c] ++
    (if s.reg CELL.CELLc_CTRL.MODE c = CellMode.move then [] else [s.reg CELL.CELLc_IN23.IN2 c, s.reg CELL.CELLc_IN23.IN3 c])

/-- The 40-bit period of a cell is 0 where its mode needs one (R135). -/
def State.lacksPeriod (s : State) (c : Nat) : Bool :=
  let m := s.reg CELL.CELLc_CTRL.MODE c
  s.reg CELL.CELLc_PERIOD.PERIOD c == 0 && s.reg CELL.CELLc_STAT.PERIOD_HI c == 0 &&
    (m == CellMode.periodic || m == CellMode.window || (m == CellMode.reflex && (s.selectors c).any (fun w => bitField 13 3 w == 4)))

/-- The values of the SAFETY section that lie outside R354, TPP 0 among them (R355). Items: pairs 0 to 3, functions 4 to 11, outputs 12 to
15, STATUS 16. -/
def safetyRange (p : SafeParams) (i : Nat) : Bool :=
  if i < 4 then
    let x := p.pairs.get i
    decide (x.use ≤ 2 ∧ x.mode ≤ 1 ∧ x.disc ≤ 500 ∧ x.outs < 16)
  else if i < 12 then
    let f := p.funs.get (i - 4)
    f.type == 0 || decide (f.type ≤ 3 ∧ f.enc ≤ 3 ∧ f.outs < 16 ∧ f.act ≤ 4 ∧ 1 ≤ f.win ∧ f.win ≤ 8 ∧ f.actdly ≤ 1000 ∧ 1 ≤ f.xtol ∧
      f.xtol ≤ 1000)
  else if i < 16 then
    let o := p.outs.get (i - 12)
    o.use == 0 || decide (o.use = 1 ∧ o.restart ≤ 1 ∧ 100 ≤ o.tpw ∧ o.tpw ≤ 400 ∧ 500 ≤ o.tpp ∧ o.tpp ≤ 10000 ∧ o.req < 2 ^ 17)
  else decide (p.status < 2 ^ 17)

/-- R252 reason 8: the values of an image that their chapters do not allow. -/
def State.rangeFlaws (s : State) (im : Image) : List Flaw :=
  let cells := s.usedCells
  let alone := fun (sec_ : Nat) => ((rangedFlds.filter (fun f => sectionOf f.addr == sec_)).map
    (fun f => flawAt 8 sec_ (List.range f.count) (fun i => s.outOfRange f i))).flatten
  ((List.range 0x11).map alone).flatten ++
    flawAt 8 2 (List.range 256) (fun t => s.tKind t != 0 && s.reg KETTLE.TASKt_COST.COST t == 0) ++
    flawAt 8 4 cells (fun c => (s.allSelectors c).any (fun w => decide (5 ≤ bitField 13 3 w))) ++
    flawAt 8 4 cells s.lacksPeriod ++
    flawAt 8 0xD (List.range 4) (fun p =>
      let m := bitField (8 * p) 8 (s.reg PORT.IMGCEIL.WORD)
      m &&& s.widestClasses p != m) ++
    (if s.flag SYS.UNITS.SAFE then flawAt 8 0xF (List.range 17) (fun i => !safetyRange im.safety i) else [])

/-! ### Rules that join settings (reason 9) -/

/-- R54: a task reads or writes an identity the directory does not declare. -/
def State.undeclared (s : State) (t : Nat) : Bool :=
  let c := s.tasks.cfg.get t
  s.tKind t != 0 && (c.inputs ++ c.outputs ++ c.cqSigs).any (fun g => (s.img.dir.get g).isNone)

/-- The source that owns a signal is one the image has (R60, R61, R269): a declared task, a present station, a channel, port, cell or command port
of the module, the safety unit. A force and the module itself own no signal. DEDUCED (notes/assumptions/108.md). -/
def State.ownerExists (s : State) (owner : Nat) : Bool :=
  let i := owner % 4096
  match owner / 4096 with
  | 0 => decide (i < 256) && s.tKind i != 0
  | 1 => decide (i < 128) && s.flag STN.RINGr_STAa_CFG.PRESENT i
  | 2 => decide (i < 128) && s.flag STN.RINGr_STAa_CFG.PRESENT (128 + i)
  | 3 => decide (i < 32)
  | 4 => decide (i < 4)
  | 5 => true
  | 7 => decide (i < 4)
  | 8 => i == 0
  | _ => false

/-- R269: the signal has a directory entry and no owner. -/
def State.ownerless (s : State) (g : Nat) : Bool := (s.img.dir.get g).any (fun d => !s.ownerExists d.owner)

/-- R116: the fallback block of a region, named by its four blocks alike. -/
def State.fallbackOk (s : State) (r : Nat) : Bool :=
  let f := s.reg BLK.CFG.FALLBACK (4 * r)
  f / 4 == r && [1, 2, 3].all (fun k => s.reg BLK.CFG.FALLBACK (4 * r + k) == f)

/-- R130, R136: an index within its kind's range, no cell that reads itself, and NOT with one input alone. -/
def State.selectorsOk (s : State) (c : Nat) : Bool :=
  let index := fun (w : Nat) =>
    let i := bitField 0 12 w
    match bitField 13 3 w with
    | 1 => decide (i < 64)
    | 2 => decide (i < 1024)
    | 3 => decide (i < 256) && i != c % 256
    | _ => true
  (s.allSelectors c).all index &&
    (s.reg CELL.CELLc_CTRL.MODE c != CellMode.reflex || s.reg CELL.CELLc_RULE.OP c != 3 ||
      ((s.selectors c).drop 1).all (fun w => bitField 13 3 w == 0))

/-- R139: a MOVE names a BOOL; with DIR 1 a task owns it. -/
def State.moveOk (s : State) (c : Nat) : Bool :=
  let g := s.reg CELL.CELLc_IN23.SIGNAL c
  s.reg CELL.CELLc_CTRL.MODE c != CellMode.move ||
    (s.declaredAs g 0 && (!s.flag CELL.CELLc_IN23.DIR c || s.ownerClass g == some 0))

/-- The used outputs of the safety unit, as a mask. -/
def usedOuts (p : SafeParams) : Nat := (([0, 1, 2, 3].map (fun j => if (p.outs.get j).use = 1 then 2 ^ j else 0))).sum

/-- R355 beside the ranges: masks name used outputs, functions name their encoder's CPT, ordered limits, a direction and a used pair, every
used output is governed, and the request and status signals have their types and owners (R348, R361). Items as in `safetyRange`. -/
def State.safetyOk (s : State) (p : SafeParams) (i : Nat) : Bool :=
  let used := usedOuts p
  let within := fun (m : Nat) => m &&& used == m
  if i < 4 then (p.pairs.get i).use == 0 || within (p.pairs.get i).outs
  else if i < 12 then
    let f := p.funs.get (i - 4)
    f.type == 0 || (within f.outs && f.cpt != 0 && s.reg PHASE.ENCe_CFG.CPT f.enc == f.cpt &&
      (f.type != 2 || decide (toSigned 32 f.lim1 < toSigned 32 f.lim2)) && (f.type != 3 || decide (f.lim2 ≤ 1)) &&
      (f.act == 0 || (p.pairs.get (f.act - 1)).use != 0))
  else if i < 16 then
    let o := p.outs.get (i - 12)
    o.use == 0 || (((List.range 4).any (fun k => (p.pairs.get k).use != 0 && bitOf (i - 12) (p.pairs.get k).outs) ||
      (List.range 8).any (fun k => (p.funs.get k).type != 0 && bitOf (i - 12) (p.funs.get k).outs)) &&
      s.declaredAs o.req 0 && s.ownerClass o.req == some 0 && (s.img.dir.get o.req).any (·.safety))
  else !p.statusEn || (List.range 16).all (fun k =>
    (s.img.dir.get (p.status + k)).any (fun d => d.type == 2 && d.owner == 0x8000))

/-- R297: the 64 granules of the sealed area, the lowest of DRAM, have colour 15, and no other granule has. -/
def sealedOk (colours : Tab Nat) : Bool :=
  colours.filter (fun x => x.2 == 15) == sealedColours

/-- R252 reason 9: the rules that join settings. -/
def State.joinFlaws (s : State) (im : Image) : List Flaw :=
  let blocks := List.range 16
  let cells := s.usedCells
  let keyBad := fun (f : Fld) => (List.range f.count).find? (fun i => bitOf 15 (s.reg f i))
  let keys := [GUARD.RKEY_RW.READ, GUARD.RKEY_RW.WRITE, GUARD.RKEY_X.EXEC, GUARD.TKEYt_RW.READ, GUARD.TKEYt_RW.WRITE,
    GUARD.TKEYt_X.EXEC, GUARD.MKEYm_RW.READ, GUARD.MKEYm_RW.WRITE, GUARD.MKEYm_X.EXEC]
  flawAt 9 1 s.img.dir.keys s.ownerless ++ flawAt 9 2 (List.range 256) s.undeclared ++ flawAt 9 2 s.taskList (fun t => !s.errTaskOk t) ++
    flawAt 9 2 blocks (fun b => !s.homesFit b) ++ flawAt 9 2 [0, 1, 2, 3] (fun r => !s.fallbackOk r) ++
    flawAt 9 4 cells (fun c => !s.selectorsOk c || !s.moveOk c || !s.driverOk cells c || !s.pinInputsOk c) ++
    flawAt 9 5 (List.range 64) (fun p => !s.followOk p) ++
    flawAt 9 6 [0, 1, 2] (fun v => !fieldValid PHASE.VIRTv_SRC.SRC v (s.reg PHASE.VIRTv_SRC.SRC v)) ++
    flawAt 9 7 [0, 1] (fun r => !s.ringGridOk r) ++
    flawIf 9 8 (decide (s.reg KETTLE.BUDGET.BUDGET * 100 < 2 * s.classATotal)) ++
    flawAt 9 8 blocks (fun b => decide (s.reg KETTLE.BLKb_QUOTA.QUOTA b < s.reg KETTLE.BLKb_RA.RA b)) ++
    ((keys.findSome? keyBad).map (fun i => ((9 : Nat), (9 : Nat), i))).toList ++ flawIf 9 9 (!sealedOk im.colours) ++
    flawIf 9 0xA (!s.rolesOk) ++ flawAt 9 0xA (List.range 4) (fun n => !s.portOk n) ++
    flawAt 9 0xB (List.range 32) (fun c => !s.channelOk c) ++ flawIf 9 0xC (!s.tracksOk || !s.plantOk) ++
    (if s.flag SYS.UNITS.SAFE then flawAt 9 0xF (List.range 17) (fun i => !s.safetyOk im.safety i) else [])

/-! ### Sizes (reason 10) -/

/-- R252 reason 10: slots of a task (R77, R101), footprints (R94), slots of a station (R184), the payload of a ring (R193), and the lists of
PORTS (R424, R427). -/
def State.sizeFlaws (s : State) (im : Image) : List Flaw :=
  flawAt 10 2 (List.range 256) (fun t => decide (32768 < (s.tasks.cfg.get t).inputs.length ∨ 32768 < (s.tasks.cfg.get t).outputs.length)) ++
    flawAt 10 3 (List.range 16) (fun b => !s.footFits b) ++
    flawAt 10 7 (List.range 256) (fun k => decide (512 < (s.rings.cfg.get k).inputs.length + (s.rings.cfg.get k).outputs.length)) ++
    flawAt 10 7 [0, 1] (fun r => decide (s.periodTime r < s.minPeriod r)) ++
    flawAt 10 0xD [0, 1] (fun k => if k = 0 then decide (64 < im.acks.length) else decide (512 < im.remote.length))

/-! ### Absent units (reason 7) -/

/-- The unit a phase base needs, as its bit of UNITS (R21, R48): ACS for a mains base, CAN for PB12, at the bottom of the source chain. -/
def State.baseUnit (s : State) (b : Nat) : Option Nat :=
  let r := State.rootBase 3 s b
  if r = 6 ∨ r = 7 then some 4 else if r = 12 then some 2 else none

/-- The unit a source class belongs to, as its bit of UNITS (R6, R60): loop channels, CAN ports, the safety unit. -/
def ownerUnit (owner : Nat) : Option Nat :=
  match owner / 4096 with
  | 3 => some 3
  | 4 => some 2
  | 8 => some 0
  | _ => none

/-- The units an image names beyond UNITS, as section and unit bit (R6, R21, R60, R252, R524). -/
def State.namedUnits (s : State) (im : Image) : List (Nat × Nat) :=
  let base := fun (sec_ : Nat) (l : List Nat) => l.filterMap (fun b => (s.baseUnit b).map (fun u => (sec_, u)))
  let virt := (List.range 3).filter (fun v => s.reg PHASE.VIRTv_SRC.SRC v != 0) |>.map (· + 13)
  let held := fun (sec_ u : Nat) => if im.sects.contains sec_ then [(sec_, u)] else []
  (im.dir.filterMap (fun x => x.2.bind (fun d => (ownerUnit d.owner).map (fun u => ((1 : Nat), u))))) ++
    base 1 (im.dir.filterMap (fun x => x.2.bind (·.stampBase))) ++ base 4 (s.usedCells.map (fun c => s.reg CELL.CELLc_CTRL.BASE c)) ++
    base 6 virt ++ base 6 (if s.reg PHASE.REF_CFG.SRC = 2 then [12] else []) ++
    base 7 (([0, 1].filter (fun r => s.flag STN.RINGr_CFG.EN r)).map (fun r => s.reg STN.RINGr_CFG.BASE r)) ++
    held 0xA 2 ++ held 0xB 3 ++ (if s.flag PORT.CFG.CELLEN then [(0xD, 1)] else []) ++ held 0xF 0

/-- R252 reason 7: UNITS or a section names a unit the variant does not have; the item is the unit's bit. -/
def State.unitFlaws (s : State) (im : Image) (fitted : Nat) : List Flaw :=
  flawAt 7 0 (List.range 5) (fun b => bitOf b im.units && !bitOf b fitted) ++
    (((s.namedUnits im).filter (fun x => !bitOf x.2 fitted)).map (fun x => ((7 : Nat), x.1, x.2)))

/-- What an image fails by R252 reasons 7 to 10. -/
def State.imageFlaws (s : State) (im : Image) (fitted : Nat) : List Flaw :=
  let t := s.trying im
  t.unitFlaws im fitted ++ t.rangeFlaws im ++ t.joinFlaws im ++ t.sizeFlaws im

end Sys2Proof.Machine
end

