-- ==== Sys2Proof/Machine/Format.lean ====
section
/-! DEFINITION. The bytes of a Dreave container (R246 to R249, R251): the header, the section table, the sections and the signature
block. Bytes are numbers below 256, the first byte first. -/

namespace Sys2Proof.Machine

/-- The number in `n` bytes from offset `o`, little-endian (R246). -/
def leAt (b : List Nat) (o n : Nat) : Nat := ofBytes ((b.drop o).take n)

/-- The bytes from `o` up to `e` are 0. -/
def zeroIn (b : List Nat) (o e : Nat) : Bool := ((b.drop o).take (e - o)).all (· == 0)

/-- The lengths of the header, of a section table entry and of the signature block (R246), and the largest container. -/
def headerLen : Nat := 128
def rowLen : Nat := 16
def signLen : Nat := 1296
def structMax : Nat := 32 * 2 ^ 20

/-- A section table entry (R248). -/
structure SectRow where
  id : Nat
  flags : Nat
  offset : Nat
  length : Nat
  crc : Nat
  deriving DecidableEq, Repr

/-- The section table of a container (R247 NSECT, R248). -/
def sectRows (b : List Nat) : List SectRow :=
  (List.range (leAt b 12 2)).map (fun i =>
    let o := headerLen + rowLen * i
    { id := leAt b o 2, flags := leAt b (o + 2) 2, offset := leAt b (o + 4) 4, length := leAt b (o + 8) 4, crc := leAt b (o + 12) 4 })

/-- Where the section table ends and where the signature block begins. -/
def tableEnd (b : List Nat) : Nat := headerLen + rowLen * leAt b 12 2
def signAt (b : List Nat) : Nat := b.length - signLen

/-- The header holds what R247 says: magic bytes, format, kind, length, number of sections, units, hashes of a FULL and reserved bytes 0. -/
def headerOk (b : List Nat) : Bool :=
  let kind := leAt b 6 1
  b.take 4 == [0x44, 0x52, 0x56, 0x45] && leAt b 4 2 == 1 && (kind == 1 || kind == 2) && zeroIn b 7 8 && leAt b 8 4 == b.length &&
    decide (1 ≤ leAt b 12 2 ∧ leAt b 12 2 ≤ 32 ∧ leAt b 14 2 < 32 ∧ b.length ≤ structMax ∧ tableEnd b + signLen ≤ b.length) &&
    zeroIn b 28 32 && (kind != 1 || zeroIn b 32 96) && zeroIn b 96 128

/-- An entry alone (R246, R248, R251): a listed identifier, flags 0, a section on an 8-byte boundary between the table and the signature
block. -/
def SectRow.ok (r : SectRow) (b : List Nat) : Bool :=
  decide (1 ≤ r.id ∧ r.id ≤ 0x11 ∧ r.flags = 0 ∧ r.offset % 8 = 0 ∧ tableEnd b ≤ r.offset ∧ r.offset + r.length ≤ signAt b)

/-- Two sections do not overlap (R248). -/
def SectRow.apart (r q : SectRow) : Bool := decide (r.offset + r.length ≤ q.offset ∨ q.offset + q.length ≤ r.offset)

/-- The first entry that stands alone wrongly, is not above the one before it, or overlaps one before it (R248). -/
def badRow (b : List Nat) : List SectRow → List SectRow → Option SectRow
  | _, [] => none
  | seen, r :: l =>
    if r.ok b && seen.all (fun q => decide (q.id < r.id) && r.apart q) then badRow b (r :: seen) l else some r

/-- Every byte between the table and the signature block that lies in no section is 0 (R246). -/
def fillOk (b : List Nat) (l : List SectRow) : Bool :=
  ((b.zip (List.range b.length)).filter (fun x => decide (tableEnd b ≤ x.2 ∧ x.2 < signAt b) &&
    l.all (fun r => decide (x.2 < r.offset ∨ r.offset + r.length ≤ x.2)))).all (fun x => x.1 == 0)

/-- The sections a FULL container needs whatever its image uses (R251). -/
def neededSects : List Nat := [1, 2, 3, 4, 5, 6, 8, 9, 0xC, 0xD, 0xE, 0x10]

/-- The bytes of a section. -/
def SectRow.content (r : SectRow) (b : List Nat) : List Nat := (b.drop r.offset).take r.length

/-- What the bytes of a container fail by R252 reasons 1 and 4. A section that a FULL image lacks fails as FORMAT, with that
section (notes/assumptions/91.md). -/
def byteFlaws (b : List Nat) : List Flaw :=
  let l := sectRows b
  if !headerOk b then [(1, 0, 0)]
  else match badRow b [] l with
    | some r => [(1, r.id, 0)]
    | none =>
      let lacks := if leAt b 6 1 = 1 then neededSects.filter (fun k => !l.any (fun r => r.id == k)) else []
      flawIf 1 0 (!fillOk b l) ++ lacks.map (fun k => ((1 : Nat), k, 0)) ++
        (l.filter (fun r => crc32 (r.content b) != r.crc)).map (fun r => ((4 : Nat), r.id, 0))

/-- The identity of a project key: the first 16 bytes of the digest over its 1,793 bytes (R249, R250); none for other content. -/
def keyOfBytes (b : List Nat) : Option Nat := if b.length = 1793 then some (wrap 128 (digestOf b)) else none

/-- The public key of the KEYS section: its identity is the first 16 bytes of the digest over its 1,793 bytes (R249). -/
def keyIn (b : List Nat) : Option Nat :=
  ((sectRows b).find? (fun r => r.id == 0x11)).bind (fun r => keyOfBytes (r.content b))

/-- A KEYS section that holds no key of 1,793 bytes (R251). -/
def keyFlaws (b : List Nat) : List Flaw := flawIf 8 0x11 ((sectRows b).any (fun r => r.id == 0x11) && (keyIn b).isNone)

/-- The SAFETY section (R354), little-endian, and its check value, the first 4 bytes of its SHAKE256 output, b0 in bits [31:24] (R356). -/
def safetyIn (b : List Nat) : SafeParams :=
  let d := digestOf b
  let status := leAt b 296 4
  { pairs := (List.range 4).foldl (fun m k =>
      let o := 8 + 8 * k
      m.set k { use := leAt b o 1, mode := leAt b (o + 1) 1, disc := leAt b (o + 2) 2, outs := leAt b (o + 4) 1 }) []
    funs := (List.range 8).foldl (fun m i =>
      let o := 40 + 24 * i
      m.set i { type := leAt b o 1, enc := leAt b (o + 1) 1, outs := leAt b (o + 2) 1, act := leAt b (o + 3) 1, win := leAt b (o + 4) 2,
                actdly := leAt b (o + 6) 2, lim1 := leAt b (o + 8) 4, lim2 := leAt b (o + 12) 4, cpt := leAt b (o + 16) 2,
                xtol := leAt b (o + 18) 2 }) []
    outs := (List.range 4).foldl (fun m j =>
      let o := 232 + 16 * j
      m.set j { use := leAt b o 1, restart := leAt b (o + 1) 1, tpw := leAt b (o + 2) 2, tpp := leAt b (o + 4) 4, req := leAt b (o + 8) 4 }) []
    status := wrap 31 status, statusEn := bitOf 31 status
    check := bitField 0 8 d * 2 ^ 24 + bitField 8 8 d * 2 ^ 16 + bitField 16 8 d * 2 ^ 8 + bitField 24 8 d }

/-- The SAFETY section has its 304 bytes, its layout, and 0 in every byte R354 does not show. -/
def safetyLayoutOk (b : List Nat) : Bool :=
  b.length == 304 && leAt b 0 2 == 1 && zeroIn b 2 8 && (List.range 4).all (fun k => zeroIn b (13 + 8 * k) (16 + 8 * k)) &&
    (List.range 8).all (fun i => zeroIn b (60 + 24 * i) (64 + 24 * i)) &&
    (List.range 4).all (fun j => zeroIn b (244 + 16 * j) (248 + 16 * j)) && zeroIn b 300 304

/-- The SAFETY section of a container, if it has one. -/
def safetySect (b : List Nat) : Option (List Nat) := ((sectRows b).find? (fun r => r.id == 0xF)).map (fun r => r.content b)

/-- A SAFETY section that is not laid out as R354 says (R355), item 17. -/
def safetyFlaws (b : List Nat) : List Flaw :=
  match safetySect b with
  | some x => if safetyLayoutOk x then [] else [(8, 0xF, 17)]
  | none => []

/-- The image a DELTA gives (R261): each section it holds (`has`) replaces that of the running image, and every other stays. -/
def Image.merge (old new : Image) (has : Nat → Bool) : Image :=
  let ofDelta := fun (k : Nat) => has (((fieldOfKey k).map (fun f => sectionOf f.addr)).getD 0)
  let settings : Tab Nat := (new.settings.filter (fun x => ofDelta x.1)).foldl (fun m x => m.set x.1 x.2)
    (old.settings.filter (fun x => !ofDelta x.1))
  let im : Image := { new with settings := settings }
  let im := if has 1 then im else { im with dir := old.dir }
  let im := if has 2 then im else { im with tasks := old.tasks }
  let im := if has 3 then im else { im with code := old.code, stateInit := old.stateInit, init := old.init }
  let im := if has 4 then im else { im with cells := old.cells }
  let im := if has 7 then im else { im with stations := old.stations }
  let im := if has 9 then im else { im with colours := old.colours }
  let im := if has 0xD then im else { im with acks := old.acks, remote := old.remote }
  let im := if has 0xF then im else { im with safety := old.safety }
  if has 0x11 then im else { im with key := old.key }

/-- What the header, the section table and the signature block say of a container (R247 to R249). A DELTA changes the sections of the
running image that it holds; the hash of a FULL is the digest of the bytes before the signature block. What the sections
declare is the operand `c` (notes/assumptions/10.md), but for KEYS and SAFETY, whose bytes the manual lays out (R249, R354). -/
def Container.readFrom (c : Container) (b : List Nat) (running : Option Image) : Container :=
  let kind := leAt b 6 1
  let ids := (sectRows b).map (·.id)
  let old := (running.map (·.sects)).getD []
  let full := kind == 1
  let im := match full, running with
    | false, some r => r.merge c.image (fun k => ids.contains k)
    | _, _ => c.image
  let im := { im with
    id := leAt b 16 4, units := leAt b 14 2, rtmin := leAt b 20 2 * 2 ^ 32 + leAt b 22 2 * 2 ^ 16 + leAt b 24 2
    mproto := leAt b 26 2
    sects := if full then ids else (List.range 0x12).filter (fun k => ids.contains k || old.contains k)
    hash := if full then wrap 256 (digestOf (b.take (signAt b))) else im.hash
    key := if full then keyIn b else im.key
    safety := match safetySect b with
      | some x => safetyIn x
      | none => if full then default else im.safety }
  { c with kind := kind, keyId := leAt b (signAt b) 16, baseHash := leAt b 32 32, resultHash := leAt b 64 32, image := im
           faults := byteFlaws b ++ keyFlaws b ++ safetyFlaws b ++ c.faults }

/-- R251: the sections an image needs for what it uses, which it lacks: RINGS, CAN, LOOP, SAFETY. -/
def State.lacksSect (s : State) (im : Image) : List Flaw :=
  let need := fun (k : Nat) (b : Bool) => if b && !im.sects.contains k then [((1 : Nat), k, (0 : Nat))] else ([] : List Flaw)
  let used := fun (f : Fld) => (List.range f.count).any (fun i => fitKey (f.key i) (im.settings.get (f.key i)) != 0)
  need 7 (used STN.RINGr_CFG.EN) ++ need 0xA (used CAN.CFG.MODE) ++ need 0xB (used LOOP.CHc_CFG.MODE) ++
    need 0xF (s.flag SYS.UNITS.SAFE && bitOf 0 im.units)

/-! ### Firmware images (R435 to R437) -/

/-- The length of a firmware signature block: the vendor root key of 1,793 bytes and a signature of 1,280 (R437). -/
def fwSignLen : Nat := 3073

/-- A version of three 16-bit numbers from offset `o`. -/
def versionAt (b : List Nat) (o : Nat) : Nat := leAt b o 2 * 2 ^ 32 + leAt b (o + 2) 2 * 2 ^ 16 + leAt b (o + 4) 2

/-- The compatibility entries in use (R436). -/
def compatIn (b : List Nat) : List (Nat × Nat × Nat) :=
  (List.range (leAt b 7 1)).map (fun i => let o := 64 + 16 * i; (leAt b o 1, versionAt b (o + 4), versionAt b (o + 10)))

/-- The layout of R435 and R436: magic bytes, LAYOUT, LENGTH, at most 8 entries of distinct known codes, reserved bytes 0. -/
def fwLayoutOk (b : List Nat) : Bool :=
  let n := leAt b 7 1
  let codes := (compatIn b).map Prod.fst
  b.take 4 == [0x46, 0x57, 0x54, 0x39] && leAt b 4 2 == 1 && decide (256 + leAt b 16 4 + fwSignLen = b.length) && decide (n ≤ 8) &&
    zeroIn b 22 64 && zeroIn b (64 + 16 * n) 256 && (List.range n).all (fun i => zeroIn b (65 + 16 * i) (68 + 16 * i)) &&
    codes.all (fun c => [1, 2, 3, 4, 0x81].contains c) && decide codes.Nodup

/-- What the header of a firmware image says (R435, R436). Whether its key has the fused digest and its signature verifies are the operand
`x` (notes/assumptions/10.md). -/
def FwImage.readFrom (x : FwImage) (b : List Nat) : FwImage :=
  { x with part := leAt b 6 1, version := versionAt b 8, mproto := leAt b 14 2, psfmt := leAt b 20 1, psmigMin := leAt b 21 1
           compat := compatIn b, layoutOk := fwLayoutOk b }

end Sys2Proof.Machine
end

