-- ==== Sys2Proof/Machine/Struct.lean ====
section
/-! DEFINITION. The structure image and on-line change (R246 to R272, R483): checking a container, the slots, full loads, and the change
commit. -/

namespace Sys2Proof.Machine

/-- STRUCT.STAT.STATE (R272). -/
def StructState.idle : Nat := 0
def StructState.receiving : Nat := 1
def StructState.checking : Nat := 2
def StructState.prepared : Nat := 3
def StructState.holding : Nat := 4
def StructState.loading : Nat := 5

/-- STRUCT.STAT.RESULT (R272). -/
def ChangeResult.committed : Nat := 1
def ChangeResult.rejected : Nat := 2
def ChangeResult.aborted : Nat := 3
def ChangeResult.timeout : Nat := 4
def ChangeResult.partnerNotReady : Nat := 5
def ChangeResult.lapsed : Nat := 6

/-- Change what the model keeps of the structure image. -/
def State.updStruct (s : State) (f : StructSt → StructSt) : State := { s with struct := f s.struct }

/-- The container in a structure slot (0 A, 1 B). -/
def State.structSlot (s : State) (k : Nat) : Option Container := if k = 0 then s.struct.slotA else s.struct.slotB

/-- The inactive structure slot. -/
def State.spareSlot (s : State) : Nat := 1 - s.reg STRUCT.SLOT.ACTIVE

/-- A container is written to the inactive slot (R253) and read back valid. -/
def State.storeSpare (s : State) (c : Container) : State :=
  if s.spareSlot = 0 then (s.updStruct (fun x => { x with slotA := some c })).setReg STRUCT.SLOT.VALID_A 0 1
  else (s.updStruct (fun x => { x with slotB := some c })).setReg STRUCT.SLOT.VALID_B 0 1

/-! ### Checking (R250, R252) -/

/-- The project keys (R250). -/
def State.projectKeys (s : State) : List Nat := s.struct.keys.filterMap Prod.snd

/-- A project key at a position. -/
def State.putKey (s : State) (p : Nat) (k : Option Nat) : State :=
  (s.updStruct (fun x => { x with keys := x.keys.set p k })).showKeys

/-- The units of the variant in the order of UNITS (R247). -/
def State.unitMask (s : State) : Nat :=
  s.reg SYS.UNITS.SAFE + s.reg SYS.UNITS.MODEM * 2 + s.reg SYS.UNITS.CAN * 4 + s.reg SYS.UNITS.LOOP * 8 + s.reg SYS.UNITS.ACS * 16

/-- The version of the running RUNTIME. -/
def State.runtimeVersion (s : State) : Nat := ((s.fwSlot 0 (s.fwRunning 0)).map (·.version)).getD 0

/-- A remote-operable limit is wider than it was (R270). -/
def widens (old new : RemoteLim) : Bool :=
  let wide := fun (a b : Nat) => !finite64 a || !finite64 b || decide (scaled64 a < scaled64 b)
  wide new.lo old.lo || wide old.hi new.hi || (new.maxStep != old.maxStep && (new.maxStep == 0 || wide old.maxStep new.maxStep) &&
    old.maxStep != 0)

/-- The first failure of a container under R252: those its bytes show, and those of what it declares. `first`: it is a full image
from ENG at MAINTAIN, which a module without project keys accepts by its own key (R250). -/
def State.checkContainer (s : State) (c : Container) (first : Bool) : Option (Nat × Nat × Nat) :=
  let im := c.image
  let known := if s.projectKeys = [] then first && c.kind == 1 && im.key == some c.keyId else s.projectKeys.contains c.keyId
  let running := s.struct.image
  let one := fun (b : Bool) (x : Nat × Nat × Nat) => if b then [x] else []
  let delta := c.kind == 2
  let frozen : Option (Nat × Nat × Nat) := match running with
    | some r =>
      if !delta then none
      else match frozenFault r im with
        | some (a, b) => some (0xB, a, b)
        | none => if im.remote.any (fun n => (r.remote.find? (fun o => o.sig == n.sig)).any (fun o => widens o n)) then some (0xB, 0xD, 2)
          else none
    | none => none
  let l := c.faults ++ one (!known) (2, 0, 0) ++ one (c.signer != some c.keyId) (3, 0, 0) ++
    one (delta && (running.map (·.hash)) != some c.baseHash) (5, 0, 0) ++
    one (decide (s.runtimeVersion < im.rtmin) || im.mproto != s.reg UPD.MPROTO.OWN) (6, 0, 0) ++
    s.lacksSect im ++ s.imageFlaws im s.unitMask ++ frozen.toList ++
    one (delta && im.hash != c.resultHash) (12, 0, 0)
  (List.range 13).findSome? (fun r => l.find? (fun x => x.1 == r))

/-- A rejection is recorded and shown (R252). -/
def State.rejectStruct (s : State) (r : Nat × Nat × Nat) : State :=
  let s := s.record 0xE01 0 .fault [(1, r.1), (2, r.2.1), (3, min r.2.2 0xFFFFFF)]
  ((s.setReg STRUCT.REJECT.REASON 0 r.1).setReg STRUCT.REJECT.SECTION 0 r.2.1).setReg STRUCT.REJITEM.ITEM 0 r.2.2

/-- R250: a module without project keys installs the key of the first image it accepts. -/
def State.installFirst (s : State) (c : Container) : State :=
  if s.projectKeys = [] then match c.image.key with
    | some k => (s.putKey 0 (some k)).record 0xE05 0 .info [(1, 3), (1, 0)]
    | none => s
  else s

/-! ### Full load and the end of LOAD (R256, R483) -/

/-- The loaded check value is confirmed, or there is none to confirm (R357, R483). -/
def State.checkOk (s : State) : Bool := !s.flag SYS.UNITS.SAFE || s.flag SAFE.STAT.CONFIRMED

/-- R85: a unit that starts ACTIVE without its forces records how many were lost. -/
def State.noteForces (s : State) : State :=
  if s.img.savedForces ≠ 0 ∧ s.img.forces = [] then
    let n := s.img.savedForces
    ((s.record 0xF08 0 .warning [(2, n)]).setReg IMAGE.STATUS.FORCES_LOST 0 1).countForces
  else s

/-- The unit enters ACTIVE or DEGRADED without a takeover (R115, R479, R480): start tasks, rings, pins, safety requests, dispatch. -/
def State.enterRun (s : State) : State :=
  let s := s.enterMode .active
  let s := ((s.noteForces.runStartTasks).showPins).judgePair
  let s := if s.safeState = SafeState.watch then s.setReg SAFE.STAT.STATE 0 SafeState.run else s
  s.settleMode.deliverStopped.dispatchAll

/-- What follows LOAD once the line is held (R483): COMMISSION, HOLD after a full load, ACTIVE or DEGRADED after a start-up. -/
def State.afterLoad (s : State) (full : Bool) : State :=
  if !s.checkOk then (s.enterMode .commission).showPins
  else if full then (((s.enterMode .hold).showPins).judgePair).announcePair
  else s.enterRun.announcePair

/-- A claim after a full load by a unit that does not hold the line (R483). -/
def Claim.load : Nat := 4

/-- STRUCT.STAT.STATE reads LOADING no more (R256). -/
def State.endLoading (s : State) : State :=
  s.when (s.reg STRUCT.STAT.STATE == StructState.loading) (fun s => s.setReg STRUCT.STAT.STATE 0 StructState.idle)

/-- R256 step 4: LOAD, the switch of the active slot, the image. A heartbeat shows the partner the mode, and the stream ends (R257, R478;
DEDUCED, notes/assumptions/116.md). -/
def State.applyFull (s : State) (c : Container) : State :=
  let s := (s.enterMode .load).showPins.dropStream.beat
  let s := s.setReg STRUCT.SLOT.ACTIVE 0 s.spareSlot
  let s := s.updStruct (fun x => { x with loading := none, prepared := none })
  s.loadImage c.image true

/-- R256: the checked and stored full image is applied; the mode that follows needs the line. STATE reads LOADING until LOAD is left. -/
def execFullLoadApply (t : Nat) (s : State) : Result :=
  let s := s.advance t
  match s.struct.loading with
  | none => .next s
  | some c =>
    if c.kind ≠ 1 ∨ !(s.mode = .commission ∨ s.mode = .hold ∨ s.mode = .service) then .next s
    else
      let s := s.setReg STRUCT.STAT.STATE 0 StructState.loading
      let s := (s.applyFull c).addReg STRUCT.COUNTS.LOADS 0 1
      let s := s.lifeAdd 0x153 1
      .next (if s.flag PAIR.STAT.AUTH then (s.afterLoad true).endLoading else s.claim Claim.load)

/-! ### Start-up (R254, R65) -/

/-- A stored image passes R252 as it starts the module. -/
def State.slotPasses (s : State) (k : Nat) : Option Container :=
  match s.structSlot k with
  | some c => if s.checkContainer c false = none then some c else none
  | none => none

/-- R65, R254: the sequence starts at the saved value plus 2^32; the active slot, or the other one, is applied; with neither, SERVICE. Answers
whether an image runs. -/
def State.startImage (s : State) : Bool × State :=
  let a := s.reg STRUCT.SLOT.ACTIVE
  let s := { s with img := { s.img with seq := wrap 64 (s.img.savedSeq + 2 ^ 32) } }
  match s.slotPasses a with
  | some c => (true, s.loadImage c.image true)
  | none =>
    let s := match (s.structSlot a).bind (fun c => s.checkContainer c false) with
      | some r => s.rejectStruct r
      | none => s.rejectStruct (1, 0, 0)
    match s.slotPasses (1 - a) with
    | some c =>
      let s := (s.setReg STRUCT.SLOT.ACTIVE 0 (1 - a)).setReg STRUCT.STAT.FALLBACK 0 1
      (true, s.loadImage c.image true)
    | none => (false, s)

/-! ### Preparing a change (R263) -/

/-- STRUCT.PEND_ID and PHASHk show the prepared result, or nothing. -/
def State.showPending (s : State) : State :=
  match s.struct.prepared with
  | some c => (s.setReg STRUCT.PEND_ID.ID 0 c.image.id).showHash STRUCT.PHASHk.HASH c.image.hash
  | none => (s.setReg STRUCT.PEND_ID.ID 0 0).showHash STRUCT.PHASHk.HASH 0

/-- The result of a change, recorded (R262, R265, R266). -/
def State.changeResult (s : State) (r id : Nat) : State :=
  (s.setReg STRUCT.STAT.RESULT 0 r).record 0xE03 0 .info [(1, r), (4, id)]

/-- The response a change owes its client leaves (R527). -/
def State.answerChange (s : State) (op result : Nat) : State :=
  match s.port.olcWait with
  | some r => ({ s with port := { s.port with olcWait := none } }).respond r op 0 [(0, leBytes 4 result)]
  | none => s

/-- R263 steps 3 to 5: the result is stored, the delta sent to a STANDBY partner, the change PREPARED. -/
def execChangePrepared (t : Nat) (s : State) : Result :=
  let s := s.advance t
  match s.struct.loading with
  | none => .next s
  | some c =>
    if c.kind ≠ 2 then .next s
    else
      let s := (s.storeSpare { c with kind := 1 }).updStruct (fun x => { x with
        loading := none, prepared := some c, traffic := s.now })
      let s := if s.partnerStandby then s.sendMirror .bulk (.struct c.image.id true) else s
      .next (((s.setReg STRUCT.STAT.STATE 0 StructState.prepared).showPending).answerChange 0x0405 0)

/-- The prepared change is gone (R262). -/
def State.dropPrepared (s : State) : State :=
  let s := s.updStruct (fun x => { x with prepared := none, affected := [], commitMseq := none })
  (s.setReg STRUCT.STAT.STATE 0 StructState.idle).showPending

/-- The prepared change is discarded with a result; an active unit tells its partner (R262). -/
def State.discardChange (s : State) (r : Nat) : State :=
  match s.struct.prepared with
  | none => s
  | some c =>
    let s := s.dropPrepared.changeResult r c.image.id
    s.mirrorReg (STRUCT.OLC_CMD.OP.addrOf 0) 2

/-! ### Affected tasks and the hold (R264, R265) -/

/-- The fields of a task's TASKS entry. -/
def taskFlds : List Fld := fieldTable.filter (fun f => f.fromImage && f.addr / 2 ^ 16 == 0x4004)

/-- The change alters, adds or deletes the task's TASKS entry or its CODE. -/
def entryAltered (old new : Image) (t : Nat) : Bool :=
  decide (old.tasks.get t ≠ new.tasks.get t) || old.code.get t != new.code.get t || new.stateInit.get t && old.code.get t != new.code.get t ||
    taskFlds.any (fun f => f.n1 * f.n2 == 256 && fitKey (f.key t) (old.settings.get (f.key t)) != fitKey (f.key t) (new.settings.get (f.key t)))

/-- The kind a task has under an image. -/
def kindIn (im : Image) (t : Nat) : Nat := wrap 2 (im.settings.get (TASK.TASKt_CFG.KIND.key t))

/-- The home a task has under an image. -/
def homeIn (im : Image) (t : Nat) : Nat := wrap 4 (im.settings.get (TASK.TASKt_CFG.HOME.key t))

/-- The tasks an image declares. -/
def tasksIn (im : Image) : List Nat := (List.range 256).filter (fun t => kindIn im t != 0)

/-- The cells a change alters (R146). -/
def alteredCells (old new : Image) : List Nat :=
  (List.range 4096).filter (fun c => decide (old.cells.get c ≠ new.cells.get c) ||
    !sameFields old.settings new.settings (cellShape ++ cellRunTime) c)

/-- R264: the tasks a change affects. -/
def affectedTasks (old new : Image) : List Nat :=
  let all := (tasksIn old ++ tasksIn new).dedup
  let sigs := ((declared old.dir ++ declared new.dir).dedup).filter (fun g => decide (old.dir.get g ≠ new.dir.get g))
  let uses := fun (im : Image) (t : Nat) =>
    let c := im.tasks.get t
    (c.inputs ++ c.outputs ++ c.cqSigs).any (fun g => sigs.contains g)
  let cells := alteredCells old new
  let owns := fun (t : Nat) => cells.any (fun c => (old.cells.get c).owner == some t || (new.cells.get c).owner == some t)
  let moved := all.filter (fun t => kindIn new t != 0 && (kindIn old t == 0 || homeIn old t != homeIn new t))
  let homes := moved.map (homeIn new)
  all.filter (fun t => entryAltered old new t || uses old t || uses new t || owns t ||
    (kindIn new t != 0 && homes.contains (homeIn new t)) || (kindIn old t != 0 && homes.contains (homeIn old t)))

/-- An affected task is held: at once when it is in no cycle, else at the end of its cycle (R265). -/
def State.holdTask (s : State) (t : Nat) : State :=
  let s := s.updTask t (fun d => { d with heldBy := true })
  let st := s.tState t
  if (s.task t).phase ≠ .none ∨ st = TaskState.faulted ∨ st = TaskState.starved ∨ st = TaskState.unused then s
  else (s.setTState t TaskState.held).mirrorTask t

/-- A held task is released: it is IDLE, or SKIP while a skip interval runs (R97, R265, R268). -/
def State.releaseTask (s : State) (t : Nat) : State :=
  let s := s.updTask t (fun d => { d with heldBy := false })
  if s.tState t = TaskState.held then (s.setTState t (s.restState t)).mirrorTask t else s

/-- The commit attempt ends without a change (R265, R266). -/
def State.endAttempt (s : State) (r : Nat) : State :=
  let id := (s.struct.prepared.map (·.image.id)).getD 0
  let s := s.each s.struct.affected State.releaseTask
  let s := s.updStruct (fun x => { x with affected := [], commitMseq := none, traffic := s.now })
  let s := (s.setReg STRUCT.STAT.STATE 0 StructState.prepared).changeResult r id
  (s.answerChange 0x0302 r).dispatchAll

/-- R265: COMMIT in PREPARED state begins the hold. -/
def State.beginCommit (s : State) : State :=
  match s.struct.prepared, s.struct.image with
  | some c, some im =>
    if s.reg STRUCT.STAT.STATE ≠ StructState.prepared ∨ !s.mode.runs then s
    else
      let l := affectedTasks im c.image
      let s := s.updStruct (fun x => { x with affected := l, holdAt := s.now, commitMseq := none, traffic := s.now })
      (s.setReg STRUCT.STAT.STATE 0 StructState.holding).each l State.holdTask
  | _, _ => s

/-- R265: COMMIT written to STRUCT.OLC_CMD. -/
def execOlcCmdCommit (t _master : Nat) (s : State) : Result := .next (s.advance t).beginCommit

/-- R262: ABORT written to STRUCT.OLC_CMD, by software or by a REGW record: a prepared change that is not being committed goes. -/
def State.abortChange (s : State) : State :=
  if s.reg STRUCT.STAT.STATE = StructState.prepared ∨ !s.isActive then s.discardChange ChangeResult.aborted else s

/-- R262: ABORT written to STRUCT.OLC_CMD. The prepared change of a unit outside the ACTIVE role goes by its partner's REGW record alone. -/
def execOlcCmdAbort (t _master : Nat) (s : State) : Result :=
  let s := s.advance t
  .next (if s.isActive then s.abortChange else s)

/-- The staged set is a change commit (R266). -/
def isChangeSet (p : PSet) : Bool :=
  p.recs.any (fun r => match r.body with
    | .regw a _ => a == STRUCT.OLC_COMMIT.ID.addrOf 0
    | _ => false)

/-- R266 step 5 on the partner: the staged change commit set is dropped, the prepared change kept. -/
def State.retractChange (s : State) : State :=
  s.updPair (fun p => { p with prepared := p.prepared.filter (fun x => !isChangeSet x) })

/-- R266, R272: RETRACT acts only in a REGW record from the partner: on a unit that follows the stream. -/
def execOlcCmdRetract (t : Nat) (s : State) : Result :=
  let s := s.advance t
  .next (if s.isActive then s else s.retractChange)

/-! ### The change commit (R266 to R269) -/

/-- The floor of a task counts from its release (R268). -/
def State.startFloor (s : State) (t : Nat) : State :=
  s.updTask t (fun d => { d with floorBase := s.now, floorAt := s.reg TASK.TASKt_FLOOR.FLOOR t, started := true })

/-- Block `b` has room for task `t` once the tasks `out` have left theirs (R116). -/
def State.roomWithout (s : State) (b t : Nat) (out : List Nat) : Bool :=
  let l := (s.tasksOn b).filter (fun x => !out.contains x)
  let used := fun (f : Fld) => (l.map (fun x => s.reg f x)).sum + s.reg f t
  s.blockOpen b && decide (l.length < Config.tasksPerBlock) && decide (used TASK.TASKt_FOOT.ITCM ≤ 1024) &&
    decide (used TASK.TASKt_FOOT.DTCM ≤ 2048)

/-- The tasks whose home block a change gives or moves take their places in the order of R116, all of them out of their old ones first: the
new home, else the first fallback block with room, else NO_HOME (R116, R117, R267). -/
def State.changeHomes (s : State) : List Nat → State
  | [] => s
  | t :: l =>
    let h := s.reg TASK.TASKt_CFG.HOME t
    let s := match (h :: s.moveTargets (h / 4)).find? (fun b => s.roomWithout b t (t :: l)) with
      | some b => if b = s.tBlock t then s.placeTask t b else s.moveTask t b
      | none => (s.faultTask t TaskCause.noHome h).cause 2 true
    s.changeHomes l

/-- A task under the changed image (R268). -/
def State.changeTask (s : State) (old new : Image) (t : Nat) : State :=
  let s := s.updTask t (fun d => { d with heldBy := false })
  let st := s.tState t
  if kindIn new t = 0 then
    let s := s.each (s.task t).invocations (fun s v => s.dropInvocation t v 3)
    let s := s.forgetFailed t
    let s := (s.leaveCore t).setTState t TaskState.unused
    { s with tasks := { s.tasks with task := s.tasks.task.set t default } }
  else if kindIn old t = 0 then ((s.freshTask t).initArea new t).startFloor t
  else
    let alt := entryAltered old new t
    let s := if alt then s.setReg TASK.TASKt_STATE.OVRRUN t 0 else s
    let s := if alt && new.stateInit.get t then (s.initArea new t).updTask t (fun d => { d with prevSeq := 0 }) else s
    let s := (s.startFloor t).updTask t (fun d => { d with skipUntil := 0 })
    if st = TaskState.faulted ∨ (st = TaskState.starved ∧ !alt) then s else s.setTState t TaskState.idle

/-- The ring whose station settings a key belongs to, if it is one. -/
def stationRing (k : Nat) : Option Nat :=
  match fieldOfKey k with
  | some f =>
    if f = STN.RINGr_CFG.DROPN then some (k % 2 ^ 20)
    else if stationFlds.contains f then some (k % 2 ^ 20 / 128)
    else none
  | none => none

/-- The key is a setting of a loop channel. -/
def ofChannel (k : Nat) : Bool :=
  match fieldOfKey k with
  | some f => f.addr / 2 ^ 12 == 0x40140 && f.count == 32
  | none => false

/-- The key is of a strainer element (R373). -/
def ofStrainer (k : Nat) : Bool :=
  match fieldOfKey k with
  | some f => strainerFlds.contains f
  | none => false

/-- The changed settings take their new image values; the others keep what they have, those of stations wait for the next period start, and
those of loop channels for the next sample (R207, R267). The strainer elements that are replaced are kept for a frame in reception. -/
def State.changeSettings (s : State) (old new : Image) : State :=
  let all := changedKeys old.given new.given
  let ks := all.filter (fun k => (stationRing k).isNone && !ofChannel k)
  let s := { s with loops := { s.loops with due := (s.loops.due ++ all.filter ofChannel).dedup } }
  let s := s.updStruct (fun x => { x with changedAt := s.now, oldStrainer := s.regs.filter (fun e => ofStrainer e.1) })
  let wait := fun (s : State) (r : Nat) => { s with rings := { s.rings with
    due := s.rings.due.set r (some ((s.rings.due.get r).getD [] ++ all.filter (fun k => stationRing k == some r))) } }
  let s := wait (wait { s with settings := new.given } 0) 1
  { s with regs := ks.foldl (fun r k => r.set k (fitKey k (new.given.get k))) s.regs }

/-- Stations and routes that a change alters (R207, R267). A ring that runs no periods takes its stations at once. -/
def State.changeUnits (s : State) : State :=
  (s.each [0, 1] (fun s r => if s.flag STN.RINGr_CFG.EN r then s else s.takeStations r)).placeStrands

/-- R267, R268: everything the change commit does under its sequence number. -/
def State.applyChange (s : State) (c : Container) (n : Nat) : State :=
  match s.struct.image with
  | none => s
  | some old =>
    let new := c.image
    let affected := affectedTasks old new
    let before := s.regs
    let cells := alteredCells old new
    let s := (s.endFrame cells).setReg STRUCT.SLOT.ACTIVE 0 s.spareSlot
    let s := s.dropForces new.dir
    let news := s.freshSignals new.dir
    let s := (s.changeSettings old new).putDirectory new.dir
    let s := { s with tasks := { s.tasks with cfg := new.tasks }, leaf := { s.leaf with colour := new.colours } }
    let s := s.updStruct (fun x => { x with image := some new, prepared := none, affected := [], commitMseq := none })
    let s := s.each news (fun s g => s.moduleWrite g 0xF005 0 Quality.bad 0xD n)
    let s := s.each affected (fun s t => s.changeTask old new t)
    let s := s.each (affected.filter (fun t => kindIn old t == 0 && kindIn new t != 0)) State.queueStart
    let s := s.each (List.range 16) State.showTcm
    let moved := affected.filter (fun t => kindIn new t != 0 && (kindIn old t == 0 || homeIn old t != homeIn new t))
    let s := s.changeHomes (s.moveOrder moved)
    let s := { s with cells := { s.cells with cfg := new.cells } }
    let s := s.each cells (fun s k => s.loadCell (sameFields before s.regs cellShape k) k)
    let s := (((s.changeUnits.showDerived).showRemaps cells).each cells State.showDead).dropNets.settle.showPins
    let s := (s.setReg STRUCT.IMAGE_ID.ID 0 new.id).showHash STRUCT.HASHk.HASH new.hash
    let s := ((s.setReg STRUCT.OLC_COMMIT.ID 0 new.id).setReg STRUCT.OLC_SEQ_LO.SEQ 0 n).setReg STRUCT.OLC_SEQ_HI.SEQ 0 (n / 2 ^ 32)
    let s := (s.addReg STRUCT.COUNTS.CHANGES 0 1).lifeAdd 0x154 1
    let s := (s.setReg STRUCT.STAT.STATE 0 StructState.idle).showPending
    let s := (s.each (List.range 16) State.showStarved).capClocks
    ((s.changeResult ChangeResult.committed new.id).showBudget.showCeil.showDiverged).showFaults

/-- The change is granted on the active unit (R266 steps 3 and 4); the transfer to a partner in SYNC starts again (R271). -/
def State.grantChange (s : State) : State :=
  match s.struct.prepared with
  | none => s
  | some c =>
    let took := (s.now - s.struct.holdAt) / us 1
    let m := s.struct.commitMseq
    let (n, s) := s.grantSeq 1
    let s := s.applyChange c n
    let s := match m with
      | some m =>
        (s.updPair (fun p => { p with openSets := p.openSets.filter (fun x => x != m) })).sendMirror .sync (.grant m) (seq64 := n)
      | none => s
    let s := s.setReg STRUCT.OLC_LASTHOLD.TIME 0 (min took (2 ^ 32 - 1))
    let s := s.answerChange 0x0302 ChangeResult.committed
    (if s.reg PAIR.PARTNER.MODE = 5 ∧ s.streaming then s.startFeed else s).dispatchAll

/-- Every affected task is HELD, or stands in no cycle (R265). -/
def State.allHeld (s : State) : Bool := s.struct.affected.all (fun t => (s.task t).phase == .none)

/-- R266: every affected task is HELD and the change commit is taken: at once without a STANDBY partner, else its set is prepared there
first. -/
def execChangeCommit (t : Nat) (s : State) : Result :=
  let s := s.advance t
  if s.reg STRUCT.STAT.STATE ≠ StructState.holding ∨ s.struct.commitMseq.isSome ∨ !s.allHeld then .next s
  else if !s.partnerStandby ∨ !s.streaming then .next s.grantChange
  else
    let id := (s.struct.prepared.map (·.image.id)).getD 0
    let s := s.sendMirror .sync (.regw (STRUCT.OLC_COMMIT.ID.addrOf 0) id) true
    let m := s.reg PAIR.MSEQ_SENT.MSEQ
    let s := s.updPair (fun p => { p with openSets := p.openSets ++ [m] })
    .next (s.updStruct (fun x => { x with commitMseq := some m, commitAt := s.now }))

/-- R265: HOLDMAX passes while tasks are still in their cycles. -/
def execHoldmaxExpiry (t : Nat) (s : State) : Result :=
  let s := s.advance t
  if s.reg STRUCT.STAT.STATE = StructState.holding ∧ s.struct.commitMseq.isNone ∧ !s.allHeld ∧
      s.struct.holdAt + msec (s.reg STRUCT.OLC_CFG.HOLDMAX) ≤ s.now then .next (s.endAttempt ChangeResult.timeout)
  else .next s

/-- R266 step 5: no acknowledgement of the staging within 20 µs. -/
def execChangeAckTimeout (t : Nat) (s : State) : Result :=
  let s := s.advance t
  match s.struct.commitMseq with
  | some m =>
    if s.struct.commitAt + us 20 ≤ s.now then
      let s := s.updPair (fun p => { p with openSets := p.openSets.filter (fun x => x != m) })
      let s := s.mirrorReg (STRUCT.OLC_CMD.OP.addrOf 0) 3
      .next (s.endAttempt ChangeResult.partnerNotReady)
    else .next s
  | none => .next s

/-- The structure session, if one is open (kinds 1 STRUCT and 4 OLC). -/
def State.structSession (s : State) : Bool :=
  match s.port.session with
  | some x => x.kind == 1 || x.kind == 4
  | none => false

/-- R262: a transfer, or a prepared change of the active unit, lapses after 10 minutes without command traffic. -/
def execTransferLapse (t : Nat) (s : State) : Result :=
  let s := s.advance t
  let open_ := s.structSession && (match s.port.session with
    | some x => decide (x.lastAt + sec 600 ≤ s.now)
    | none => false)
  let prep := s.isActive && s.struct.prepared.isSome && s.reg STRUCT.STAT.STATE == StructState.prepared &&
    decide (s.struct.traffic + sec 600 ≤ s.now)
  if open_ then
    let s := s.closeSession
    .next (s.changeResult ChangeResult.lapsed 0)
  else if prep then .next (s.discardChange ChangeResult.lapsed)
  else .next s

end Sys2Proof.Machine
end

