-- ==== Sys2Proof/Machine/Mirror.lean ====
section
/-! DEFINITION. The meanings of mirror records received over the Vorvy link (R222 to R231, R242, R259, R266, R289, R321, R323, R362). -/

namespace Sys2Proof.Machine

/-- The unit follows the stream (R223): it stands by, or its transfer has reached the state items. Before that there is nothing that a
record could change. -/
def State.follows (s : State) : Bool :=
  s.pair.linkUp && (s.mode == .standby || (s.mode == .sync && decide (3 ≤ s.reg PAIR.BULK.PHASE)))

/-- The standby answers with an ACK (R225). -/
def State.sendAck (s : State) : State := s.sendPlain (.ack (s.reg PAIR.MSEQ_APPLIED.MSEQ) s.pair.stagedMseq)

/-- The module sequence follows the stream (R65). -/
def State.follow64 (s : State) (n : Nat) : State :=
  if n = 0 ∨ !laterMod 64 n s.pair.lastApplied64 then s
  else { s with pair := { s.pair with lastApplied64 := n }, img := { s.img with seq := n } }

/-! ### What each body changes -/

/-- A published slot (R57, R79, R86, R224): written as the active unit's commit wrote it, FLAGS rebuilt, to RAW while its signal is forced, else
to the slot; pins and safety requests follow; the poison of its words comes with it (R281). Signals that are not mirrored are not in the
stream, and a source that does not own the signal writes nothing (R61). -/
def State.takeSlot (s : State) (sig : Nat) (sl : Slot) (n marks : Nat) : State :=
  if !s.isMirrored sig then s
  else if !s.mayWrite sig sl.source then s.ownerRefused sig sl.source
  else s.commitSlot sig sl.source sl.value sl.qual sl.detail n marks

/-- Words of a line or chunk at a physical byte address, each with its poison flag at bit 64 (R281). The mirror DMA writes them through its
guard: from the first word that its key does not admit on nothing is written (R291, R294 to R297). -/
def State.takeWords (s : State) (addr : Nat) (data : List Nat) : State :=
  match locate (addr / 8) with
  | none => s
  | some (m, w) =>
    s.dmaWrite mirrorDma 256 m w (data.take (memWords m - w))

/-- A KiB of the transfer (R242): DRAM, or the committed image, of which only mirrored signals are taken. The time of R79 counts from here:
the owner's write lies before the transfer (DEDUCED, notes/assumptions/85.md). FOLLOW pins and MOVE cells follow it (R212). -/
def State.takeBulk (s : State) (addr : Nat) (data : List Nat) : State :=
  match locate (addr / 8) with
  | some (1, w) =>
    let taken := (data.zip (List.range data.length)).filter (fun x => decide (w + x.2 < trayImageWords) && s.isMirrored ((w + x.2) / 2))
    match taken.find? (fun x => !s.admitted mirrorDma 256 1 1 (w + x.2)) with
    | none =>
      let s := s.each taken (fun s x =>
        let s := s.writeMarked 1 (w + x.2) x.1
        { s with img := { s.img with lastWrite := s.img.lastWrite.set ((w + x.2) / 2) s.now } })
      (s.each ((taken.map (fun x => (w + x.2) / 2)).dedup) State.copyToPins).showAged
    | some x => s.guardRefuse mirrorDma 1 (s.colourAt 1 (w + x.2)) (8 * physical 1 (w + x.2)) false
  | some (0, _) =>
    let s := s.takeWords addr data
    let s := s.updPair (fun p => { p with bulkKiB := min (p.bulkKiB + 1) mirroredChunks })
    let s := s.setReg PAIR.BULK.MIB 0 (s.pair.bulkKiB / 1024)
    s.setReg PAIR.BULK.PHASE 0 (if s.pair.bulkKiB = mirroredChunks then 5 else 4)
  | _ => s

/-- Every run-time or RWL field of the register at an address takes its bits of a word (R242, R259). -/
def State.takeFields (s : State) (addr v : Nat) : State :=
  s.each ((fieldsAt addr).filter (fun x => x.1.acc == .RW || x.1.acc == .RWL)) (fun s x => s.setReg x.1 x.2 (bitField x.1.lo x.1.width v))

/-- A run-time register write of the active unit (R259): the commands of R262, R266, R289, R321 and R323, the offset of a virtual base
(R230), a probe's results (R322), the confirmed check value (R362), and every other setting. -/
def State.takeWrite (s : State) (addr v : Nat) : State :=
  let chan := (addr - LOOP.CHc_CMD.OP.addrOf 0) / 0x40
  if addr = STRUCT.OLC_CMD.OP.addrOf 0 then
    if v % 4 = 2 then s.abortChange else if v % 4 = 3 then s.retractChange else s
  else if addr = LEAF.SCRUB_CMD.OP.addrOf 0 then
    if v % 4 = 1 then s.scrubGo true
    else if v % 4 = 2 ∧ s.scrubbing then s.nextFree.scrubEnd (s.freeVal 32 % (s.leaf.scrubLen + 1)) ScrubResult.aborted
    else s
  else if chan < 32 ∧ addr = LOOP.CHc_CMD.OP.addrOf chan then
    if v % 8 = 2 then s.park chan else if v % 8 = 3 then s.unpark chan else if v % 8 = 4 then s.openElement chan else s
  else if chan < 32 ∧ addr = LOOP.CHc_LEARN.RLINE.addrOf chan then
    ((s.setReg LOOP.CHc_LEARN.RLINE chan (bitField LOOP.CHc_LEARN.RLINE.lo LOOP.CHc_LEARN.RLINE.width v)).setReg LOOP.CHc_LEARN.VLIFT chan
      (bitField LOOP.CHc_LEARN.VLIFT.lo LOOP.CHc_LEARN.VLIFT.width v)).setReg LOOP.CHc_LEARN.VALID chan 1
  else if addr = SAFE.CONFIRMED.VALUE.addrOf 0 then
    (s.setReg SAFE.CONFIRMED.VALUE 0 v).setFlag SAFE.STAT.CONFIRMED 0 (wrap 32 v == s.reg SAFE.CHECK.VALUE)
  else
    let s := s.takeFields addr v
    match [0, 1, 2].find? (fun i => PHASE.VIRTv_OFF_HI.OFF.addrOf i == addr) with
    | some i => s.applyOffset i
    | none => s.when ((fieldsAt addr).any (fun x => x.1.acc == .RWL)) State.showDiverged

/-- A run-time descriptor write (R231): to the staging copy, to RULE.CLR, or through CTRL, at the first frame boundary. -/
def State.takeCell (s : State) (c off v : Nat) : State :=
  if 4096 ≤ c then s
  else if off = 0 then (s.endFrame [c]).applyCtrl c (wrap 32 v)
  else if off = 0x18 then s.when (bitOf 5 v) (fun s => s.clearLatch c)
  else s.stageWord c off v

/-- A base that is slaved takes a value as of now (R230), and one that is not in use is left alone. Epoch 0 names a
base that has never been acquired (R28), so it locks nothing. -/
def State.slave (s : State) (b v epoch : Nat) : State :=
  let st := s.baseState b
  if st = BaseState.notFitted ∨ st = BaseState.unused then s
  else
    let s := s.anchorAt b v
    if epoch ≠ 0 ∧ (st = BaseState.invalid ∨ st = BaseState.acquiring) then s.setBaseState b BaseState.locked else s

/-- A step of the active unit (R230): the new epoch, and for PB1 and PB12 the new value; the others keep their own. The epoch has
stepped, so the unit writes its discontinuity record (R27); a further cause of the same step, under the same epoch, extends that record
(R35). -/
def State.takeStep (s : State) (b value epoch cause : Nat) : State :=
  if b = 0 ∨ 16 ≤ b then s
  else
    let acq := bitOf 4 cause
    let again := !acq && s.baseEpoch b == wrap 16 epoch
    let org := if again then (s.phase.base.get b).stepFrom else s.baseVal b
    let s := s.keepPast
    let s := if b = 1 ∨ b = 12 then s.stepBase b cause acq (fun s => s.slave b (wrap 64 value) epoch) else s
    let s := (s.setReg PHASE.BASEn_EPOCH.EPOCH b epoch).updBase b (fun d => { d with stepFrom := org })
    let size := satSigned 32 (toSigned 64 (diffMod 64 (s.baseVal b) org))
    let s := if again then s.amendStep b (cause / 16 * 16) size
      else (s.record 0x701 (b + cause / 16 * 16) .info [(2, s.baseEpoch b), (4, size)]).addReg PHASE.BASEn_STEPCNT.COUNT b 1
    let s := s.setReg PHASE.BASEn_STATUS.STEPPED b 1
    let s := s.setReg PHASE.STEP_PEND.BASE 0 (orBits (s.reg PHASE.STEP_PEND.BASE) (2 ^ b))
    s.lateFirings b (s.baseVal b) (s.baseVal b) false

/-- A TIME record (R230): PB1 and PB12 follow the active unit, `age` quarter nanoseconds after its link timestamp. A base that the unit has
not acquired yet takes this first value by a step (R29). -/
def State.takeTime (s : State) (pb1 e1 pb12 e12 age : Nat) : State :=
  let one := fun (s : State) (b v e : Nat) =>
    let v := wrap 64 (v + age / 4)
    let st := s.baseState b
    if e ≠ 0 ∧ (st = BaseState.invalid ∨ st = BaseState.acquiring) then s.takeStep b v e Cause.acquisition
    else (s.slave b v e).setReg PHASE.BASEn_EPOCH.EPOCH b e
  ((one (one s.keepPast 1 pb1 e1) 12 pb12 e12).steerRef 1 |>.steerRef 12).settle

/-- A task's state (R223); one that has left FAULTED has restarted, and its next cycle names no previous commit (R103). -/
def State.takeTask (s : State) (t st cause ovr pos : Nat) : State :=
  if 256 ≤ t then s
  else
    let s := if s.tState t = TaskState.faulted ∧ st ≠ TaskState.faulted then s.updTask t (fun d => { d with prevSeq := 0 }) else s
    let s := ((s.setReg TASK.TASKt_STATE.STATE t st).setReg TASK.TASKt_STATE.CAUSE t cause).setReg TASK.TASKt_STATE.OVRRUN t ovr
    (s.updTask t (fun d => { d with readPos := pos })).showFaults

/-- A commit of the active unit (R224): its number is the task's previous and last one (R103, R122). A prepared set is granted under it. -/
def State.takeCommit (s : State) (t n : Nat) : State :=
  if 256 ≤ t ∨ n = 0 then s
  else ((s.updTask t (fun d => { d with prevSeq := n })).setReg TASK.TASKt_LSEQ_LO.SEQ t n).setReg TASK.TASKt_LSEQ_HI.SEQ t (n / 2 ^ 32)

/-- What a record's body changes under number `n`. -/
def State.takeBody (s : State) (n : Nat) : MBody → State
  | .slot sig sl marks => s.takeSlot sig sl n marks
  | .line addr data => s.takeWords addr data
  | .ingress source slots =>
    (s.each (slots.zip (List.range slots.length)) (fun s x =>
      if source / 4096 = 15 then s.moduleWrite x.1.1 source x.1.2.1 (x.1.2.2 % 16) (x.1.2.2 / 16) (n + x.2)
      else if !s.mayWrite x.1.1 source then s.ownerRefused x.1.1 source
      else s.acceptWrite x.1.1 source x.1.2.1 (x.1.2.2 % 16) (x.1.2.2 / 16) (n + x.2) s.now)).follow64 (n + slots.length - 1)
  | .capture e marks => s.pushCapture e marks
  | .force sig set v port => (if set then s.placeForce sig v port n else s.liftForce sig n).copyToPins sig
  | .taskst t st cause ovr pos => s.takeTask t st cause ovr pos
  | .regw addr v => s.takeWrite addr v
  | .cellw c off v => s.takeCell c off v
  | .safety bytes => s.updSafe (fun x => { x with mirrored := bytes })
  | .step b v e c => s.takeStep b v e c
  | .bulk addr data => s.takeBulk addr data
  | .time pb1 e1 pb12 e12 age => s.takeTime pb1 e1 pb12 e12 age
  | .commit task .. => s.takeCommit task n
  | .hb .. | .ack .. | .grant _ | .resign .. | .struct .. => s

/-! ### Sets (R224, R225) -/

/-- A whole set applies: each record under its own number, or all under the number a GRANT gives. -/
def State.applySet (s : State) (l : List MRec) (n : Option Nat) : State :=
  s.each l (fun s r => let k := n.getD r.seq64; (s.takeBody k r.body).follow64 k)

/-- R266 step 4: a staged set applies under its number; a change commit makes the unit apply its prepared change. -/
def State.applyPrepared (s : State) (p : PSet) (n : Nat) : State :=
  if isChangeSet p then
    match s.struct.prepared with
    | some c => ((s.storeSpare { c with kind := 1 }).applyChange c n).follow64 n
    | none => s
  else s.applySet p.recs (some n)

/-- R266 step 2: the IMAGE_ID a change commit set names. -/
def changeId (l : List MRec) : Option Nat :=
  l.findSome? (fun r => match r.body with
    | .regw a v => if a = STRUCT.OLC_COMMIT.ID.addrOf 0 then some v else none
    | _ => none)

/-- A prepared set is staged and acknowledged (R225); one beyond 64 sends the unit to SYNC with MIRROR OVERFLOW; a change commit that
does not name the unit's own prepared change is discarded with a record (R266). -/
def State.stageSet (s : State) (m : Nat) (l : List MRec) : State :=
  if Config.preparedMax ≤ s.pair.prepared.length then s.catchUp 9
  else match changeId l with
    | some id =>
      if (s.struct.prepared.map (·.image.id)) = some id then
        (s.updPair (fun p => { p with prepared := p.prepared ++ [{ mseq := m, recs := l }], stagedMseq := m })).sendAck
      else s.record 0xE04 0 .warning [(4, id)]
    | none => (s.updPair (fun p => { p with prepared := p.prepared ++ [{ mseq := m, recs := l }], stagedMseq := m })).sendAck

/-- The last record of a set has arrived. -/
def State.endSet (s : State) (m : Nat) : State :=
  let l := s.pair.rxSet
  let s := s.updPair (fun p => { p with rxSet := [] })
  if l.any (·.sync) then s.stageSet m l
  else (s.applySet l none).setReg PAIR.MSEQ_APPLIED.MSEQ 0 m

/-- A record of a set joins it (R224). -/
def State.receive (s : State) (r : MRec) : State :=
  if !s.follows then s
  else
    let s := s.updPair (fun p => { p with rxSet := p.rxSet ++ [r] })
    if r.last then s.endSet r.mseq else s

/-- R224: COMMIT opens a commit set. -/
def execCommitRecord (t : Nat) (h : RecHead) (task block slots lines : Nat) (s : State) : Result :=
  .next ((s.advance t).receive (h.record (.commit task block slots lines)))

/-- R224: one published slot. -/
def execSlotRecord (t : Nat) (h : RecHead) (sig : Nat) (slot : Slot) (s : State) : Result :=
  .next ((s.advance t).receive (h.record (.slot sig slot h.marks)))

/-- R224: one dirty line; each of its eight words with its poison flag at bit 64. -/
def execLineRecord (t : Nat) (h : RecHead) (addr : Nat) (data : List Nat) (s : State) : Result :=
  .next ((s.advance t).receive (h.record (.line addr (data.take 8))))

/-- R225: the staged set that the record names applies under the record's SEQ64. -/
def execGrantRecord (t : Nat) (h : RecHead) (mseq : Nat) (s : State) : Result :=
  let s := s.advance t
  if !s.follows then .next s
  else match s.pair.prepared.find? (fun p => p.mseq == wrap 32 mseq) with
    | some p =>
      let s := s.updPair (fun q => { q with prepared := q.prepared.filter (fun x => x.mseq != p.mseq) })
      .next ((s.applyPrepared p (wrap 64 h.seq64)).setReg PAIR.MSEQ_APPLIED.MSEQ 0 h.mseq)
    | none => .next (s.catchUp 9)

/-- R224: an ingress delivery; each slot carries signal, value, and quality with its detail in bits [7:4]. -/
def execIngressRecord (t : Nat) (h : RecHead) (source : Nat) (slots : List (Nat × Nat × Nat)) (s : State) : Result :=
  .next ((s.advance t).receive (h.record (.ingress source slots)))

/-- R223: one capture queue entry. -/
def execCaptureRecord (t : Nat) (h : RecHead) (e : CapEntry) (s : State) : Result :=
  .next ((s.advance t).receive (h.record (.capture e h.marks)))

/-- R229: a force is set or cleared. -/
def execForceRecord (t : Nat) (h : RecHead) (sig : Nat) (set : Bool) (value port : Nat) (s : State) : Result :=
  .next ((s.advance t).receive (h.record (.force sig set value port)))

/-- R223: a task's state. -/
def execTaskstRecord (t : Nat) (h : RecHead) (task state cause ovrrun readPos : Nat) (s : State) : Result :=
  .next ((s.advance t).receive (h.record (.taskst task state cause ovrrun readPos)))

/-- R259: a run-time register write; as a prepared set, a change commit (R266). -/
def execRegwRecord (t : Nat) (h : RecHead) (addr value : Nat) (s : State) : Result :=
  .next ((s.advance t).receive (h.record (.regw addr (wrap 32 value))))

/-- R231: a run-time descriptor write. -/
def execCellwRecord (t : Nat) (h : RecHead) (cell off value : Nat) (s : State) : Result :=
  .next ((s.advance t).receive (h.record (.cellw cell off (wrap 32 value))))

/-- R362: the mirrored safety state. -/
def execSafetyRecord (t : Nat) (h : RecHead) (bytes : List Nat) (s : State) : Result :=
  .next ((s.advance t).receive (h.record (.safety ((bytes.take 16).map (wrap 8)))))

/-- R230: PB1 and PB12 of the active unit, `age` quarter nanoseconds of the unit's PB0 after the link timestamp. -/
def execTimeRecord (t : Nat) (h : RecHead) (pb1 epoch1 pb12 epoch12 age : Nat) (s : State) : Result :=
  .next ((s.advance t).receive (h.record (.time pb1 epoch1 pb12 epoch12 age)))

/-- R230: a base has stepped on the active unit. -/
def execStepRecord (t : Nat) (h : RecHead) (base value epoch cause : Nat) (s : State) : Result :=
  .next ((s.advance t).receive (h.record (.step base value epoch cause)))

/-- R242: a KiB of the mirrored area, or of the image. -/
def execBulkRecord (t : Nat) (h : RecHead) (addr : Nat) (data : List Nat) (s : State) : Result :=
  .next ((s.advance t).receive (h.record (.bulk addr (data.take 128))))

/-! ### The structure image (R242, R257, R263) -/

/-- STRUCTURE (R242): an image that differs from the unit's own is checked, stored and loaded; the state items follow. A prepared change
stays (R262). -/
def State.takeStructure (s : State) (c : Container) : State :=
  let same := decide ((s.structSlot (s.reg STRUCT.SLOT.ACTIVE)).map (·.image.hash) = some c.image.hash)
  let bad := if same then none else s.checkContainer { c with kind := 1 } false
  match bad with
  | some r => (s.rejectStruct r).setReg PAIR.STAT.SYNCWHY 0 6
  | none =>
    let s := if same then s else (s.storeSpare { c with kind := 1 }).setReg STRUCT.SLOT.ACTIVE 0 s.spareSlot
    let s := s.each s.img.forces.keys State.freeForce
    let s := { s with img := { s.img with cq := [] } }
    let s := (s.countForces).loadImage c.image false
    let s := (s.updStruct (fun x => { x with loading := none })).updPair (fun p => { p with bulkKiB := 0 })
    let s := (s.setReg PAIR.BULK.PHASE 0 3).setReg PAIR.BULK.MIB 0 0
    if s.reg PAIR.STAT.SYNCWHY = 9 then s else s.setReg PAIR.STAT.SYNCWHY 0 2

/-- R263: a STANDBY partner checks a delta against its own running image and keeps the result; it refuses nothing back. -/
def State.takeDelta (s : State) (c : Container) : State :=
  let s := if s.struct.prepared.isSome then s.dropPrepared else s
  match s.checkContainer c false with
  | some r => s.rejectStruct r
  | none =>
    let s := (s.storeSpare { c with kind := 1 }).updStruct (fun x => { x with prepared := some c })
    (s.setReg STRUCT.STAT.STATE 0 StructState.prepared).showPending

/-- R242 CHECK: variant, mirror protocol version and firmware compatibility with a partner in the ACTIVE role, as its last HB record gave
them. A failure is the reason the unit stays in SYNC; otherwise the structure follows. -/
def State.checkPartner (s : State) : State :=
  if s.mode ≠ .sync ∨ s.reg PAIR.BULK.PHASE ≠ 1 ∨ s.reg PAIR.STAT.SYNCWHY = 10 ∨ !s.pair.partnerAuth ∨
      !activeMode s.pair.partnerRole then s
  else
    let own := s.fwSlot 0 (s.fwRunning 0)
    let fits := match own, s.pair.peer with
      | some x, some y => peersAccept x y
      | _, _ => true
    if s.reg PAIR.PARTNER.VARIANT ≠ s.reg SYS.VARIANT.CODE then s.setReg PAIR.STAT.SYNCWHY 0 3
    else if s.reg PAIR.PARTNER.PROTO ≠ s.reg UPD.MPROTO.OWN then s.setReg PAIR.STAT.SYNCWHY 0 4
    else if !fits then s.setReg PAIR.STAT.SYNCWHY 0 5
    else
      let s := s.setReg PAIR.BULK.PHASE 0 2
      if s.reg PAIR.STAT.SYNCWHY = 9 then s else s.setReg PAIR.STAT.SYNCWHY 0 1

/-- R242, R263, R271: a chunk of a container; the container is whole with its last chunk. -/
def execStructRecord (t : Nat) (h : RecHead) (c : Container) (s : State) : Result :=
  let s := s.advance t
  if !s.pair.linkUp ∨ !h.last then .next s
  else if s.mode = .standby ∧ c.kind = 2 then .next ((s.takeDelta c).setReg PAIR.MSEQ_APPLIED.MSEQ 0 h.mseq)
  else
  let s := s.checkPartner
  if s.mode = .sync ∧ 2 ≤ s.reg PAIR.BULK.PHASE then .next ((s.takeStructure c).setReg PAIR.MSEQ_APPLIED.MSEQ 0 h.mseq)
  else .next s

/-- R223: a record of another TYPE is discarded, counted, and recorded once. -/
def execUnknownRecord (t type : Nat) (s : State) : Result :=
  let s := s.advance t
  if !s.pair.linkUp then .next s
  else
    let seen := s.pair.unknownSeen
    let s := s.updPair (fun p => { p with unknownSeen := true, unknownCount := p.unknownCount + 1 })
    .next (if seen then s else s.record 0x908 0 .warning [(1, type)])

end Sys2Proof.Machine
end

