-- ==== Sys2Proof/Machine/Pair.lean ====
section
/-! DEFINITION. The meanings of the pair commands (R214 to R245, R483): heartbeats, paths, the link, the latch and its claims, takeover,
acknowledgements, resignation and the way from SYNC to STANDBY. -/

namespace Sys2Proof.Machine

/-! ### Heartbeats (R215, R216, R223) -/

/-- The modes in which a unit sends heartbeats (R215, R476). -/
def Mode.beats : Mode → Bool
  | .off | .recovery | .halt => false
  | _ => true

/-- A partner in SYNC is owed a new transfer (R226, R242, R243, R478): the stream has overflowed, or the unit's heartbeats show the ACTIVE role
for the first time since they showed another mode. -/
def State.owesFeed (s : State) : Bool :=
  s.isActive && s.reg PAIR.PARTNER.MODE == Mode.sync.code && (s.pair.feedOwed || !activeMode s.pair.beatMode)

/-- R215: a heartbeat on both paths, while the engine's checks pass and RUNTIME has served it. The transfer that a partner in SYNC is owed
follows the heartbeat that tells it of the role. -/
def execHeartbeatSend (t : Nat) (checks : Bool) (s : State) : Result :=
  let s := s.advance t
  if !checks ∨ !s.mode.beats then .next s
  else .next (s.beat.when s.owesFeed State.startFeed)

/-- R216, R217: a path 2 frame is valid when its check is right and its counter differs from that of the last valid one. -/
def execPath2HeartbeatRx (t b0 b1 b2 b3 : Nat) (s : State) : Result :=
  let s := s.advance t
  let b0 := wrap 8 b0
  let b1 := wrap 8 b1
  if s.mode = .off ∨ hbCrc b0 b1 (wrap 8 b2) ≠ wrap 8 b3 ∨ s.pair.p2Ctr = some b1 then .next s
  else .next ((s.updPair (fun p => { p with p2Ctr := some b1 })).hear 2 b0)

/-- R216, R217, R223: an HB record. `b13` is its byte 13. -/
def execHbRecord (t b0 counter epoch variant proto b13 : Nat) (peer : Option FwImage) (s : State) : Result :=
  let s := s.advance t
  let c := wrap 8 counter
  if s.mode = .off ∨ !s.pair.linkUp ∨ s.pair.p1Ctr = some c then .next s
  else
    let e := wrap 32 epoch
    let s := s.updPair (fun p => { p with
      p1Ctr := some c, partnerBumpless := bitOf 0 b13, hiPartner := seenEpoch p.hiPartner e, peer := peer })
    let s := (s.setReg PAIR.PARTNER.VARIANT 0 variant).setReg PAIR.PARTNER.PROTO 0 proto
    .next (s.hear 1 (wrap 8 b0)).checkPartner

/-! ### Losses (R217, R218, R232, R241, R244) -/

/-- The last valid heartbeat of the partner, on the later of the two paths (R235 step 1). -/
def State.lastHeard (s : State) : Nat := max s.pair.p1At s.pair.p2At

/-- A unit in SYNC has lost its partner (R232): it restarts as a lone unit, or waits with PARTNER LOST, in no transfer, for a module reset
(R243). -/
def State.syncLost (s : State) : State :=
  let w := s.reg PAIR.CFG.SYNCLOST
  let s := s.record 0x90A 0 .warning [(1, w)]
  if w = 0 then s.moduleReset ResetCause.syncLost else (s.enterSync 10).setReg PAIR.BULK.PHASE 0 0

/-- Both paths are lost (R232, R244). -/
def State.partnerFailed (s : State) : State :=
  match s.mode with
  | .standby =>
    if s.pair.claimFor ≠ 0 then s
    else if s.pair.partnerResign then
      (s.updPair (fun p => { p with resignRx := if p.resignRx = 0 then s.now + 1 else p.resignRx })).claim Claim.resignation
    else if s.flag PAIR.PARTNER.LEAVING then s.updPair (fun p => { p with waitLeaving := true, leavingSince := s.now })
    else s.claim Claim.takeover
  | .sync => if s.reg PAIR.STAT.SYNCWHY = 10 then s else s.syncLost
  | _ => s

/-- R217: 200 µs have passed without a valid heartbeat on a path. -/
def execPathLoss (t path : Nat) (s : State) : Result :=
  let s := s.advance t
  let lost := fun (s : State) (p : Nat) => s.flag (if p = 1 then PAIR.STAT.PATH1_LOST else PAIR.STAT.PATH2_LOST)
  let last := if path = 1 then s.pair.p1At else s.pair.p2At
  if s.mode = .off ∨ !(path = 1 ∨ path = 2) ∨ lost s path ∨ s.now < last + Config.pathLost then .next s
  else
    let s := (s.losePath path).judgePair
    .next (if lost s 1 && lost s 2 then s.partnerFailed else s)

/-- R218: one lane fails. -/
def execLaneDown (t : Nat) (s : State) : Result :=
  let s := s.advance t
  if s.flag PAIR.STAT.LANE_DOWN then .next s
  else .next ((s.setReg PAIR.STAT.LANE_DOWN 0 1).record 0x903 0 .warning [])

/-- R218, R242: the link is lost while path 2 holds: a STANDBY enters SYNC with LINK LOST, a transfer starts afresh, the active unit goes
on with no hot partner. -/
def execVorvyLinkLoss (t : Nat) (s : State) : Result :=
  let s := s.advance t
  let s := s.updPair (fun p => { p with linkUp := false, linkDownAt := s.now, feeding := false })
  if s.flag PAIR.STAT.PATH2_LOST then .next s
  else match s.mode with
    | .standby => .next (s.catchUp 8)
    | .sync => .next (if s.reg PAIR.BULK.PHASE ≤ 1 then s else s.catchUp 8)
    | _ => .next (s.when s.isActive (fun s => s.dropStream.judgePair))

/-- R243: the link returns, and with it a unit in SYNC with LINK LOST or CLAIM REFUSED starts a new transfer. -/
def execVorvyLinkReturn (t : Nat) (s : State) : Result :=
  let s := s.advance t
  let s := (s.updPair (fun p => { p with linkUp := true })).setReg PAIR.STAT.LANE_DOWN 0 0
  let why := s.reg PAIR.STAT.SYNCWHY
  if s.mode = .sync ∧ (why = 7 ∨ why = 8) then .next (s.catchUp why)
  else .next (s.when (s.isActive && s.reg PAIR.PARTNER.MODE == 5) State.startFeed)

/-! ### The latch (R219 to R221, R233, R239, R483) -/

/-- R219: the holder refreshes its claim. -/
def execLatchRefresh (t : Nat) (s : State) : Result :=
  let s := s.advance t
  .next (s.when (s.flag PAIR.STAT.AUTH) (fun s => (s.updPair (fun p => { p with lastRefresh := s.now })).emit .latchRefresh))

/-- R233: every staged prepared set applies under the next number. -/
def State.applyStaged (s : State) : State :=
  s.each s.pair.prepared (fun s p => let (n, s) := s.grantSeq 1; s.applyPrepared p n)

/-- What a unit that takes over does beside the image (R236, R363, R369, R388, R407, R448): the safety unit, the CAN ports, plant time, the
front end, the sources of the loops, which start afresh (R71); a channel parked for the partner's probe drops its park (R329). -/
def State.takeUnits (s : State) : State :=
  let s := s.each (List.range 32) (fun s c => (s.resetSource (256 + c)).unpark c)
  let s := s.safeTakeover.canTakeover
  let s := { s with ptp := { s.ptp with takeover := true } }
  s.deliverStopped

/-- The mode of a unit that takes the role (R233, R239, R481). -/
def State.roleMode (s : State) (m : Mode) : Mode := if s.pair.partnerRole = 9 then .hold else m

/-- R233, R237: a takeover. The record ends with the IMAGE_ID of the structure the unit runs (R271). -/
def State.takeOver (s : State) : State :=
  let gone := bn (s.pair.rxSet != [])
  let staged := s.pair.prepared.length
  let s := { s with img := { s.img with seq := s.pair.lastApplied64 } }
  let s := ((s.addReg PAIR.EVENTS.TAKEOVERS 0 1).lifeAdd 0x142 1).jumpSeq
  let s := (s.updPair (fun p => { p with rxSet := [] })).applyStaged
  let s := s.record 0x901 0 .fault
    [(4, s.reg PAIR.EPOCH.EPOCH), (1, bn s.pair.partnerBumpless + 2 * min gone 127), (1, min staged 255), (4, s.reg STRUCT.IMAGE_ID.ID)]
  let s := s.dropPrepared.closeSession
  let heard := s.lastHeard
  let s := s.updPair (fun p => { p with gapFrom := heard + 1 })
  let s := (s.takeUnits.takeRole (s.roleMode .degraded)).settlePtp
  if s.flag STN.RINGr_CFG.EN 0 || s.flag STN.RINGr_CFG.EN 1 then s else s.endGap

/-- R239: every task that is IDLE is dispatched at once: no floor holds it back. -/
def State.dispatchFresh (s : State) : State :=
  (s.each s.taskList (fun s t => s.updTask t (fun d => { d with started := false }))).dispatchAll

/-- R239 step 5: the claim that answers a RESIGN. What is staged applies as at a takeover (R233); a prepared change stays prepared, and its
lapse time begins (R262). -/
def State.takeFromPartner (s : State) : State :=
  let rx := s.pair.resignRx - 1
  let s := s.jumpSeq.applyStaged.updPair (fun p => { p with resignRx := 0, dispatchGap := rx + 1 })
  let s := s.updStruct (fun x => { x with traffic := s.now })
  (s.takeUnits.takeRole (s.roleMode .active)).settlePtp.settleMode.dispatchFresh

/-- A granted claim (R219, R233, R483): the epoch is the latch's, and the role or mode follows what the claim was for. -/
def State.claimGranted (s : State) (epoch : Nat) : State :=
  let what := s.pair.claimFor
  let s := s.updPair (fun p => { p with claimFor := 0, lastRefresh := s.now })
  let s := (s.setReg PAIR.EPOCH.EPOCH 0 epoch).setReg PAIR.STAT.AUTH 0 1
  if what = Claim.takeover then s.takeOver
  else if what = Claim.resignation then s.takeFromPartner
  else if what = Claim.load then ((s.startRings false).afterLoad true).endLoading
  else (s.startRings false).afterLoad false

/-- A refused claim (R233, R483): SYNC, with STRUCTURE when a start finds a partner's heartbeats, else with CLAIM REFUSED. -/
def State.claimRefused (s : State) : State :=
  let what := s.pair.claimFor
  let s := s.record 0x90B 0 .fault [(4, s.pair.claimCand)]
  let s := (s.updPair (fun p => { p with claimFor := 0, resignRx := 0 })).endLoading
  s.catchUp (if (what = Claim.start ∨ what = Claim.load) ∧ s.flag PAIR.PARTNER.VALID then 1 else 7)

/-- R233, R239, R483: the latch answers a claim. `epoch` is the register's value after a grant. -/
def execClaimResult (t : Nat) (granted : Bool) (epoch : Nat) (s : State) : Result :=
  let s := s.advance t
  if s.pair.claimFor = 0 then .next s
  else .next (if granted then s.claimGranted (wrap 32 epoch) else s.claimRefused)

/-- R197, R221: a unit that holds the line finds its claim released, or a higher epoch on a ring. -/
def execClaimReleased (t : Nat) (released : Bool) (s : State) : Result :=
  let s := s.advance t
  if !s.flag PAIR.STAT.AUTH then .next s
  else if released then .next (s.demote 1)
  else if s.pair.hiRing.any (fun e => laterMod 32 e (s.reg PAIR.EPOCH.EPOCH)) then .next (s.demote 2)
  else .next s

/-! ### Acknowledgements (R106, R225, R228, R229, R266) -/

/-- Record number `a` is not later than `b`. -/
def upTo (b a : Nat) : Bool := !laterMod 32 a b

/-- A SYNC commit whose set the standby has staged goes on to its grant (R106); how long that took is noted. -/
def State.ackTask (s : State) (staged t : Nat) : State :=
  let d := s.task t
  match d.ackMseq with
  | some m =>
    if d.waitAck && upTo staged m then
      let took := (s.now - d.commitSentAt) / 400
      let s := (s.maxReg PAIR.SYNCACK.MAX 0 took).histAdd 15 (log2Bin took)
      s.updTask t (fun d => { d with waitAck := false })
    else s
  | none => s

/-- R225: an ACK from the partner. -/
def execAckRecord (t applied staged : Nat) (s : State) : Result :=
  let s := s.advance t
  if !s.isActive ∨ !s.pair.linkUp then .next s
  else
    let a := wrap 32 applied
    let g := wrap 32 staged
    let s := (s.showLag).setReg PAIR.MSEQ_APPLIED.MSEQ 0 a
    let s := (s.updPair (fun p => { p with mq := p.mq.filter (fun e => !(upTo a e.mseq || upTo g e.mseq)) })).showFill
    let s := s.each ((s.tasks.task.filter (fun e => e.2.waitAck)).map Prod.fst) (fun s t => s.ackTask g t)
    let s := s.answerForces (upTo a)
    let s := match s.struct.commitMseq with
      | some m => if upTo g m then s.grantChange else s
      | none => s
    .next ((s.judgePair.sendWaiting).feedMore)

/-- R225: the standby acknowledges at least every 10 µs. -/
def execStandbyAckSend (t : Nat) (s : State) : Result :=
  let s := s.advance t
  .next (s.when (s.mode == .standby || s.mode == .sync) State.sendAck)

/-- R230: the active unit sends a TIME record every 1 ms. -/
def execTimeRecordSend (t : Nat) (s : State) : Result :=
  let s := s.advance t
  if !s.streaming then .next s
  else .next (s.sendMirror .async (.time (s.baseVal 1) (s.baseEpoch 1) (s.baseVal 12) (s.baseEpoch 12) 0)).feedMore

/-- R228: the conditions have held for 10 ms. -/
def execBumplessSettle (t : Nat) (s : State) : Result :=
  let s := (s.advance t).judgePair
  if s.isActive ∧ s.reg PAIR.STAT.NBWHY = 5 ∧ s.pair.okSince + Config.bumplessSettle ≤ s.now then
    let s := (s.setReg PAIR.STAT.BUMPLESS 0 1).setReg PAIR.STAT.NBWHY 0 0
    .next (s.record 0x904 0 .info [(1, 1), (1, 0)])
  else .next s

/-- R228: the oldest unacknowledged record has become more than 1 ms old. -/
def execStreamLag (t : Nat) (s : State) : Result := .next (s.advance t).judgePair

/-- R214: a terminal stays energised for 2 ms while both units command it off. The active unit orders the standby to release the pin. The
stream has no record for that order: DESIGN CHOICE, it leaves on no record, and the standby, which detects the same fault, releases
(notes/assumptions/41.md). -/
def execShadowFault (t pin : Nat) (s : State) : Result :=
  let s := s.advance t
  if 64 ≤ pin ∨ s.reg FPIN.PINp_CFG.DIR pin ≠ 2 ∨ s.pinCommand pin ∨ !s.mode.drivesPins then .next s
  else
    let s := ((s.setReg PAIR.STAT.SHADOW_FAULT 0 1).setReg PAIR.SHADOW.PIN 0 pin).setReg PAIR.SHADOW.VALID 0 1
    let s := s.record 0x909 0 .fault [(1, pin)]
    let s := s.when (s.isActive && s.partnerStandby) (fun s => s.emit (.releasePin pin))
    .next (if s.mode = .standby then (s.setReg FPIN.PINp_STAT.RELEASED pin 1).showPin pin else s)

/-! ### Resignation and removal (R238 to R241) -/

/-- R447: a trial that failed on an active unit with a STANDBY partner resets the unit, or restarts the part, once the unit has resigned. -/
def State.fallBack (s : State) : State :=
  if s.upd.fallReset = 0 then s
  else
    let p := s.upd.fallReset - 1
    (s.updUpd (fun u => { u with fallReset := 0 })).restartPart p ResetCause.trialFailure

/-- R238: RESIGN written to PAIR.CMD. -/
def execPairCmdResign (t _master : Nat) (s : State) : Result := .next ((s.advance t).requestResign 1)

/-- The commit window of a resignation has ended (R239 step 2): cycles that have not executed SCOMMIT are lost. -/
def State.endWindow (s : State) : State :=
  let s := s.each (s.taskList.filter s.inCycle) (fun s t => s.loseCycle t (s.tBlock t))
  s.updPair (fun p => { p with resign := .drain })

/-- R239, R241: the window is 1 ms, or 0.5 ms at removal. -/
def execResignWindowEnd (t : Nat) (s : State) : Result :=
  let s := s.advance t
  let w := if s.pair.resignShort then Config.resignWindowShort else Config.resignWindow
  if s.pair.resign = .window ∧ s.pair.resignAt + w ≤ s.now then .next s.endWindow else .next s

/-- R239 steps 3 and 4: every record is acknowledged and the pair is bumpless; at removal bumpless is waited for no longer than 2 ms. -/
def execResignRelease (t : Nat) (s : State) : Result :=
  let s := s.advance t
  let late := s.pair.resignShort && decide (s.pair.leavingSince + Config.leavingBumplessWait ≤ s.now)
  if s.isActive ∧ s.pair.resign = .drain ∧ s.drained ∧ (s.flag PAIR.STAT.BUMPLESS ∨ late) then .next s.releaseLine.fallBack else .next s

/-- R239 step 5: the partner has resigned: a STANDBY claims. -/
def execResignRecord (t : Nat) (h : RecHead) (_epoch _mseq : Nat) (s : State) : Result :=
  let s := s.advance t
  if !s.pair.linkUp ∨ s.mode ≠ .standby ∨ s.pair.claimFor ≠ 0 then .next s
  else
    let s := s.setReg PAIR.MSEQ_APPLIED.MSEQ 0 h.mseq
    .next ((s.updPair (fun p => { p with resignRx := s.now + 1, rxSet := [] })).claim Claim.resignation)

/-- R241: the early-break contact breaks. -/
def execEarlyBreak (t : Nat) (s : State) : Result :=
  let s := s.advance t
  if s.mode = .off then .next { s with power := { s.power with earlyMade := false } }
  else if !s.power.earlyMade then .next s
  else
    let s := ({ s with power := { s.power with earlyBroke := true, earlyMade := false } }).setReg PAIR.STAT.LEAVING 0 1
    if !s.isActive ∨ s.power.warned then .next s
    else if s.partnerStandby then .next (s.resignShort 3)
    else .next (s.note 9 0 []).flushNow

/-- The commits in progress complete at once, one that waits for an acknowledgement without it (R120, R239 step 2). -/
def State.finishCommits (s : State) : State :=
  s.each (s.tasks.task.keys.filter (fun t => (s.task t).phase == .committing)) (fun s t =>
    (s.updTask t (fun d => { d with waitAck := false })).finishCommit t)

/-- R241: 2 ms have been waited for bumpless: the unit resigns anyway, and its RESIGNED record says so. -/
def execLeavingBumplessWaitEnd (t : Nat) (s : State) : Result :=
  let s := s.advance t
  if s.isActive ∧ s.pair.resignShort ∧ s.pair.resign ≠ .none ∧ s.pair.leavingSince + Config.leavingBumplessWait ≤ s.now ∧
      !s.flag PAIR.STAT.BUMPLESS then .next (s.endWindow).finishCommits.releaseLine.fallBack
  else .next s

/-- R244: no RESIGN has come within 5 ms of the loss of both paths: the standby claims. -/
def execLeavingResignWaitEnd (t : Nat) (s : State) : Result :=
  let s := s.advance t
  if s.pair.waitLeaving ∧ s.mode = .standby ∧ s.pair.claimFor = 0 ∧ s.pair.leavingSince + Config.leavingResignWait ≤ s.now then
    .next (s.claim Claim.takeover)
  else .next s

/-- R242: the transfer is complete and R228 is met: the unit stands by. -/
def execSyncComplete (t : Nat) (s : State) : Result :=
  let s := s.advance t
  if s.mode = .sync ∧ s.reg PAIR.BULK.PHASE = 5 ∧ s.pair.linkUp ∧ s.partnerPresent then
    .next ((s.enterMode .standby).settle).showPins
  else .next s

end Sys2Proof.Machine
end

