-- ==== Sys2Proof/Machine/Recorder.lean ====
section
/-! DEFINITION. The meanings of the recorder and lifetime commands (16_recorder_and_lifetime.md). -/

namespace Sys2Proof.Machine

/-! ### Flushing and reading (R463 to R466, R474) -/

/-- R463: FLUSH written to REC.CMD. -/
def execFlush (t _master : Nat) (s : State) : Result := .next (s.advance t).startFlush

/-- R463, R464: a flush completes; a Caddy that refuses the write keeps it from completing. -/
def execFlushDone (t : Nat) (ok : Bool) (s : State) : Result :=
  let s := s.advance t
  if !s.flag REC.STAT.FLUSHING then .next s
  else if ok then .next (s.setReg REC.STAT.CADDY_FAIL 0 0).finishFlush
  else .next (s.setReg REC.STAT.CADDY_FAIL 0 1)

/-- R465: a write of CURSOR loads the master's window. -/
def execCursorWrite (t master value : Nat) (s : State) : Result := .next ((s.advance t).loadWindow master (wrap 32 value))

/-- The word a master's window shows: 0 but for a VALID record (R465). -/
def State.windowWord (s : State) (m k : Nat) : Nat :=
  match s.recorder.window.get m with
  | some w => (w.words[k]?).getD 0
  | none => 0

/-- R465: a read of WIN7 answers the word, advances CURSOR by 1 and loads the next record. -/
def execWin7Read (t master : Nat) (s : State) : Result :=
  let s := s.advance t
  let s := s.emit (.readData master (REC.WINk.DATA.addrOf 7) (s.windowWord master 7))
  .next (s.loadWindow master (wrap 32 (s.recorder.cursor.get master + 1)))

/-- R474: a read of OPTIME_LO latches OPTIME_HI for the master. -/
def execOptimeLoRead (t master : Nat) (s : State) : Result :=
  let s := s.advance t
  let a := REC.OPTIME_LO.MS.addrOf 0
  .next ((s.latchWords master [REC.OPTIME_HI.MS.addrOf 0]).emit (.readData master a (s.word a)))

/-! ### Lifetime evidence (R470 to R472, R475) -/

/-- A counter of R471; 0x141 is the operating time itself. -/
def State.lifeCounter (s : State) (i : Nat) : Nat := if i = 0x141 then s.opTime else s.life.ctr.get i

/-- RSTAT of an item (R475). -/
def State.itemStat (s : State) (kind index : Nat) : Nat :=
  let e := s.life.retired.find? (fun x => x.kind == kind && x.index == index)
  bn e.isSome + 2 * bn ((e.map (·.clearPending)).getD false) + 256 * min (s.occWithin kind index).length 255

/-- R475: a write of CSEL, HSEL or RSEL (`which` 0, 1, 2) loads the master's latch with the selection and what it selects. -/
def execLifeSelectWrite (t master which value : Nat) (s : State) : Result :=
  let s := s.advance t
  let put := fun (s : State) (f : Fld) (v : Nat) => s.setLatch master (f.addrOf 0) v
  if which = 0 then
    let v := s.lifeCounter (wrap 9 value)
    .next (put (put (put s LIFE.CSEL.INDEX (wrap 9 value)) LIFE.CVAL_LO.VAL (wrap 32 v)) LIFE.CVAL_HI.VAL (v / 2 ^ 32))
  else if which = 1 then
    let h := wrap 5 value
    let v := if h < 24 then s.life.hist.get (32 * h + bitField 5 5 value) else 0
    .next (put (put (put s LIFE.HSEL.HIST (wrap 10 value)) LIFE.HVAL_LO.VAL (wrap 32 v)) LIFE.HVAL_HI.VAL (v / 2 ^ 32))
  else if which = 2 then
    .next (put (put s LIFE.RSEL.KIND (wrap 16 value)) LIFE.RSTAT.RETIRED (s.itemStat (wrap 4 value) (bitField 4 12 value)))
  else .next s

/-- The evidence is written to one of the two Caddy copies, in turn (R470). -/
def State.saveEvidence (s : State) : State :=
  let c := s.life.ctr.set 0x141 s.opTime
  let l := s.life
  let l := if l.nextB then { l with ctrB := c, histB := l.hist, nextB := false } else { l with ctrA := c, histA := l.hist, nextB := true }
  ({ s with life := l }).bumpReg LIFE.SAVES.COUNT 0

/-- R470: 10 minutes of operating time have passed since the last periodic save. A save that fails sets SAVE_FAIL. -/
def execLifetimeSave (t : Nat) (ok : Bool) (s : State) : Result :=
  let s := s.advance t
  if s.mode = .off ∨ s.opTime < s.life.savedAt + 600000 then .next s
  else
    let s := { s with life := { s.life with savedAt := s.opTime } }
    .next (if ok then s.saveEvidence else s.setReg LIFE.STAT.SAVE_FAIL 0 1)

/-- The bin of a linear histogram: `i` over `step`, with everything below in bin 0 (R472). -/
def linearBin (i : Int) (step : Nat) : Nat := (floorDiv i step).toNat

/-- The ring histograms of one second: the largest return time of each ring, in 0.1 µs (R472). -/
def State.sampleRing (s : State) (r : Nat) : State :=
  if s.flag STN.RINGr_CFG.EN r && s.originates r then
    (s.histAdd (17 + r) (log2Bin (s.ring r).maxReturn)).updRing r (fun d => { d with maxReturn := 0 })
  else s

/-- Temperature and residency of one region (R472). -/
def State.sampleRegion (s : State) (r : Nat) : State :=
  let s := match s.regionTemp r with
    | some x => s.histAdd (2 + r) (linearBin (x + 120) 20)
    | none => s
  if s.regionPower r = 2 then s
  else (s.histAdd 20 (4 * r + s.reg KETTLE.RGNr_STATE.FLEVEL r)).histAdd 20 (16 + 4 * r + s.reg KETTLE.RGNr_STATE.HEAT r)

/-- The samples of one second (R472), with the supply as it is measured: internal bus in 10 mV, input current in mA, hold-up bank in
10 mV, and the power of the electronics in mW. -/
def State.sampleSecond (s : State) (vbus iin vbank elec : Nat) : State :=
  let s := ((s.sense SYS.SUPPLY.VBUS 0 vbus).sense SYS.SUPPLY.IIN 0 iin).sense SYS.HOLDUP.VBANK 0 vbank
  let s := s.histAdd 0 (linearBin ((vbus : Int) - 1600) 50)
  let s := s.histAdd 1 (linearBin (toSigned 16 (s.reg KETTLE.INT_TEMP.TEMP) + 120) 20)
  let s := s.each [0, 1, 2, 3] State.sampleRegion
  let s := s.histAdd 6 (elec / 2000)
  let s := if s.flag SYS.UNITS.LOOP then s.histAdd 7 (s.reg LOOP.POWER.IN / 500) else s
  let s := s.histAdd 8 (s.reg KETTLE.POOL_I.TOTAL / 25)
  let s := (s.sampleRing 0).sampleRing 1
  let busy := (List.range 16).foldl (fun m b => max m (s.reg BLK.LOAD.BUSY b)) 0
  s.histAdd 21 (busy * 2 / 625)

/-- R472: the samples of a second, or (`lagOnly`) the largest stream lag of a 100 ms. -/
def execHistogramSample (t : Nat) (lagOnly : Bool) (vbus iin vbank elec : Nat) (s : State) : Result :=
  let s := s.advance t
  if !s.mode.runtimeRuns then .next s
  else if lagOnly then
    if s.streaming then
      let lag := max s.pair.lagMax100 (s.streamAge / us 1)
      .next ((s.histAdd 16 (log2Bin lag)).updPair (fun p => { p with lagMax100 := 0 }))
    else .next s
  else .next (s.sampleSecond vbus iin vbank elec)

end Sys2Proof.Machine
end

