-- ==== Sys2Proof/Machine/Firmware.lean ====
section
/-! DEFINITION. Field update (15_image_update.md): the checks at XFER_END, storing an image, trials and their ends, and the meanings of the
firmware commands. -/

namespace Sys2Proof.Machine

/-! ### Checking and storing an image (R438, R440 to R443) -/

/-- A part is on trial: its trial image has started (R444, R449). -/
def State.onTrial (s : State) : Bool :=
  (List.range 4).any (fun p => s.flag UPD.PARTp_STAT.TRIAL p && s.upd.attempted.get p)

/-- The partner's unit takes part in the pair: it is in SYNC, STANDBY or the ACTIVE role (R443). -/
def State.partnerTakesPart (s : State) : Bool :=
  s.flag PAIR.PARTNER.VALID && (s.reg PAIR.PARTNER.MODE == 5 || s.reg PAIR.PARTNER.MODE == 6 || activeMode (s.reg PAIR.PARTNER.MODE))

/-- R440: the first failure of image `x`, received for part number `p`, as its reason code. `peer` is the partner's RUNTIME image as the
partner's heartbeats give it. In RECOVERY reasons 7 to 9 are not checked (R450). -/
def State.fwReason (s : State) (x : FwImage) (p : Nat) (peer : Option FwImage) : Option Nat :=
  let rom := s.mode == .recovery
  let pair := p == 0 && !rom && s.partnerTakesPart
  let f := s.reg UPD.PSTORE.LIVEFMT
  if !x.layoutOk then some 2
  else if !x.rootOk then some 3
  else if !x.signed then some 4
  else if x.part ≠ p + 1 ∨ 4 ≤ p ∨ !s.flag UPD.PARTp_STAT.PRESENT p then some 5
  else if !s.fwFits x p then some 6
  else if pair && !((peer.map (fun y => peersAccept x y)).getD true) then some 7
  else if pair && s.reg PAIR.PARTNER.PROTO ≠ x.mproto then some 8
  else if p = 0 ∧ !rom ∧ x.version < ((s.struct.image.map (·.rtmin)).getD 0) then some 9
  else if p = 0 ∧ ¬(x.psmigMin ≤ f ∧ f ≤ x.psfmt) then some 0xA
  else if s.onTrial && !rom then some 0xB
  else none

/-- A rejected image changes no slot; UPD.REJECT and a record say why (R440). -/
def State.fwReject (s : State) (reason code : Nat) : State :=
  let s := s.record 0xE02 0 .warning [(1, reason), (1, code)]
  (s.setReg UPD.REJECT.REASON 0 reason).setReg UPD.REJECT.PART 0 code

/-- R438, R441: the image is written to the slot that is not active, which the control word then marks valid. A version below the one it
replaces is recorded. -/
def State.fwStore (s : State) (x : FwImage) (p : Nat) : State :=
  let sl := s.fwOther p
  let down := match s.fwSlot p (s.fwActive p) with
    | some y => s.fwValid p (s.fwActive p) && decide (x.version < y.version)
    | none => false
  let s := (s.updUpd (fun u => { u with slots := u.slots.set (2 * p + sl) (some x) })).setFwValid p sl true
  if down then s.fwEvent 1 p sl else s

/-- The modes in which a trial of a part may start (R444). -/
def State.trialAllowed (s : State) (p : Nat) : Bool :=
  2 ≤ p || s.mode == .sync || s.mode == .standby || s.mode == .hold || s.mode == .service || s.mode == .commission

/-- The trial of the image in the slot that is not active starts (R441, R444). -/
def State.startTrial (s : State) (p : Nat) : State :=
  let s := s.updUpd (fun u => { u with attempted := u.attempted.set p false, staged := 0 })
  (s.setReg UPD.PARTp_STAT.TRIAL p 1).restartPart p ResetCause.trialStart

/-- The image waits in its slot (R441). -/
def State.stage (s : State) (p : Nat) : State :=
  (s.updUpd (fun u => { u with staged := p + 1 })).setUpdState UpdState.staged p

/-- R441, R444: START written to UPD.CMD starts the trial of the staged image where its mode allows one. Answers whether it did. -/
def State.updStart (s : State) : Bool × State :=
  if s.upd.staged = 0 ∨ s.reg UPD.STAT.STATE ≠ UpdState.staged then (true, s)
  else if s.trialAllowed (s.upd.staged - 1) then (true, s.startTrial (s.upd.staged - 1))
  else (false, s)

/-- R441, R444: START written to UPD.CMD. -/
def execUpdStart (t _master : Nat) (s : State) : Result := .next (s.advance t).updStart.2

/-! ### The end of a trial (R445 to R447, R454) -/

/-- R447: the trial of part `p` fails. -/
def State.failTrial (s : State) (p : Nat) : State :=
  let s := (s.note 0xE (p + 1) []).setReg UPD.STAT.FAILED 0 1
  match s.mode with
  | .sync | .standby | .hold | .service | .commission => s.restartPart p ResetCause.trialFailure
  | .active | .degraded =>
    if s.partnerStandby then
      let r := s.requestResign 2
      if r.pair.resign ≠ .none ∧ s.pair.resign = .none then r.updUpd (fun u => { u with fallReset := p + 1 }) else r
    else s
  | _ => s

/-- R441, R447: ABANDON discards a staged image and marks its slot invalid, or fails the trial. -/
def State.updAbandon (s : State) : State :=
  let p := s.reg UPD.STAT.PART
  if s.reg UPD.STAT.STATE = UpdState.staged ∧ s.upd.staged ≠ 0 then
    let s := (s.setFwValid p (s.fwOther p) false).updUpd (fun u => { u with staged := 0, slots := u.slots.set (2 * p + s.fwOther p) none })
    s.setUpdState UpdState.idle 0
  else if s.reg UPD.STAT.STATE = UpdState.trial ∧ !s.flag UPD.STAT.FAILED then s.failTrial p
  else s

/-- R441, R447: ABANDON written to UPD.CMD. -/
def execUpdAbandon (t _master : Nat) (s : State) : Result := .next (s.advance t).updAbandon

/-- The criteria of R445 have held for the dwell, within the window (R446). -/
def State.confirmable (s : State) : Bool :=
  let st := s.reg UPD.STAT.STATE
  (st == UpdState.trial || st == UpdState.probation) && !s.flag UPD.STAT.FAILED && s.meetsTrial (s.reg UPD.STAT.PART) &&
    s.upd.dwellAt != 0 && decide (s.upd.dwellAt - 1 + sec (s.reg UPD.CFG.DWELL) ≤ s.now) && decide (s.now ≤ s.windowEnd)

/-- R446, R453: the write of the control word that confirms a trial, or a fallback under PROBATION. -/
def State.confirm (s : State) : State :=
  let p := s.reg UPD.STAT.PART
  let trial := decide (s.reg UPD.STAT.STATE = UpdState.trial)
  let s := if trial then s.setReg UPD.PARTp_STAT.ACTIVE p (s.fwOther p) else s
  let s := (s.setReg UPD.PARTp_STAT.TRIAL p 0).setReg UPD.PARTp_STAT.PROBATION p 0
  let s := s.updUpd (fun u => { u with attempted := u.attempted.set p false, windowAt := 0, dwellAt := 0 })
  let s := if trial && p == 0 then
      let fmt := s.reg UPD.PSTORE.TRIALFMT
      ((s.setReg UPD.PSTORE.LIVE 0 (1 - s.reg UPD.PSTORE.LIVE)).setReg UPD.PSTORE.LIVEFMT 0 fmt).freeTrialArea.updUpd
        (fun u => { u with kept := none })
    else s
  let s := s.fwEvent (if trial then 2 else 6) p (s.fwActive p)
  ((s.addReg UPD.COUNTS.UPDATES 0 1).lifeAdd 0x151 1).setUpdState UpdState.idle 0

/-- R446: the dwell is complete. -/
def execTrialConfirm (t : Nat) (s : State) : Result :=
  let s := s.advance t
  if s.confirmable then .next s.confirm else .next s

/-- R446, R447: the window ends: a confirmation due in the same tick takes effect, else the trial fails. A fallback under PROBATION that is not
confirmed runs on until the next boot (R448). -/
def execTrialWindowEnd (t : Nat) (s : State) : Result :=
  let s := s.advance t
  if s.upd.windowAt = 0 ∨ s.now < s.windowEnd then .next s
  else if s.confirmable then .next s.confirm
  else if s.reg UPD.STAT.STATE = UpdState.trial ∧ !s.flag UPD.STAT.FAILED then .next (s.failTrial (s.reg UPD.STAT.PART))
  else .next s

/-- R454: a RUNTIME that runs on defaults applies no structure image: SYNC with an ACTIVE partner, else HOLD; its trial fails at once. -/
def State.migrationFailed (s : State) : State :=
  let s := (s.defaultParams.setReg UPD.STAT.MIGFAIL 0 1).updUpd (fun u => { u with migrated := false })
  let s := if s.partnerPresent && (s.pair.partnerAuth || activeMode (s.reg PAIR.PARTNER.MODE)) then s.enterSync 5 else s.enterMode .hold
  if s.flag UPD.PARTp_STAT.TRIAL 0 && s.upd.attempted.get 0 then s.showPins.failTrial 0 else s.showPins

/-- R454: the RUNTIME on trial cannot read or migrate the live area. -/
def execMigrationFail (t : Nat) (s : State) : Result :=
  let s := s.advance t
  if s.mode = .boot ∧ s.flag UPD.PARTp_STAT.TRIAL 0 ∧ s.upd.attempted.get 0 then .next s.migrationFailed else .next s

end Sys2Proof.Machine
end

