-- ==== Sys2Proof/Machine/Image.lean ====
section
/-! DEFINITION. The meanings of the signal image commands (02_signal_image.md). -/

namespace Sys2Proof.Machine


/-- R65: the active unit writes the module sequence to the Caddy. -/
def execSequenceSave (t : Nat) (s : State) : Result :=
  let s := s.advance t
  .next (if s.isActive then { s with img := { s.img with savedSeq := s.img.seq } } else s)

/-- A slot is due for AGED (R67): its SEQ lies 2^30 or more behind the low 32 bits of the module sequence. -/
def State.farBehind (s : State) (sl : Slot) : Bool := decide (2 ^ 30 ≤ diffMod 32 s.img.seq sl.seq)

/-- R67: one full pass of the ageing sweep over the committed image. -/
def State.sweep (s : State) : State :=
  let due := s.img.dir.keys.filter (fun g => !(s.img.slots.get g).aged && s.farBehind (s.img.slots.get g))
  let s := s.each due (fun s g =>
    { s with img := { s.img with slots := s.img.slots.upd g (fun sl => { sl with aged := true }) } })
  s.showAged

/-- R67, R88: a pass ends; SWEEP shows its duration, and SWEEP_OK whether it took at most 10 ms. MOVE samples that wait for
a grant enter the image (R63). -/
def execAgeingSweep (t : Nat) (s : State) : Result :=
  let s := s.advance t
  let took := s.now - s.img.sweepMark
  let s := s.sweep
  let s := (s.setReg IMAGE.SWEEP.LAST 0 (min (took / us 1) 65535)).bumpReg IMAGE.SWEEP.PASSES 0
  let s := s.setFlag IMAGE.STATUS.SWEEP_OK 0 (decide (took ≤ msec 10))
  .next ({ s with img := { s.img with sweepMark := s.now } }).releaseHeld

/-- R79: no write of the owner for longer than the staleness limit gives STALE, detail 0xB, keeping the value. From when the time counts
for a signal its owner has never written the manual does not say: DESIGN CHOICE, from PB0 value 0 (notes/assumptions/85.md). MOVE cells and FOLLOW pins take the new quality (R139,
R307). -/
def execStaleMark (t sig : Nat) (s : State) : Result :=
  let s := s.advance t
  match s.img.dir.get sig with
  | none => .next s
  | some d =>
    if d.staleMs ≠ 0 ∧ s.ingressOn ∧ s.img.lastWrite.get sig + msec d.staleMs < s.now ∧
        s.ownerQuality sig ≠ (Quality.stale, 0xB) then
      .next ((s.deliverModule 0xF002 [(sig, s.ownerValue sig, Quality.stale + 0xB * 16)]).copyToPins sig)
    else .next s

/-- R26, R87: a read of SEQ_LO latches SEQ_HI for the reading master. -/
def execImageSeqLoRead (t master : Nat) (s : State) : Result :=
  let s := s.advance t
  let a := IMAGE.SEQ_LO.SEQ.addrOf 0
  let s := s.latchWords master [IMAGE.SEQ_HI.SEQ.addrOf 0]
  .next (s.emit (.readData master a (s.word a)))

/-- Bytes 12 to 15 of a slot (R55). -/
def Slot.tail (sl : Slot) : Nat := sl.word1 / 2 ^ 32

/-- The high word of a slot's full sequence: the latest number not above the module sequence with those low bits (R88). -/
def State.fullSeqHi (s : State) (sl : Slot) : Nat :=
  if sl.aged then 0
  else
    let hi := s.img.seq / 2 ^ 32
    if sl.seq ≤ wrap 32 s.img.seq then hi else hi - 1

/-- A master's probe latch: four words, the high sequence word and the status (R87). -/
def State.loadProbe (s : State) (m : Nat) (w0 w1 w2 w3 hi stat : Nat) : State :=
  let a := fun k => IMAGE.PROBE_W0.DATA.addrOf 0 + 4 * k
  let s := ((s.setLatch m (a 0) w0).setLatch m (a 1) w1).setLatch m (a 2) w2 |>.setLatch m (a 3) w3
  (s.setLatch m (IMAGE.PROBE_SEQHI.SEQ.addrOf 0) hi).setLatch m (IMAGE.PROBE_STAT.VALID.addrOf 0) stat

/-- The bits of PROBE_STAT. -/
def probeStat (valid unused poison noforce : Bool) : Nat := bn valid + bn unused * 2 + bn poison * 4 + bn noforce * 8

/-- R87, R88: the slot or the RAW record of a signal goes to the master's probe latch. What RAW does not keep (SOURCE and FLAGS),
and the words when there is no RAW, are free values (notes/assumptions/4.md). -/
def execProbeIdWrite (t master sig : Nat) (raw : Bool) (s : State) : Result :=
  let s := s.advance t
  let sig := wrap 17 sig
  let s := (s.setReg IMAGE.PROBE_ID.SIGNAL 0 sig).setFlag IMAGE.PROBE_ID.RAW 0 raw
  let unused := (s.img.dir.get sig).isNone
  if raw then
    match s.img.forces.get sig with
    | some f =>
      let w3 := s.freeVal 16 + (f.rawQual + f.rawDetail * 16) * 2 ^ 16 + s.nextFree.freeVal 8 * 2 ^ 24
      .next (s.nextFree.nextFree.loadProbe master (wrap 32 f.rawValue) (f.rawValue / 2 ^ 32) (wrap 32 f.rawSeq) w3
        (f.rawSeq / 2 ^ 32) (probeStat true unused (s.rawMarks f != 0) false))
    | none =>
      let w := s.freeVal 32
      .next (s.nextFree.loadProbe master w w w w 0 (probeStat false unused false true))
  else
    let sl := if unused then s.slotOf sig else s.img.slots.get sig
    .next (s.loadProbe master (wrap 32 sl.value) (sl.value / 2 ^ 32) sl.seq sl.tail (if unused then 0 else s.fullSeqHi sl)
      (probeStat true unused ((s.slotPoison sig).1 || (s.slotPoison sig).2) false))

end Sys2Proof.Machine
end

