-- ==== Sys2Proof/Machine/Power.lean ====
section
/-! DEFINITION. Modes, resets, start-up, power failure and the supply (17_modes_resets_power_fail.md, 18_supply_and_carrier.md). -/

namespace Sys2Proof.Machine

/-! ### Mode requests (R480, R484) -/

/-- What a unit gives up when it leaves the ACTIVE role without a partner that takes over: cores, the bumpless state, safety outputs. -/
def State.leaveRole (s : State) : State :=
  let s := s.stopCores.safeOff
  let s := (s.setReg PAIR.STAT.BUMPLESS 0 0).setReg PAIR.STAT.NBWHY 0 0
  ({ s with power := { s.power with holdPending := false } }).setCause 0 false

/-- MODE RUN: HOLD is left for ACTIVE or DEGRADED (R480, R482). -/
def State.modeRun (s : State) : State := (s.each s.taskList State.resumeState).enterRun

/-- MODE HOLD from ACTIVE or DEGRADED: cycles in progress commit first (R480); from COMMISSION and SERVICE at once (R482). -/
def State.modeHold (s : State) : State :=
  if s.mode = .active ∨ s.mode = .degraded then
    ({ s with power := { s.power with holdPending := true } }).settleHold
  else (((s.enterMode .hold).showPins).judgePair).announcePair

/-- MODE SERVICE (R482): outputs safe. -/
def State.modeService (s : State) : State := (s.leaveRole.enterMode .service).showPins

/-- MODE HALT (R485): the line is given up, every output released, the recorder flushed. -/
def State.modeHalt (s : State) : State :=
  let s := if s.flag PAIR.STAT.AUTH then (s.setReg PAIR.STAT.AUTH 0 0).emit .latchRelease else s
  let s := s.leaveRole.clearStream.closeSession
  let s := s.updPair (fun p => { p with resign := .none, claimFor := 0 })
  (((s.setReg SYS.HALTWHY.WHY 0 3).enterMode .halt).showPins).flushNow

/-- R484: the unit's mode accepts the request. -/
def State.modeAccepts (s : State) (code : Nat) : Bool :=
  let holding := s.reg STRUCT.STAT.STATE == 4
  !holding && (match code with
    | 7 => s.mode == .hold && s.flag PAIR.STAT.AUTH
    | 9 => s.mode == .active || s.mode == .degraded || (s.mode == .commission && s.checkOk) ||
        (s.mode == .service && s.flag PAIR.STAT.AUTH && s.struct.image.isSome)
    | 10 => s.mode == .hold || s.mode == .commission
    | 11 => s.mode.runtimeRuns
    | 16 => s.mode.runtimeRuns || s.mode == .halt
    | _ => false)

/-! ### Power-up and the end of BOOT (R482, R483, R494, R254, R454) -/

/-- The supply returns after a loss of power (R486): the power-cycle count rises, everything restarts. -/
def State.powerUp (s : State) (kind : Nat) : State := ((s.bumpReg REC.PCYC.COUNT 0).resetUnit kind 0).lifeAdd 0x140 1

/-- R482: the supply has stood at or above 19.2 V for 10 ms behind a closed hot-swap switch; EARLY is made (R501). -/
def execPowerUp (t : Nat) (s : State) : Result :=
  let s := s.advance t
  if s.mode = .off ∧ !s.power.swapOpen ∧ s.power.earlyMade then .next (s.powerUp ResetKind.power) else .next s

/-- R254: a slot holds an image that passes. -/
def State.imageStored (s : State) : Bool := (s.slotPasses 0).isSome || (s.slotPasses 1).isSome

/-- R483: the end of BOOT. -/
def State.bootEnd (s : State) : State :=
  if s.flag UPD.STAT.MIGFAIL then s.migrationFailed
  else if s.flag PAIR.PARTNER.VALID && s.pair.partnerAuth then s.catchUp 1
  else if s.imageStored then (((s.enterMode .load).startImage.2).showPins).claim Claim.start
  else (s.startImage.2.enterMode .service).showPins

/-- R483, R494: the 2 ms heartbeat window has passed and the hold-up bank is charged. -/
def execBootEnd (t : Nat) (s : State) : Result :=
  let s := s.advance t
  if s.mode = .boot ∧ s.power.charged ∧ s.power.bootAt + msec 2 ≤ s.now then .next s.bootEnd else .next s

/-- R494: the hold-up bank is charged, or fails to charge. -/
def execHoldupCharged (t : Nat) (ok : Bool) (s : State) : Result :=
  let s := s.advance t
  if s.mode = .off then .next s
  else if ok then .next { s with power := { s.power with charged := true } }
  else .next (s.note 0xF 0 [])

/-! ### Resets (R485 to R487) -/

/-- A reset may happen: the unit is powered, not in RECOVERY, and no power-fail sequence runs (R493, R495). -/
def State.resettable (s : State) : Bool := s.mode != .off && s.mode != .recovery && !s.power.warned

/-- R486: a module reset, with its cause as SYS.RESET.CAUSE names it. A HALT ends by a MODE RESET alone (R485; HALT_SELF_RESET is its own
command). -/
def execModuleReset (t cause : Nat) (s : State) : Result :=
  let s := s.advance t
  if s.resettable ∧ s.mode ≠ .boot ∧ 1 ≤ cause ∧ cause ≤ 6 ∧ (s.mode = .halt → cause = ResetCause.modeReset) then .next (s.moduleReset cause) else .next s

/-- R487: the module watchdog expires (`rom` false), or the boot ROM does not hand over within 10 s (`rom` true). -/
def execModuleWatchdogExpiry (t : Nat) (rom : Bool) (s : State) : Result :=
  let s := s.advance t
  if !s.resettable then .next s
  else if rom then if s.mode = .boot ∧ s.power.bootAt + sec 10 ≤ s.now then .next (s.watchdogReset 2) else .next s
  else if s.mode = .boot then .next s
  else .next (s.watchdogReset 1)

/-- R486, R507: CRST_N is low for 1 ms. A reset of this kind empties the history of WATCHDOG resets (R487). -/
def execCarrierReset (t : Nat) (s : State) : Result :=
  let s := s.advance t
  if s.resettable then .next (s.resetUnit ResetKind.carrier 0) else .next s

/-- R485: a DEMOTE-halted unit has heard an active partner on both paths for 60 s; at most 3 times per power cycle. -/
def execHaltSelfReset (t : Nat) (s : State) : Result :=
  let s := s.advance t
  let b := s.power.haltBeats
  if s.mode = .halt ∧ s.reg SYS.HALTWHY.WHY = 1 ∧ b ≠ 0 ∧ b - 1 + sec 60 ≤ s.now ∧ s.reg SYS.HALTWHY.SELFRST < 3 ∧ s.resettable then
    .next ((s.addReg SYS.HALTWHY.SELFRST 0 1).moduleReset ResetCause.fromHalt)
  else .next s

/-! ### Power failure (R491 to R493) -/

/-- Every loop pass element is open, the output pool shed, every fast and safety output off (R491 step 1). -/
def State.shedOutputs (s : State) : State :=
  let s := { s with power := { s.power with shed := true } }
  let s := if s.flag SYS.UNITS.LOOP then s.each (List.range 32) (fun s c => if s.reg LOOP.CHc_MEAS.VSUP c = 0 then s else s.setSupply c 0)
    else s
  s.showPins.safeOff

/-- R495: an on-line change that is prepared or being committed is dropped as at a module reset. -/
def State.dropChange (s : State) : State :=
  if s.struct.prepared.isSome then
    let s := s.updStruct (fun x => { x with prepared := none, affected := [], commitMseq := none })
    (s.setReg STRUCT.STAT.STATE 0 0).showPending
  else s

/-- The continuity record (R65, R452). -/
def State.saveContinuity (s : State) : State := { s with img := { s.img with savedSeq := s.img.seq } }

/-- The power-fail sequence starts (R491): shedding, LEAVING, a shortened resignation where a STANDBY partner waits (an early-break
resignation under way goes on), the flush, the continuity record and the lifetime evidence. -/
def State.powerFail (s : State) : State :=
  let s := { s with power := { s.power with warned := true, warnAt := s.now } }
  let s := (s.shedOutputs.setReg PAIR.STAT.LEAVING 0 1).lifeAdd 0x14F 1
  let s := s.dropChange
  let early := s.pair.resign != .none && s.pair.resignShort
  let s := if s.isActive && s.partnerStandby && !early then s.resignShort 6 else s
  s.startFlush.saveContinuity.saveEvidence

/-- R491: the supply has stood below 18.0 V for 50 µs. -/
def execPowerFailWarning (t : Nat) (s : State) : Result :=
  let s := s.advance t
  if s.mode = .off ∨ s.power.warned then .next s else .next s.powerFail

/-- What the hold-up leaves in the Caddy at the end of the sequence (R463, R493). -/
def State.endSequence (s : State) : State := s.flushNow.saveContinuity

/-- R493: the supply has stood at or above 19.2 V for 100 ms: a BROWNOUT reset. -/
def execSupplyReturn (t : Nat) (s : State) : Result :=
  let s := s.advance t
  if s.power.warned ∧ !s.power.swapOpen ∧ s.power.warnAt + msec 100 ≤ s.now then .next (s.endSequence.powerUp ResetKind.brownout)
  else .next s

/-- The hold-up time of this power failure enters histogram 22 and the copy last written (R472). -/
def State.sampleHoldup (s : State) : State :=
  let s := s.histAdd 22 ((s.now - s.power.warnAt) / msec 1)
  { s with life := if s.life.nextB then { s.life with histA := s.life.hist } else { s.life with histB := s.life.hist } }

/-- The unit is without power (R476 OFF): it drives nothing and holds no line; PB0 stands, and the model's clock counts from here. -/
def State.powerOff (s : State) : State :=
  let s := (s.stopCores.clearStream.safeOff).setReg PAIR.STAT.AUTH 0 0
  let s := { s with recorder := { s.recorder with opBase := s.opTime }, mode := .off, prevMode := s.mode, now := 0
                    power := { s.power with warned := false, charged := false, wall := s.power.wall + s.now } }
  s.showPins

/-- R493: the hold-up bank is exhausted. -/
def execHoldupExhausted (t : Nat) (s : State) : Result :=
  let s := s.advance t
  if s.mode ≠ .off ∧ s.power.warned then .next s.sampleHoldup.endSequence.powerOff else .next s

/-! ### The hot-swap switch, the early contact (R498, R501 to R504) -/

/-- The switch's time: what PB0 has counted since the model's origin, over every restart from 0. -/
def State.wallNow (s : State) : Nat := s.power.wall + s.now

/-- The switch opens (R498). The third overcurrent trip within 1 min holds it open. -/
def State.openSwitch (s : State) (case_ : Nat) : State :=
  let w := s.wallNow
  let trips := if case_ = 2 then w :: s.power.trips.filter (fun x => decide (w ≤ x + sec 60)) else s.power.trips
  { s with power := { s.power with swapOpen := true, swapCase := case_, swapAt := w, trips := trips
                                   swapHeld := s.power.swapHeld || decide (case_ = 2 ∧ 3 ≤ trips.length) } }

/-- R498, R515: the switch opens on overvoltage (case 1) or overcurrent (case 2): a record with the measured value, and the power-fail
sequence on the hold-up bank; a bank not yet charged leaves the unit OFF. -/
def execHotswapTrip (t case_ value : Nat) (s : State) : Result :=
  let s := s.advance t
  if s.power.swapOpen ∨ ¬(case_ = 1 ∨ case_ = 2) then .next s
  else
    let s := s.openSwitch case_
    if s.mode = .off then .next s
    else
      let s := s.record 0xF0F 0 .fault [(1, case_), (2, value)]
      if !s.power.charged then .next s.powerOff
      else if s.power.warned then .next s
      else .next s.powerFail

/-- R498: the switch recloses: 100 ms after an overvoltage, 1 s after an overcurrent, and after the third trip only once the input has
stayed below 10 V for 1 s (`low`). The unit then starts from OFF (R482). -/
def execHotswapReclose (t : Nat) (low : Bool) (s : State) : Result :=
  let s := s.advance t
  let wait := if s.power.swapCase = 1 then msec 100 else sec 1
  if s.mode = .off ∧ s.power.swapOpen ∧ s.power.swapAt + wait ≤ s.wallNow ∧ (!s.power.swapHeld ∨ low) then
    .next { s with power := { s.power with
      swapOpen := false, swapHeld := false, trips := if s.power.swapHeld then [] else s.power.trips } }
  else .next s

/-- R501, R502, R498: EARLY has made and is debounced: on a unit that is OFF the switch ramps up, whatever held it open. -/
def execEarlyMake (t : Nat) (s : State) : Result :=
  let s := s.advance t
  if s.power.earlyMade then .next s
  else
    let p := { s.power with earlyMade := true, earlyAt := s.now + 1 }
    .next { s with power := if s.mode = .off then { p with swapOpen := false, swapHeld := false, trips := [] } else p }

/-- R504: EARLY has made again, with the supply present for 10 s: a record and a module reset. -/
def execReinserted (t : Nat) (s : State) : Result :=
  let s := s.advance t
  let p := s.power
  if s.resettable ∧ s.mode ≠ .boot ∧ p.earlyBroke ∧ p.earlyMade ∧ p.earlyAt ≠ 0 ∧ p.earlyAt - 1 + sec 10 ≤ s.now then
    .next ((s.record 0xF10 0 .info []).moduleReset ResetCause.reinserted)
  else .next s

/-! ### The SIM and the modem (R427, R511) -/

/-- R511: the SIM is removed: the bearer goes down, and a record is written. -/
def execSimRemoved (t : Nat) (s : State) : Result :=
  let s := s.advance t
  if !s.flag SYS.UNITS.MODEM ∨ s.mode = .off then .next s
  else
    let s := { s with power := { s.power with sim := false } }
    .next (((s.sense PORT.CELL_STAT.REG 0 0).sense PORT.STAT.CELL_UP 0 0).note 0xD 3 [])

/-- R511: the SIM is inserted: registration starts again. -/
def execSimInserted (t : Nat) (s : State) : Result :=
  let s := s.advance t
  if !s.flag SYS.UNITS.MODEM ∨ s.mode = .off then .next s
  else .next (({ s with power := { s.power with sim := true } }).sense PORT.CELL_STAT.REG 0 1)

/-- R427, R432, R448: the modem reports its registration, technology, received power and whether a data bearer is up. -/
def execCellRegistration (t reg rat rsrp : Nat) (bearer : Bool) (s : State) : Result :=
  let s := s.advance t
  if !s.flag SYS.UNITS.MODEM ∨ !s.power.sim ∨ s.flag UPD.PARTp_STAT.STOPPED 3 ∨ !s.mode.runtimeRuns then .next s
  else
    let s := ((s.sense PORT.CELL_STAT.REG 0 reg).sense PORT.CELL_STAT.RAT 0 rat).sense PORT.CELL_STAT.RSRP 0 rsrp
    .next (s.senseFlag PORT.STAT.CELL_UP 0 (bearer && wrap 2 reg == 2 && s.flag PORT.CFG.CELLEN))

end Sys2Proof.Machine
end

