-- ==== Sys2Proof/Machine/RegAccess.lean ====
section
/-! DEFINITION. Register accesses of every master (00_scope.md R5, R15 to R20, R523; R26 and the latches like it; R258 to R260): what a read
returns and does, what a write does, and the meanings of the general register commands. -/

namespace Sys2Proof.Machine

/-- The state a meaning answers. -/
def Result.state (r : Result) (d : State) : State :=
  match r with
  | .next s => s
  | .fault _ => d
  | .refused _ => d

/-! ### Reading -/

/-- The word a master reads (R26, R465): its own cursor and window, its latches, else the register. -/
def State.readWord (s : State) (m a : Nat) : Nat :=
  let win := REC.WINk.DATA.addrOf 0
  if a = REC.CURSOR.RECNO.addrOf 0 then s.recorder.cursor.get m
  else if a = REC.WSTAT.STATE.addrOf 0 then ((s.recorder.window.get m).map (·.state)).getD 0
  else if win ≤ a ∧ a < win + 32 then s.windowWord m ((a - win) / 4)
  else match s.latched m a with
    | some w => w
    | none => s.word a

/-- The registers whose read latches the next one. -/
def latchNext : List Fld :=
  [IMAGE.SEQ_LO.SEQ, TASK.TASKt_LSEQ_LO.SEQ, BLK.EPC_LO.EPC, BLK.TVAL_LO.TVAL, PTP.DOMk_GMID_LO.ID, REC.OPTIME_LO.MS,
   STRUCT.OLC_SEQ_LO.SEQ]

/-- The registers a read of address `a` latches (R26, R87, R123, R124, R272, R301, R302, R410, R474). -/
def latchesOf (a : Nat) : List Nat :=
  match fieldsAt a with
  | (f, _) :: _ =>
    if f.id = PHASE.BASEn_VAL_LO.VAL.id then [a + 4, a + 8, a + 12]
    else if latchNext.any (fun g => g.id == f.id) then [a + 4]
    else if f.id = LEAF.LASTADDR_LO.ADDR.id then
      [LEAF.LASTADDR_HI.ADDR.addrOf 0, LEAF.LASTERR.MEM.addrOf 0, LEAF.LASTSYN.SYN.addrOf 0]
    else if f.id = GUARD.LAST_ADDR_LO.ADDR.id then [GUARD.LAST_ADDR_HI.ADDR.addrOf 0, GUARD.LAST_MASTER.MASTER.addrOf 0]
    else []
  | [] => []

/-- What a read does beside answering: latches, RC fields cleared (R18, R20), the cursor advanced by WIN7 (R465). -/
def State.readEffect (s : State) (m a : Nat) : State :=
  if a = REC.WINk.DATA.addrOf 7 then s.loadWindow m (wrap 32 (s.recorder.cursor.get m + 1))
  else (s.latchWords m (latchesOf a)).clearRC a

/-- One register read: the value and the state after it. The page of an absent unit reads 0 (R5, R17). -/
def State.readRegister (s : State) (m a : Nat) : Nat × State :=
  if s.absentAt a then (0, s.absentHit a) else (s.readWord m a, s.readEffect m a)

/-- R15, R17: an access of another width or alignment, or to an address in no page, is an access fault of the core that makes it; other masters
get nothing. `kind`: 0 read, 1 write. No command carries the energy metered for the cycle until then: a free value
(notes/assumptions/90.md). -/
def State.badAccess (s : State) (m a kind pc : Nat) : State :=
  if m < 16 then s.nextFree.coreFault m (accessCause 1 kind) TaskCause.access (wrap 32 a) pc a (s.freeVal 32) else s

/-- The access is one the control space defines (R15, R17). -/
def goodAccess (a width : Nat) : Bool := width == 4 && decide (a % 4 = 0) && inPage a

/-- The address lies in the control space (R516). -/
def inSpace (a : Nat) : Bool := decide (0x40000000 ≤ a ∧ a < 0x41000000)

/-- R15, R17, R18, R20: a read of a register with RC fields, or of any other without a row of its own. -/
def execRcRead (t master addr width pc : Nat) (s : State) : Result :=
  let s := s.advance t
  if !inSpace addr then .next s
  else if !goodAccess addr width then .next (s.badAccess master addr 0 pc)
  else
    let (v, s) := s.readRegister master addr
    .next (s.emit (.readData master addr v))

/-- R5, R520: an access to a range of R517 while its unit is absent: a read returns 0, a write is ignored, and HIT is set. -/
def execAbsentUnitAccess (t master addr : Nat) (write : Bool) (s : State) : Result :=
  let s := s.advance t
  if !s.absentAt addr then .next s
  else
    let s := s.absentHit addr
    .next (if write then s else s.emit (.readData master addr 0))

/-! ### Writing: the general rule (R16, R18, R523, R260) -/

/-- The bits a written word gives a field. -/
def Fld.bitsOf (f : Fld) (v : Nat) : Nat := bitField f.lo f.width v

/-- The fields of a register that hold what is written to them, RWL ones only while they are open. -/
def State.storeFields (s : State) (a v : Nat) : State :=
  s.each (fieldsAt a) (fun s x =>
    if x.1.acc = .RW ∨ x.1.acc = .WO ∨ (x.1.acc = .RWL ∧ s.rwlOpen) then s.setReg x.1 x.2 (x.1.bitsOf v) else s)

/-- An access in the fabric cycle of the write leaves ABSENT_HIT.HIT set (R520). -/
def State.hitStays (s : State) (f : Fld) : Bool :=
  f.id == SYS.ABSENT_HIT.HIT.id && decide (s.power.hitAt ≠ 0 ∧ (s.power.hitAt - 1) / Config.cellClock = s.now / Config.cellClock)

/-- The W1C fields of a register act. The W1S fields (TXREQ, TXCANCEL, TXQSTAT.PUSH) act under R379 and R382 only: a write by a master that
is not their owner sets nothing. -/
def State.clearBits (s : State) (a v : Nat) : State :=
  s.each (fieldsAt a) (fun s x =>
    let old := s.reg x.1 x.2
    if x.1.acc = .W1C ∧ !s.hitStays x.1 then s.setReg x.1 x.2 (old - (old &&& x.1.bitsOf v))
    else s)

/-- The values are allowed, each alone and together with the registers they join (R523). -/
def State.valuesOk (s : State) (a v : Nat) : Bool :=
  (fieldsAt a).all (fun x => !(x.1.acc == .RW || (x.1.acc == .RWL && s.rwlOpen)) || fieldValid x.1 x.2 (x.1.bitsOf v)) &&
    (s.storeFields a v).pageOk a

/-- A register with a run-time field (R258). -/
def runtimeReg (a : Nat) : Bool := (fieldsAt a).any (fun x => x.1.acc == .RW && x.1.rst == .N)

/-- What a changed setting brings about at once: bases, CAN ports, rings and stations, loops, pins, clocks (R53, R198, R313, R369). -/
def State.applySetting (s : State) (old : Tab Nat) (a : Nat) : State :=
  let page := a / 2 ^ 16
  if page = 0x4002 ∨ page = 0x400D then s.startBases old
  else if 0x4010 ≤ page ∧ page < 0x4014 then
    let n := page - 0x4010
    let was := old.get (CAN.CFG.MODE.key n)
    let s := s.startBases old
    if was = s.reg CAN.CFG.MODE n then s
    else
      let s := { s with can := s.can.set n default }
      if s.canOn n then s.freshPort n else s
  else if page = 0x400E then
    let s := s.each ((List.range 256).filter (fun k => (old.get (STN.RINGr_STAa_CFG.PRESENT.key k) != 0) !=
        s.flag STN.RINGr_STAa_CFG.PRESENT k)) (fun s k =>
      s.setReg STN.RINGr_STAa_STAT.STATE k (if s.flag STN.RINGr_STAa_CFG.PRESENT k then StaState.absent else StaState.unused))
    let s := if old.get (STN.RINGr_CFG.EN.key 0) = s.reg STN.RINGr_CFG.EN 0 ∧ old.get (STN.RINGr_CFG.EN.key 1) = s.reg STN.RINGr_CFG.EN 1 then s
      else s.startRings false
    (s.showGood 0).showGood 1
  else if page = 0x4014 then
    let c := a % 2 ^ 16 / 64
    if c < 32 ∧ old.get (LOOP.CHc_CFG.MODE.key c) ≠ s.reg LOOP.CHc_CFG.MODE c then s.startChannel c else s
  else if page = 0x4015 then s.showPins
  else if page = 0x4001 then
    let s := s.each [0, 1, 2, 3] (fun s r => s.slowClock r (s.reg KETTLE.RGNr_FCAP.FMAX r))
    s.showBudget
  else s

/-- R18, R523: a write by the access codes of the fields at an address. Answers the register window's status (R422): 0 OK, 9 LIMIT,
0x12 RWL_LOCKED. -/
def State.plainWrite (s : State) (m a v : Nat) : Nat × State :=
  let fs := fieldsAt a
  let old := s.regs
  let bits := s.clearBits a v
  let rwl := fs.any (fun x => x.1.acc == .RWL)
  if rwl && !s.rwlOpen then (0x12, bits.writeRefused a m 1)
  else if !s.valuesOk a v then (9, bits.writeRefused a m 2)
  else
    let s := bits.storeFields a v
    let s := if runtimeReg a && a != PHASE.VIRTv_OFF_LO.OFF.addrOf 0 && a / 2 ^ 16 != 0x4002 then s.mirrorReg a (wrap 32 v) else s
    let s := if rwl || runtimeReg a then s.applySetting old a else s
    (0, if rwl then s.showDiverged else s)

/-! ### Writing: registers whose write is a command -/

/-- The status of a run-time write: OK when the field now holds the value, else LIMIT. -/
def State.tookValue (s : State) (f : Fld) (i v : Nat) : Nat × State := (if s.reg f i = f.bitsOf v then 0 else 9, s)

/-- A write to an RWL register with a meaning of its own. -/
def State.rwlWrite (s : State) (r : Result) (f : Fld) (i v : Nat) : Nat × State :=
  let n := r.state s
  if !s.rwlOpen then (0x12, n)
  else
    let (st, n) := n.tookValue f i v
    (st, n.showDiverged)

/-- The mailbox of the safety unit (R360): 1 RESTART, 2 CLEAR, 3 CONFIRM; the class is that of the register window, or none. -/
def State.writeMbox (s : State) (m op : Nat) : State :=
  let cls := if m < 16 then 0 else 3
  let r := match op with
    | 1 => execSafeMboxRestart s.now m cls 0 s
    | 2 => execSafeMboxClear s.now m cls 0 s
    | 3 => execSafeMboxConfirm s.now m cls 0 s
    | _ => .next s
  r.state s

/-- A command register written with `v`, at the field it holds (R238, R262, R286, R321, R383, R441, R463). Answers the status. -/
def State.writeCmd (s : State) (m v : Nat) (f : Fld) (i : Nat) : Nat × State :=
  let op := f.bitsOf v
  let ok := fun (r : Result) => (0, r.state s)
  if f.id = PAIR.CMD.OP.id then if op = 1 then ok (execPairCmdResign s.now m s) else (0, s)
  else if f.id = STRUCT.OLC_CMD.OP.id then
    if op = 1 then ok (execOlcCmdCommit s.now m s) else if op = 2 then ok (execOlcCmdAbort s.now m s) else (0, s)
  else if f.id = LEAF.SCRUB_CMD.OP.id then
    if op = 1 then ok (execScrubGo s.now s)
    else if op = 2 then let n := s.freeVal 32; ok (execScrubAbort s.now (n % (s.leaf.scrubLen + 1)) s.nextFree) else (0, s)
  else if f.id = LOOP.CHc_CMD.OP.id then if op = 1 then ok (execProbe s.now i s) else (0, s)
  else if f.id = SAFE.MBOX_CMD.OP.id then (0, s.writeMbox m op)
  else if f.id = CAN.CMD.OP.id then if op = 1 then ok (execRecover s.now m i s) else (0, s)
  else if f.id = UPD.CMD.OP.id then
    if op = 1 then let (done, n) := s.updStart; (if done then 0 else 3, n) else if op = 2 then (0, s.updAbandon) else (0, s)
  else if f.id = REC.CMD.OP.id then (0, if op = 1 then s.startFlush else s)
  else (0, s)

/-- The fields of `writeCmd`. -/
def cmdFlds : List Fld :=
  [PAIR.CMD.OP, STRUCT.OLC_CMD.OP, LEAF.SCRUB_CMD.OP, LOOP.CHc_CMD.OP, SAFE.MBOX_CMD.OP, CAN.CMD.OP, UPD.CMD.OP, REC.CMD.OP]

/-- A write to a word of a cell descriptor (R131, R132). -/
def State.writeCell (s : State) (m a v pc : Nat) : Nat × State :=
  let c := (a - cellAddr 0 0) / 0x20
  let off := (a - cellAddr 0 0) % 0x20
  if off = 0 then
    let bad := s.flag CELL.CELLc_STAT.RTW c && s.sameShape c v && !s.periodOk c
    (if bad then 9 else 0, (execCellCtrlWrite s.now m c v pc s).state s)
  else if off = 4 ∨ off = 8 ∨ off = 0xC ∨ off = 0x1C then (0, (execCellStageWrite s.now m c off v pc s).state s)
  else if off = 0x18 then (0, (execRuleClrWrite s.now m c v pc s).state s)
  else (0, (s.cellWriter m c off pc).2)

/-- The flip register sets of the memories (R284). -/
def flipFld (f : Fld) : Bool := decide (LEAF.FLIPm_TGT_LO.ADDR.id ≤ f.id ∧ f.id ≤ LEAF.FLIPm_CTRL.DONE.id)

/-- A write to a register with a meaning of its own beside the command registers; none where the general rule applies. -/
def State.specialWrite (s : State) (m v : Nat) (f : Fld) (i : Nat) : Option (Nat × State) :=
  let st := fun (r : Result) => r.state s
  if f.id = PHASE.VIRTv_OFF_HI.OFF.id then some (0, st (execVirtOffHiWrite s.now m i v s))
  else if f.id = PHASE.VIRTv_SRC.SRC.id then some (s.rwlWrite (execVirtSettingWrite s.now m i 0 v s) f i v)
  else if f.id = PHASE.VIRTv_NUM.NUM.id then some (s.rwlWrite (execVirtSettingWrite s.now m i 1 v s) f i v)
  else if f.id = PHASE.VIRTv_DEN.DEN.id then some (s.rwlWrite (execVirtSettingWrite s.now m i 2 v s) f i v)
  else if f.id = PHASE.MAINSm_OFFSET.OFFSET.id then some (s.rwlWrite (execMainsOffsetWrite s.now m i v s) f i v)
  else if f.id = IMAGE.PROBE_ID.SIGNAL.id then some (0, st (execProbeIdWrite s.now m (wrap 17 v) (bitOf 31 v) s))
  else if f.id = TASK.RESTART.TASK.id then some (0, st (execTaskRestartWrite s.now m v s))
  else if f.id = TASK.TASKt_FLOOR.FLOOR.id then some ((st (execTaskTimingWrite s.now m i false v s)).tookValue f i v)
  else if f.id = TASK.TASKt_CEIL.CEIL.id then some ((st (execTaskTimingWrite s.now m i true v s)).tookValue f i v)
  else if f.id = KETTLE.BUDGET.BUDGET.id then some ((st (execBudgetWrite s.now m v s)).tookValue f i v)
  else if f.id = KETTLE.BLKb_QUOTA.QUOTA.id then some ((st (execQuotaWrite s.now m i v s)).tookValue f i v)
  else if f.id = KETTLE.REHOME.REGION.id then some (0, st (execRehomeWrite s.now m v s))
  else if f.id = GUARD.PROBE_ADDR_HI.ADDR.id then some (0, st (execProbeAddrHiWrite s.now m v s))
  else if f.id = PTP.PLANT_SET_HI.VAL.id then some (0, st (execPlantSetHiWrite s.now m v s))
  else if f.id = REC.CURSOR.RECNO.id then some (0, s.loadWindow m (wrap 32 v))
  else if f.id = LIFE.CSEL.INDEX.id then some (0, st (execLifeSelectWrite s.now m 0 v s))
  else if f.id = LIFE.HSEL.HIST.id then some (0, st (execLifeSelectWrite s.now m 1 v s))
  else if f.id = LIFE.RSEL.KIND.id then some (0, st (execLifeSelectWrite s.now m 2 v s))
  else if f.id = CAN.TXCANCEL.CAN.id then some (0, st (execTxcancelWrite s.now m i v s))
  else if f.id = CAN.TXREQ.REQ.id then some (0, s)
  else if flipFld f ∧ s.mode ≠ .service then some (0, s.note 5 i [])
  else if f.addr / 2 ^ 16 = 0x4016 ∧ f.id ≠ SAFE.MBOX_CMD.OP.id ∧ 16 ≤ m ∧ m ≠ 36 then some (0, s)
  else if cmdFlds.any (fun g => g.id == f.id) then some (s.writeCmd m v f i)
  else none

/-- One register write by master `m` (R5, R16 to R18, R523): the status and the state after it. `pc` is the writing core's. -/
def State.writeRegister (s : State) (m a v pc : Nat) : Nat × State :=
  if s.absentAt a then (0, s.absentHit a)
  else if cellAddr 0 0 ≤ a ∧ a < cellAddr 4096 0 then s.writeCell m a v pc
  else match fieldsAt a with
    | (f, i) :: _ => (s.specialWrite m v f i).getD (s.plainWrite m a v)
    | [] => (0, s)

/-- R15, R17, R18, R523: a write to a register that has no row of its own. -/
def execRegisterWrite (t master addr width value pc : Nat) (s : State) : Result :=
  let s := s.advance t
  if !inSpace addr then .next s
  else if !goodAccess addr width then .next (s.badAccess master addr 1 pc)
  else .next (s.writeRegister master addr (wrap 32 value) pc).2

end Sys2Proof.Machine
end

