-- ==== Sys2Proof/Machine/RomGate.lean ====
section
/-! DEFINITION. The ROM gate (09_leaf_code_and_guards.md R297). -/

namespace Sys2Proof.Machine

/-- The core that is inside a call through the ROM gate (none 0, else its number plus one). -/
def State.setGate (s : State) (g : Nat) : State := { s with leaf := { s.leaf with gate := g } }

/-- The gate returns to the core: the installation status (R297). Its registers but the result are clear; the model holds no registers of a
core. -/
def State.gateReturns (s : State) (block status : Nat) : State := (s.setGate 0).emit (.coreResult block status)

/-- R297: the RUNTIME of a block calls the ROM gate: to sign the report of the request that has waited longest (`install` false; the call
ends with ATTEST_SIGNED, one at a time by R430), or in a structure load to install the SAFETY section. -/
def execRomGateCall (t block : Nat) (install : Bool) (s : State) : Result :=
  let s := s.advance t
  if 16 ≤ block ∨ !s.mode.runtimeRuns ∨ (s.cycleTask block).isSome ∨ s.leaf.gate ≠ 0 then .next s
  else if install then
    if s.mode = .load then match s.struct.image with
      | some im => .next ((s.loadSafety im).gateReturns block 0)
      | none => .next s
    else .next s
  else if s.port.attest.isEmpty then .next s
  else .next (s.setGate (block + 1))

end Sys2Proof.Machine
end

