-- ==== Sys2Proof/Machine/PortOps.lean ====
section
/-! DEFINITION. How a command request is received, checked and answered (14_ports_and_authority.md R411 to R425, R450, R476): ports,
classes, duplicates, refusals, items and sessions. -/

namespace Sys2Proof.Machine

/-! ### Status codes and commands (R418, R419) -/

def Status.ok : Nat := 0
def Status.empty : Nat := 1
def Status.authority : Nat := 2
def Status.notReady : Nat := 3
def Status.notActive : Nat := 4
def Status.busy : Nat := 5
def Status.format : Nat := 6
def Status.unknownOp : Nat := 7
def Status.tooMany : Nat := 8
def Status.limit : Nat := 9
def Status.noSignal : Nat := 0xA
def Status.notOwner : Nat := 0xB
def Status.forceFull : Nat := 0xC
def Status.forceSafety : Nat := 0xD
def Status.errAlign : Nat := 0xE
def Status.errAddress : Nat := 0xF
def Status.errPoison : Nat := 0x10
def Status.denied : Nat := 0x11
def Status.noSession : Nat := 0x13
def Status.rate : Nat := 0x14
def Status.notRuntime : Nat := 0x15

/-- A row of R418: the OP, the bit of its class (R411: 0 READ, 1 OPERATE, 2 TUNE, 3 ENGINEER, 4 MAINTAIN) and the most items. -/
structure CmdRow where
  op : Nat
  cls : Nat
  max : Nat
  deriving DecidableEq, Repr

/-- The OP codes of R418. -/
def knownOps : List Nat :=
  [1, 2, 3, 4, 5, 0x101, 0x102, 0x103, 0x201, 0x202, 0x203, 0x204, 0x205, 0x301, 0x302, 0x303, 0x304, 0x401, 0x402, 0x403, 0x404, 0x405,
   0x406, 0x407, 0x408, 0x409, 0x40A, 0x40B, 0x40C]

/-- What an item answers: its status and its result data. -/
abbrev ItemResult := Nat × List Nat

/-! ### Receiving (R412, R417, R420, R427) -/

/-- A port takes traffic: no unit listens in OFF and BOOT, RECOVERY listens on ENG alone (R450), and CELL needs its unit, its setting and a
bearer (R427). -/
def State.listens (s : State) (port : Nat) : Bool :=
  s.mode != .off && s.mode != .boot && (s.mode != .recovery || port == 0) && decide (port < 4) &&
    (port != 3 || (s.flag SYS.UNITS.MODEM && s.live PORT.STAT.CELL_UP 0 == 1))

/-- An invalid frame is counted (R417). -/
def State.frameError (s : State) : State := s.addReg PORT.FRAMEERR.COUNT 0 1

/-- One refused item (R419): counted, shown in LASTREF, recorded. -/
def State.countRefusal (s : State) (r : Req) (op st idx : Nat) : State :=
  let s := s.addReg PORT.REFUSED.COUNT 0 1
  let s := ((s.setReg PORT.LASTREF.OP 0 op).setReg PORT.LASTREF.STATUS 0 st).setReg PORT.LASTREF.PORT 0 r.port
  s.record 0xD01 r.port .warning [(2, op), (1, st), (1, min idx 255), (2, r.client)]

/-- The refusals among the statuses of a request's items; EMPTY is none. -/
def State.countRefusals (s : State) (r : Req) (op : Nat) (sts : List Nat) : State :=
  s.each (sts.zip (List.range sts.length)) (fun s x => if x.1 ≤ Status.empty then s else s.countRefusal r op x.1 x.2)

/-- A refusal of a whole request gives its status to every item (R419). -/
def State.refuseAll (s : State) (r : Req) (op st n : Nat) : State :=
  let s := if st ≤ Status.empty then s else s.countRefusals r op (List.replicate (max n 1) st)
  s.respond r op st (List.replicate n (st, []))

/-- How a request compares with the table of clients (R420). -/
inductive Arrival where
  | fresh | duplicate | stale
  deriving DecidableEq, Repr

/-- R420: sequence `n` of a client judged against its entry. Bit j of the bitmap is sequence H − 1 − j. -/
def Client.judge (c : Client) (n : Nat) : Arrival × Client :=
  let d := diffMod 32 n c.high
  let e := diffMod 32 c.high n
  if d = 0 then (.duplicate, c)
  else if d < 2 ^ 31 then (.fresh, { c with high := wrap 32 n, seen := if d ≤ 63 then wrap 63 (c.seen * 2 ^ d + 2 ^ (d - 1)) else 0 })
  else if e ≤ 63 then
    if bitOf (e - 1) c.seen then (.duplicate, c) else (.fresh, { c with seen := c.seen + 2 ^ (e - 1) })
  else (.stale, c)

/-- The client table after a request (R420): its client stands first; the entry used least recently gives way. -/
def State.judgeClient (s : State) (r : Req) : Arrival × State :=
  let put := fun (c : Client) =>
    { s with port := { s.port with clients := c :: (s.port.clients.filter (fun x => x.id != r.client)).take 31 } }
  match s.port.clients.find? (fun x => x.id == r.client) with
  | none => (.fresh, put { id := r.client, high := wrap 32 r.seq, seen := 0, resp := [] })
  | some c =>
    let (a, c) := c.judge r.seq
    (a, put c)

/-- A duplicate is not executed (R420): its response, when it is still held, leaves on the arrival port. -/
def State.repeatResponse (s : State) (r : Req) : State :=
  let s := s.addReg PORT.DUPCNT.COUNT 0 1
  match (s.port.clients.find? (fun x => x.id == r.client)).bind (fun c => c.resp.find? (fun x => x.1 == r.seq)) with
  | some (_, .response _ c q op ses hs items) => s.emit (.response r.port c q op ses hs items)
  | _ => s

/-- A CELL request against the rate of 20 per second with a burst of 40 (R427). -/
def State.cellAdmits (s : State) : Bool × State :=
  let tat := max s.now s.port.cellFull + msec 50
  if tat ≤ s.now + sec 2 then (true, { s with port := { s.port with cellFull := tat } }) else (false, s)

/-- The copies of a request that is itself a duplicate are duplicates too (R416, R420). -/
def State.repeatCopies (s : State) (r : Req) : State :=
  let l := s.port.copies.filter r.copied
  s.each l (fun s w => ({ s with port := { s.port with copies := s.port.copies.filter (fun x => x != w) } }).repeatResponse w)

/-- The copies of a request that is too old are too old as well (R416, R420). -/
def State.dropCopies (s : State) (r : Req) : State :=
  let n := (s.port.copies.filter r.copied).length
  ({ s with port := { s.port with copies := s.port.copies.filter (fun x => !r.copied x) } }).addReg PORT.STALECNT.COUNT 0 n

/-- The checks before a request is judged by its class (R414 steps 1 and 2, R427). Of copies that arrive in one 10 ns tick the one on the port
of highest rank goes first (R416, R420): another waits for it. Answers whether the request goes on. -/
def State.arrive (s : State) (r : Req) (op n : Nat) : Bool × State :=
  if !s.listens r.port then (false, s)
  else if wrap 32 r.client = 0 then (false, s.frameError)
  else
    let s := s.updStruct (fun x => { x with traffic := s.now })
    let (ok, s) := if r.port = 3 then (s.addReg PORT.CELL_CNT.RX 0 1).cellAdmits else (true, s)
    if !ok then
      let s := (s.addReg PORT.CELL_CNT.RATE 0 1).countRefusals r op (List.replicate (max n 1) Status.rate)
      (false, s.emit (.response r.port r.client r.seq op r.session Status.rate (List.replicate n (Status.rate, []))))
    else if s.outranked Config.refTick r.port (fun _ x => x.client == r.client && x.seq == r.seq && s.listens x.port) then
      (false, { s with port := { s.port with copies := s.port.copies ++ [r] } })
    else match s.judgeClient r with
      | (.fresh, s) => (true, s)
      | (.duplicate, s) => (false, (s.repeatResponse r).repeatCopies r)
      | (.stale, s) => (false, (s.addReg PORT.STALECNT.COUNT 0 1).dropCopies r)

/-! ### Judging and serving (R413, R414, R418, R423) -/

/-- The effective ceiling of a port admits a class (R413). -/
def State.admitsClass (s : State) (port cls : Nat) : Bool := bitOf cls (s.portClasses port &&& s.imageClasses port)

/-- The commands RECOVERY takes (R450). -/
def romOps : List Nat := [2, 5, 0x402, 0x404, 0x405]

/-- The status that refuses a whole request, if one does (R414 steps 3 to 5, R418): ceiling, narrowing, role, and the number of items. -/
def State.wholeStatus (s : State) (r : Req) (row : CmdRow) (narrow n : Nat) : Option Nat :=
  if !s.admitsClass r.port row.cls then some Status.authority
  else if s.mode = .recovery ∧ !romOps.contains row.op then some Status.notReady
  else if narrow ≠ Status.ok then some narrow
  else if 1 ≤ row.cls ∧ row.cls ≤ 3 ∧ !s.isActive then some Status.notActive
  else if n = 0 then some Status.empty
  else if row.max < n then some Status.tooMany
  else none

/-- The items of a request in order; a refused one does not stop the later ones (R419). -/
def State.doItems {α : Type} (s : State) (f : State → α → ItemResult × State) : List α → List ItemResult × State
  | [] => ([], s)
  | x :: l =>
    let (a, s) := f s x
    let (rest, s) := State.doItems s f l
    (a :: rest, s)

/-- The header's status: that of the first failed item (R417). -/
def headStatus (l : List ItemResult) : Nat := ((l.find? (fun x => x.1 != Status.ok)).map Prod.fst).getD Status.ok

/-- The response to a served request: refusals counted, the response sent and held (R417, R419, R420). -/
def State.answer (s : State) (r : Req) (op : Nat) (l : List ItemResult) : State :=
  (s.countRefusals r op (l.map Prod.fst)).respond r op (headStatus l) l

/-- R414: a request is received, judged and served; `finish` says how its items' results are answered. -/
def State.serveWith {α : Type} (s : State) (r : Req) (row : CmdRow) (narrow : Nat) (l : List α) (f : State → α → ItemResult × State)
    (finish : State → List ItemResult → State) : State :=
  let (go, s) := s.arrive r row.op l.length
  if !go then s
  else match s.wholeStatus r row narrow l.length with
    | some st => s.refuseAll r row.op st l.length
    | none =>
      let s := s.addReg PORT.CMDCNT.COUNT 0 1
      let (res, s) := s.doItems f l
      finish s res

/-- A request answered at once. -/
def State.serve {α : Type} (s : State) (r : Req) (row : CmdRow) (narrow : Nat) (l : List α) (f : State → α → ItemResult × State) : State :=
  s.serveWith r row narrow l f (fun s res => s.answer r row.op res)

/-- An item that answers a status alone. -/
def plainItem (st : Nat) (s : State) : ItemResult × State := ((st, []), s)

/-! ### Sessions (R425) -/

/-- The class of a session's kind (1 STRUCT, 2 FW, 3 KEY, 4 OLC). -/
def sessionClass (kind : Nat) : Nat := if kind = 4 then 3 else 4

/-- A session opens: its identity is a free number that is not 0. -/
def State.openSession (s : State) (r : Req) (kind total arg : Nat) : ItemResult × State :=
  let id := s.freeVal 32 % (2 ^ 32 - 1) + 1
  let s := s.nextFree
  let x : Session := { kind := kind, port := r.port, client := r.client, id := id, total := total, arg := arg, got := [], lastAt := s.now }
  let s := { s with port := { s.port with session := some x } }
  let s := ((s.setReg PORT.SESSION.STATE 0 1).setReg PORT.SESSION.KIND 0 kind).setReg PORT.SESSION.PORT 0 r.port
  ((Status.ok, leBytes 4 id), s.setReg PORT.SESSION_ID.ID 0 id)

/-- A session is open, or a structure transfer that counts as one (R262, R425). -/
def State.sessionBusy (s : State) : Bool := s.port.session.isSome || s.struct.loading.isSome || s.struct.prepared.isSome

/-- Another open waits that reached the module in the same 10 ns tick and precedes the one from `client` on `port`: on a port of higher rank
(R416), or on the same port from a lower CLIENT (R439). Only a port that may open sessions counts (R425). -/
def State.openOutranked (s : State) (port client : Nat) : Bool :=
  s.waitsInSpan Config.refTick (fun c x => opensSession c && s.listens x.port &&
    s.admitsClass x.port (match c with | .olcOpen .. => 3 | _ => 4) &&
    decide (x.port < port ∨ x.port = port ∧ wrap 32 x.client < wrap 32 client))

/-- The request belongs to the open session: its client, its port, its identity (R425). -/
def State.ownSession (s : State) (r : Req) : Option Session :=
  match s.port.session with
  | some x => if x.client = r.client ∧ x.port = r.port ∧ x.id = r.session then some x else none
  | none => none

/-- The row of XFER or XFER_END: the class of its session. -/
def State.sessionRow (s : State) (op : Nat) : CmdRow :=
  { op := op, cls := match s.port.session with | some x => sessionClass x.kind | none => 0, max := 1 }

/-- The length of a session's content: the total length of the open, or up to the highest byte of a key. -/
def Session.size (x : Session) : Nat := if x.kind = 3 then (x.got.map Prod.fst).foldl (fun m k => max m (k + 1)) 0 else x.total

/-- The bytes of a session received so far have no gap up to their end. -/
def Session.complete (x : Session) : Bool := decide (x.got.length = x.size)

/-- The received bytes (R425): those of an incomplete content that never came are free. Bytes are held plus one. -/
def State.received (s : State) (x : Session) : List Nat :=
  if x.complete then x.got.map (fun e => e.2 - 1)
  else (List.range x.size).map (fun i => let v := x.got.get i; if v = 0 then bitField (8 * i) 8 (s.freeVal (8 * x.size)) else v - 1)

/-! ### Port events (R415, R417, R418, R426) -/

/-- The address of a port (R426): with no structure image, or in RECOVERY, ENG has 192.168.90.10. -/
def State.portAddr (s : State) (port : Nat) : Nat :=
  if port = 0 then if s.struct.image.isNone || s.mode == .recovery then 0xC0A85A0A else s.reg PORT.ENG_IP.ADDR
  else s.reg PORT.PLp_IP.ADDR (port - 1)

/-- The unit answers for an address on a port: its own, or on the active unit the pair address. -/
def State.answersFor (s : State) (port addr : Nat) : Bool :=
  addr != 0 && decide (port < 3) && s.listens port &&
    (addr == s.portAddr port || (port != 0 && s.isActive && addr == s.reg PORT.PLp_PAIRIP.ADDR (port - 1)))

/-- R415: the key switch has rested in a position for 50 ms (between two detents it reads RUN): recorded, with the kind of a session whose
class the new position no longer allows on its port. -/
def execKeySwitchChange (t position : Nat) (s : State) : Result :=
  let s := s.advance t
  let key := if position ≤ 2 then position else 0
  if key = s.outside.get (PORT.STAT.KEY.key 0) then .next s
  else
    let s := (s.sense PORT.STAT.KEY 0 key).showCeil
    let ended := match s.port.session with
      | some x => if s.admitsClass x.port (sessionClass x.kind) then 0 else x.kind
      | none => 0
    let s := if ended = 0 then s else s.closeSession
    .next (if s.mode = .off then s else s.record 0xF0E 0 .info [(1, key), (1, ended)])

/-- R425, R262: the open session has had no traffic for 10 minutes; a structure transfer reads LAPSED. -/
def execSessionLapse (t : Nat) (s : State) : Result :=
  let s := s.advance t
  match s.port.session with
  | some x =>
    if x.lastAt + sec 600 ≤ s.now then
      .next (if x.kind = 1 ∨ x.kind = 4 then s.closeSession.changeResult ChangeResult.lapsed 0 else s.closeSession)
    else .next s
  | none => .next s

/-- R426: an ARP request for address `addr`. -/
def execArpRequest (t port addr : Nat) (s : State) : Result :=
  let s := s.advance t
  .next (s.when (s.answersFor port addr) (fun s => s.emit (.arpReply port addr)))

/-- R426: an ICMP echo request to address `addr`. -/
def execIcmpEcho (t port addr : Nat) (data : List Nat) (s : State) : Result :=
  let s := s.advance t
  .next (s.when (s.answersFor port addr) (fun s => s.emit (.icmpReply port data)))

/-- R417: a datagram that breaks the frame layout. -/
def execCommandFrameError (t port : Nat) (s : State) : Result :=
  let s := s.advance t
  .next (s.when (s.listens port) State.frameError)

/-- R418: a valid frame whose OP is not defined. -/
def execUnknownOp (t port client seq session op nitem : Nat) (s : State) : Result :=
  let s := s.advance t
  let r : Req := { port := port, client := client, seq := seq, session := session }
  if knownOps.contains op then .next s
  else
    let (go, s) := s.arrive r op nitem
    .next (if go then s.refuseAll r op Status.unknownOp nitem else s)

/-- R426: other traffic on ENG or a plant port. -/
def execForeignTraffic (t port : Nat) (s : State) : Result :=
  let s := s.advance t
  .next (s.when (decide (port < 3) && s.listens port) (fun s => s.addReg PORT.FOREIGN.COUNT 0 1))

end Sys2Proof.Machine
end

