-- ==== Sys2Proof/Machine/Ports.lean ====
section
/-! DEFINITION. The meanings of the commands on the ENG, PLANT and CELL ports (14_ports_and_authority.md R418 to R430, with the rules of
the chapters that own each command's matter). Every command carries its arrival port, CLIENT, SEQ and SESSION and its items in order. -/

namespace Sys2Proof.Machine

/-! ### READ commands (R418, R428 to R430, R466) -/

/-- One READ_SIG item (R54, R282, R295, R418). -/
def State.readSig (s : State) (sig : Nat) : ItemResult × State :=
  if 2 ^ 17 ≤ sig then plainItem Status.format s
  else
    let used := (s.img.dir.get sig).isSome
    let denied := !s.readsSlot portBridge 256 sig
    let bad := used && ((s.slotPoison sig).1 || (s.slotPoison sig).2)
    let sl := s.slotOf sig
    let s := s.noteDmaSlot portBridge 256 sig
    if denied then plainItem Status.denied s
    else if bad then plainItem Status.errPoison s else ((Status.ok, leBytes 4 sig ++ leBytes 8 sl.value ++ leBytes 8 sl.word1), s)

/-- R418: READ_SIG. -/
def execReadSig (t port client seq session : Nat) (sigs : List Nat) (s : State) : Result :=
  .next ((s.advance t).serve ⟨port, client, seq, session⟩ ⟨1, 0, 58⟩ 0 sigs State.readSig)

/-- The summary of R428. -/
def State.summary (s : State) : List Nat :=
  [s.mode.code, s.mode.role, s.reg SYS.VARIANT.CODE, s.reg PORT.STAT.KEY] ++ leBytes 4 (s.reg STRUCT.IMAGE_ID.ID) ++ leBytes 8 s.img.seq ++
    leBytes 4 (s.reg PAIR.EPOCH.EPOCH) ++ ((List.range 4).map (fun k => leBytes 4 (s.reg SYS.SERIALk.TEXT k))).flatten ++
    leBytes 4 (s.word (PORT.CEIL.ENG.addrOf 0)) ++ List.replicate 24 0

/-- R428: READ_STAT. -/
def execReadStat (t port client seq session : Nat) (selectors : List Nat) (s : State) : Result :=
  .next ((s.advance t).serve ⟨port, client, seq, session⟩ ⟨2, 0, 1⟩ 0 selectors
    (fun s sel => if sel = 0 then ((Status.ok, s.summary), s) else plainItem Status.format s))

/-- One READ_REC item: start record and count (R466). -/
def State.readRec (s : State) (x : Nat × Nat) : ItemResult × State :=
  if x.2 = 0 then plainItem Status.empty s
  else
    let newest := s.reg REC.NEWEST.RECNO
    let first := max x.1 (s.reg REC.OLDEST.RECNO)
    let n := min (min x.2 44) (newest + 1 - first)
    let recs := (List.range n).map (fun k => (((s.windowAt (first + k)).words).map (leBytes 4)).flatten)
    ((Status.ok, leBytes 4 first ++ leBytes 4 n ++ recs.flatten), s.startFlush)

/-- R466: READ_REC. -/
def execReadRec (t port client seq session : Nat) (items : List (Nat × Nat)) (s : State) : Result :=
  .next ((s.advance t).serve ⟨port, client, seq, session⟩ ⟨3, 0, 1⟩ 0 items State.readRec)

/-- R429, R430: ATTEST: the request waits for the ROM gate; a fifth is refused. `nonces` are 32-byte numbers, byte 0 lowest. -/
def execAttest (t port client seq session : Nat) (nonces : List Nat) (s : State) : Result :=
  let s := s.advance t
  let r : Req := ⟨port, client, seq, session⟩
  .next (s.serveWith r ⟨4, 0, 1⟩ 0 nonces
    (fun s n =>
      if 4 ≤ s.port.attest.length then plainItem Status.busy s
      else plainItem Status.ok { s with port := { s.port with attest := s.port.attest ++ [(r, wrap 256 n)] } })
    (fun s res => if headStatus res = Status.ok then s else s.answer r 4 res))

/-- The identity public key (R429). -/
def identityBytes (first n : Nat) : List Nat := (List.range n).map (fun i => wrap 8 (Config.identityKey (first + i)))

/-- The report of R429. -/
def State.report (s : State) (nonce : Nat) : List Nat :=
  let safe := s.flag SYS.UNITS.SAFE
  let check := if safe then s.reg SAFE.CHECK.VALUE else 0
  let flags := bn (safe && s.flag SAFE.STAT.CONFIRMED) + 2 * s.reg STRUCT.STAT.DIVERGED + 4 * s.reg STRUCT.STAT.FALLBACK + 8 * bn safe
  let part := fun p =>
    if !s.flag UPD.PARTp_STAT.PRESENT p then List.replicate 8 0
    else
      let v := ((s.fwSlot p (s.fwActive p)).map (·.version)).getD 0
      [s.fwActive p, 0] ++ leBytes 2 (v / 2 ^ 32) ++ leBytes 2 (v / 2 ^ 16) ++ leBytes 2 v
  [0x54, 0x39, 0x41, 0x52, 1, 0, s.reg SYS.VARIANT.CODE, s.mode.code + 16 * s.mode.role] ++ leBytes 32 nonce ++
    leBytes 16 (digestOf (identityBytes 0 1793)) ++ ((List.range 8).map (fun k => leBytes 4 (s.reg STRUCT.HASHk.HASH k))).flatten ++
    leBytes 4 (s.reg STRUCT.IMAGE_ID.ID) ++ (leBytes 4 check).reverse ++ [flags, 0, 0, 0] ++ ((List.range 4).map part).flatten ++
    leBytes 8 s.img.seq ++ leBytes 4 (s.reg PAIR.EPOCH.EPOCH) ++ leBytes 6 s.opTime ++ [0, 0] ++ leBytes 4 s.pcyc ++ [0, 0, 0, 0]

/-- R297, R430: the ROM gate has signed the report of the request that has waited longest, and the call ends. -/
def execAttestSigned (t : Nat) (s : State) : Result :=
  let s := s.advance t
  match s.port.attest with
  | [] => .next (s.setGate 0)
  | (r, n) :: rest =>
    let s := ({ s with port := { s.port with attest := rest } }).bumpReg PORT.ATTCNT.COUNT 0
    let s := s.setGate 0
    let rep := s.report n
    .next (s.answer r 4 [(Status.ok, rep ++ leBytes 1280 (Config.signature (ofBytes rep)))])

/-- R429: READ_IDKEY, of offset and length. -/
def execReadIdkey (t port client seq session : Nat) (items : List (Nat × Nat)) (s : State) : Result :=
  .next ((s.advance t).serve ⟨port, client, seq, session⟩ ⟨5, 0, 1⟩ 0 items
    (fun s x => if 1024 < x.2 ∨ 1793 < x.1 + x.2 then plainItem Status.format s else ((Status.ok, identityBytes x.1 x.2), s)))

/-! ### OPERATE commands (R424, R427, R360) -/

/-- The status of an absent safety unit's commands (R5): it holds no mailbox. -/
def State.withSafe (s : State) (f : State → ItemResult × State) : ItemResult × State :=
  if s.flag SYS.UNITS.SAFE then f s else plainItem Status.notReady s

/-- A CELL write lies within its limits (R427): in [LO, HI], and within MAXSTEP of the committed value. -/
def State.cellLimits (s : State) (lim : RemoteLim) (type value : Nat) : Bool :=
  let lo := if type = 0 then some 0 else realOf 4 lim.lo
  let hi := if type = 0 then some (2 ^ 1074) else realOf 4 lim.hi
  match realOf type (normalise type value), lo, hi with
  | some v, some lo, some hi =>
    decide (lo ≤ v ∧ v ≤ hi) &&
      (match realOf 4 lim.maxStep, realOf type (s.slotRead lim.sig).value with
        | some m, some c => m == 0 || decide (v - c ≤ m ∧ c - v ≤ m)
        | some m, none => m == 0
        | none, _ => false)
  | _, _, _ => false

/-- One WRITE_SIG item: signal and value (R424, R427). -/
def State.writeSig (port : Nat) (s : State) (x : Nat × Nat) : ItemResult × State :=
  let lim := (s.struct.image.map (·.remote)).getD [] |>.find? (fun l => l.sig == x.1)
  if port = 3 ∧ lim.isNone then plainItem Status.authority s
  else match s.img.dir.get x.1 with
    | none => plainItem Status.noSignal s
    | some d =>
      if d.owner / 4096 ≠ 7 then plainItem Status.notOwner (s.ownerRefused x.1 (0x7000 + port))
      else if port == 3 && !(lim.any (fun l => s.cellLimits l d.type x.2)) then plainItem Status.limit s
      else plainItem Status.ok (s.commandWrite x.1 port x.2)

/-- R424: WRITE_SIG. -/
def execWriteSig (t port client seq session : Nat) (items : List (Nat × Nat)) (s : State) : Result :=
  .next ((s.advance t).serve ⟨port, client, seq, session⟩ ⟨0x101, 1, 120⟩ 0 items (State.writeSig port))

/-- One ACK_ALARM item: the acknowledge signal of index `k` rises by 1, on RAW while it is forced (R424). -/
def State.ackAlarm (port : Nat) (s : State) (k : Nat) : ItemResult × State :=
  if 64 ≤ k then plainItem Status.format s
  else match ((s.struct.image.map (·.acks)).getD [])[k]? with
    | none => plainItem Status.noSignal s
    | some sig =>
      if (s.img.dir.get sig).isNone then plainItem Status.noSignal s
      else plainItem Status.ok (s.commandWrite sig port (wrap 64 (s.ownerValue sig + 1)))

/-- R424: ACK_ALARM. -/
def execAckAlarm (t port client seq session : Nat) (indices : List Nat) (s : State) : Result :=
  .next ((s.advance t).serve ⟨port, client, seq, session⟩ ⟨0x102, 1, 64⟩ 0 indices (State.ackAlarm port))

/-- A mailbox request of a command, with its argument and operation; what it answers at once is the result the mailbox shows (R360). -/
def State.askMailbox (s : State) (r : Req) (code op arg : Nat) (allowed : State → Bool) : ItemResult × State :=
  s.withSafe (fun s =>
    let n := s.setReg SAFE.MBOX_ARG.ARG 0 arg
    let n := n.mbox (allowed n) op (some (r, code))
    ((Status.ok, leBytes 4 (n.reg SAFE.MBOX_STAT.RESULT)), n))

/-- The command of a mailbox request: answered when the unit has completed it, or at once (R360). -/
def State.serveMailbox (s : State) (r : Req) (row : CmdRow) (narrow op : Nat) (args : List Nat) (allowed : State → Bool) : State :=
  s.serveWith r row narrow args (fun s x => s.askMailbox r row.op op x allowed) (fun s res =>
    if (s.safe.request.bind (·.reply)) = some (r, row.op) then s else s.answer r row.op res)

/-- R360: SAFE_RESTART, not over CELL (R427). -/
def execSafeRestart (t port client seq session : Nat) (masks : List Nat) (s : State) : Result :=
  let s := s.advance t
  .next (s.serveMailbox ⟨port, client, seq, session⟩ ⟨0x103, 1, 1⟩ (if port = 3 then Status.authority else 0) 1 masks
    (fun _ => mayRestart 36 1 port))

/-! ### TUNE commands (R81 to R83, R229, R258, R325, R360) -/

/-- The answer of a force command waits for the partner when a record of it has gone there (R229). -/
def State.answerForce (r : Req) (op before : Nat) (s : State) (res : List ItemResult) : State :=
  let m := s.reg PAIR.MSEQ_SENT.MSEQ
  if s.partnerStandby ∧ m ≠ before then
    let s := s.countRefusals r op (res.map Prod.fst)
    { s with port := { s.port with forceWait := s.port.forceWait ++ [(m, r, op, res.map Prod.fst)] } }
  else s.answer r op res

/-- One FORCE_SET item: signal and value (R81, R82). -/
def State.forceSet (port : Nat) (s : State) (x : Nat × Nat) : ItemResult × State :=
  match s.img.dir.get x.1 with
  | none => plainItem Status.noSignal s
  | some d =>
    if d.safety then plainItem Status.forceSafety s
    else if (s.img.forces.get x.1).isNone ∧ Config.forceMax ≤ s.img.forces.length then plainItem Status.forceFull s
    else
      let (n, s) := s.grantSeq 1
      let s := (s.placeForce x.1 x.2 port n).copyToPins x.1
      plainItem Status.ok (s.sendMirror .async (.force x.1 true (normalise d.type x.2) port) (seq64 := n))

/-- R82: FORCE_SET. -/
def execForceSet (t port client seq session : Nat) (items : List (Nat × Nat)) (s : State) : Result :=
  let s := s.advance t
  let r : Req := ⟨port, client, seq, session⟩
  .next (s.serveWith r ⟨0x201, 2, 60⟩ 0 items (State.forceSet port) (State.answerForce r 0x201 (s.reg PAIR.MSEQ_SENT.MSEQ)))

/-- One FORCE_CLEAR item (R83). -/
def State.forceClear (port : Nat) (s : State) (sig : Nat) : ItemResult × State :=
  if (s.img.dir.get sig).isNone then plainItem Status.noSignal s
  else if (s.img.forces.get sig).isNone then plainItem Status.ok s
  else
    let (n, s) := s.grantSeq 1
    let s := (s.liftForce sig n).copyToPins sig
    plainItem Status.ok (s.sendMirror .async (.force sig false 0 port) (seq64 := n))

/-- R83: FORCE_CLEAR. -/
def execForceClear (t port client seq session : Nat) (sigs : List Nat) (s : State) : Result :=
  let s := s.advance t
  let r : Req := ⟨port, client, seq, session⟩
  .next (s.serveWith r ⟨0x202, 2, 120⟩ 0 sigs (State.forceClear port) (State.answerForce r 0x202 (s.reg PAIR.MSEQ_SENT.MSEQ)))

/-- The address is a run-time setting (R131, R258): a run-time register, or a word of a cell that is run-time writable. -/
def State.isRunTime (s : State) (a : Nat) : Bool :=
  if cellAddr 0 0 ≤ a ∧ a < cellAddr 4096 0 then
    let c := (a - cellAddr 0 0) / 0x20
    let off := (a - cellAddr 0 0) % 0x20
    s.flag CELL.CELLc_STAT.RTW c && [0, 4, 8, 0xC, 0x18, 0x1C].contains off
  else decide (a % 4 = 0) && inPage a && runtimeReg a

/-- R424: WRITE_RT, of address and value. -/
def execWriteRt (t port client seq session : Nat) (items : List (Nat × Nat)) (s : State) : Result :=
  .next ((s.advance t).serve ⟨port, client, seq, session⟩ ⟨0x203, 2, 120⟩ 0 items (fun s x =>
    if !s.isRunTime x.1 then plainItem Status.notRuntime s
    else
      let (st, s) := s.writeRegister 36 x.1 (wrap 32 x.2) 0
      plainItem st s))

/-- R360: SAFE_CLEAR. -/
def execSafeClear (t port client seq session : Nat) (args : List Nat) (s : State) : Result :=
  .next ((s.advance t).serveMailbox ⟨port, client, seq, session⟩ ⟨0x204, 2, 1⟩ 0 2 args (fun s => s.mayClear 36 2 port))

/-- One HART_PASS item: channel, then address, command and data (R325). The group's modem takes it at its next turn. -/
def State.hartPass (r : Req) (s : State) (x : Nat × List Nat) : ItemResult × State :=
  if 32 ≤ x.1 ∨ 257 < x.2.length ∨ x.2.length < 2 then plainItem Status.format s
  else if !s.loopsRun ∨ s.hartDevices x.1 = [] ∨ s.loopState x.1 ≠ LoopState.run then plainItem Status.notReady s
  else
    let s := { s with loops := { s.loops with waiting := s.loops.waiting ++ [{ channel := x.1, req := r, data := x.2 }] } }
    plainItem Status.ok (if s.loops.turn.get (x.1 / 8) = 0 then s.nextTurn (x.1 / 8) else s)

/-- R325: HART_PASS. Its response is sent when the device has answered or failed. -/
def execHartPass (t port client seq session : Nat) (items : List (Nat × List Nat)) (s : State) : Result :=
  let s := s.advance t
  let r : Req := ⟨port, client, seq, session⟩
  .next (s.serveWith r ⟨0x205, 2, 1⟩ 0 items (State.hartPass r)
    (fun s res => if headStatus res = Status.ok then s else s.answer r 0x205 res))

/-! ### ENGINEER commands (R238, R261 to R266, R527) -/

/-- R449: what a part on trial keeps out. -/
def State.trialBlocks (s : State) : Nat := if s.onTrial then Status.notReady else Status.ok

/-- R261, R262: OLC_OPEN, of total length. -/
def execOlcOpen (t port client seq session : Nat) (lengths : List Nat) (s : State) : Result :=
  let s := s.advance t
  let r : Req := ⟨port, client, seq, session⟩
  .next (s.serve r ⟨0x301, 3, 1⟩ (if !s.mode.runs then Status.notReady else s.trialBlocks) lengths (fun s n =>
    if s.sessionBusy || s.openOutranked port client then plainItem Status.busy s
    else if n = 0 ∨ structMax < n then plainItem Status.format s
    else
      let (a, s) := s.openSession r 4 n 0
      (a, s.setReg STRUCT.STAT.STATE 0 StructState.receiving)))

/-- A change is PREPARED and is the one the command names (R527). -/
def State.preparedIs (s : State) (id : Nat) : Bool :=
  s.reg STRUCT.STAT.STATE == StructState.prepared && s.struct.prepared.isSome && s.reg STRUCT.PEND_ID.ID == wrap 32 id

/-- R265, R527: OLC_COMMIT, of the expected IMAGE_ID; its result is sent when the attempt ends. -/
def execOlcCommit (t port client seq session : Nat) (ids : List Nat) (s : State) : Result :=
  let s := s.advance t
  let r : Req := ⟨port, client, seq, session⟩
  .next (s.serveWith r ⟨0x302, 3, 1⟩ 0 ids
    (fun s id =>
      if s.reg STRUCT.STAT.STATE = StructState.holding then plainItem Status.busy s
      else if !s.preparedIs id ∨ !s.mode.runs then plainItem Status.notReady s
      else plainItem Status.ok s)
    (fun s res =>
      if headStatus res = Status.ok then ({ s with port := { s.port with olcWait := some r } }).beginCommit else s.answer r 0x302 res))

/-- R262, R527: OLC_ABORT, of the expected IMAGE_ID. -/
def execOlcAbort (t port client seq session : Nat) (ids : List Nat) (s : State) : Result :=
  .next ((s.advance t).serve ⟨port, client, seq, session⟩ ⟨0x303, 3, 1⟩ 0 ids (fun s id =>
    if s.preparedIs id then plainItem Status.ok s.abortChange else plainItem Status.notReady s))

/-- R238: RESIGN; the item is reserved. -/
def execResign (t port client seq session : Nat) (items : List Nat) (s : State) : Result :=
  .next ((s.advance t).serve ⟨port, client, seq, session⟩ ⟨0x304, 3, 1⟩ 0 items (fun s _ =>
    let s := s.requestResign 1
    ((Status.ok, leBytes 4 (s.reg PAIR.CMDSTAT.RESULT)), s)))

/-! ### MAINTAIN commands: sessions (R250, R255, R425, R439 to R443, R450, R527) -/

/-- R255, R262: STRUCT_OPEN, of total length. -/
def execStructOpen (t port client seq session : Nat) (lengths : List Nat) (s : State) : Result :=
  let s := s.advance t
  let r : Req := ⟨port, client, seq, session⟩
  let ready := s.mode == .commission || s.mode == .hold || s.mode == .service
  .next (s.serve r ⟨0x401, 4, 1⟩ (if ready then s.trialBlocks else Status.notReady) lengths (fun s n =>
    if s.sessionBusy || s.openOutranked port client then plainItem Status.busy s
    else if n = 0 ∨ structMax < n then plainItem Status.format s
    else
      let (a, s) := s.openSession r 1 n 0
      (a, s.setReg STRUCT.STAT.STATE 0 StructState.receiving)))

/-- The slot size of a part code (R433); 0 for none. -/
def fwSlotSize (code : Nat) : Nat :=
  match code with
  | 1 => 16 * 2 ^ 20
  | 2 => 2 ^ 20
  | 3 => 2 ^ 20
  | 4 => 8 * 2 ^ 20
  | _ => 0

/-- One FW_OPEN item: part word and total length (R439, R449, R455). -/
def State.fwOpen (r : Req) (s : State) (x : Nat × Nat) : ItemResult × State :=
  let code := wrap 8 x.1
  let staged := s.upd.staged != 0 && s.upd.staged != code
  if s.sessionBusy || s.openOutranked r.port r.client then plainItem Status.busy s
  else if 512 ≤ x.1 ∨ x.2 = 0 ∨ fwSlotSize code < x.2 then plainItem Status.format s
  else if staged then plainItem Status.notReady s
  else
    let (a, s) := s.openSession r 2 x.2 x.1
    (a, s.setUpdState UpdState.receiving (code - 1))

/-- R439: FW_OPEN. -/
def execFwOpen (t port client seq session : Nat) (items : List (Nat × Nat)) (s : State) : Result :=
  let s := s.advance t
  let r : Req := ⟨port, client, seq, session⟩
  let held := (s.onTrial && s.mode != .recovery) || (s.isActive && s.partnerStandby)
  .next (s.serve r ⟨0x402, 4, 1⟩ (if held then Status.notReady else 0) items (State.fwOpen r))

/-- R250: KEY_OPEN, of key position, from ENG alone. -/
def execKeyOpen (t port client seq session : Nat) (positions : List Nat) (s : State) : Result :=
  let s := s.advance t
  let r : Req := ⟨port, client, seq, session⟩
  .next (s.serve r ⟨0x403, 4, 1⟩ s.trialBlocks positions (fun s p =>
    if s.sessionBusy || s.openOutranked port client then plainItem Status.busy s
    else if 4 ≤ p then plainItem Status.format s
    else s.openSession r 3 (2 ^ 32) p))

/-- One XFER item: offset and data (R425). -/
def State.xfer (s : State) (x : Nat × List Nat) : ItemResult × State :=
  match s.port.session with
  | none => plainItem Status.noSession s
  | some ses =>
    let ses := { ses with lastAt := s.now }
    let s := { s with port := { s.port with session := some ses } }
    if 1024 < x.2.length ∨ ses.total < x.1 + x.2.length then plainItem Status.format s
    else
      let got := (x.2.zip (List.range x.2.length)).foldl (fun g b => g.set (x.1 + b.2) (wrap 8 b.1 + 1)) ses.got
      plainItem Status.ok { s with port := { s.port with session := some { ses with got := got } } }

/-- R425: XFER. -/
def execXfer (t port client seq session : Nat) (items : List (Nat × List Nat)) (s : State) : Result :=
  let s := s.advance t
  let r : Req := ⟨port, client, seq, session⟩
  .next (s.serve r (s.sessionRow 0x404) (if (s.ownSession r).isNone then Status.noSession else 0) items State.xfer)

/-- The result word of XFER_END (R440, R527). -/
def endWord (result reason : Nat) : ItemResult := (Status.ok, leBytes 4 (result + 256 * reason))

/-- The container of a full load is handed over (R255, R256, R527): checked, stored; FULL_LOAD_APPLY goes on. -/
def State.endStruct (s : State) (c : Content) : ItemResult × State :=
  let s := s.closeSession
  match c with
  | .container c =>
    if !(s.mode = .commission ∨ s.mode = .hold ∨ s.mode = .service) then plainItem Status.notReady s
    else
      let s := s.setReg STRUCT.STAT.STATE 0 StructState.checking
      match (if c.kind = 1 then s.checkContainer c true else some (1, 0, 0)) with
      | some x => (endWord 2 x.1, (s.rejectStruct x).setReg STRUCT.STAT.STATE 0 StructState.idle)
      | none => (endWord 0 0, ((s.storeSpare c).installFirst c).updStruct (fun y => { y with loading := some c }))
  | _ => (endWord 2 1, s.rejectStruct (1, 0, 0))

/-- The content of an on-line change is handed over (R263, R527). Answers none when its response waits for CHANGE_PREPARED. -/
def State.endOlc (s : State) (r : Req) (c : Content) : Option ItemResult × State :=
  let s := s.closeSession
  let reject := fun (s : State) (x : Nat × Nat × Nat) =>
    (some (endWord 2 x.1), ((s.rejectStruct x).setReg STRUCT.STAT.STATE 0 StructState.idle).setReg STRUCT.STAT.RESULT 0 ChangeResult.rejected)
  match c with
  | .container c =>
    if !s.mode.runs then (some (Status.notReady, []), s)
    else
      let s := s.setReg STRUCT.STAT.STATE 0 StructState.checking
      match (if c.kind = 2 then s.checkContainer c false else some (1, 0, 0)) with
      | some x => reject s x
      | none =>
        (none, { s with struct := { s.struct with loading := some c }, port := { s.port with olcWait := some r } })
  | _ => reject s (1, 0, 0)

/-- The content of a key session is handed over (R250, R527). -/
def State.endKey (s : State) (pos : Nat) (b : List Nat) : ItemResult × State :=
  let s := s.closeSession
  match keyOfBytes b with
  | some k => (endWord 0 0, (s.putKey pos (some k)).record 0xE05 0 .info [(1, 1), (1, pos)])
  | none => (endWord 2 1, s)

/-- What the received bytes and the operand say together: the header and the tables are those of the bytes. -/
def State.readContent (s : State) (c : Content) (b : List Nat) : Content :=
  match c with
  | .container c => .container (c.readFrom b s.struct.image)
  | .firmware x => .firmware (x.readFrom b)
  | .plain => .plain

/-- R450: in RECOVERY the image boots on trial; a PROBATION the policy left is over with it. -/
def State.bootTrial (s : State) (p : Nat) : State :=
  let s := s.updUpd (fun u => { u with attempted := u.attempted.set p false, staged := 0 })
  ((s.setReg UPD.PARTp_STAT.PROBATION p 0).setReg UPD.PARTp_STAT.TRIAL p 1).moduleReset ResetCause.trialStart

/-- The content of a firmware session is handed over (R440, R441, R444, R450). Answers the item, the state, and what starts once the
response is sent. `peer` is the partner's RUNTIME image as its heartbeats give it. -/
def State.endFw (s : State) (word : Nat) (c : Content) (peer : Option FwImage) : ItemResult × State × (State → State) :=
  let code := wrap 8 word
  let p := code - 1
  let s := s.closeSession
  let bad := match c with
    | .firmware x => s.fwReason x p peer
    | _ => some 2
  match c, bad with
  | .firmware x, none =>
    let s := s.fwStore x p
    if s.mode = .recovery then (endWord 0 0, s, fun s => s.bootTrial p)
    else if bitOf 8 word then (endWord 1 0, s.stage p, id)
    else if s.trialAllowed p then (endWord 0 0, s, fun s => s.startTrial p)
    else ((Status.notReady, []), s.stage p, id)
  | _, b => let reason := b.getD 2; (endWord 2 reason, s.fwReject reason code, id)

/-- One XFER_END (R425): the CRC over the received content, then the owning chapter. -/
def State.xferEnd (r : Req) (crc : Nat) (c : Content) (peer : Option FwImage) (s : State) : State :=
  match s.port.session with
  | none => s.answer r 0x405 [(Status.noSession, [])]
  | some x =>
    let b := s.received x
    let good := decide (wrap 32 crc = crc32 b)
    let c := s.readContent c b
    let s := if x.complete then s else s.nextFree
    let s := { s with port := { s.port with session := some { x with lastAt := s.now } } }
    if !good then
      if x.kind = 2 then (s.fwReject 1 (wrap 8 x.arg)).answer r 0x405 [endWord 2 1] else s.answer r 0x405 [endWord 2 0xFF]
    else match x.kind with
      | 1 => let (a, s) := s.endStruct c; s.answer r 0x405 [a]
      | 2 => let (a, s, go) := s.endFw x.arg c peer; go (s.answer r 0x405 [a])
      | 3 => let (a, s) := s.endKey x.arg b; s.answer r 0x405 [a]
      | _ =>
        match s.endOlc r c with
        | (some a, s) => s.answer r 0x405 [a]
        | (none, s) => s

/-- R425: XFER_END, of total CRC-32. `content` is what the received bytes hold beyond their header and tables. -/
def execXferEnd (t port client seq session : Nat) (crcs : List Nat) (content : Content) (peer : Option FwImage) (s : State) : Result :=
  let s := s.advance t
  let r : Req := ⟨port, client, seq, session⟩
  .next (s.serveWith r (s.sessionRow 0x405) (if (s.ownSession r).isNone then Status.noSession else 0) crcs
    (fun s _ => plainItem Status.ok s) (fun s _ => s.xferEnd r (crcs.headD 0) content peer))

/-! ### MAINTAIN commands: registers, keys, recorder, retirement, modes (R422, R250, R358, R466, R469, R484, R298) -/

/-- One REGWIN item: address, width, op, value (R422). -/
def State.regwin (s : State) (x : Nat × Nat × Nat × Nat) : ItemResult × State :=
  let (a, width, op, v) := x
  let fail := fun st => ((st, leBytes 4 0), s)
  if width ≠ 4 ∨ a % 4 ≠ 0 then fail Status.errAlign
  else if !inPage a then fail Status.errAddress
  else if op = 0 then let (v, s) := s.readRegister 36 a; ((Status.ok, leBytes 4 v), s)
  else if op = 1 then let (st, s) := s.writeRegister 36 a (wrap 32 v) 0; ((st, leBytes 4 0), s)
  else fail Status.format

/-- R422: REGWIN. -/
def execRegwin (t port client seq session : Nat) (items : List (Nat × Nat × Nat × Nat)) (s : State) : Result :=
  .next ((s.advance t).serve ⟨port, client, seq, session⟩ ⟨0x406, 4, 120⟩ 0 items State.regwin)

/-- R358: SAFE_CONFIRM, of the check value. -/
def execSafeConfirm (t port client seq session : Nat) (values : List Nat) (s : State) : Result :=
  let s := s.advance t
  .next (s.serveMailbox ⟨port, client, seq, session⟩ ⟨0x407, 4, 1⟩ s.trialBlocks 3 values (fun s => s.mayConfirm 36 3 port))

/-- R250: KEY_REMOVE, of key position. -/
def execKeyRemove (t port client seq session : Nat) (positions : List Nat) (s : State) : Result :=
  let s := s.advance t
  .next (s.serve ⟨port, client, seq, session⟩ ⟨0x408, 4, 1⟩ s.trialBlocks positions (fun s p =>
    if 4 ≤ p then plainItem Status.format s
    else if (s.struct.keys.get p).isNone then plainItem Status.ok s
    else plainItem Status.ok ((s.putKey p none).record 0xE05 0 .info [(1, 2), (1, p)])))

/-- R466: the recorder is cleared: flush, CLEAR_HORIZON, and the horizon at its number. -/
def State.clearRecorder (s : State) : State :=
  let s := s.flushNow
  let s := (s.record 0xF02 0 .info [(4, s.reg REC.HORIZON.RECNO)]).flushNow
  s.setReg REC.HORIZON.RECNO 0 (s.reg REC.NEWEST.RECNO)

/-- R466: REC_CLEAR, of the value 0x434C_5252; a Caddy that refuses the flush is not ready. -/
def execRecClear (t port client seq session : Nat) (values : List Nat) (s : State) : Result :=
  .next ((s.advance t).serve ⟨port, client, seq, session⟩ ⟨0x409, 4, 1⟩ 0 values (fun s v =>
    if v ≠ 0x434C5252 then plainItem Status.format s
    else if s.flag REC.STAT.CADDY_FAIL then plainItem Status.notReady s
    else plainItem Status.ok s.clearRecorder))

/-- The number of items of a kind (R467). -/
def kindCount (kind : Nat) : Nat := ([0, 4096, 128, 16, 4, 32, 64, 4, 4, 256][kind]?).getD 0

/-- The source class and instance of an item in records (R459). -/
def itemSource (kind index : Nat) : Nat × Nat :=
  match kind with
  | 1 => (3, index)
  | 2 => (4, index)
  | 3 => (1, index)
  | 4 => (2, index)
  | 5 => (0xA, index)
  | 6 => (0xA, pinInstance index)
  | 7 => (8, 0x100 + index)
  | 8 => (0xB, index)
  | _ => (5, 0)

/-- One RETIRE_CLEAR item: kind and index (R469). -/
def State.retireClear (s : State) (x : Nat × Nat) : ItemResult × State :=
  let (kind, index) := x
  if kindCount kind ≤ index then plainItem Status.format s
  else match s.life.retired.find? (fun e => e.kind == kind && e.index == index) with
    | none => plainItem Status.ok s
    | some e =>
      if e.clearPending then plainItem Status.ok s
      else
        let m := s.life.retired.map (fun y => if y.kind = kind ∧ y.index = index then { y with clearPending := true } else y)
        let (cls, inst) := itemSource kind index
        plainItem Status.ok (({ s with life := { s.life with retired := m } }).record (cls * 256 + 0xF2) inst .info [(1, kind), (2, index)])

/-- R469: RETIRE_CLEAR. -/
def execRetireClear (t port client seq session : Nat) (items : List (Nat × Nat)) (s : State) : Result :=
  .next ((s.advance t).serve ⟨port, client, seq, session⟩ ⟨0x40A, 4, 1⟩ 0 items State.retireClear)

/-- A MODE request (R484) for the code `code`; an item with a code that R484 does not name returns FORMAT. `after` follows the response. -/
def State.modeRequest (s : State) (r : Req) (code : Nat) (items : List Nat) (f after : State → State) : State :=
  s.serveWith r ⟨0x40B, 4, 1⟩ 0 items
    (fun s c =>
      if c ≠ code then plainItem Status.format s
      else if !s.modeAccepts code then plainItem Status.notReady s
      else
        let s := f s
        ((Status.ok, leBytes 4 s.mode.code), s))
    (fun s res =>
      let s := s.answer r 0x40B res
      if headStatus res = Status.ok then after s else s)

/-- R480, R484: MODE RUN. -/
def execModeRun (t port client seq session : Nat) (items : List Nat) (s : State) : Result :=
  .next ((s.advance t).modeRequest ⟨port, client, seq, session⟩ 7 items State.modeRun id)

/-- R480, R484: MODE HOLD. -/
def execModeHold (t port client seq session : Nat) (items : List Nat) (s : State) : Result :=
  .next ((s.advance t).modeRequest ⟨port, client, seq, session⟩ 9 items State.modeHold id)

/-- R482, R484: MODE SERVICE. -/
def execModeService (t port client seq session : Nat) (items : List Nat) (s : State) : Result :=
  .next ((s.advance t).modeRequest ⟨port, client, seq, session⟩ 10 items State.modeService id)

/-- R484, R485: MODE HALT. -/
def execModeHalt (t port client seq session : Nat) (items : List Nat) (s : State) : Result :=
  .next ((s.advance t).modeRequest ⟨port, client, seq, session⟩ 11 items State.modeHalt id)

/-- R484, R486: MODE RESET: flushed, answered, then a module reset. -/
def execModeReset (t port client seq session : Nat) (items : List Nat) (s : State) : Result :=
  .next ((s.advance t).modeRequest ⟨port, client, seq, session⟩ 16 items State.flushNow
    (fun s => s.moduleReset ResetCause.modeReset))

/-- The result of a debug access: the status again, and the value (R418). -/
def debugItem (st v : Nat) : ItemResult := (st, leBytes 4 st ++ leBytes 8 v)

/-- One DEBUG item: address, op, value (R298): a register of the control space, or 8 bytes of a memory. -/
def State.debugAccess (s : State) (x : Nat × Nat × Nat) : ItemResult × State :=
  let (a, op, v) := x
  if 2 ≤ op then (debugItem Status.format 0, s)
  else if inPage a then
    if a % 4 ≠ 0 then (debugItem Status.errAlign 0, s)
    else if op = 0 then let (v, s) := s.readRegister 37 a; (debugItem Status.ok v, s)
    else let (st, s) := s.writeRegister 37 a (wrap 32 v) 0; (debugItem st 0, s)
  else match locate (a / 8) with
    | none => (debugItem Status.errAddress 0, s)
    | some _ =>
      let (w, poison, denied, s) := s.dmaAccess 37 256 op a 8 v
      if denied then
        let s := ((s.addReg GUARD.DENIEDCNT.COUNT 0 1).setReg GUARD.STAT.DEBUG_DENIED 0 1).lifeAdd 0x159 1
        (debugItem Status.denied (if op = 1 then 0 else w), s)
      else if op = 1 then (debugItem Status.ok 0, s)
      else (debugItem (if poison then Status.errPoison else Status.ok) w, s)

/-- R298: DEBUG, from ENG with the key at SERVICE in SERVICE mode. -/
def execDebug (t port client seq session : Nat) (items : List (Nat × Nat × Nat)) (s : State) : Result :=
  let s := s.advance t
  let ok := port == 0 && s.reg PORT.STAT.KEY == 2 && s.mode == .service
  .next (s.serve ⟨port, client, seq, session⟩ ⟨0x40C, 4, 60⟩ (if ok then 0 else Status.denied) items State.debugAccess)

end Sys2Proof.Machine
end

