-- ==== Sys2Proof/Machine/Rings.lean ====
section
/-! DEFINITION. The meanings of the station ring commands (06_station_rings.md). -/

namespace Sys2Proof.Machine

/-- R239 step 1: after the OUTPUT frames of a period start the resigning unit starts no further cycle. -/
def State.resignAtPeriod (s : State) : State :=
  if s.pair.resign = .untilPeriod then { s with pair := { s.pair with resign := .window, resignAt := s.now } } else s

/-- The instant of the early guard of a ring has come (R191). -/
def State.pastEarly (s : State) (r : Nat) : Bool :=
  let d := s.ring r
  d.startAt == 0 || d.atOnce || decide (d.startAt - 1 + s.periodTime r / 2 ≤ s.now)

/-- R189, R191: a period starts when the base has reached its grid point; one reached before 0.5 of a period waits for the guard. -/
def execPeriodStart (t ring : Nat) (s : State) : Result :=
  let s := s.advance t
  if 2 ≤ ring ∨ !s.originates ring ∨ !s.periodReached ring then .next s
  else if !s.pastEarly ring then .next (s.updRing ring (fun d => { d with early := true }))
  else .next (s.startPeriod ring (s.ring ring).early).resignAtPeriod

/-- R191: the early guard places a start whose grid point was reached before it. -/
def execPeriodEarlyGuard (t ring : Nat) (s : State) : Result :=
  let s := s.advance t
  if ring < 2 ∧ s.originates ring ∧ s.periodReached ring ∧ s.pastEarly ring then
    .next (s.startPeriod ring true).resignAtPeriod
  else .next s

/-- R191: the late guard places a start 1.5 periods after the previous one. -/
def execPeriodGuard (t ring : Nat) (s : State) : Result :=
  let s := s.advance t
  let d := s.ring ring
  if ring < 2 ∧ s.originates ring ∧ d.startAt ≠ 0 ∧ d.startAt - 1 + 3 * s.periodTime ring / 2 ≤ s.now then
    .next (s.startPeriod ring true).resignAtPeriod
  else .next s

/-- R178, R179, R210: a frame of another source is forwarded with HOPS one lower, and removed when that is 0 or its port is out of
service. -/
def State.forward (s : State) (ring : Nat) (rev : Bool) (hops : Nat) : State :=
  s.when (s.mode != .off && decide (2 ≤ hops) && s.portSends (leavePort ring rev)) (fun s => s.emit (.forward ring rev (hops - 1)))

/-- A frame of a direction enters the module: its port is not retired (R179, R468). -/
def State.takesFrame (s : State) (ring : Nat) (rev : Bool) : Bool := !s.flag STN.PORTp_STAT.RETIRED (enterPort ring rev)

/-- The epoch of a valid ring frame is seen (R220). -/
def State.seeRing (s : State) (e : Nat) : State := { s with pair := { s.pair with hiRing := seenEpoch s.pair.hiRing (wrap 32 e) } }

/-- The epoch against which a segment is judged (R195). -/
def State.ringEpoch (s : State) (r : Nat) : Nat :=
  if s.flag PAIR.STAT.AUTH then s.reg PAIR.EPOCH.EPOCH else (s.ring r).rxEpoch

/-- R185: a quality a station reports; any other code is BAD, detail 0x9. -/
def stationQuality (q : Nat) : Nat :=
  if q = 0 ∨ q = 1 ∨ q = 2 ∨ q = 3 ∨ q = 6 then q else Quality.bad + 9 * 16

/-- One slot of a complete input set as the image takes it. -/
def wireInput (x : Nat × Nat × Nat) : Nat × Nat × Nat := (x.1, x.2.1, stationQuality (x.2.2 % 8))

/-- A complete set of a station's inputs (R69, R195, R200): it is the period's valid input, judged by its sequence, and delivered when the
station is GOOD. Which quality the link state of R59 adds the manual does not say: DESIGN CHOICE, none while the station is GOOD
(notes/assumptions/82.md). Losses count from the IDENT on, and the first delivery of R71 is the first set of the admission
(DESIGN CHOICE, notes/assumptions/84.md). -/
def State.stationInput (s : State) (r k seq : Nat) (slots : List (Nat × Nat × Nat)) : State :=
  let st := s.staState k
  if st ≠ StaState.good ∧ st ≠ StaState.admitting then s
  else if st = StaState.admitting ∧ (s.rings.sta.get k).admitK = s.reg STN.RINGr_PERIOD.NUM r + 1 then s
  else
    let (ok, loss, s) := s.judgeSource k (stationSource k) 16 seq
    let s := if ok then s.addReg STN.RINGr_STAa_CNT.LOSS k loss else s
    let first := !(s.rings.sta.get k).valid
    let s := s.updSta k (fun d => { d with valid := true })
    let deliver := fun (s : State) => s.when (ok && s.ingressOn) (fun s => s.deliver (stationSource k) (slots.map wireInput) s.now)
    if st = StaState.good then deliver s
    else
      let n := s.reg STN.RINGr_STAa_STAT.ADMIT k + bn first
      let s := s.setReg STN.RINGr_STAa_STAT.ADMIT k (min n 8)
      if n < 8 then s
      else
        let s := (s.setReg STN.RINGr_STAa_STAT.STATE k StaState.good).setReg STN.RINGr_STAa_STAT.MISS k 0
        deliver ((s.addReg STN.RINGr_DROPS.ADMITS r 1).showGood r)

/-- The slots of a collected set, by segment. -/
def setSlots (inputs : List Nat) (segs : List (Nat × Nat × List (Nat × Nat))) : List (Nat × Nat × Nat) :=
  (segs.map (fun g => ((inputs.drop g.2.1).zip g.2.2).map (fun x => (x.1, x.2.1, x.2.2)))).flatten

/-- The distinct segments of sequence `seq` among the collected ones. -/
def segsOf (seq : Nat) (l : List (Nat × Nat)) : Nat := ((l.filter (fun x => x.1 == seq)).map Prod.snd).dedup.length

/-- A segment joins its station's set (R195): the set is delivered when whole, and a second whole copy is judged again (R69). -/
def State.collect (s : State) (r k : Nat) (rev : Bool) (seq idx count first : Nat) (vals : List (Nat × Nat)) : State :=
  let d := s.rings.sta.get k
  let fwd := if rev then d.fwd else (seq, idx) :: d.fwd
  let back := if rev then (seq, idx) :: d.rev else d.rev
  let segs := if d.segs.any (fun g => g.1 / 8 == seq && g.1 % 8 == idx) then d.segs
    else
      let before := fun (g : Nat × Nat × List (Nat × Nat)) => decide (g.1 < seq * 8 + idx)
      d.segs.takeWhile before ++ (seq * 8 + idx, first, vals) :: d.segs.dropWhile before
  let mine := segs.filter (fun g => g.1 / 8 == seq)
  let wholeF := decide (count ≤ segsOf seq fwd)
  let wholeR := decide (count ≤ segsOf seq back)
  let dirs := bn (wholeF || d.dirs % 2 == 1) + 2 * bn (wholeR || d.dirs / 2 == 1)
  let again := d.taken && dirs == 3 && d.dirs != 3
  let now := !d.taken && decide (count ≤ mine.length)
  let s := s.updSta k (fun d => { d with fwd := fwd, rev := back, segs := segs, dirs := dirs, taken := d.taken || now })
  let slots := setSlots (s.rings.cfg.get k).inputs mine
  let s := if now || again then s.stationInput r k seq slots else s
  -- both directions may become whole with the segment that completes the set
  if now && dirs == 3 then s.stationInput r k seq slots else s

/-- R195: an INPUT segment. `seg` is byte 13 of the header, `vals` the slots' values and quality nibbles. -/
def execInputSegmentRx (t ring : Nat) (rev : Bool) (station epoch period seq seg first hops : Nat) (vals : List (Nat × Nat))
    (s : State) : Result :=
  let s := s.advance t
  let k := staKey ring station
  let idx := seg % 8
  let count := bitField 3 3 seg + 1
  if 2 ≤ ring ∨ !s.takesFrame ring rev then .next s
  else
  let s := s.forward ring rev hops
  if !s.mode.runtimeRuns then .next s
  else if 128 ≤ station ∨ 64 ≤ seg ∨ count ≤ idx ∨ !s.flag STN.RINGr_STAa_CFG.PRESENT k ∨
      (s.rings.cfg.get k).inputs.length < first + vals.length ∨ 512 < vals.length then
    .next (s.addReg STN.FRAMEERR.COUNT 0 1)
  else
  let s := s.seeRing epoch
  if wrap 32 epoch ≠ s.ringEpoch ring then .next (s.addReg STN.RINGr_OLDEP.COUNT ring 1)
  else if !(s.ring ring).counted ∨ wrap 32 period ≠ s.reg STN.RINGr_PERIOD.NUM ring then
    .next ((s.addReg STN.RINGr_LATE.COUNT ring 1).addReg STN.RINGr_STAa_CNT.LATE k 1)
  else .next (s.collect ring k rev (wrap 16 seq) idx count first vals)

/-- R199: a station's IDENT. The copy of an IDENT by the other direction is the same answer. -/
def execIdentRx (t ring : Nat) (rev : Bool) (station period nin nout layout _version hops : Nat) (s : State) : Result :=
  let s := s.advance t
  let k := staKey ring station
  if 2 ≤ ring ∨ !s.takesFrame ring rev then .next s
  else
  let s := s.forward ring rev hops
  if !s.mode.runtimeRuns then .next s
  else if 128 ≤ station ∨ !s.flag STN.RINGr_STAa_CFG.PRESENT k then .next (s.addReg STN.FRAMEERR.COUNT 0 1)
  else if (s.rings.sta.get k).ident = wrap 32 period + 1 then .next s
  else
    let s := s.updSta k (fun d => { d with ident := wrap 32 period + 1 })
    let c := s.rings.cfg.get k
    let st := s.staState k
    let ok := decide (nin = c.inputs.length ∧ nout = c.outputs.length ∧ wrap 32 layout = s.reg STN.RINGr_STAa_LAYOUT.LAYOUT k)
    if ok then
      if st = StaState.absent ∨ st = StaState.dropped ∨ st = StaState.rejected then
        let s := (s.setReg STN.RINGr_STAa_STAT.STATE k StaState.admitting).setReg STN.RINGr_STAa_STAT.ADMIT k 0
        let s := (s.setReg STN.RINGr_STAa_STAT.MISS k 0).resetSource k
        .next (s.updSta k (fun d => { d with admitK := s.reg STN.RINGr_PERIOD.NUM ring + 1, valid := false }))
      else .next s
    else if st = StaState.good then .next (s.updSta k (fun d => { d with reject := wrap 32 layout + 1 }))
    else .next (s.rejectStation k (wrap 32 layout))

/-- R197, R205, R220: a CYCLE of another source. An originating unit falls silent on both rings when the epoch is higher; a unit that
stands by or catches up follows it. -/
def execCycleRx (t ring : Nat) (rev : Bool) (epoch period pstart bepoch base hops : Nat) (s : State) : Result :=
  let s := s.advance t
  if 2 ≤ ring ∨ !s.takesFrame ring rev then .next s
  else
  let s := s.forward ring rev hops
  if !s.mode.runtimeRuns then .next s
  else
    let e := wrap 32 epoch
    let s := s.seeRing e
    if s.originates ring ∨ (s.isActive ∧ (s.ring ring).silenced) then
      if laterMod 32 e (s.reg PAIR.EPOCH.EPOCH) then
        .next ((s.setReg STN.RINGr_STAT.EPOCH_HIGH ring 1).each [0, 1] (fun s r => s.updRing r (fun d => { d with silenced := true })))
      else .next s
    else if s.mode ≠ .standby ∧ s.mode ≠ .sync then .next s
    else if (s.ring ring).heard ∧ (s.ring ring).rxEpoch = e ∧ s.reg STN.RINGr_PERIOD.NUM ring = wrap 32 period then .next s
    else
      let s := (s.closePeriod ring).takeStations ring
      let s := s.setReg STN.RINGr_PERIOD.NUM ring period
      let grid := if base % 16 = s.ringBase ring then some (wrap 64 (pstart + s.plen ring)) else none
      .next (s.updRing ring (fun d => { d with
        startAt := s.now + 1, next := grid, epoch := wrap 16 bepoch, counted := true, rxEpoch := e, heard := true
        inRing := s.reg STN.RINGr_STAT.STATE ring == 1 }))

/-- R178, R194: an own frame has returned and is removed; `last` says that it is the last one of its period. RINGr_RETURN is
updated for a period that started in RING. -/
def execModuleFrameReturn (t ring period : Nat) (last : Bool) (s : State) : Result :=
  let s := s.advance t
  let d := s.ring ring
  if 2 ≤ ring ∨ !d.counted ∨ wrap 32 period ≠ s.reg STN.RINGr_PERIOD.NUM ring then .next s
  else
    let time := min ((s.now - (d.startAt - 1)) / 400) 65535
    let s := s.updRing ring (fun d => { d with returned := d.returned || last })
    if d.inRing then
      .next ((s.setReg STN.RINGr_RETURN.TIME ring time).updRing ring (fun d => { d with maxReturn := max d.maxReturn time }))
    else .next s

/-- R180: a foreign frame is discarded, counted and not forwarded. -/
def execForeignFrameRx (t : Nat) (s : State) : Result :=
  let s := s.advance t
  .next (s.when s.mode.runtimeRuns (fun s => s.addReg STN.FOREIGN.COUNT 0 1))

/-- R179, R182: a frame that is not valid. A bad FCS counts at its port and is not forwarded; any other counts in FRAMEERR and is
forwarded. FWD frames enter at the odd port (R177). -/
def execRingFrameInvalid (t port : Nat) (fcsOk : Bool) (hops : Nat) (s : State) : Result :=
  let s := s.advance t
  if 4 ≤ port ∨ s.flag STN.PORTp_STAT.RETIRED port then .next s
  else if fcsOk then
    let s := s.forward (port / 2) (port % 2 == 0) hops
    .next (s.when s.mode.runtimeRuns (fun s => s.addReg STN.FRAMEERR.COUNT 0 1))
  else .next (s.when s.mode.runtimeRuns (fun s => s.addReg STN.PORTp_STAT.FCS port 1))

/-- R179, R467 kind 7: a station port loses its link. The loss is recorded and counted; a permanent one retires the port. -/
def execStationPortLinkDown (t port : Nat) (s : State) : Result :=
  let s := s.advance t
  if 4 ≤ port ∨ !s.sensed STN.PORTp_STAT.LINK port then .next s
  else
    let s := s.sense STN.PORTp_STAT.LINK port 0
    let s := (s.note 8 (0x100 + port) []).occur 7 port (0x130 + port)
    if s.permanent 7 port ∧ !s.flag STN.PORTp_STAT.RETIRED port then
      .next ((s.setReg STN.PORTp_STAT.RETIRED port 1).retireItem 7 port 8 (0x100 + port) 0x8E0)
    else .next s

/-- R179: a station port link comes up; a retired port stays out of service (R468). -/
def execStationPortLinkUp (t port : Nat) (s : State) : Result :=
  let s := s.advance t
  .next (s.when (decide (port < 4) && !s.flag STN.PORTp_STAT.RETIRED port) (fun s => s.sense STN.PORTp_STAT.LINK port 1))

end Sys2Proof.Machine
end

