-- ==== Sys2Proof/Machine/Dispatch.lean ====
section
/-! DEFINITION. The dispatch of the commands: one arm per constructor of Instr, each one direct call of its meaning. -/

namespace Sys2Proof.Machine

/-- The effect of a command on everything but the queue. -/
def exec (i : Instr) (s : State) : Host.Outcome State Fault Refusal :=
  match i with
  | .baseValLoRead t master base => Sys2Proof.Machine.execBaseValLoRead t master base s
  | .mainsLock t m angle freq rms perr => Sys2Proof.Machine.execMainsLock t m angle freq rms perr s
  | .mainsLoss t m freqOut => Sys2Proof.Machine.execMainsLoss t m freqOut s
  | .mainsHoldoverTimeout t m => Sys2Proof.Machine.execMainsHoldoverTimeout t m s
  | .encoderEdge t e forward illegal a b => Sys2Proof.Machine.execEncoderEdge t e forward illegal a b s
  | .encoderZEdge t e forward => Sys2Proof.Machine.execEncoderZEdge t e forward s
  | .encoderStall t e => Sys2Proof.Machine.execEncoderStall t e s
  | .encoderSignalLoss t e => Sys2Proof.Machine.execEncoderSignalLoss t e s
  | .encoderSignalReturn t e => Sys2Proof.Machine.execEncoderSignalReturn t e s
  | .virtOffHiWrite t master v value => Sys2Proof.Machine.execVirtOffHiWrite t master v value s
  | .virtSettingWrite t master v which value => Sys2Proof.Machine.execVirtSettingWrite t master v which value s
  | .mainsOffsetWrite t master m value => Sys2Proof.Machine.execMainsOffsetWrite t master m value s
  | .sequenceSave t => Sys2Proof.Machine.execSequenceSave t s
  | .ageingSweep t => Sys2Proof.Machine.execAgeingSweep t s
  | .staleMark t sig => Sys2Proof.Machine.execStaleMark t sig s
  | .imageSeqLoRead t master => Sys2Proof.Machine.execImageSeqLoRead t master s
  | .probeIdWrite t master sig raw => Sys2Proof.Machine.execProbeIdWrite t master sig raw s
  | .dispatch t block => Sys2Proof.Machine.execDispatch t block s
  | .inputReadDone t task => Sys2Proof.Machine.execInputReadDone t task s
  | .pwait t block pc word rs1 rs2 energy => Sys2Proof.Machine.execPwait t block pc word rs1 rs2 energy s
  | .pwaitEnd t task => Sys2Proof.Machine.execPwaitEnd t task s
  | .scommit t block pc word flags energy => Sys2Proof.Machine.execScommit t block pc word flags energy s
  | .syncAckTimeout t task => Sys2Proof.Machine.execSyncAckTimeout t task s
  | .commitComplete t task => Sys2Proof.Machine.execCommitComplete t task s
  | .skipEnd t task => Sys2Proof.Machine.execSkipEnd t task s
  | .hang t task energy => Sys2Proof.Machine.execHang t task energy s
  | .byield t block pc word estimate energy => Sys2Proof.Machine.execByield t block pc word estimate energy s
  | .seqread t block pc rest sel energy => Sys2Proof.Machine.execSeqread t block pc rest sel energy s
  | .taskException t block cause mcause pc tval energy => Sys2Proof.Machine.execTaskException t block cause mcause pc tval energy s
  | .taskRestartWrite t master value => Sys2Proof.Machine.execTaskRestartWrite t master value s
  | .taskTimingWrite t master task ceil value => Sys2Proof.Machine.execTaskTimingWrite t master task ceil value s
  | .coreWatchdogExpiry t block => Sys2Proof.Machine.execCoreWatchdogExpiry t block s
  | .blockRestart t block cause mcause energy => Sys2Proof.Machine.execBlockRestart t block cause mcause energy s
  | .taskMoveDone t task => Sys2Proof.Machine.execTaskMoveDone t task s
  | .taskLseqLoRead t master task => Sys2Proof.Machine.execTaskLseqLoRead t master task s
  | .blkEpcLoRead t master block tval => Sys2Proof.Machine.execBlkEpcLoRead t master block tval s
  | .compareFire t cell => Sys2Proof.Machine.execCompareFire t cell s
  | .moveFire t cell => Sys2Proof.Machine.execMoveFire t cell s
  | .fastPinEdge t pin level => Sys2Proof.Machine.execFastPinEdge t pin level s
  | .captureEdge t cell at_ rising busy => Sys2Proof.Machine.execCaptureEdge t cell at_ rising busy s
  | .windowEdge t cell at_ rising busy => Sys2Proof.Machine.execWindowEdge t cell at_ rising busy s
  | .windowTimeout t cell busy => Sys2Proof.Machine.execWindowTimeout t cell busy s
  | .pulseEnd t latch => Sys2Proof.Machine.execPulseEnd t latch s
  | .stretchEnd t cell => Sys2Proof.Machine.execStretchEnd t cell s
  | .cellStageWrite t master cell off value pc => Sys2Proof.Machine.execCellStageWrite t master cell off value pc s
  | .cellCtrlWrite t master cell value pc => Sys2Proof.Machine.execCellCtrlWrite t master cell value pc s
  | .ruleClrWrite t master cell value pc => Sys2Proof.Machine.execRuleClrWrite t master cell value pc s
  | .selfCheckFail t cell => Sys2Proof.Machine.execSelfCheckFail t cell s
  | .cellRemap t cell => Sys2Proof.Machine.execCellRemap t cell s
  | .strandParityError t strand => Sys2Proof.Machine.execStrandParityError t strand s
  | .strandRestartDone t strand => Sys2Proof.Machine.execStrandRestartDone t strand s
  | .strandMove t strand => Sys2Proof.Machine.execStrandMove t strand s
  | .kettleRefill t nonblk sysdUsed power busy => Sys2Proof.Machine.execKettleRefill t nonblk sysdUsed power busy s
  | .sensorSample t a b interior => Sys2Proof.Machine.execSensorSample t a b interior s
  | .heatLevelLeave t r => Sys2Proof.Machine.execHeatLevelLeave t r s
  | .clockLevelLeave t r => Sys2Proof.Machine.execClockLevelLeave t r s
  | .derateLeave t => Sys2Proof.Machine.execDerateLeave t s
  | .regionStopWindowEnd t r => Sys2Proof.Machine.execRegionStopWindowEnd t r s
  | .regionPowerOff t r => Sys2Proof.Machine.execRegionPowerOff t r s
  | .regionPowerOn t r => Sys2Proof.Machine.execRegionPowerOn t r s
  | .rehomeWrite t master value => Sys2Proof.Machine.execRehomeWrite t master value s
  | .quotaWrite t master b value => Sys2Proof.Machine.execQuotaWrite t master b value s
  | .budgetWrite t master value => Sys2Proof.Machine.execBudgetWrite t master value s
  | .poolMeasure t total safe => Sys2Proof.Machine.execPoolMeasure t total safe s
  | .poolLimitRise t => Sys2Proof.Machine.execPoolLimitRise t s
  | .periodStart t ring => Sys2Proof.Machine.execPeriodStart t ring s
  | .periodGuard t ring => Sys2Proof.Machine.execPeriodGuard t ring s
  | .inputSegmentRx t ring rev station epoch period seq seg first hops vals => Sys2Proof.Machine.execInputSegmentRx t ring rev station epoch period seq seg first hops vals s
  | .identRx t ring rev station period nin nout layout version hops => Sys2Proof.Machine.execIdentRx t ring rev station period nin nout layout version hops s
  | .cycleRx t ring rev epoch period pstart bepoch base hops => Sys2Proof.Machine.execCycleRx t ring rev epoch period pstart bepoch base hops s
  | .moduleFrameReturn t ring period last => Sys2Proof.Machine.execModuleFrameReturn t ring period last s
  | .foreignFrameRx t => Sys2Proof.Machine.execForeignFrameRx t s
  | .heartbeatSend t checks => Sys2Proof.Machine.execHeartbeatSend t checks s
  | .path2HeartbeatRx t b0 b1 b2 b3 => Sys2Proof.Machine.execPath2HeartbeatRx t b0 b1 b2 b3 s
  | .pathLoss t path => Sys2Proof.Machine.execPathLoss t path s
  | .laneDown t => Sys2Proof.Machine.execLaneDown t s
  | .vorvyLinkLoss t => Sys2Proof.Machine.execVorvyLinkLoss t s
  | .latchRefresh t => Sys2Proof.Machine.execLatchRefresh t s
  | .claimResult t granted epoch => Sys2Proof.Machine.execClaimResult t granted epoch s
  | .claimReleased t released => Sys2Proof.Machine.execClaimReleased t released s
  | .hbRecord t b0 counter epoch variant proto b13 peer => Sys2Proof.Machine.execHbRecord t b0 counter epoch variant proto b13 peer s
  | .ackRecord t applied staged => Sys2Proof.Machine.execAckRecord t applied staged s
  | .commitRecord t h task block slots lines => Sys2Proof.Machine.execCommitRecord t h task block slots lines s
  | .slotRecord t h sig slot => Sys2Proof.Machine.execSlotRecord t h sig slot s
  | .lineRecord t h addr data => Sys2Proof.Machine.execLineRecord t h addr data s
  | .grantRecord t h mseq => Sys2Proof.Machine.execGrantRecord t h mseq s
  | .ingressRecord t h source slots => Sys2Proof.Machine.execIngressRecord t h source slots s
  | .captureRecord t h e => Sys2Proof.Machine.execCaptureRecord t h e s
  | .forceRecord t h sig set value port => Sys2Proof.Machine.execForceRecord t h sig set value port s
  | .taskstRecord t h task state cause ovrrun readPos => Sys2Proof.Machine.execTaskstRecord t h task state cause ovrrun readPos s
  | .regwRecord t h addr value => Sys2Proof.Machine.execRegwRecord t h addr value s
  | .cellwRecord t h cell off value => Sys2Proof.Machine.execCellwRecord t h cell off value s
  | .safetyRecord t h bytes => Sys2Proof.Machine.execSafetyRecord t h bytes s
  | .timeRecord t h pb1 epoch1 pb12 epoch12 age => Sys2Proof.Machine.execTimeRecord t h pb1 epoch1 pb12 epoch12 age s
  | .stepRecord t h base value epoch cause => Sys2Proof.Machine.execStepRecord t h base value epoch cause s
  | .resignRecord t h epoch mseq => Sys2Proof.Machine.execResignRecord t h epoch mseq s
  | .bulkRecord t h addr data => Sys2Proof.Machine.execBulkRecord t h addr data s
  | .structRecord t h c => Sys2Proof.Machine.execStructRecord t h c s
  | .unknownRecord t type => Sys2Proof.Machine.execUnknownRecord t type s
  | .timeRecordSend t => Sys2Proof.Machine.execTimeRecordSend t s
  | .standbyAckSend t => Sys2Proof.Machine.execStandbyAckSend t s
  | .bumplessSettle t => Sys2Proof.Machine.execBumplessSettle t s
  | .shadowFault t pin => Sys2Proof.Machine.execShadowFault t pin s
  | .pairCmdResign t master => Sys2Proof.Machine.execPairCmdResign t master s
  | .resignWindowEnd t => Sys2Proof.Machine.execResignWindowEnd t s
  | .resignRelease t => Sys2Proof.Machine.execResignRelease t s
  | .earlyBreak t => Sys2Proof.Machine.execEarlyBreak t s
  | .leavingBumplessWaitEnd t => Sys2Proof.Machine.execLeavingBumplessWaitEnd t s
  | .leavingResignWaitEnd t => Sys2Proof.Machine.execLeavingResignWaitEnd t s
  | .syncComplete t => Sys2Proof.Machine.execSyncComplete t s
  | .fullLoadApply t => Sys2Proof.Machine.execFullLoadApply t s
  | .changePrepared t => Sys2Proof.Machine.execChangePrepared t s
  | .olcCmdCommit t master => Sys2Proof.Machine.execOlcCmdCommit t master s
  | .olcCmdAbort t master => Sys2Proof.Machine.execOlcCmdAbort t master s
  | .olcCmdRetract t => Sys2Proof.Machine.execOlcCmdRetract t s
  | .changeCommit t => Sys2Proof.Machine.execChangeCommit t s
  | .holdmaxExpiry t => Sys2Proof.Machine.execHoldmaxExpiry t s
  | .changeAckTimeout t => Sys2Proof.Machine.execChangeAckTimeout t s
  | .transferLapse t => Sys2Proof.Machine.execTransferLapse t s
  | .guardedAccess t master serves kind addr len value pc energy dmask cmask => Sys2Proof.Machine.execGuardedAccess t master serves kind addr len value pc energy dmask cmask s
  | .tagReload t master addr copyOk => Sys2Proof.Machine.execTagReload t master addr copyOk s
  | .pageRetireCopy t page => Sys2Proof.Machine.execPageRetireCopy t page s
  | .romGateCall t block install => Sys2Proof.Machine.execRomGateCall t block install s
  | .scrubGo t => Sys2Proof.Machine.execScrubGo t s
  | .scrubAbort t checked => Sys2Proof.Machine.execScrubAbort t checked s
  | .scrubDone t => Sys2Proof.Machine.execScrubDone t s
  | .leafLastaddrLoRead t master => Sys2Proof.Machine.execLeafLastaddrLoRead t master s
  | .guardLastAddrLoRead t master => Sys2Proof.Machine.execGuardLastAddrLoRead t master s
  | .probeAddrHiWrite t master value => Sys2Proof.Machine.execProbeAddrHiWrite t master value s
  | .loopSample t xs temps input => Sys2Proof.Machine.execLoopSample t xs temps input s
  | .powerCapStep t => Sys2Proof.Machine.execPowerCapStep t s
  | .probe t channel => Sys2Proof.Machine.execProbe t channel s
  | .park t channel => Sys2Proof.Machine.execPark t channel s
  | .unpark t channel => Sys2Proof.Machine.execUnpark t channel s
  | .parkTimeout t channel => Sys2Proof.Machine.execParkTimeout t channel s
  | .trip t channel => Sys2Proof.Machine.execTrip t channel s
  | .thermalTrip t channel => Sys2Proof.Machine.execThermalTrip t channel s
  | .thermalRetry t channel => Sys2Proof.Machine.execThermalRetry t channel s
  | .hartResponse t channel device uid status vars => Sys2Proof.Machine.execHartResponse t channel device uid status vars s
  | .hartTimeout t channel device => Sys2Proof.Machine.execHartTimeout t channel device s
  | .frontendWatchdogExpiry t => Sys2Proof.Machine.execFrontendWatchdogExpiry t s
  | .pinShort t pin => Sys2Proof.Machine.execPinShort t pin s
  | .pinShortRetry t pin => Sys2Proof.Machine.execPinShortRetry t pin s
  | .safetyCycle t offSeen onSeen deltas zs losses exts reaction => Sys2Proof.Machine.execSafetyCycle t offSeen onSeen deltas zs losses exts reaction s
  | .safetyDiagnostic t repeatPassed => Sys2Proof.Machine.execSafetyDiagnostic t repeatPassed s
  | .safetyWatchdogExpiry t => Sys2Proof.Machine.execSafetyWatchdogExpiry t s
  | .encoderCrossCheck t => Sys2Proof.Machine.execEncoderCrossCheck t s
  | .preEnergiseTest t out passed => Sys2Proof.Machine.execPreEnergiseTest t out passed s
  | .testPulse t out fell rose => Sys2Proof.Machine.execTestPulse t out fell rose s
  | .outputOvercurrent t out => Sys2Proof.Machine.execOutputOvercurrent t out s
  | .safeStatusDelivery t => Sys2Proof.Machine.execSafeStatusDelivery t s
  | .safeMboxRestart t master cls port => Sys2Proof.Machine.execSafeMboxRestart t master cls port s
  | .safeMboxClear t master cls port => Sys2Proof.Machine.execSafeMboxClear t master cls port s
  | .safeMboxConfirm t master cls port => Sys2Proof.Machine.execSafeMboxConfirm t master cls port s
  | .confirmLockEnd t => Sys2Proof.Machine.execConfirmLockEnd t s
  | .canFrameRx t port sof idw dlc remote data => Sys2Proof.Machine.execCanFrameRx t port sof idw dlc remote data s
  | .ctsReferenceRx t port sof mseq prevSof bepoch base flags => Sys2Proof.Machine.execCtsReferenceRx t port sof mseq prevSof bepoch base flags s
  | .ctsHoldover t port => Sys2Proof.Machine.execCtsHoldover t port s
  | .ctsReferenceSend t port => Sys2Proof.Machine.execCtsReferenceSend t port s
  | .txreqWrite t block port mask pc energy areas => Sys2Proof.Machine.execTxreqWrite t block port mask pc energy areas s
  | .txqPush t block port pc energy area => Sys2Proof.Machine.execTxqPush t block port pc energy area s
  | .txcancelWrite t master port mask => Sys2Proof.Machine.execTxcancelWrite t master port mask s
  | .txSuccess t port sof tdcv => Sys2Proof.Machine.execTxSuccess t port sof tdcv s
  | .txError t port err passiveAck => Sys2Proof.Machine.execTxError t port err passiveAck s
  | .noPartnerPauseEnd t port => Sys2Proof.Machine.execNoPartnerPauseEnd t port s
  | .busOff t port => Sys2Proof.Machine.execBusOff t port s
  | .busOffDelayEnd t port => Sys2Proof.Machine.execBusOffDelayEnd t port s
  | .recover t master port => Sys2Proof.Machine.execRecover t master port s
  | .recoveryDone t port => Sys2Proof.Machine.execRecoveryDone t port s
  | .announceRx t port carrier dom a => Sys2Proof.Machine.execAnnounceRx t port carrier dom a s
  | .announceTimeout t track => Sys2Proof.Machine.execAnnounceTimeout t track s
  | .syncRx t port carrier dom sender seq rx twoStep origin corr logInt acq => Sys2Proof.Machine.execSyncRx t port carrier dom sender seq rx twoStep origin corr logInt acq s
  | .syncTimeout t track => Sys2Proof.Machine.execSyncTimeout t track s
  | .domainHoldoverTimeout t track => Sys2Proof.Machine.execDomainHoldoverTimeout t track s
  | .delayReqSend t track => Sys2Proof.Machine.execDelayReqSend t track s
  | .delayRespRx t port carrier dom sender rx stamp corr minLog => Sys2Proof.Machine.execDelayRespRx t port carrier dom sender rx stamp corr minLog s
  | .pdelayReqRx t port carrier dom seq => Sys2Proof.Machine.execPdelayReqRx t port carrier dom seq s
  | .plantRevert t => Sys2Proof.Machine.execPlantRevert t s
  | .plantHoldoverTimeout t => Sys2Proof.Machine.execPlantHoldoverTimeout t s
  | .plantSetHiWrite t master hi => Sys2Proof.Machine.execPlantSetHiWrite t master hi s
  | .ptpGmidLoRead t master track => Sys2Proof.Machine.execPtpGmidLoRead t master track s
  | .readSig t port client seq session sigs => Sys2Proof.Machine.execReadSig t port client seq session sigs s
  | .readStat t port client seq session selectors => Sys2Proof.Machine.execReadStat t port client seq session selectors s
  | .readRec t port client seq session items => Sys2Proof.Machine.execReadRec t port client seq session items s
  | .attest t port client seq session nonces => Sys2Proof.Machine.execAttest t port client seq session nonces s
  | .attestSigned t => Sys2Proof.Machine.execAttestSigned t s
  | .readIdkey t port client seq session items => Sys2Proof.Machine.execReadIdkey t port client seq session items s
  | .writeSig t port client seq session items => Sys2Proof.Machine.execWriteSig t port client seq session items s
  | .ackAlarm t port client seq session indices => Sys2Proof.Machine.execAckAlarm t port client seq session indices s
  | .safeRestart t port client seq session masks => Sys2Proof.Machine.execSafeRestart t port client seq session masks s
  | .forceSet t port client seq session items => Sys2Proof.Machine.execForceSet t port client seq session items s
  | .forceClear t port client seq session sigs => Sys2Proof.Machine.execForceClear t port client seq session sigs s
  | .writeRt t port client seq session items => Sys2Proof.Machine.execWriteRt t port client seq session items s
  | .safeClear t port client seq session args => Sys2Proof.Machine.execSafeClear t port client seq session args s
  | .hartPass t port client seq session items => Sys2Proof.Machine.execHartPass t port client seq session items s
  | .olcOpen t port client seq session lengths => Sys2Proof.Machine.execOlcOpen t port client seq session lengths s
  | .olcCommit t port client seq session ids => Sys2Proof.Machine.execOlcCommit t port client seq session ids s
  | .olcAbort t port client seq session ids => Sys2Proof.Machine.execOlcAbort t port client seq session ids s
  | .resign t port client seq session items => Sys2Proof.Machine.execResign t port client seq session items s
  | .structOpen t port client seq session lengths => Sys2Proof.Machine.execStructOpen t port client seq session lengths s
  | .fwOpen t port client seq session items => Sys2Proof.Machine.execFwOpen t port client seq session items s
  | .keyOpen t port client seq session positions => Sys2Proof.Machine.execKeyOpen t port client seq session positions s
  | .xfer t port client seq session items => Sys2Proof.Machine.execXfer t port client seq session items s
  | .xferEnd t port client seq session crcs content peer => Sys2Proof.Machine.execXferEnd t port client seq session crcs content peer s
  | .regwin t port client seq session items => Sys2Proof.Machine.execRegwin t port client seq session items s
  | .safeConfirm t port client seq session values => Sys2Proof.Machine.execSafeConfirm t port client seq session values s
  | .keyRemove t port client seq session positions => Sys2Proof.Machine.execKeyRemove t port client seq session positions s
  | .recClear t port client seq session values => Sys2Proof.Machine.execRecClear t port client seq session values s
  | .retireClear t port client seq session items => Sys2Proof.Machine.execRetireClear t port client seq session items s
  | .modeRun t port client seq session items => Sys2Proof.Machine.execModeRun t port client seq session items s
  | .modeHold t port client seq session items => Sys2Proof.Machine.execModeHold t port client seq session items s
  | .modeService t port client seq session items => Sys2Proof.Machine.execModeService t port client seq session items s
  | .modeHalt t port client seq session items => Sys2Proof.Machine.execModeHalt t port client seq session items s
  | .modeReset t port client seq session items => Sys2Proof.Machine.execModeReset t port client seq session items s
  | .debug t port client seq session items => Sys2Proof.Machine.execDebug t port client seq session items s
  | .keySwitchChange t position => Sys2Proof.Machine.execKeySwitchChange t position s
  | .sessionLapse t => Sys2Proof.Machine.execSessionLapse t s
  | .arpRequest t port addr => Sys2Proof.Machine.execArpRequest t port addr s
  | .icmpEcho t port addr data => Sys2Proof.Machine.execIcmpEcho t port addr data s
  | .updStart t master => Sys2Proof.Machine.execUpdStart t master s
  | .updAbandon t master => Sys2Proof.Machine.execUpdAbandon t master s
  | .trialConfirm t => Sys2Proof.Machine.execTrialConfirm t s
  | .trialWindowEnd t => Sys2Proof.Machine.execTrialWindowEnd t s
  | .migrationFail t => Sys2Proof.Machine.execMigrationFail t s
  | .flush t master => Sys2Proof.Machine.execFlush t master s
  | .flushDone t ok => Sys2Proof.Machine.execFlushDone t ok s
  | .cursorWrite t master value => Sys2Proof.Machine.execCursorWrite t master value s
  | .win7Read t master => Sys2Proof.Machine.execWin7Read t master s
  | .optimeLoRead t master => Sys2Proof.Machine.execOptimeLoRead t master s
  | .lifeSelectWrite t master which value => Sys2Proof.Machine.execLifeSelectWrite t master which value s
  | .lifetimeSave t ok => Sys2Proof.Machine.execLifetimeSave t ok s
  | .rcRead t master addr width pc => Sys2Proof.Machine.execRcRead t master addr width pc s
  | .registerWrite t master addr width value pc => Sys2Proof.Machine.execRegisterWrite t master addr width value pc s
  | .powerUp t => Sys2Proof.Machine.execPowerUp t s
  | .bootEnd t => Sys2Proof.Machine.execBootEnd t s
  | .holdupCharged t ok => Sys2Proof.Machine.execHoldupCharged t ok s
  | .moduleReset t cause => Sys2Proof.Machine.execModuleReset t cause s
  | .moduleWatchdogExpiry t rom => Sys2Proof.Machine.execModuleWatchdogExpiry t rom s
  | .carrierReset t => Sys2Proof.Machine.execCarrierReset t s
  | .haltSelfReset t => Sys2Proof.Machine.execHaltSelfReset t s
  | .powerFailWarning t => Sys2Proof.Machine.execPowerFailWarning t s
  | .supplyReturn t => Sys2Proof.Machine.execSupplyReturn t s
  | .holdupExhausted t => Sys2Proof.Machine.execHoldupExhausted t s
  | .hotswapTrip t case_ value => Sys2Proof.Machine.execHotswapTrip t case_ value s
  | .hotswapReclose t low => Sys2Proof.Machine.execHotswapReclose t low s
  | .earlyMake t => Sys2Proof.Machine.execEarlyMake t s
  | .reinserted t => Sys2Proof.Machine.execReinserted t s
  | .simRemoved t => Sys2Proof.Machine.execSimRemoved t s
  | .simInserted t => Sys2Proof.Machine.execSimInserted t s
  | .absentUnitAccess t master addr write => Sys2Proof.Machine.execAbsentUnitAccess t master addr write s
  | .taskFloorElapsed t task => Sys2Proof.Machine.execTaskFloorElapsed t task s
  | .blockRestartDone t block => Sys2Proof.Machine.execBlockRestartDone t block s
  | .phasewinChange t cell => Sys2Proof.Machine.execPhasewinChange t cell s
  | .inputFilterElapsed t pin => Sys2Proof.Machine.execInputFilterElapsed t pin s
  | .periodEarlyGuard t ring => Sys2Proof.Machine.execPeriodEarlyGuard t ring s
  | .ringFrameInvalid t port fcsOk hops => Sys2Proof.Machine.execRingFrameInvalid t port fcsOk hops s
  | .stationPortLinkDown t port => Sys2Proof.Machine.execStationPortLinkDown t port s
  | .stationPortLinkUp t port => Sys2Proof.Machine.execStationPortLinkUp t port s
  | .vorvyLinkReturn t => Sys2Proof.Machine.execVorvyLinkReturn t s
  | .streamLag t => Sys2Proof.Machine.execStreamLag t s
  | .frontendRestartDone t => Sys2Proof.Machine.execFrontendRestartDone t s
  | .hartBurstRx t channel => Sys2Proof.Machine.execHartBurstRx t channel s
  | .acOvervoltage t m above => Sys2Proof.Machine.execAcOvervoltage t m above s
  | .safetySelftestDone t => Sys2Proof.Machine.execSafetySelftestDone t s
  | .canRxError t port lec primary => Sys2Proof.Machine.execCanRxError t port lec primary s
  | .followUpRx t port carrier dom sender seq origin corr acq => Sys2Proof.Machine.execFollowUpRx t port carrier dom sender seq origin corr acq s
  | .portLinkDown t port => Sys2Proof.Machine.execPortLinkDown t port s
  | .portLinkUp t port => Sys2Proof.Machine.execPortLinkUp t port s
  | .commandFrameError t port => Sys2Proof.Machine.execCommandFrameError t port s
  | .unknownOp t port client seq session op nitem => Sys2Proof.Machine.execUnknownOp t port client seq session op nitem s
  | .foreignTraffic t port => Sys2Proof.Machine.execForeignTraffic t port s
  | .cellRegistration t reg rat rsrp bearer => Sys2Proof.Machine.execCellRegistration t reg rat rsrp bearer s
  | .histogramSample t lagOnly vbus iin vbank elec => Sys2Proof.Machine.execHistogramSample t lagOnly vbus iin vbank elec s

end Sys2Proof.Machine
end

