-- ==== Sys2Proof/Safety.lean ====
section
/-! DEFINITION. What the claims speak in: the invariant of the register table, frames over registers, the image and the memories. -/

namespace Sys2Proof.Machine

/-- An entry of the register table belongs to an instance of a field of the map, and its value fits the field's bits (R15, R16). -/
def regEntryOk (x : Nat × Nat) : Bool :=
  match fieldOfKey x.1 with
  | some f => decide (x.1 % 2 ^ 20 < f.count ∧ x.2 < 2 ^ f.width)
  | none => false

/-- The register table is in its canonical form, and holds nothing but values of the manual's fields, each within its bits. -/
def State.regsSound (s : State) : Bool := Tab.wf s.regs && s.regs.all regEntryOk

/-- Every register field reads after as before, but those listed. -/
def State.regsKeptBut (s s' : State) (fs : List Fld) : Prop :=
  ∀ (f : Fld) (i : Nat), i < 2 ^ 20 → (∀ g ∈ fs, g.id ≠ f.id) → s'.reg f i = s.reg f i

/-- The fields a recorder record may change: the buffer's fill, a flush, and records lost (R462 to R464). -/
def recorderFlds : List Fld := [REC.STAT.FILL, REC.STAT.FLUSHING, REC.STAT.LOST, REC.LOSTCNT.COUNT]

/-- The command answers a next state, neither a fault nor a refusal, and `P` holds of it. -/
def completes (c : Instr) (s : State) (P : State → Prop) : Prop := ∃ s', exec c s = .next s' ∧ P s'

/-- A committed signal reads the same in both states: its slot, its force and its directory entry. -/
def State.imageKept (s s' : State) : Prop := s'.img.dir = s.img.dir ∧ s'.img.slots = s.img.slots ∧ s'.img.forces = s.img.forces

/-- Every protected memory word outside the image reads the same: its data and its syndrome (R273 to R276). -/
def State.memoryKept (s s' : State) : Prop := s'.leaf.data = s.leaf.data ∧ s'.leaf.syn = s.leaf.syn

/-- The stream record a command delivers, of the types whose body changes the state of a unit that follows (R223). -/
def recordOf : Instr → Option (Nat × RecHead × MBody)
  | .commitRecord t h task block slots lines => some (t, h, .commit task block slots lines)
  | .slotRecord t h sig slot => some (t, h, .slot sig slot h.marks)
  | .lineRecord t h addr data => some (t, h, .line addr (data.take 8))
  | .ingressRecord t h source slots => some (t, h, .ingress source slots)
  | .captureRecord t h e => some (t, h, .capture e h.marks)
  | .forceRecord t h sig set value port => some (t, h, .force sig set value port)
  | .taskstRecord t h task state cause ovrrun readPos => some (t, h, .taskst task state cause ovrrun readPos)
  | .regwRecord t h addr value => some (t, h, .regw addr (wrap 32 value))
  | .cellwRecord t h cell off value => some (t, h, .cellw cell off (wrap 32 value))
  | .safetyRecord t h bytes => some (t, h, .safety ((bytes.take 16).map (wrap 8)))
  | .timeRecord t h pb1 epoch1 pb12 epoch12 age => some (t, h, .time pb1 epoch1 pb12 epoch12 age)
  | .stepRecord t h base value epoch cause => some (t, h, .step base value epoch cause)
  | .bulkRecord t h addr data => some (t, h, .bulk addr (data.take 128))
  | _ => none

/-- A set that ends with the record of head `h` has applied: the module sequence follows the record's number, and MSEQ_APPLIED shows it (R65,
R224, R225). -/
def State.setEnds (s : State) (h : RecHead) : State := (s.follow64 (wrap 64 h.seq64)).setReg PAIR.MSEQ_APPLIED.MSEQ 0 h.mseq

/-- A read of the low word `a` by master `m` answers it and latches the words `l` for that master; no register changes (R26). -/
def State.lowReadBy (s : State) (m a : Nat) (l : List Nat) (s' : State) : Prop :=
  (∀ x ∈ l, s'.latched m x = some (s.word x)) ∧ (∀ k x, k ≠ m → k < 64 → m < 64 → x < 2 ^ 32 → s'.latched k x = s.latched k x) ∧
  s'.out = .readData m a (s.word a) :: s.out ∧ s'.regs = s.regs

/-- R412, R416, R417, R420, R427: when a request goes on to be judged: its port listens and, on CELL, its rate allows it; its client is not 0
and its sequence is new; no copy of it waits on a port of higher rank. -/
def State.goesOn (s : State) (r : Req) : Prop :=
  s.listens r.port = true ∧ wrap 32 r.client ≠ 0 ∧ (r.port = 3 → max s.now s.port.cellFull + msec 50 ≤ s.now + sec 2) ∧
  s.outranked Config.refTick r.port (fun _ x => x.client == r.client && x.seq == r.seq && s.listens x.port) = false ∧
  (s.judgeClient r).1 = .fresh

/-- R413, R414, R418, R450: when a request of `n` items that goes on is taken up: the classes of its port, the mode, the role and the number of
items admit it, and nothing narrows it. -/
def State.admitsRequest (s : State) (r : Req) (row : CmdRow) (narrow n : Nat) : Prop :=
  s.goesOn r ∧ s.admitsClass r.port row.cls = true ∧ (s.mode = .recovery → romOps.contains row.op = true) ∧
  narrow = Status.ok ∧ (1 ≤ row.cls → row.cls ≤ 3 → s.isActive = true) ∧ 0 < n ∧ n ≤ row.max

/-- The state that the items of an admitted request meet: the request has arrived and is counted (R414, R420). -/
def State.taken (s : State) (r : Req) (row : CmdRow) (n : Nat) : State := (s.arrive r row.op n).2.addReg PORT.CMDCNT.COUNT 0 1

end Sys2Proof.Machine
end

