-- ==== Sys2Proof/Certificates/Slice0/Obligations.lean ====
section
/-! DEFINITION. The claims about the controller module, by chapter of the manual. Each is a proposition over all states and operands that
meet its premises; `completes c s P` says that the command answers a next state of which `P` holds. -/

open Sys2Proof Sys2Proof.Machine

/-- R39, R40, R44, R309: what a loss or a silence of a source does to its base, and that nothing else of the register map changes: a lost
mains base holds over, one that has held over for 2 s is UNLOCKED, a stalled encoder has speed 0, a lost encoder signal is a FAULT.
Completes: mainsLoss, mainsHoldoverTimeout, encoderStall, encoderSignalLoss. -/
def Obligations.LostSourcesMoveTheirBases : Prop :=
  (∀ (s : State) (t m : Nat) (f : Bool), m < 2 → (s.advance t).baseState (6 + m) = BaseState.locked →
    completes (.mainsLoss t m f) s fun s' =>
      s'.reg PHASE.BASEn_STATUS.STATE (6 + m) = BaseState.holdover ∧ s'.reg FPIN.ACm_STAT.PRESENT m = 0 ∧
      (f = true → s'.reg FPIN.ACm_STAT.FREQ_OK m = 0) ∧
      s.regsKeptBut s' [PHASE.BASEn_STATUS.STATE, FPIN.ACm_STAT.PRESENT, FPIN.ACm_STAT.FREQ_OK]) ∧
  (∀ (s : State) (t m : Nat), m < 2 → (s.advance t).baseState (6 + m) = BaseState.holdover →
    (s.phase.base.get (6 + m)).holdAt + sec 2 ≤ max s.now t →
    completes (.mainsHoldoverTimeout t m) s fun s' =>
      s'.reg PHASE.BASEn_STATUS.STATE (6 + m) = BaseState.unlocked ∧ s.regsKeptBut s' [PHASE.BASEn_STATUS.STATE] ∧ s'.out = s.out) ∧
  (∀ (s : State) (t e : Nat), e < 4 → Tab.wf s.phase.enc = true →
    (s.phase.enc.get e).edgeT + s.reg PHASE.ENCe_STALL.STALL e * us 100 < max s.now t →
    completes (.encoderStall t e) s fun s' =>
      s'.reg PHASE.BASEn_SPEED.SPEED (8 + e) = 0 ∧ s.regsKeptBut s' [PHASE.BASEn_SPEED.SPEED]) ∧
  (∀ (s : State) (t e : Nat), e < 4 → (s.advance t).baseState (8 + e) ≠ BaseState.unused →
    (s.advance t).baseState (8 + e) ≠ BaseState.fault →
    completes (.encoderSignalLoss t e) s fun s' =>
      s'.reg PHASE.BASEn_STATUS.STATE (8 + e) = BaseState.fault ∧ s'.reg PHASE.BASEn_SPEED.SPEED (8 + e) = 0 ∧
      s'.reg FPIN.ENCe_STAT.SIGOK e = 0 ∧
      s'.reg FPIN.ENCe_STAT.LOSS e = satAdd FPIN.ENCe_STAT.LOSS.width (s.reg FPIN.ENCe_STAT.LOSS e) 1 ∧
      s.regsKeptBut s' [PHASE.BASEn_STATUS.STATE, PHASE.BASEn_SPEED.SPEED, FPIN.ENCe_STAT.SIGOK, FPIN.ENCe_STAT.LOSS])

/-- R39, R41 to R44, R309: a mains error within STEP_THR is slewed out with the base LOCKED and no step; a first lock is a step with the cause
acquisition; a counted encoder edge moves the count by one in its direction, an illegal one, or one less than 100 ns after the line's last,
counts in ILLEGAL alone (R309), as such a Z edge does; under IGNORE a Z edge shows its level alone; a first Z edge
aligns the base by a step, a tolerated mismatch under CHECK counts in SLIP and is absorbed, one after a FAULT ends it; a signal that
returns ends a FAULT by a step under IGNORE and leaves it under a Z mode. The pace of a slew is free (notes/assumptions/21.md), whole
counts of a mismatch are the model's choice (notes/assumptions/75.md). Completes: mainsLock, encoderEdge, encoderZEdge,
encoderSignalReturn. -/
def Obligations.MeasurementsMoveBases : Prop :=
  (∀ (s : State) (t m angle freq rms perr : Nat), m < 2 → s.mainsValid m freq rms = true → s.baseFires (6 + m) = true →
    (s.phase.base.get (6 + m)).lockedOnce = true →
    ((s.advance t).mainsError m angle).natAbs * 3600 ≤ s.reg PHASE.MAINSm_CFG.STEP_THR m * 2 ^ 32 →
    completes (.mainsLock t m angle freq rms perr) s fun s' =>
      s'.reg PHASE.BASEn_STATUS.STATE (6 + m) = BaseState.locked ∧ s'.reg FPIN.ACm_STAT.PRESENT m = 1 ∧
      s'.reg FPIN.ACm_FREQ.FREQ m = wrap FPIN.ACm_FREQ.FREQ.width freq ∧
      s.regsKeptBut s' [PHASE.BASEn_STATUS.STATE, FPIN.ACm_STAT.PRESENT, FPIN.ACm_STAT.FREQ_OK, FPIN.ACm_FREQ.FREQ, PHASE.MAINSm_QUAL.RMS,
        PHASE.MAINSm_QUAL.PERR, PHASE.BASEn_SPEED.SPEED] ∧ s'.img = s.img) ∧
  (∀ (s : State) (t m angle freq rms perr : Nat),
    let a := (s.advance t).noteMains m freq rms perr
    m < 2 → s.mainsValid m freq rms = true → s.baseState (6 + m) ≠ BaseState.notFitted → s.baseState (6 + m) ≠ BaseState.unused →
    (((s.phase.base.get (6 + m)).lockedOnce = false ∨ s.baseState (6 + m) = BaseState.invalid ∨ s.baseState (6 + m) = BaseState.acquiring) →
      completes (.mainsLock t m angle freq rms perr) s fun s' =>
        s' = a.stepBase (6 + m) Cause.acquisition true (fun s =>
          (s.anchorFrom (6 + m) (ofSigned 64 ((a.baseVal (6 + m) : Int) + a.mainsError m angle)) a.now).lockMains (6 + m) freq)) ∧
    ((s.phase.base.get (6 + m)).lockedOnce = true → s.baseState (6 + m) ≠ BaseState.invalid → s.baseState (6 + m) ≠ BaseState.acquiring →
      a.reg PHASE.MAINSm_CFG.STEP_THR m * 2 ^ 32 < (a.mainsError m angle).natAbs * 3600 →
      completes (.mainsLock t m angle freq rms perr) s fun s' =>
        s' = a.stepBase (6 + m) Cause.relock false (fun s =>
          (s.anchorFrom (6 + m) (ofSigned 64 ((a.baseVal (6 + m) : Int) + a.mainsError m angle)) a.now).lockMains (6 + m) freq))) ∧
  (∀ (s : State) (t e : Nat) (f i a b : Bool), e < 4 → s.reg PHASE.ENCe_CFG.CPT e ≠ 0 → (i || (s.advance t).quickLines e a b) = true →
    completes (.encoderEdge t e f i a b) s fun s' =>
      s'.reg PHASE.ENCe_SLIPCNT.ILLEGAL e = satAdd PHASE.ENCe_SLIPCNT.ILLEGAL.width (s.reg PHASE.ENCe_SLIPCNT.ILLEGAL e) 1 ∧
      (Tab.wf s.phase.enc = true → (s'.phase.enc.get e).count = (s.phase.enc.get e).count) ∧ s'.phase.base = s.phase.base ∧
      s.regsKeptBut s' [FPIN.ENCe_STAT.A, FPIN.ENCe_STAT.B, FPIN.ENCe_STAT.Z, PHASE.ENCe_SLIPCNT.ILLEGAL]) ∧
  (∀ (s : State) (t e : Nat) (f a b : Bool), e < 4 → s.reg PHASE.ENCe_CFG.CPT e ≠ 0 → (s.advance t).quickLines e a b = false →
    (s.baseState (8 + e) ≠ BaseState.acquiring ∨ s.reg PHASE.ENCe_CFG.ZMODE e ≠ 0) →
    completes (.encoderEdge t e f false a b) s fun s' =>
      (Tab.wf s.phase.enc = true → (s'.phase.enc.get e).count =
        (if f != s.flag PHASE.ENCe_CFG.INVERT e then (s.phase.enc.get e).count + 1 else (s.phase.enc.get e).count - 1) ∧
        (s'.phase.enc.get e).edgeT = max s.now t) ∧ s'.phase.base = s.phase.base ∧
      s'.reg FPIN.ENCe_COUNT.COUNT e = wrap 32 (if f != s.flag PHASE.ENCe_CFG.INVERT e then s.reg FPIN.ENCe_COUNT.COUNT e + 1
        else diffMod 32 (s.reg FPIN.ENCe_COUNT.COUNT e) 1) ∧
      s.regsKeptBut s' [FPIN.ENCe_STAT.A, FPIN.ENCe_STAT.B, FPIN.ENCe_STAT.Z, PHASE.BASEn_STATUS.DIR, PHASE.BASEn_SPEED.SPEED,
        FPIN.ENCe_COUNT.COUNT]) ∧
  (∀ (s : State) (t e : Nat) (f : Bool), e < 4 → s.reg PHASE.ENCe_CFG.CPT e ≠ 0 →
    (s.advance t).tooQuick (s.phase.enc.get e).zAt = true →
    completes (.encoderZEdge t e f) s fun s' => s' = ((s.advance t).seeZ e).addReg PHASE.ENCe_SLIPCNT.ILLEGAL e 1) ∧
  (∀ (s : State) (t e : Nat) (f : Bool), e < 4 → s.reg PHASE.ENCe_CFG.CPT e ≠ 0 →
    (s.advance t).tooQuick (s.phase.enc.get e).zAt = false → s.reg PHASE.ENCe_CFG.ZMODE e = 0 →
    completes (.encoderZEdge t e f) s fun s' => s' = (s.advance t).seeZ e) ∧
  (∀ (s : State) (t e : Nat) (f : Bool),
    let a := (s.advance t).seeZ e
    e < 4 → s.reg PHASE.ENCe_CFG.CPT e ≠ 0 → (s.advance t).tooQuick (s.phase.enc.get e).zAt = false → s.reg PHASE.ENCe_CFG.ZMODE e = 2 → (f != s.flag PHASE.ENCe_CFG.INVERT e) = true →
    (a.phase.enc.get e).aligned = true → s.baseState (8 + e) ≠ BaseState.fault →
    (toSigned 32 (diffMod 32 (s.reg PHASE.ENCe_ZOFF.ZOFF e) (a.baseVal (8 + e)))).natAbs * s.reg PHASE.ENCe_CFG.CPT e / 2 ^ 32 ≠ 0 →
    (toSigned 32 (diffMod 32 (s.reg PHASE.ENCe_ZOFF.ZOFF e) (a.baseVal (8 + e)))).natAbs * s.reg PHASE.ENCe_CFG.CPT e / 2 ^ 32 ≤
      s.reg PHASE.ENCe_CFG.SLIP e →
    completes (.encoderZEdge t e f) s fun s' =>
      s'.reg PHASE.ENCe_SLIPCNT.SLIP e = satAdd PHASE.ENCe_SLIPCNT.SLIP.width (s.reg PHASE.ENCe_SLIPCNT.SLIP e) 1 ∧
      s.regsKeptBut s' [PHASE.ENCe_SLIPCNT.SLIP, FPIN.ENCe_STAT.Z] ∧ s'.phase.base = s.phase.base ∧ s'.out = s.out) ∧
  (∀ (s : State) (t e : Nat), e < 4 → (s.baseState (8 + e) ≠ BaseState.fault ∨ s.reg PHASE.ENCe_CFG.ZMODE e ≠ 0) →
    completes (.encoderSignalReturn t e) s fun s' =>
      s'.reg FPIN.ENCe_STAT.SIGOK e = 1 ∧ s.regsKeptBut s' [FPIN.ENCe_STAT.SIGOK] ∧ s'.phase = s.phase) ∧
  (∀ (s : State) (t e : Nat) (f : Bool),
    let a := (s.advance t).seeZ e
    e < 4 → s.reg PHASE.ENCe_CFG.CPT e ≠ 0 → (s.advance t).tooQuick (s.phase.enc.get e).zAt = false →
    s.reg PHASE.ENCe_CFG.ZMODE e ≠ 0 → s.baseState (8 + e) ≠ BaseState.fault → (a.phase.enc.get e).aligned = false →
    completes (.encoderZEdge t e f) s fun s' =>
      s' = a.stepBase (8 + e) (if s.baseState (8 + e) = BaseState.acquiring ∨ s.baseState (8 + e) = BaseState.invalid then Cause.acquisition
        else Cause.zAlign) (decide (s.baseState (8 + e) = BaseState.acquiring ∨ s.baseState (8 + e) = BaseState.invalid)) (fun s =>
          (s.setBaseState (8 + e) BaseState.locked).realign e
            (toSigned 32 (diffMod 32 (s.reg PHASE.ENCe_ZOFF.ZOFF e) (a.baseVal (8 + e)))))) ∧
  (∀ (s : State) (t e : Nat) (f : Bool),
    let a := (s.advance t).seeZ e
    e < 4 → s.reg PHASE.ENCe_CFG.CPT e ≠ 0 → (s.advance t).tooQuick (s.phase.enc.get e).zAt = false →
    s.reg PHASE.ENCe_CFG.ZMODE e ≠ 0 → s.baseState (8 + e) = BaseState.fault →
    s.sensed FPIN.ENCe_STAT.SIGOK e = true →
    completes (.encoderZEdge t e f) s fun s' =>
      s' = (a.stepBase (8 + e) Cause.zAlign false (fun s => (s.setBaseState (8 + e) BaseState.locked).realign e ((a.baseVal (8 + e) : Int) +
        toSigned 32 (diffMod 32 (a.reg PHASE.ENCe_ZOFF.ZOFF e) (a.baseVal (8 + e))) -
        ((a.setBaseState (8 + e) BaseState.locked).baseVal (8 + e) : Int)))).showSpeed e) ∧
  (∀ (s : State) (t e : Nat),
    let a := (s.advance t).sense FPIN.ENCe_STAT.SIGOK e 1
    e < 4 → s.baseState (8 + e) = BaseState.fault → s.reg PHASE.ENCe_CFG.ZMODE e = 0 →
    completes (.encoderSignalReturn t e) s fun s' =>
      s' = (a.stepBase (8 + e) Cause.relock false (fun s => (s.setBaseState (8 + e) BaseState.locked).realign e
        ((a.baseVal (8 + e) : Int) - ((s.setBaseState (8 + e) BaseState.locked).baseVal (8 + e) : Int)))).showSpeed e)

/-- R29, R47 to R49: VIRTv_OFF_HI applies the staged 64-bit offset at the next tick and goes to the partner; a new offset steps the virtual
base, the offset in force does nothing. A permitted write of SRC, NUM or DEN sets the field: a base that locks by it takes its value by an
acquisition step, any other change of its value is a step with the cause setting write. A permitted write of MAINSm_OFFSET moves a mains base
that runs by the change of the offset, by a step. A write in any mode but COMMISSION and SERVICE, or of a value the field does not allow,
leaves a record alone. Completes: virtOffHiWrite, virtSettingWrite, mainsOffsetWrite. -/
def Obligations.BaseSettingsAreGuarded : Prop :=
  (∀ (s : State) (t m v x : Nat),
    let a := (s.advance t).setReg PHASE.VIRTv_OFF_HI.OFF v x
    v < 3 →
    completes (.virtOffHiWrite t m v x) s fun s' =>
      s' = (((a.mirrorReg (PHASE.VIRTv_OFF_LO.OFF.addrOf v) (a.reg PHASE.VIRTv_OFF_LO.OFF v)).mirrorReg
        (PHASE.VIRTv_OFF_HI.OFF.addrOf v) (wrap 32 x)).advance (tickAfter t)).applyOffset v) ∧
  (∀ (s : State) (v : Nat), s.stagedOffset v = s.phase.virtOff.get v → s.applyOffset v = s) ∧
  (∀ (s : State) (v : Nat), s.stagedOffset v ≠ s.phase.virtOff.get v →
    s.applyOffset v = s.stepBase (13 + v) Cause.setting false (fun a =>
      { a with phase := { a.phase with virtOff := a.phase.virtOff.set v (s.stagedOffset v) } })) ∧
  (∀ (s : State) (t m v w x : Nat), v < 3 → w < 3 → s.rwlOpen = true → virtValid v w x = true →
    completes (.virtSettingWrite t m v w x) s fun s' =>
      s' = ((s.advance t).advance (tickAfter t)).setVirtual v (fun a => a.setReg (virtField w) v x)) ∧
  (∀ (s : State) (v : Nat) (f : State → State),
    (s.acquires (13 + v) (f s) = true → s.setVirtual v f = s.stepBase (13 + v) Cause.acquisition true f) ∧
    (s.acquires (13 + v) (f s) = false → (f s).baseVal (13 + v) = s.baseVal (13 + v) → s.setVirtual v f = f s) ∧
    (s.acquires (13 + v) (f s) = false → (f s).baseVal (13 + v) ≠ s.baseVal (13 + v) →
      s.setVirtual v f = s.stepBase (13 + v) Cause.setting false f)) ∧
  (∀ (s : State) (t m v w x : Nat), v < 3 → w < 3 → s.rwlOpen = false →
    completes (.virtSettingWrite t m v w x) s fun s' =>
      s' = (s.advance t).writeRefused ((virtField w).addrOf v) m 1 ∧ s.regsKeptBut s' recorderFlds ∧ s'.phase = s.phase) ∧
  (∀ (s : State) (t m v w x : Nat), v < 3 → w < 3 → s.rwlOpen = true → virtValid v w x = false →
    completes (.virtSettingWrite t m v w x) s fun s' =>
      s' = (s.advance t).writeRefused ((virtField w).addrOf v) m 2 ∧ s.regsKeptBut s' recorderFlds ∧ s'.phase = s.phase) ∧
  (∀ (s : State) (t m n x : Nat), m < 2 → s.rwlOpen = false →
    completes (.mainsOffsetWrite t n m x) s fun s' =>
      s' = (s.advance t).writeRefused (PHASE.MAINSm_OFFSET.OFFSET.addrOf m) n 1 ∧ s.regsKeptBut s' recorderFlds ∧ s'.phase = s.phase) ∧
  (∀ (s : State) (t m n x : Nat),
    let a := (s.advance t).advance (tickAfter t)
    let d : Int := toSigned 32 (diffMod 32 x (s.reg PHASE.MAINSm_OFFSET.OFFSET m))
    m < 2 → s.rwlOpen = true →
    ((s.baseFires (6 + m) = false ∨ d = 0) → completes (.mainsOffsetWrite t n m x) s fun s' =>
      s' = a.setReg PHASE.MAINSm_OFFSET.OFFSET m x) ∧
    (s.baseFires (6 + m) = true → d ≠ 0 → completes (.mainsOffsetWrite t n m x) s fun s' =>
      s' = a.stepBase (6 + m) Cause.setting false (fun b => ((b.reanchor (6 + m)).setReg PHASE.MAINSm_OFFSET.OFFSET m x).updBase (6 + m)
        (fun y => { y with anchor := ofSigned 96 ((y.anchor : Int) + d * 2 ^ 32) }))))

/-- R56, R58: on every write, an owner's as well as a force's, the value is normalised to its type: BOOL to 0 or 1, INT32 with the upper
half copies of bit 31, UINT32 and REAL32 with the upper half 0, REAL64 and COUNT64 as written; normalising again changes nothing. A code
of 7 or more becomes BAD with detail 0x9. The slot's clauses are those of a Tray with no flip armed (R285). -/
def Obligations.ValuesAndQualitiesAreNormalised : Prop :=
  (∀ v, normalise 0 v = if wrap 64 v = 0 then 0 else 1) ∧
  (∀ v, toSigned 64 (normalise 1 v) = toSigned 32 v ∧ normalise 1 v < 2 ^ 64) ∧
  (∀ v, normalise 2 v = wrap 32 v ∧ normalise 3 v = wrap 32 v) ∧
  (∀ v, normalise 4 v = wrap 64 v ∧ normalise 5 v = wrap 64 v) ∧
  (∀ (s : State) (sig src v q d n t : Nat) (e : DirEntry), s.owns sig src = true → s.img.dir.get sig = some e →
    s.img.forces.get sig = none → s.img.forceDropped.get sig = false → e.stampBase = none → s.flag LEAF.FLIPm_CTRL.ARM 1 = false →
    ((s.ownerWrite sig src v q d n t).img.slots.get sig).value = normalise e.type v) ∧
  (∀ (s : State) (sig src v q d n t : Nat) (e : DirEntry) (f : Force), s.owns sig src = true → s.img.dir.get sig = some e →
    s.img.forces.get sig = some f →
    ((s.ownerWrite sig src v q d n t).img.forces.get sig).map (·.rawValue) = some (normalise e.type v)) ∧
  (∀ (s : State) (sig v p n : Nat) (e : DirEntry), s.img.dir.get sig = some e → e.stampBase = none → s.flag LEAF.FLIPm_CTRL.ARM 1 = false →
    ((s.placeForce sig v p n).img.slots.get sig).value = normalise e.type v) ∧
  (∀ ty v, normalise ty (normalise ty v) = normalise ty v) ∧
  (∀ q d, 7 ≤ q → cleanQuality q d = (Quality.bad, 9)) ∧ (∀ q d, q < 7 → cleanQuality q d = (q, d))

/-- R59: the order of the qualities from worst to best decides a combination; between equal codes a detail other than 0 wins, and of two
the lower; the combination does not depend on the order of its sources. -/
def Obligations.QualitiesCombineToTheWorse : Prop :=
  [Quality.poison, Quality.bad, Quality.stale, Quality.uncertain, Quality.substitute, Quality.forced, Quality.good].map Quality.rank =
    [0, 1, 2, 3, 4, 5, 6] ∧
  (∀ a b : Nat × Nat, Quality.rank a.1 < Quality.rank b.1 → combineQuality a b = a ∧ combineQuality b a = a) ∧
  (∀ q d e, d ≠ 0 → e ≠ 0 → combineQuality (q, d) (q, e) = (q, min d e)) ∧
  (∀ q d, combineQuality (q, d) (q, 0) = (q, d) ∧ combineQuality (q, 0) (q, d) = (q, d)) ∧
  (∀ a b : Nat × Nat, a.1 < 7 → b.1 < 7 → combineQuality a b = combineQuality b a) ∧
  (∀ a b c : Nat × Nat, a.1 < 7 → b.1 < 7 → c.1 < 7 →
    combineQuality (combineQuality a b) c = combineQuality a (combineQuality b c))

/-- R54 to R58, R61, R82, R84: a write by a source that does not own the signal changes nothing of the image and counts in OWNERR; a write
of a forced signal reaches RAW and leaves the slot; any other normalises the value, replaces an invalid quality and takes its number and
source, and no other slot changes (no flip being armed at the Tray, R285). -/
def Obligations.OwnerWritesReachTheSlot : Prop :=
  (∀ (s : State) (sig src v q d n t : Nat), s.owns sig src = false →
    (s.ownerWrite sig src v q d n t).img = s.img ∧
    (s.ownerWrite sig src v q d n t).reg IMAGE.OWNERR.COUNT = satAdd IMAGE.OWNERR.COUNT.width (s.reg IMAGE.OWNERR.COUNT) 1 ∧
    s.regsKeptBut (s.ownerWrite sig src v q d n t) (IMAGE.OWNERR.COUNT :: recorderFlds)) ∧
  (∀ (s : State) (sig src v q d n t : Nat) (f : Force) (e : DirEntry), s.owns sig src = true → s.img.dir.get sig = some e →
    s.img.forces.get sig = some f →
    (s.ownerWrite sig src v q d n t).img.slots = s.img.slots ∧
    (s.ownerWrite sig src v q d n t).img.forces.get sig =
      some { f with rawValue := normalise e.type v, rawQual := (cleanQuality q d).1, rawDetail := (cleanQuality q d).2, rawSeq := n }) ∧
  (∀ (s : State) (sig src v q d n t : Nat) (e : DirEntry), s.owns sig src = true → s.img.dir.get sig = some e →
    s.img.forces.get sig = none → s.img.forceDropped.get sig = false → e.stampBase = none → s.flag LEAF.FLIPm_CTRL.ARM 1 = false →
    ((s.ownerWrite sig src v q d n t).img.slots.get sig).value = normalise e.type v ∧
    ((s.ownerWrite sig src v q d n t).img.slots.get sig).seq = wrap 32 n ∧
    ((s.ownerWrite sig src v q d n t).img.slots.get sig).source = src ∧
    ((s.ownerWrite sig src v q d n t).img.slots.get sig).qual = (cleanQuality q d).1 ∧
    ((s.ownerWrite sig src v q d n t).img.slots.get sig).detail = (cleanQuality q d).2 ∧
    ((s.ownerWrite sig src v q d n t).img.slots.get sig).aged = false ∧
    (∀ g, g ≠ sig → (s.ownerWrite sig src v q d n t).img.slots.get g = s.img.slots.get g) ∧
    (s.ownerWrite sig src v q d n t).img.forces = s.img.forces ∧
    (s.ownerWrite sig src v q d n t).img.seq = s.img.seq)

/-- R69 to R72: a source's first delivery is accepted; after `last`, the next number is accepted with nothing lost, one `k` further on
with `k` lost, a repeated one is dropped, and the third of three consecutive older ones is accepted again. -/
def Obligations.SourceSequencesAreJudged : Prop :=
  (∀ w n, (judgeSeq w default n).1 = true ∧ (judgeSeq w default n).2.2.2.last = wrap w n) ∧
  (∀ w n k, 0 < w → k + 1 < 2 ^ (w - 1) →
    judgeSeq w { valid := true, last := wrap w n, runSeq := 0, runLen := 0 } (n + k + 1) =
      (true, false, k, { valid := true, last := wrap w (n + k + 1), runSeq := 0, runLen := 0 })) ∧
  (∀ w n, 0 < w → (judgeSeq w { valid := true, last := wrap w n, runSeq := 0, runLen := 0 } n).1 = false) ∧
  (∀ w l r, 0 < w → 2 ^ (w - 1) ≤ diffMod w (r + 1) l →
    judgeSeq w { valid := true, last := l, runSeq := r, runLen := 2 } (r + 1) =
      (true, true, 0, { valid := true, last := wrap w (r + 1), runSeq := 0, runLen := 0 }))

/-- R65, R67, R79, R87, R88: the commands that keep the image: the sequence reaches the Caddy on the active unit alone; a signal whose owner has
not written it for longer than its limit is rewritten by the module as STALE with its value kept, and its pins see it; SEQ_LO latches SEQ_HI;
the probe loads the master's latch from the slot, or from RAW, whose SOURCE and FLAGS, and whose words when there is no RAW, are free values
(notes/assumptions/4.md); a sweep marks AGED what lies 2^30 behind, and publishes its time, its count and SWEEP_OK. Strictly longer than the
limit is the reading of notes/assumptions/17.md. Completes: sequenceSave, staleMark, imageSeqLoRead, probeIdWrite, ageingSweep. -/
def Obligations.ImageUpkeep : Prop :=
  (∀ (s : State) (t : Nat), s.isActive = true →
    completes (.sequenceSave t) s fun s' => s' = { s.advance t with img := { s.img with savedSeq := s.img.seq } }) ∧
  (∀ (s : State) (t : Nat), s.isActive = false →
    completes (.sequenceSave t) s fun s' => s' = s.advance t) ∧
  (∀ (s : State) (t sig : Nat) (d : DirEntry),
    let a := s.advance t
    let due := d.staleMs ≠ 0 ∧ a.ingressOn = true ∧ s.img.lastWrite.get sig + msec d.staleMs < a.now ∧ a.ownerQuality sig ≠ (Quality.stale, 0xB)
    s.img.dir.get sig = some d →
    (due → completes (.staleMark t sig) s fun s' =>
      s' = (a.deliverModule 0xF002 [(sig, a.ownerValue sig, Quality.stale + 0xB * 16)]).copyToPins sig) ∧
    (¬ due → completes (.staleMark t sig) s fun s' => s' = a)) ∧
  (∀ (s : State) (t m : Nat),
    completes (.imageSeqLoRead t m) s fun s' =>
      s'.latched m (IMAGE.SEQ_HI.SEQ.addrOf 0) = some ((s.advance t).word (IMAGE.SEQ_HI.SEQ.addrOf 0)) ∧
      s'.out = .readData m (IMAGE.SEQ_LO.SEQ.addrOf 0) ((s.advance t).word (IMAGE.SEQ_LO.SEQ.addrOf 0)) :: s.out ∧ s'.regs = s.regs) ∧
  (∀ (s : State) (t m sig : Nat),
    let a := ((s.advance t).setReg IMAGE.PROBE_ID.SIGNAL 0 sig).setReg IMAGE.PROBE_ID.RAW 0 0
    let p := a.slotPoison sig
    sig < 2 ^ 17 →
    ((s.img.dir.get sig).isSome = true → completes (.probeIdWrite t m sig false) s fun s' =>
      let d := s.img.slots.get sig
      s' = a.loadProbe m (wrap 32 d.value) (d.value / 2 ^ 32) d.seq d.tail (a.fullSeqHi d) (probeStat true false (p.1 || p.2) false)) ∧
    ((s.img.dir.get sig).isSome = false → completes (.probeIdWrite t m sig false) s fun s' =>
      let d := a.slotOf sig
      s' = a.loadProbe m (wrap 32 d.value) (d.value / 2 ^ 32) d.seq d.tail 0 (probeStat true true (p.1 || p.2) false))) ∧
  (∀ (s : State) (t m sig : Nat) (f : Force),
    let a := ((s.advance t).setReg IMAGE.PROBE_ID.SIGNAL 0 sig).setReg IMAGE.PROBE_ID.RAW 0 1
    sig < 2 ^ 17 → s.img.forces.get sig = some f →
    completes (.probeIdWrite t m sig true) s fun s' =>
      s' = a.nextFree.nextFree.loadProbe m (wrap 32 f.rawValue) (f.rawValue / 2 ^ 32) (wrap 32 f.rawSeq)
        (a.freeVal 16 + (f.rawQual + f.rawDetail * 16) * 2 ^ 16 + a.nextFree.freeVal 8 * 2 ^ 24) (f.rawSeq / 2 ^ 32)
        (probeStat true (s.img.dir.get sig).isNone (a.rawMarks f != 0) false)) ∧
  (∀ (s : State) (t m sig : Nat),
    let a := ((s.advance t).setReg IMAGE.PROBE_ID.SIGNAL 0 sig).setReg IMAGE.PROBE_ID.RAW 0 1
    sig < 2 ^ 17 → s.img.forces.get sig = none →
    completes (.probeIdWrite t m sig true) s fun s' =>
      s' = a.nextFree.loadProbe m (a.freeVal 32) (a.freeVal 32) (a.freeVal 32) (a.freeVal 32) 0
        (probeStat false (s.img.dir.get sig).isNone false true)) ∧
  (∀ (s : State) (t : Nat),
    let a := s.advance t
    let took := a.now - s.img.sweepMark
    let b := ((a.sweep.setReg IMAGE.SWEEP.LAST 0 (min (took / us 1) 65535)).bumpReg IMAGE.SWEEP.PASSES 0).setFlag IMAGE.STATUS.SWEEP_OK 0
      (decide (took ≤ msec 10))
    completes (.ageingSweep t) s fun s' => s' = ({ b with img := { b.img with sweepMark := a.now } }).releaseHeld) ∧
  (∀ (s : State) (g : Nat), Tab.wf s.img.slots = true → (s.img.dir.get g).isSome = true → s.farBehind (s.img.slots.get g) = true →
    (s.sweep.img.slots.get g).aged = true ∧ (s.sweep.img.slots.get g).value = (s.img.slots.get g).value ∧
    (s.sweep.img.slots.get g).seq = (s.img.slots.get g).seq)

/-- R96, R98, R104: a block in service with an idle core, none of whose tasks can resume, starts the cycle of the ready task of the highest
class that has been ready longest, when its account covers it: the task is RUNNING and its input read begins; a block that is
restarting, stopped or retired takes no decision. DISPATCH as a command of its own is notes/assumptions/12.md. Completes: dispatch. -/
def Obligations.DispatchStartsACycle : Prop :=
  (∀ (s : State) (t b c u : Nat),
    let a := ((s.advance t).promote b).markResumable b
    b < 16 → s.blockServes b = true → a.current b = none → (a.tasksOn b).filter a.canResume = [] →
    a.topClass ((a.tasksOn b).filter (fun x => a.tState x == TaskState.ready)) = some c →
    firstBy (fun x => (a.task x).readySince)
      (((a.tasksOn b).filter (fun x => a.tState x == TaskState.ready)).filter (fun x => a.tClass x == c)) = some u →
    (a.tasks.preempted.get b).find? (fun x => a.tClass x == c) = none →
    (a.noteAboveQuota u).covers u = true → u < 256 →
    completes (.dispatch t b) s fun s' =>
      s' = (a.noteAboveQuota u).startCycle b u ∧ s'.tState u = TaskState.running ∧ (s'.task u).phase = .reading ∧
      (s'.task u).startT = a.now ∧ (s'.task u).ceilAt = a.reg TASK.TASKt_CEIL.CEIL u) ∧
  (∀ (s : State) (t b : Nat), s.blockServes b = false → s.reg BLK.STATUS.STATE b ≠ BlockState.movingOut →
    completes (.dispatch t b) s fun s' => s' = s.advance t)

/-- R101 to R103, R118, R119, R121: what the cycle's own instructions do: the input read ends with the view written and the entry to the
task, PWAIT answers at once or leaves the core waiting, BYIELD leaves it yielded; a word that is not the instruction, or one outside a
cycle, is illegal. Which status wins when a step ends a wait is notes/assumptions/13.md, an instruction outside a cycle
notes/assumptions/27.md. Completes: inputReadDone, pwait, byield, pwaitEnd. -/
def Obligations.CycleInstructions : Prop :=
  (∀ (s : State) (t x : Nat),
    let a := s.advance t
    let cfg := s.tasks.cfg.get x
    let q := if s.reg TASK.TASKt_CQ.CQMAX x = 0 then ([], (s.task x).readPos) else a.dueEntries x
    let m := 16 + s.tBlock x
    let seen := q.1.map (a.captureSeen m x)
    let l := markLoss (s.task x).cqLoss (seen.map Prod.fst)
    let u := a.updTask x (fun d => { d with
      phase := .running, snapshot := s.img.seq, view := cfg.inputs.map (a.viewOf m x), capDelivered := l, readPos := q.2
      cqLoss := d.cqLoss && decide (l = []) })
    let words := (cfg.inputs.map (u.viewWords m x)).flatten ++ ((l.zip seen).map (fun y => entryWords y.1 y.2.2)).flatten ++
      ((u.canDue x).flatMap (fun w => u.dmaWords m x 1 w 12)).map (fun w => (wrap 64 w, bitOf 64 w))
    let v := ((u.each cfg.inputs (fun r g => r.noteDmaSlot m x g)).each q.1 (fun r y => r.noteDma m x 1 (captureWord y.2) 4)).writeView m x
      false (cfg.viewAddr / 8) words
    (s.task x).phase = .reading → s.current (s.tBlock x) = some x →
    (s.tKind x ≠ TaskKind.error → completes (.inputReadDone t x) s fun s' =>
      s' = (v.takeCan m x).emit (.entry x [x, (s.task x).prevSeq, s.img.seq, cfg.viewAddr, (s.task x).wakeTaken, l.length])) ∧
    (∀ i r, s.tKind x = TaskKind.error → (s.task x).invocations = i :: r → completes (.inputReadDone t x) s fun s' =>
      s' = (v.takeCan m x).emit (.entry x [x, i.failed.getD (2 ^ 64 - 1), i.cause, i.detail, cfg.viewAddr, l.length]))) ∧
  (∀ (s : State) (t b pc w r1 r2 e x st : Nat), isPwait w = true → s.cycleTask b = some x →
    (s.advance t).pwaitNow (wrap 64 r1) r2 = some st →
    (st ≠ 1 → completes (.pwait t b pc w r1 r2 e) s fun s' =>
      s' = (s.advance t).emit (.coreResult b (st + s.baseEpoch (bitField 0 4 r2) * 2 ^ 16))) ∧
    (st = 1 → completes (.pwait t b pc w r1 r2 e) s fun s' =>
      s' = ((s.advance t).noteLate (bitField 0 4 r2)).emit (.coreResult b (1 + s.baseEpoch (bitField 0 4 r2) * 2 ^ 16)))) ∧
  (∀ (s : State) (t b pc w r1 r2 e x : Nat), isPwait w = true → s.cycleTask b = some x → x < 256 →
    (s.advance t).pwaitNow (wrap 64 r1) r2 = none →
    completes (.pwait t b pc w r1 r2 e) s fun s' =>
      s'.tState x = TaskState.waiting ∧
      (s'.task x).wait = some { base := bitField 0 4 r2, target := wrap 64 r1
                                epoch := if bitOf 4 r2 then some (bitField 16 16 r2) else none
                                deadline := max s.now t + us (bitField 32 32 r2) } ∧
      s.regsKeptBut s' [TASK.TASKt_STATE.STATE, BLK.STATUS.CURVALID, BLK.STATUS.STATE] ∧ s'.img = s.img ∧ s'.out = s.out) ∧
  (∀ (s : State) (t b pc w r1 r2 e : Nat), isPwait w = false ∨ s.cycleTask b = none →
    completes (.pwait t b pc w r1 r2 e) s fun s' => s' = (s.advance t).illegal b pc w e) ∧
  (∀ (s : State) (t b pc w est e x : Nat), isByield w = true → s.cycleTask b = some x → x < 256 →
    completes (.byield t b pc w est e) s fun s' =>
      s'.tState x = TaskState.yielded ∧ (s'.task x).estimate = wrap 64 est ∧ (s'.task x).yieldT = max s.now t ∧
      (s'.task x).charged = satAdd 64 (s.task x).charged e ∧
      s.regsKeptBut s' [KETTLE.BLKb_ACCT.ACCT, TASK.TASKt_STATE.STATE, BLK.STATUS.CURVALID, BLK.STATUS.STATE] ∧
      s'.img = s.img ∧ s'.out = s.out) ∧
  (∀ (s : State) (t b pc w est e : Nat), isByield w = false ∨ s.cycleTask b = none →
    completes (.byield t b pc w est e) s fun s' => s' = (s.advance t).illegal b pc w e) ∧
  (∀ (s : State) (t x : Nat) (w : PWaitSt), (s.task x).wait = some w →
    (s.advance t).waitReached w (min (max s.now t) w.deadline) = true →
    completes (.pwaitEnd t x) s fun s' => s' = (s.advance t).endWait x 0) ∧
  (∀ (s : State) (t x : Nat) (w : PWaitSt), (s.task x).wait = some w →
    (s.advance t).waitReached w (min (max s.now t) w.deadline) = false → w.deadline ≤ max s.now t →
    completes (.pwaitEnd t x) s fun s' => s' = (s.advance t).endWait x 2)

/-- R122: SEQREAD answers the module sequence for SEL 0, and in a task cycle its snapshot for SEL 1 and the number of the task's last commit
that was not EMPTY for SEL 2; SEL 1 and 2 outside a cycle, any other SEL, and a word with another fixed field than R118 gives are an illegal
instruction, which faults the task, or
restarts a block that runs no cycle (the last is the model's reading, notes/assumptions/27.md). Completes: seqread. -/
def Obligations.SequencesAreReadInACycle : Prop :=
  ∀ (s a : State) (t b pc w e : Nat), a = s.advance t →
    (isSeqread (putField 20 5 w 0) = true →
      completes (.seqread t b pc w 0 e) s (fun s' => s' = a.emit (.coreResult b s.img.seq))) ∧
    (∀ x, s.cycleTask b = some x →
      (isSeqread (putField 20 5 w 1) = true →
        completes (.seqread t b pc w 1 e) s (fun s' => s' = a.emit (.coreResult b (s.task x).snapshot))) ∧
      (isSeqread (putField 20 5 w 2) = true →
        completes (.seqread t b pc w 2 e) s (fun s' => s' = a.emit
          (.coreResult b (s.reg TASK.TASKt_LSEQ_LO.SEQ x + s.reg TASK.TASKt_LSEQ_HI.SEQ x * 2 ^ 32))))) ∧
    (∀ x n, s.cycleTask b = some x → (3 ≤ n ∨ isSeqread (putField 20 5 w n) = false) → completes (.seqread t b pc w n e) s fun s' =>
      s' = a.takeException b x 2 pc (putField 20 5 w n) TaskCause.illegal (putField 20 5 w n) e) ∧
    (∀ n, s.cycleTask b = none → (n ≠ 0 ∨ isSeqread (putField 20 5 w n) = false) → completes (.seqread t b pc w n e) s fun s' =>
      s' = a.blockRestart b 0 2 (some e))

/-- R105, R106, R113, R118, R120, R225: SCOMMIT leaves the core and hands the cycle to the commit engine; another word, another flag, or one
outside a cycle is illegal; a mirrored SYNC task with a STANDBY
partner waits for its acknowledgement, at most 20 µs. R76 to R78, R106 to R110, R162: COMMIT_COMPLETE publishes the cycle under one
number, or nothing when it is EMPTY, and then judges its time, charges its energy and ends it. Orders inside a commit are
notes/assumptions/15.md and 16.md. Completes: scommit, syncAckTimeout, commitComplete. -/
def Obligations.CyclesCommit : Prop :=
  (∀ (s : State) (t b pc r f e x : Nat),
    let a := (((s.advance t).consumeInvocation x f).updTask x (fun d => { d with
      phase := .committing, scFlags := f, pendEnergy := e, meterBlock := b })).leaveCore x
    isScommit r = true → s.cycleTask b = some x → wrap 64 f < 4 →
    (a.syncWaits x = false → completes (.scommit t b pc r f e) s fun s' => s' = a) ∧
    (a.syncWaits x = true → completes (.scommit t b pc r f e) s fun s' =>
      s' = (a.updTask x (fun d => { d with waitAck := true, ackMseq := none, commitSentAt := a.now })).sendPrepared x)) ∧
  (∀ (s : State) (t b pc r f e : Nat), (isScommit r = false ∨ s.cycleTask b = none ∨ 4 ≤ wrap 64 f) →
    completes (.scommit t b pc r f e) s fun s' => s' = (s.advance t).illegal b pc r e) ∧
  (∀ (s : State) (t b pc r f e x : Nat), isScommit r = true → s.cycleTask b = some x → wrap 64 f < 4 → s.tKind x ≠ TaskKind.error →
    s.flag TASK.TASKt_CFG.ASYNC x = true →
    completes (.scommit t b pc r f e) s fun s' =>
      (s'.task x).phase = .committing ∧ (s'.task x).scFlags = f ∧ (s'.task x).pendEnergy = e ∧ s'.tState x = s.tState x ∧
      s.regsKeptBut s' [BLK.STATUS.CURVALID, BLK.STATUS.STATE] ∧ s'.img = s.img ∧ s'.out = s.out) ∧
  (∀ (s : State) (t x : Nat),
    let a := s.advance t
    (s.task x).waitAck = true → (s.task x).commitSentAt + us 20 ≤ a.now →
    completes (.syncAckTimeout t x) s fun s' =>
      s' = ((a.updTask x (fun d => { d with waitAck := false })).addReg PAIR.SYNCACK.TIMEOUTS 0 1).ackTimedOut) ∧
  (∀ (s : State) (t x : Nat),
    let b := if (s.task x).isEmpty then (s.advance t).publishNone x else (s.advance t).publishAll x
    (s.task x).phase = .committing → (s.task x).waitAck = false → ((s.task x).isEmpty = true ∨ (s.advance t).commitFits x = true) →
    completes (.commitComplete t x) s fun s' =>
      s' = ((((((((b.issueCan x (if (s.task x).isEmpty then [] else (s.task x).written)).noteCycle x (b.cycleTime x)).chargeCycle x).endCycle
        x).judgeOverrun x (b.cycleTime x)).serveStart x).checkStarved x).mirrorTask x).sendWaiting.judgePair.settleHold) ∧
  (∀ (s : State) (t x : Nat), (s.task x).phase = .committing → (s.task x).waitAck = false → (s.task x).isEmpty = false →
    (s.advance t).commitFits x = false →
    completes (.commitComplete t x) s fun s' => s' = (s.advance t).setReg PAIR.MQFILL.FULL 0 1)

/-- R100, R109, R162: what the end of a cycle shows: LAST, MAX and CYCLES from its time; a cycle within its ceiling clears OVRRUN and
changes nothing else; one beyond it counts in OVRTOT, OVRCNT and OVRRUN; the cost estimate moves by a 2^-SHIFT part of its distance, stays
between the old estimate and the measured energy, and is never 0. R62, R76: publishing takes the next number of the module sequence, one
for all outputs, and shows it in LSEQ. Orders inside a commit are notes/assumptions/16.md. -/
def Obligations.CycleTimeCostAndNumber : Prop :=
  (∀ (s : State) (x ct : Nat), x < 256 →
    (s.noteCycle x ct).reg TASK.TASKt_LAST.TIME x = min (ct / us 1) (2 ^ 32 - 1) ∧
    (s.reg TASK.TASKt_MAX.TIME x < 2 ^ 32 →
      (s.noteCycle x ct).reg TASK.TASKt_MAX.TIME x = max (s.reg TASK.TASKt_MAX.TIME x) (min (ct / us 1) (2 ^ 32 - 1))) ∧
    (s.noteCycle x ct).reg TASK.TASKt_CYCLES.COUNT x = wrap 32 (s.reg TASK.TASKt_CYCLES.COUNT x + 1) ∧
    s.regsKeptBut (s.noteCycle x ct) [TASK.TASKt_LAST.TIME, TASK.TASKt_MAX.TIME, TASK.TASKt_CYCLES.COUNT]) ∧
  (∀ (s : State) (x ct : Nat), x < 256 → ct ≤ us (s.task x).ceilAt →
    (s.judgeOverrun x ct).reg TASK.TASKt_STATE.OVRRUN x = 0 ∧ s.regsKeptBut (s.judgeOverrun x ct) [TASK.TASKt_STATE.OVRRUN] ∧
    (s.judgeOverrun x ct).tasks = s.tasks) ∧
  (∀ (s : State) (x ct : Nat), x < 256 → us (s.task x).ceilAt < ct → s.tState x = TaskState.idle →
    satAdd TASK.TASKt_STATE.OVRRUN.width (s.reg TASK.TASKt_STATE.OVRRUN x) 1 < s.reg TASK.TASKt_CFG.FAULT_LIM x →
    (s.judgeOverrun x ct).tState x = TaskState.skip ∧ ((s.judgeOverrun x ct).task x).skipUntil = s.now + us (s.task x).ceilAt ∧
    (s.judgeOverrun x ct).reg TASK.TASKt_STATE.OVRRUN x = satAdd TASK.TASKt_STATE.OVRRUN.width (s.reg TASK.TASKt_STATE.OVRRUN x) 1 ∧
    (s.judgeOverrun x ct).reg TASK.OVRCNT.COUNT = satAdd TASK.OVRCNT.COUNT.width (s.reg TASK.OVRCNT.COUNT) 1 ∧
    (s.judgeOverrun x ct).reg TASK.TASKt_OVRTOT.COUNT x = satAdd TASK.TASKt_OVRTOT.COUNT.width (s.reg TASK.TASKt_OVRTOT.COUNT x) 1) ∧
  (∀ cost m shift, 1 ≤ newCost cost m shift) ∧
  (∀ cost m shift, 1 ≤ cost → cost ≤ m → cost ≤ newCost cost m shift ∧ newCost cost m shift ≤ m ∧
    newCost cost m shift = cost + (m - cost) / 2 ^ shift) ∧
  (∀ cost m shift, 1 ≤ m → m ≤ cost → m ≤ newCost cost m shift ∧ newCost cost m shift = cost - (cost - m) / 2 ^ shift) ∧
  (∀ (s : State) (x : Nat), x < 256 →
     (s.publishAll x).img.seq = wrap 64 (s.img.seq + 1) ∧ ((s.publishAll x).task x).prevSeq = wrap 64 (s.img.seq + 1) ∧
     (s.publishAll x).reg TASK.TASKt_LSEQ_LO.SEQ x = wrap 32 (s.img.seq + 1) ∧
     (s.publishAll x).reg TASK.TASKt_LSEQ_HI.SEQ x = wrap 64 (s.img.seq + 1) / 2 ^ 32)

/-- R97, R109, R110, R111, R114, R115, R117: the end of a skip or of a floor promotes the block's tasks, a HANG and an exception fault the
task, a restart write acts on a FAULTED task alone, and a block restarts and resumes. The ceiling in force is notes/assumptions/14.md,
the unstated MCAUSE notes/assumptions/19.md. Completes: skipEnd, taskFloorElapsed, hang, taskException, taskRestartWrite,
taskTimingWrite, coreWatchdogExpiry, blockRestart, blockRestartDone, taskMoveDone. -/
def Obligations.TaskFaultsAndRestarts : Prop :=
  (∀ (s : State) (t x : Nat),
    let a := s.advance t
    s.tState x = TaskState.skip → (s.task x).skipUntil ≤ a.now →
    completes (.skipEnd t x) s fun s' => s' = ((a.setTState x TaskState.idle).mirrorTask x).promote (s.tBlock x)) ∧
  (∀ (s : State) (t x : Nat), completes (.taskFloorElapsed t x) s fun s' => s' = (s.advance t).promote (s.tBlock x)) ∧
  (∀ (s : State) (t x e : Nat),
    let a := s.advance t
    let b := ((a.addReg TASK.TASKt_OVRTOT.COUNT x 1).lifeAdd 0x144 1).histAdd 13 30
    a.inCycle x = true → 4 * us (s.task x).ceilAt ≤ a.cycleTime x →
    completes (.hang t x e) s fun s' =>
      s' = ((b.debit (b.tBlock x) e).faultTask x TaskCause.hang (a.cycleTime x / msec 1)).settleHold) ∧
  (∀ (s : State) (t b c mc pc tv e x : Nat),
    let a := s.advance t
    s.cycleTask b = some x →
    completes (.taskException t b c mc pc tv e) s fun s' => s' = a.takeException b x mc pc tv c (a.excDetail x c pc tv) e) ∧
  (∀ (s : State) (t b c mc pc tv e : Nat), s.cycleTask b = none →
    completes (.taskException t b c mc pc tv e) s fun s' => s' = (s.advance t).blockRestart b 0 mc (some e)) ∧
  (∀ (s : State) (t m v : Nat), s.tState (wrap 8 v) = TaskState.faulted →
    completes (.taskRestartWrite t m v) s fun s' => s' = (s.advance t).restartTask (wrap 8 v)) ∧
  (∀ (s : State) (t m v : Nat), s.tState (wrap 8 v) ≠ TaskState.faulted →
    completes (.taskRestartWrite t m v) s fun s' => s.regsKeptBut s' recorderFlds ∧ s'.tasks = s.tasks ∧ s'.out = s.out) ∧
  (∀ (s : State) (t m x v : Nat),
    let a := s.advance t
    x < 256 → wrap 32 v ≤ 10000000 →
    (completes (.taskTimingWrite t m x false v) s fun s' =>
      s' = (a.setReg TASK.TASKt_FLOOR.FLOOR x v).mirrorReg (TASK.TASKt_FLOOR.FLOOR.addrOf x) (wrap 32 v)) ∧
    (50 ≤ wrap 32 v → completes (.taskTimingWrite t m x true v) s fun s' =>
      s' = (a.setReg TASK.TASKt_CEIL.CEIL x v).mirrorReg (TASK.TASKt_CEIL.CEIL.addrOf x) (wrap 32 v))) ∧
  (∀ (s : State) (t m x v : Nat), x < 256 → wrap 32 v < 50 ∨ 10000000 < wrap 32 v →
    completes (.taskTimingWrite t m x true v) s fun s' => s.regsKeptBut s' recorderFlds ∧ s'.tasks = s.tasks) ∧
  (∀ (s : State) (t b : Nat),
    let a := s.advance t
    b < 16 →
    completes (.coreWatchdogExpiry t b) s fun s' => s' = a.nextFree.blockRestart b 2 (a.freeVal 32)) ∧
  (∀ (s : State) (t b c mc e : Nat),
    let a := s.advance t
    b < 16 →
    completes (.blockRestart t b c mc e) s fun s' =>
      s' = a.blockRestart b c mc (some e)) ∧
  (∀ (s : State) (t b : Nat),
    let a := s.advance t
    s.reg BLK.STATUS.STATE b = BlockState.restarting → (a.tasksOn b).any (fun x => (a.task x).phase == .committing) = false →
    completes (.blockRestartDone t b) s fun s' =>
      s' = ({ a with tasks := { a.tasks with restartAt := a.tasks.restartAt.set b 0 } }.setReg BLK.STATUS.STATE b
        (if a.regionPower (b / 4) = 0 then BlockState.idle else BlockState.movingOut)).dispatch b) ∧
  (∀ (s : State) (t x : Nat),
    let a := ((s.advance t).setTState x ((s.advance t).restState x)).mirrorTask x
    s.tState x = TaskState.moving → completes (.taskMoveDone t x) s fun s' => s' = a.dispatch (a.tBlock x))

/-- R135, R136, R139, R140, R144, R305: an armed cell fires at its target; a change of a pin's level, of a filtered input after its filter
time, of a PULSE, a stretch or a phase window is followed by the reflex layer. Completes: compareFire, moveFire, fastPinEdge,
inputFilterElapsed, pulseEnd, phasewinChange, stretchEnd. -/
def Obligations.ReflexLayerFollowsEvents : Prop :=
  (∀ (s : State) (t c : Nat),
    let a := s.advance t
    c < 4096 → (s.reg CELL.CELLc_CTRL.MODE c = CellMode.once ∨ s.reg CELL.CELLc_CTRL.MODE c = CellMode.periodic) → a.cellDue c = true →
    completes (.compareFire t c) s fun s' => s' = a.fireCell c false) ∧
  (∀ (s : State) (t c : Nat),
    let a := (s.advance t).releaseHeld
    c < 4096 → a.reg CELL.CELLc_CTRL.MODE c = CellMode.move → a.cellDue c = true →
    completes (.moveFire t c) s fun s' => s' = a.fireCell c false) ∧
  (∀ (s : State) (t p : Nat) (l : Bool),
    let a := s.advance t
    p < 64 →
    (s.reg FPIN.PINp_CFG.DIR p = 0 → completes (.fastPinEdge t p l) s fun s' => s' = a) ∧
    (s.reg FPIN.PINp_CFG.DIR p = 1 → s.reg FPIN.PINp_FILT.FILT p ≠ 0 → completes (.fastPinEdge t p l) s fun s' =>
      s'.cells.rawSince.get p = a.now + 1 ∧ s'.cells.rawLevel.get p = l ∧ s'.regs = s.regs ∧ s'.cells.latch = s.cells.latch) ∧
    (s.reg FPIN.PINp_CFG.DIR p ≠ 0 → (s.reg FPIN.PINp_CFG.DIR p ≠ 1 ∨ s.reg FPIN.PINp_FILT.FILT p = 0) →
      completes (.fastPinEdge t p l) s fun s' =>
        s' = { a with cells := { a.cells with rawLevel := a.cells.rawLevel.set p l } }.setLevel p l)) ∧
  (∀ (s : State) (t p : Nat),
    let a := s.advance t
    p < 64 → s.cells.rawSince.get p ≠ 0 → s.cells.rawSince.get p - 1 + us (s.reg FPIN.PINp_FILT.FILT p) ≤ a.now →
    completes (.inputFilterElapsed t p) s fun s' =>
      s' = { a with cells := { a.cells with rawSince := a.cells.rawSince.set p 0 } }.setLevel p (s.cells.rawLevel.get p)) ∧
  (∀ (s : State) (t l : Nat),
    let a := s.advance t
    (s.cells.pulseEnd.get l).any a.pulseOver = true →
    completes (.pulseEnd t l) s fun s' =>
      s' = (a.endPulses l).settle) ∧
  (∀ (s : State) (l : Nat), (s.cells.pulseEnd.get l).any s.pulseOver = true →
    s.endPulses l = ({ s with cells := { s.cells with pulseEnd := s.cells.pulseEnd.set l ((s.cells.pulseEnd.get l).filter (fun e =>
      !s.pulseOver e)) } }).actLatch l 2) ∧
  (∀ (s : State) (t c : Nat),
    let a := s.advance t
    s.reg CELL.CELLc_CTRL.MODE c = CellMode.reflex →
    (completes (.phasewinChange t c) s fun s' => s' = a.settle) ∧
    ((s.cells.cell.get c).holdUntil ≤ a.now → completes (.stretchEnd t c) s fun s' => s' = a.settle))

/-- R136: the rule of a REFLEX cell over the inputs present, and its STORE modes: SET keeps a latch once set, CLEAR by input 3 wins. R140:
actions on one latch at one cell clock combine: CLEAR over SET over TOGGLE, and TOGGLEs toggle once. -/
def Obligations.ReflexRulesAndLatches : Prop :=
  (∀ x xs, ruleOf 0 x xs = xs.all id ∧ ruleOf 1 x xs = xs.any id ∧ ruleOf 2 x xs = (xs.count true % 2 == 1)) ∧
  (∀ (s : State) (c : Nat), s.reg CELL.CELLc_RULE.STORE c = 1 → (s.cells.cell.get c).q = true → (s.cells.cell.get c).clrReq = false →
    (s.reflexEval c).1 = true) ∧
  (∀ (s : State) (c : Nat), s.reg CELL.CELLc_RULE.STORE c = 2 → s.inputLevel c (s.selector c 3) = some true →
    (s.reflexEval c).1 = false) ∧
  (∀ (s : State) (c : Nat), (s.reflexEval c).1 = true → (s.cells.cell.get c).q = false →
    (s.reflexEval c).2.1 = s.now + s.reg CELL.CELLc_RULE.STRETCH c * Config.frame) ∧
  (∀ (s : State) (c : Nat), (s.reflexEval c).2.2 = ((s.reflexEval c).1 || decide (s.now < (s.reflexEval c).2.1))) ∧
  (∀ (s : State) (l : Nat), 64 ≤ l →
     ((s.actLatch l 1).actLatch l 2).cells.latch.get l = false ∧ ((s.actLatch l 2).actLatch l 1).cells.latch.get l = false ∧
     (s.cells.actT.get l ≠ s.clockAt + 1 →
       (s.actLatch l 4).cells.latch.get l = !s.cells.latch.get l ∧
       ((s.actLatch l 4).actLatch l 4).cells.latch.get l = !s.cells.latch.get l ∧
       ((s.actLatch l 4).actLatch l 1).cells.latch.get l = true) ∧
     ∀ k, k ≠ l → (s.actLatch l 1).cells.latch.get k = s.cells.latch.get k)

/-- R73, R137, R138, R147, R148, R231, R526: a CAPTURE cell stamps a selected edge and a WINDOW cell the span between two, with the epoch of the
stamp's instant; a second edge of one frame sets OVF alone; a measurement whose base changed its epoch is dropped, and one without an
end gives the over-range value; while the strand restarts an edge is kept. Completes: captureEdge, windowEdge, windowTimeout. -/
def Obligations.CaptureAndWindowStamps : Prop :=
  (∀ (s : State) (t c at_ : Nat) (r w : Bool), (s.advance t).records c CellMode.capture = true →
    (s.reg CELL.CELLc_RULE.EDGE c = 2 ∨ (s.reg CELL.CELLc_RULE.EDGE c = 0 ∧ s.edgeRises c r = true) ∨
      (s.reg CELL.CELLc_RULE.EDGE c = 1 ∧ s.edgeRises c r = false)) →
    ((s.cells.cell.get c).lastFrame = frameOf (s.seenAt c at_) →
      completes (.captureEdge t c at_ r w) s fun s' => s' = (s.advance t).setReg CELL.CELLc_STAT.OVF c 1) ∧
    ((s.cells.cell.get c).lastFrame ≠ frameOf (s.seenAt c at_) →
      let u := (s.advance t).updCell c (fun d => { d with lastFrame := frameOf (s.seenAt c at_) })
      let p := u.asOf (u.edgeInstant c at_)
      completes (.captureEdge t c at_ r w) s fun s' =>
        s' = (u.publish c (p.baseVal (s.reg CELL.CELLc_CTRL.BASE c)) (p.baseEpoch (s.reg CELL.CELLc_CTRL.BASE c))
          (p.baseSub (s.reg CELL.CELLc_CTRL.BASE c)) false w).blockInterrupt c)) ∧
  (∀ (s : State) (t c at_ : Nat) (r w : Bool), (s.advance t).records c CellMode.window = true →
    (s.cells.cell.get c).lastFrame ≠ frameOf (s.seenAt c at_) →
    let u := (s.advance t).updCell c (fun d => { d with lastFrame := frameOf (s.seenAt c at_) })
    let p := u.asOf (u.edgeInstant c at_)
    let b := s.reg CELL.CELLc_CTRL.BASE c
    let d := s.cells.cell.get c
    (d.winActive = false → startsWindow (s.reg CELL.CELLc_RULE.EDGE c) (s.edgeRises c r) = true →
      completes (.windowEdge t c at_ r w) s fun s' => s' = u.startWindow c (p.baseVal b) (p.baseSub b) (p.baseEpoch b)) ∧
    (d.winActive = true → endsWindow (s.reg CELL.CELLc_RULE.EDGE c) (s.edgeRises c r) = true →
      startsWindow (s.reg CELL.CELLc_RULE.EDGE c) (s.edgeRises c r) = false → d.winEpoch ≠ p.baseEpoch b →
      completes (.windowEdge t c at_ r w) s fun s' => s' = u.updCell c (fun d => { d with winActive := false })) ∧
    (d.winActive = true → endsWindow (s.reg CELL.CELLc_RULE.EDGE c) (s.edgeRises c r) = true →
      startsWindow (s.reg CELL.CELLc_RULE.EDGE c) (s.edgeRises c r) = false → d.winEpoch = p.baseEpoch b →
      completes (.windowEdge t c at_ r w) s fun s' =>
        s' = (u.updCell c (fun d => { d with winActive := false })).publish c
          (diffMod 66 (p.baseVal b * 4 + p.baseSub b) (d.winStart * 4 + d.winSub) / 4) (p.baseEpoch b)
          (if s.baseKind b = 0 then diffMod 66 (p.baseVal b * 4 + p.baseSub b) (d.winStart * 4 + d.winSub) % 4 else 0) true w)) ∧
  (∀ (s : State) (t c at_ : Nat) (r w : Bool), (s.advance t).records c CellMode.window = true →
    (if (s.cells.cell.get c).winActive then endsWindow (s.reg CELL.CELLc_RULE.EDGE c) (s.edgeRises c r)
      else startsWindow (s.reg CELL.CELLc_RULE.EDGE c) (s.edgeRises c r)) = true →
    (s.cells.cell.get c).lastFrame = frameOf (s.seenAt c at_) →
    completes (.windowEdge t c at_ r w) s fun s' => s' = (s.advance t).setReg CELL.CELLc_STAT.OVF c 1) ∧
  (∀ (s : State) (t c : Nat) (w : Bool), (s.advance t).records c CellMode.window = true → (s.cells.cell.get c).winActive = true →
    s.cellPeriod c ≤ diffMod 64 ((s.advance t).baseVal (s.reg CELL.CELLc_CTRL.BASE c)) (s.cells.cell.get c).winStart →
    completes (.windowTimeout t c w) s fun s' =>
      s' = ((s.advance t).updCell c (fun d => { d with winActive := false })).publish c (2 ^ 64 - 1) (s.cells.cell.get c).winEpoch 0 true w) ∧
  (∀ (s : State) (t c at_ : Nat) (r w : Bool), (s.advance t).keepsEdge c CellMode.capture = true →
    completes (.captureEdge t c at_ r w) s fun s' => s' = (s.advance t).keepEdge c at_ r) ∧
  (∀ (s : State) (t c at_ : Nat) (r w : Bool), (s.advance t).keepsEdge c CellMode.window = true →
    completes (.windowEdge t c at_ r w) s fun s' => s' = (s.advance t).keepEdge c at_ r)

/-- R63, R73, R137: a result is shown in RESULT with FIRED; without CQ nothing of the image changes; with it the entry takes the next number,
waits in the FIFO of the strand while the rate is spent or the FIFO passes nothing on (`w`, which the command says: the model's choice,
notes/assumptions/104.md), and is lost, counted and owed at a full FIFO. -/
def Obligations.ResultsArePublished : Prop :=
  ∀ (s : State) (c v e sub : Nat) (m w : Bool), c < 4096 → v < 2 ^ 64 →
    ((s.flag CELL.CELLc_STAT.CQ c = false ∨ s.ingressOn = false) →
      (s.publish c v e sub m w).reg CELL.CELLc_TARGET_LO.RESULT c = wrap 32 v ∧
      (s.publish c v e sub m w).reg CELL.CELLc_TARGET_HI.RESULT c = v / 2 ^ 32 ∧
      (s.publish c v e sub m w).reg CELL.CELLc_STAT.FIRED c = 1 ∧ (s.publish c v e sub m w).img = s.img ∧
      s.regsKeptBut (s.publish c v e sub m w) [CELL.CELLc_TARGET_LO.RESULT, CELL.CELLc_TARGET_HI.RESULT, CELL.CELLc_STAT.FIRED]) ∧
    (s.flag CELL.CELLc_STAT.CQ c = true → s.ingressOn = true → (s.rateFree = false ∨ w = true) →
      Config.strandFifo ≤ (s.cells.fifo.get (s.hostOf (strandOf c))).length →
      (s.publish c v e sub m w).reg CELL.CELLc_STAT.OVF c = 1 ∧ (s.publish c v e sub m w).img = s.img ∧
      (s.publish c v e sub m w).reg CELL.CQLOST.COUNT = satAdd CELL.CQLOST.COUNT.width (s.reg CELL.CQLOST.COUNT) 1 ∧
      ((s.publish c v e sub m w).cells.cell.get c).lossOwed = true) ∧
    (s.flag CELL.CELLc_STAT.CQ c = true → s.ingressOn = true → s.cells.fifo = [] → s.rateFree = true → w = false →
      (s.publish c v e sub m w).img.seq = wrap 64 (s.img.seq + 1)) ∧
    (s.flag CELL.CELLc_STAT.CQ c = true → s.ingressOn = true → s.cells.fifo = [] → (s.rateFree = false ∨ w = true) →
      (s.publish c v e sub m w).img = s.img ∧
      (((s.publish c v e sub m w).cells.fifo.get (s.hostOf (strandOf c))).map (·.stamp)) = [v])

/-- R131 to R133, R136, R523: who may write a descriptor: its owner task with RTW, and the bridge, which leaves a NOTE; another task takes
an access fault, any other master is refused, and at a cell without RTW every write is. A staged word waits for CTRL, a write of CTRL
keeps the shape of the cell, RULE.CLR clears its latch. See notes/assumptions/25.md for statuses. Completes: cellStageWrite,
cellCtrlWrite, ruleClrWrite. -/
def Obligations.CellWritesAreGuarded : Prop :=
  (∀ (s : State) (t m c off v pc : Nat),
    let a := s.advance t
    c < 4096 →
    (∀ x, m < 16 → s.cycleTask m = some x → (s.cells.cfg.get c).owner = some x → s.flag CELL.CELLc_STAT.RTW c = true →
      (completes (.cellStageWrite t m c off v pc) s fun s' => s' = (a.mirrorCell c off v).stageWord c off v) ∧
      (completes (.cellCtrlWrite t m c v pc) s fun s' => s' = a.writeCtrl m c v) ∧
      (bitOf 5 v = true → completes (.ruleClrWrite t m c v pc) s fun s' => s' = (a.mirrorCell c 0x18 v).clearLatch c)) ∧
    (∀ x, m < 16 → s.cycleTask m = some x → (s.cells.cfg.get c).owner ≠ some x → s.flag CELL.CELLc_STAT.RTW c = true →
      completes (.cellStageWrite t m c off v pc) s fun s' =>
        s' = a.nextFree.takeException m x 7 pc (cellAddr c off) TaskCause.access (cellAddr c off) (a.freeVal 32)) ∧
    (m = 36 → s.flag CELL.CELLc_STAT.RTW c = true →
      completes (.cellStageWrite t m c off v pc) s fun s' =>
        s' = ((a.note 3 c [(4, cellAddr c off)]).mirrorCell c off v).stageWord c off v) ∧
    (s.flag CELL.CELLc_STAT.RTW c = false ∨ (16 ≤ m ∧ m ≠ 36) → completes (.cellStageWrite t m c off v pc) s fun s' =>
        s' = a.writeRefused (cellAddr c off) m 3 ∧ s'.cells = s.cells ∧ s.regsKeptBut s' recorderFlds)) ∧
  (∀ (s : State) (m c v : Nat), s.sameShape c v = false → s.writeCtrl m c v = s.writeRefused (cellAddr c 0) m 4) ∧
  (∀ (s : State) (m c v : Nat), s.sameShape c v = true → s.periodOk c = false → s.writeCtrl m c v = s.writeRefused (cellAddr c 0) m 2) ∧
  (∀ (s : State) (m c v : Nat), s.sameShape c v = true → s.periodOk c = true → s.writeCtrl m c v = ((s.mirrorCell c 0 v).endFrame [c]).applyCtrl c v)

/-- R147 to R149, R467: after a self-check failure the cell keeps its state until the next frame; the failure counts against the cell's
budget and, when that is spent, retires it; a retired cell takes a
spare of its strand at a safe point or after 1 ms, and without a spare its strand retires or the cell is DEAD; a parity error restarts
its strand, whose cells then meet what was kept for them, and the cells of a retired strand move to its backup, or are DEAD when that is
retired too. Completes: selfCheckFail, cellRemap, strandParityError, strandRestartDone, strandMove. -/
def Obligations.CellsAndStrandsAreReplaced : Prop :=
  (∀ (s : State) (t c : Nat), c < 4096 → s.flag CELL.CELLc_STAT.DEAD c = false →
    let a := (s.advance t).addReg CELL.CHKCNT.COUNT 0 1
    let next := (a.now / Config.frame + 1) * Config.frame
    let k := a.updCell c (fun d => { d with keepUntil := next })
    let u := ({ k with cells := { k.cells with moved := max k.cells.moved next } }).occur 1 c (0x0C0 + c / 256)
    let b := (u.setReg CELL.CELLc_STAT.CHKFAIL c (min 15 (u.life.occ.get (itemKey 1 c)).length)).note 3 c []
    completes (.selfCheckFail t c) s fun s' =>
      s' = (if b.permanent 1 c = true ∧ (b.cells.cell.get c).retired = false then b.retireCell c else b).settle) ∧
  (∀ (s : State) (t c : Nat), (s.cells.cell.get c).retired = true → s.flag CELL.CELLc_STAT.DEAD c = false →
    s.reg CELL.STRANDs_STAT.SPARES (s.hostOf (strandOf c)) < 4 →
    (s.advance t).safePoint c = true ∨ (s.cells.cell.get c).remapAt + msec 1 ≤ max s.now t →
    completes (.cellRemap t c) s fun s' =>
      s' = ((((((s.advance t).updCell c (fun d => { d with retired := false })).updCell c (fun d => { d with spares := d.spares + 1 })).addReg
        CELL.STRANDs_STAT.SPARES (s.hostOf (strandOf c)) 1).showRemaps [c]).note 3 c []).settle) ∧
  (∀ (s : State) (t n : Nat), n < 128 → s.reg CELL.STRANDs_STAT.STATE n ≠ 2 →
    let a := ((s.advance t).setReg CELL.STRANDs_STAT.STATE n 1).addReg CELL.STRANDs_STAT.RESTARTS n 1
    let b := ({ a with cells := { a.cells with strandRestart := a.cells.strandRestart.set n (a.now + 1) } }.occur 2 n (0x0B0 + n / 8)).note
      4 n []
    completes (.strandParityError t n) s fun s' => s' = if b.permanent 2 n then b.retireStrand n else b) ∧
  (∀ (s : State) (t n : Nat), n < 128 → s.reg CELL.STRANDs_STAT.STATE n = 1 →
    let a := s.advance t
    completes (.strandRestartDone t n) s fun s' =>
      s' = ({ a with cells := { a.cells with strandRestart := a.cells.strandRestart.set n 0 } }.setReg
        CELL.STRANDs_STAT.STATE n 0).resumeStrand) ∧
  (∀ (s : State) (t n : Nat), n < 128 → s.cells.strandMoving.get n = true →
    let a := { s.advance t with cells := { s.cells with strandMoving := s.cells.strandMoving.set n false } }
    completes (.strandMove t n) s fun s' =>
      s' = if s.isRetired 2 (s.reg CELL.STRANDs_CFG.BACKUP n) then a.each (a.strandCells n) State.killCell
        else a.moveStrand n (s.reg CELL.STRANDs_CFG.BACKUP n)) ∧
  (∀ (s : State) (c : Nat), 4 ≤ s.reg CELL.STRANDs_STAT.SPARES (s.hostOf (strandOf c)) →
    s.takeSpare c = (if s.flag CELL.STRANDs_CFG.BACKUP_EN (s.hostOf (strandOf c)) then
      (s.updCell c (fun d => { d with retired := false })).retireStrand (s.hostOf (strandOf c))
      else (s.updCell c (fun d => { d with retired := false })).killCell c))

/-- R159: what a class distributes is never more than there is, no account gets more than it needs, and when there is enough every need is
paid in full. R159, R161: after a refill no block's account lies above its quota and the SYSD account not above 10,000 µJ; a debit lowers
one account and changes no other register. -/
def Obligations.EnergyIsDistributedFairly : Prop :=
  (∀ (d : Nat) (needs : List (Nat × Nat × Nat)),
     ((distribute d needs).map Prod.snd).sum ≤ d ∧
     (distribute d needs).map Prod.fst = (needs.filter (fun x => x.2.1 != 0)).map Prod.fst ∧
     (∀ x ∈ (distribute d needs).zip (needs.filter (fun x => x.2.1 != 0)), x.1.2 ≤ x.2.2.1) ∧
     ((needs.map (fun x => x.2.1)).sum ≤ d → (distribute d needs).map Prod.snd = (needs.filter (fun x => x.2.1 != 0)).map (fun x => x.2.1)) ∧
     (d ≤ (needs.map (fun x => x.2.1)).sum → ((distribute d needs).map Prod.snd).sum = d)) ∧
  (∀ (s : State) (n b : Nat), b < 16 → (s.refill n).account b ≤ (s.refill n).quota b) ∧
  (∀ (s : State) (n : Nat), (s.refill n).acct sysd ≤ 10000) ∧
  (∀ (s : State) (b e : Nat), b < 16 → -(2 : Int) ^ 31 ≤ s.account b - e →
    (s.debit b e).account b = s.account b - e ∧ (∀ c, c < 16 → c ≠ b → (s.debit b e).account c = s.account c) ∧
    s.regsKeptBut (s.debit b e) [KETTLE.BLKb_ACCT.ACCT])

/-- R158, R159: a refill tick books the meters and the energy of SYSD, refills, counts itself, and every block takes a dispatch decision.
R173, R174: a measured pool of at most 750 mA with less than 720 mA of safety current shows its values alone; beyond it the pool limits;
the limit rises by 5 mA, to 50 mA at most. Completes: kettleRefill, poolMeasure, poolLimitRise. -/
def Obligations.RefillAndPoolLimits : Prop :=
  (∀ (s : State) (t n u : Nat) (p b : List Nat),
     let a := ((s.advance t).each (p.zip (List.range 16)) (fun s x => s.setReg KETTLE.BLKb_POWER.MW x.2 (min x.1 65535))).each
       (b.zip (List.range 16)) (fun s x => s.setReg BLK.LOAD.BUSY x.2 (min x.1 10000))
     completes (.kettleRefill t n u p b) s fun s' =>
       s' = (((a.setAcct sysd (a.acct sysd - u)).refill n).bumpReg KETTLE.TICKS.COUNT 0).dispatchAll) ∧
  (∀ (s : State) (t total safe : Nat), total ≤ 750 → safe < 720 →
    completes (.poolMeasure t total safe) s fun s' =>
      s'.reg KETTLE.POOL_I.TOTAL = total ∧ s'.reg KETTLE.POOL_I.SAFE = safe ∧ s'.reg KETTLE.POOL_STAT.SAFE_HIGH = 0 ∧
      s.regsKeptBut s' [KETTLE.POOL_I.TOTAL, KETTLE.POOL_I.SAFE, KETTLE.POOL_STAT.SAFE_HIGH] ∧ s'.kettle = s.kettle) ∧
  (∀ (s : State) (t total safe : Nat),
    let a := ((((s.advance t).setReg KETTLE.POOL_I.TOTAL 0 (min total 4095)).setReg KETTLE.POOL_I.SAFE 0 (min safe 4095)).setFlag
      KETTLE.POOL_STAT.SAFE_HIGH 0 false).startLimiting total safe
    750 < total → safe < 720 →
    completes (.poolMeasure t total safe) s fun s' =>
      s' = { a.setReg KETTLE.POOL_STAT.LIMIT 0 (poolLimit safe a.energised) with
        kettle := { a.kettle with limitSince := a.now, lastRise := 0 } }) ∧
  (∀ (s : State) (t : Nat), s.flag KETTLE.POOL_STAT.LIMITING = true → s.flag KETTLE.POOL_STAT.SAFE_HIGH = false →
    s.kettle.limitSince + msec 100 ≤ max s.now t → (s.kettle.lastRise = 0 ∨ s.kettle.lastRise - 1 + msec 10 ≤ max s.now t) →
    s.reg KETTLE.POOL_STAT.LIMIT < 45 →
    completes (.poolLimitRise t) s fun s' =>
      s'.reg KETTLE.POOL_STAT.LIMIT = s.reg KETTLE.POOL_STAT.LIMIT + 5 ∧ s.regsKeptBut s' [KETTLE.POOL_STAT.LIMIT] ∧
      s'.kettle.lastRise = max s.now t + 1) ∧
  (∀ (s : State) (t : Nat), s.flag KETTLE.POOL_STAT.LIMITING = true → s.flag KETTLE.POOL_STAT.SAFE_HIGH = false →
    s.kettle.limitSince + msec 100 ≤ max s.now t → (s.kettle.lastRise = 0 ∨ s.kettle.lastRise - 1 + msec 10 ≤ max s.now t) →
    45 ≤ s.reg KETTLE.POOL_STAT.LIMIT →
    completes (.poolLimitRise t) s fun s' =>
      s'.reg KETTLE.POOL_STAT.LIMIT = 50 ∧ s'.reg KETTLE.POOL_STAT.LIMITING = 0 ∧ s'.reg KETTLE.STAT.POOL_LIMITING = 0 ∧
      s.regsKeptBut s' ([KETTLE.POOL_STAT.LIMIT, KETTLE.POOL_STAT.LIMITING, KETTLE.STAT.POOL_LIMITING] ++ recorderFlds))

/-- R154, R156, R168 to R172: temperatures enter and leave heat levels, clock levels and derate steps one at a time, and an overheated
region stops, is powered off and on again. One level a command is notes/assumptions/18.md. Completes: sensorSample, heatLevelLeave,
clockLevelLeave, derateLeave, regionStopWindowEnd, regionPowerOff, regionPowerOn. -/
def Obligations.HeatAndRegions : Prop :=
  (∀ (s : State) (t : Nat) (x y : List Int) (i : Int),
    let a := (s.advance t).each ((List.range 4).zip (x.zip y)) (fun s z => (s.readRegion z.1 z.2.1 z.2.2).regionHeat z.1)
    completes (.sensorSample t x y i) s fun s' => s' = a.showWarm.readInterior i) ∧
  (∀ (s : State) (t r : Nat),
    let a := s.advance t
    r < 4 → s.heat r ≠ 0 → s.heat r < 4 → a.secondPast s.kettle.heatBelow (4 * r + s.heat r) = true →
    completes (.heatLevelLeave t r) s fun s' =>
      s'.heat r = s.heat r - 1 ∧ s.regsKeptBut s' [KETTLE.RGNr_STATE.HEAT, KETTLE.STAT.ANY_WARM] ∧ s'.kettle = s.kettle) ∧
  (∀ (s : State) (t r : Nat),
    let a := s.advance t
    r < 4 → s.reg KETTLE.RGNr_FCAP.FMAX r < s.reg KETTLE.RGNr_STATE.FLEVEL r → s.reg KETTLE.RGNr_STATE.FLEVEL r < 4 →
    (s.regionTemp r).isSome = true → a.secondPast s.kettle.clockBelow (4 * r + s.reg KETTLE.RGNr_STATE.FLEVEL r) = true →
    (s.kettle.clockStepAt.get r = 0 ∨ s.kettle.clockStepAt.get r - 1 + sec 1 ≤ a.now) →
    completes (.clockLevelLeave t r) s fun s' =>
      s'.reg KETTLE.RGNr_STATE.FLEVEL r = s.reg KETTLE.RGNr_STATE.FLEVEL r - 1 ∧ s.regsKeptBut s' [KETTLE.RGNr_STATE.FLEVEL] ∧
      s'.kettle.clockStepAt.get r = a.now + 1) ∧
  (∀ (s : State) (t : Nat),
    let a := s.advance t
    s.reg KETTLE.BUDGET_EFF.DERATE ≠ 0 → a.secondPast s.kettle.derateBelow (s.reg KETTLE.BUDGET_EFF.DERATE) = true →
    completes (.derateLeave t) s fun s' =>
      s' = a.setDerate (s.reg KETTLE.BUDGET_EFF.DERATE - 1) (s.reg KETTLE.INT_TEMP.TEMP)) ∧
  (∀ (s : State) (t r : Nat),
    let a := s.advance t
    r < 4 → s.regionPower r = 1 → s.kettle.stopAt.get r ≠ 0 → s.kettle.stopAt.get r - 1 + msec 1 ≤ a.now →
    completes (.regionStopWindowEnd t r) s fun s' =>
      s' = (((a.each (regionBlocks r) State.loseCyclesOn).emptyRegion r).settleHold).when
        ((((a.each (regionBlocks r) State.loseCyclesOn).emptyRegion r).settleHold).homeless r) State.preferPartner) ∧
  (∀ (s : State) (t r : Nat),
    let a := s.advance t
    r < 4 → s.regionPower r = 1 →
    ((regionBlocks r).all (fun b => (s.tasksOn b).isEmpty) = true ∨ s.kettle.stopAt.get r - 1 + msec 50 ≤ a.now) →
    completes (.regionPowerOff t r) s fun s' => s' = (a.regionOff r).showRegions) ∧
  (∀ (s : State) (t r : Nat),
    let a := ((((s.advance t).setReg KETTLE.RGNr_STATE.POWER r 0).setReg KETTLE.RGNr_STATE.HEAT r 0).clearRegionMemory r).setReg
      KETTLE.RGNr_STATE.FLEVEL r (s.reg KETTLE.RGNr_FCAP.FMAX r)
    let b := { a with kettle := { a.kettle with coolSince := a.kettle.coolSince.set r 0 } }.each (regionBlocks r) (fun s b =>
      if s.reg BLK.STATUS.STATE b = BlockState.stopped then s.setReg BLK.STATUS.STATE b BlockState.idle else s)
    r < 4 → s.regionPower r = 2 → s.kettle.coolSince.get r ≠ 0 → s.kettle.coolSince.get r - 1 + sec 60 ≤ max s.now t →
    completes (.regionPowerOn t r) s fun s' =>
      s' = ((b.showRgn r).record 0x203 r .info [(2, tempBits ((b.showRgn r).regionTemp r))]).showRegions.showWarm)

/-- R168, R171: a region that is powered off is OFF and keeps its heat level, none of its blocks has a task on its core, no other region's
power state changes, and no memory outside the region loses a word. -/
def Obligations.PoweredOffRegionLosesItsOwn : Prop :=
  ∀ (s : State) (r : Nat), r < 4 →
    (s.regionOff r).regionPower r = 2 ∧ (∀ q, q < 4 → (s.regionOff r).heat q = s.heat q) ∧
    (∀ b ∈ regionBlocks r, (s.regionOff r).current b = none) ∧
    (∀ q, q < 4 → q ≠ r → (s.regionOff r).regionPower q = s.regionPower q) ∧
    (∀ k, k / 2 ^ 36 ≤ 1 → (s.regionOff r).leaf.data.get k = s.leaf.data.get k) ∧
    (s.regionOff r).img = s.img ∧ (s.regionOff r).tasks = s.tasks

/-- R116, R155, R164, R165, R167, R172: what a write of REHOME, of a quota or of the budget does, and that a value out of range is refused.
Completes: rehomeWrite, quotaWrite, budgetWrite. -/
def Obligations.KettleWrites : Prop :=
  (∀ (s : State) (t m v : Nat),
    let a := s.advance t
    completes (.rehomeWrite t m v) s fun s' =>
      s' = a.each ((List.range 4).filter (fun r => bitOf r v && a.regionPower r == 0)) (fun s r =>
        s.each (s.moveOrder (s.taskList.filter (fun t => s.reg TASK.TASKt_CFG.HOME t / 4 == r && s.tBlock t != s.reg TASK.TASKt_CFG.HOME t)))
          State.goHome)) ∧
  (∀ (s : State) (t m k v : Nat),
    let a := ((s.advance t).setReg KETTLE.BLKb_QUOTA.QUOTA k (wrap 32 v)).mirrorReg (KETTLE.BLKb_QUOTA.QUOTA.addrOf k) (wrap 32 v)
    let b := (a.setAccount k (min (a.account k) (wrap 32 v))).each ((a.setAccount k (min (a.account k) (wrap 32 v))).tasksOn k) State.feed
    k < 16 → s.reg KETTLE.BLKb_RA.RA k ≤ wrap 32 v → wrap 32 v ≤ 0x7FFFFFFF →
    completes (.quotaWrite t m k v) s fun s' =>
      s' = b.each ((b.tasksOn k).filter (fun t => (b.task t).phase == .none)) State.checkStarved) ∧
  (∀ (s : State) (t m k v : Nat), k < 16 → (wrap 32 v < s.reg KETTLE.BLKb_RA.RA k ∨ 0x7FFFFFFF < wrap 32 v) →
    completes (.quotaWrite t m k v) s fun s' => s.regsKeptBut s' recorderFlds ∧ s'.tasks = s.tasks) ∧
  (∀ (s : State) (t m v : Nat), bitField 0 10 v ≤ s.reg KETTLE.BUDGET.IMAGE → 100 ≤ bitField 0 10 v →
    2 * s.classATotal ≤ bitField 0 10 v * 100 →
    completes (.budgetWrite t m v) s fun s' =>
      s' = ((s.advance t).setReg KETTLE.BUDGET.BUDGET 0 (bitField 0 10 v)).mirrorReg (KETTLE.BUDGET.BUDGET.addrOf 0) (bitField 0 10 v)) ∧
  (∀ (s : State) (t m v : Nat), (s.reg KETTLE.BUDGET.IMAGE < bitField 0 10 v ∨ bitField 0 10 v < 100) →
    completes (.budgetWrite t m v) s fun s' => s.regsKeptBut s' recorderFlds ∧ s'.kettle = s.kettle)

/-- R178 to R180, R182, R189 to R191, R194, R195, R197, R199, R220, R468: what a ring does on a period start and a guard, on the frames that
come back or come from others, and on a link: a retired port takes no frame and sends none, a port without a link sends none, and the epoch
of a valid frame is seen. Admission counts are notes/assumptions/31.md, first periods notes/assumptions/34.md. Completes:
periodStart, periodEarlyGuard, periodGuard, inputSegmentRx, identRx, cycleRx, moduleFrameReturn, foreignFrameRx, ringFrameInvalid,
stationPortLinkDown, stationPortLinkUp. -/
def Obligations.RingEvents : Prop :=
  (∀ (s : State) (t r : Nat),
    let a := s.advance t
    r < 2 → a.originates r = true → a.periodReached r = true →
    (a.pastEarly r = true → completes (.periodStart t r) s fun s' => s' = (a.startPeriod r (s.ring r).early).resignAtPeriod) ∧
    (a.pastEarly r = false → completes (.periodStart t r) s fun s' => s' = a.updRing r (fun d => { d with early := true })) ∧
    (a.pastEarly r = true → completes (.periodEarlyGuard t r) s fun s' => s' = (a.startPeriod r true).resignAtPeriod)) ∧
  (∀ (s : State) (t r : Nat),
    let a := s.advance t
    r < 2 → a.originates r = true → (s.ring r).startAt ≠ 0 → (s.ring r).startAt - 1 + 3 * a.periodTime r / 2 ≤ a.now →
    completes (.periodGuard t r) s fun s' => s' = (a.startPeriod r true).resignAtPeriod) ∧
  (∀ (s : State) (t r st ep pe seq seg first h : Nat) (rev : Bool) (vals : List (Nat × Nat)),
    let a := ((s.advance t).forward r rev h).seeRing ep
    r < 2 → s.takesFrame r rev = true → s.mode.runtimeRuns = true → st < 128 → seg < 64 → seg % 8 < bitField 3 3 seg + 1 →
    s.flag STN.RINGr_STAa_CFG.PRESENT (staKey r st) = true → first + vals.length ≤ (s.rings.cfg.get (staKey r st)).inputs.length →
    vals.length ≤ 512 →
    (wrap 32 ep ≠ a.ringEpoch r → completes (.inputSegmentRx t r rev st ep pe seq seg first h vals) s fun s' =>
      s' = a.addReg STN.RINGr_OLDEP.COUNT r 1) ∧
    (wrap 32 ep = a.ringEpoch r → ((s.ring r).counted = false ∨ wrap 32 pe ≠ s.reg STN.RINGr_PERIOD.NUM r) →
      completes (.inputSegmentRx t r rev st ep pe seq seg first h vals) s fun s' =>
        s' = (a.addReg STN.RINGr_LATE.COUNT r 1).addReg STN.RINGr_STAa_CNT.LATE (staKey r st) 1) ∧
    (wrap 32 ep = a.ringEpoch r → (s.ring r).counted = true → wrap 32 pe = s.reg STN.RINGr_PERIOD.NUM r →
      completes (.inputSegmentRx t r rev st ep pe seq seg first h vals) s fun s' =>
        s' = a.collect r (staKey r st) rev (wrap 16 seq) (seg % 8) (bitField 3 3 seg + 1) first vals)) ∧
  (∀ (s : State) (t r st pe nin nout lay ver h : Nat) (rev : Bool),
    let a := (s.advance t).forward r rev h
    let b := a.updSta (staKey r st) (fun d => { d with ident := wrap 32 pe + 1 })
    r < 2 → s.takesFrame r rev = true → st < 128 → s.mode.runtimeRuns = true → s.flag STN.RINGr_STAa_CFG.PRESENT (staKey r st) = true →
    (s.rings.sta.get (staKey r st)).ident ≠ wrap 32 pe + 1 →
    (nin = (s.rings.cfg.get (staKey r st)).inputs.length → nout = (s.rings.cfg.get (staKey r st)).outputs.length →
      wrap 32 lay = s.reg STN.RINGr_STAa_LAYOUT.LAYOUT (staKey r st) → s.staState (staKey r st) = StaState.absent →
      completes (.identRx t r rev st pe nin nout lay ver h) s fun s' =>
        s' = ((((b.setReg STN.RINGr_STAa_STAT.STATE (staKey r st) StaState.admitting).setReg STN.RINGr_STAa_STAT.ADMIT (staKey r st) 0).setReg
          STN.RINGr_STAa_STAT.MISS (staKey r st) 0).resetSource (staKey r st)).updSta (staKey r st)
            (fun d => { d with admitK := b.reg STN.RINGr_PERIOD.NUM r + 1, valid := false })) ∧
    (nin ≠ (s.rings.cfg.get (staKey r st)).inputs.length → s.staState (staKey r st) ≠ StaState.good →
      completes (.identRx t r rev st pe nin nout lay ver h) s fun s' => s' = b.rejectStation (staKey r st) (wrap 32 lay))) ∧
  (∀ (s : State) (t r ep pe ps be bs h : Nat) (rev : Bool),
    let a := ((s.advance t).forward r rev h).seeRing (wrap 32 ep)
    r < 2 → s.takesFrame r rev = true → s.mode.runtimeRuns = true →
    (a.originates r = true → laterMod 32 (wrap 32 ep) (s.reg PAIR.EPOCH.EPOCH) = true →
      completes (.cycleRx t r rev ep pe ps be bs h) s fun s' =>
        s' = (a.setReg STN.RINGr_STAT.EPOCH_HIGH r 1).each [0, 1] (fun s q => s.updRing q (fun d => { d with silenced := true }))) ∧
    (a.originates r = false → s.mode = .standby → (s.ring r).heard = false →
      completes (.cycleRx t r rev ep pe ps be bs h) s fun s' =>
        (s'.ring r).heard = true ∧ (s'.ring r).rxEpoch = wrap 32 ep ∧ (s'.ring r).counted = true ∧
        s'.reg STN.RINGr_PERIOD.NUM r = wrap 32 pe)) ∧
  (∀ (s : State) (t r st ep pe x y z w h : Nat) (rev : Bool) (vals : List (Nat × Nat)), s.takesFrame r rev = false →
    completes (.inputSegmentRx t r rev st ep pe x y z h vals) s (fun s' => s' = s.advance t) ∧
    completes (.identRx t r rev st pe x y z w h) s (fun s' => s' = s.advance t) ∧
    completes (.cycleRx t r rev ep pe x y z h) s (fun s' => s' = s.advance t)) ∧
  (∀ (s : State) (t r pe : Nat) (l : Bool),
    let a := (s.advance t).updRing r (fun d => { d with returned := d.returned || l })
    r < 2 → (s.ring r).counted = true → wrap 32 pe = s.reg STN.RINGr_PERIOD.NUM r →
    ((s.ring r).inRing = false → completes (.moduleFrameReturn t r pe l) s fun s' => s' = a) ∧
    ((s.ring r).inRing = true → completes (.moduleFrameReturn t r pe l) s fun s' =>
      s'.reg STN.RINGr_RETURN.TIME r = min ((max s.now t - ((s.ring r).startAt - 1)) / 400) 65535 ∧
      s.regsKeptBut s' [STN.RINGr_RETURN.TIME])) ∧
  (∀ (s : State) (t : Nat), s.mode.runtimeRuns = true →
    completes (.foreignFrameRx t) s fun s' =>
      s'.reg STN.FOREIGN.COUNT = satAdd STN.FOREIGN.COUNT.width (s.reg STN.FOREIGN.COUNT) 1 ∧ s.regsKeptBut s' [STN.FOREIGN.COUNT] ∧
      s'.out = s.out ∧ s'.img = s.img) ∧
  (∀ (s : State) (t p h : Nat), p < 4 → s.mode.runtimeRuns = true → s.flag STN.PORTp_STAT.RETIRED p = false →
    (completes (.ringFrameInvalid t p false h) s fun s' =>
      s'.reg STN.PORTp_STAT.FCS p = satAdd STN.PORTp_STAT.FCS.width (s.reg STN.PORTp_STAT.FCS p) 1 ∧
      s.regsKeptBut s' [STN.PORTp_STAT.FCS] ∧ s'.out = s.out) ∧
    completes (.ringFrameInvalid t p true h) s (fun s' =>
      s' = ((s.advance t).forward (p / 2) (p % 2 == 0) h).addReg STN.FRAMEERR.COUNT 0 1)) ∧
  (∀ (s : State) (t p h : Nat) (f : Bool), s.flag STN.PORTp_STAT.RETIRED p = true →
    completes (.ringFrameInvalid t p f h) s fun s' => s' = s.advance t) ∧
  (∀ (s : State) (r h : Nat) (rev : Bool), s.mode ≠ .off → 2 ≤ h →
    (s.portSends (leavePort r rev) = true → s.forward r rev h = s.emit (.forward r rev (h - 1))) ∧
    (s.portSends (leavePort r rev) = false → s.forward r rev h = s)) ∧
  (∀ (s : State) (t p : Nat),
    let a := (((s.advance t).sense STN.PORTp_STAT.LINK p 0).note 8 (0x100 + p) []).occur 7 p (0x130 + p)
    p < 4 → s.sensed STN.PORTp_STAT.LINK p = true →
    (a.permanent 7 p = false → completes (.stationPortLinkDown t p) s fun s' => s' = a) ∧
    (a.permanent 7 p = true → a.flag STN.PORTp_STAT.RETIRED p = false → completes (.stationPortLinkDown t p) s fun s' =>
      s' = (a.setReg STN.PORTp_STAT.RETIRED p 1).retireItem 7 p 8 (0x100 + p) 0x8E0)) ∧
  (∀ (s : State) (t p : Nat), p < 4 → s.flag STN.PORTp_STAT.RETIRED p = false →
    completes (.stationPortLinkUp t p) s fun s' =>
      s'.reg STN.PORTp_STAT.LINK p = 1 ∧ s.regsKeptBut s' [STN.PORTp_STAT.LINK])

/-- R195, R199, R200: a station's complete input set reaches the image of a GOOD station alone, and an absent station's set is not even
judged; the eighth valid period of an admission makes the station GOOD. Which periods count is notes/assumptions/31.md. -/
def Obligations.StationsAreAdmitted : Prop :=
  (∀ (s : State) (r k seq : Nat) (sl : List (Nat × Nat × Nat)), s.staState k ≠ StaState.good → s.staState k ≠ StaState.admitting →
    s.stationInput r k seq sl = s) ∧
  (∀ (s : State) (r k seq : Nat) (sl : List (Nat × Nat × Nat)), r < 2 → k < 256 → s.staState k = StaState.admitting →
    (s.rings.sta.get k).admitK ≠ s.reg STN.RINGr_PERIOD.NUM r + 1 → (judgeSeq 16 (s.img.src.get k) seq).1 = true →
    (s.rings.sta.get k).valid = false → s.reg STN.RINGr_STAa_STAT.ADMIT k + 1 < 8 →
    (s.stationInput r k seq sl).reg STN.RINGr_STAa_STAT.ADMIT k = s.reg STN.RINGr_STAa_STAT.ADMIT k + 1 ∧
    (s.stationInput r k seq sl).staState k = StaState.admitting ∧ (s.stationInput r k seq sl).img.slots = s.img.slots)

/-- R223, R224: a record of a set that is not whole yet changes nothing but the set; the last record of a set that is not a SYNC set makes
all its records apply, each under its own number, and MSEQ_APPLIED shows it; a unit that does not follow the stream ignores it. R225,
R266: a whole SYNC set is staged and acknowledged and applies with its GRANT; a 65th staged set, or a GRANT for a set the unit does not
hold, sends it to SYNC with MIRROR OVERFLOW. A set of one record applies at once: each kind of record by name. The number that names a set
is notes/assumptions/35.md. A COMMIT gives the task's previous and last number (R103, R122). Completes: commitRecord, slotRecord, lineRecord, ingressRecord, captureRecord, forceRecord, taskstRecord,
regwRecord, cellwRecord, safetyRecord, timeRecord, stepRecord, bulkRecord, grantRecord. -/
def Obligations.StreamRecordsApplyInSets : Prop :=
  (∀ (c : Instr) (s : State) (t : Nat) (h : RecHead) (b : MBody), recordOf c = some (t, h, b) →
     (s.follows = true → h.last = false →
       completes c s fun s' => s' = (s.advance t).updPair (fun p => { p with rxSet := p.rxSet ++ [h.record b] })) ∧
     (s.follows = true → h.last = true → (s.pair.rxSet ++ [h.record b]).any (·.sync) = false →
       completes c s fun s' =>
         s' = (((s.advance t).updPair (fun p => { p with rxSet := [] })).applySet (s.pair.rxSet ++ [h.record b]) none).setReg
           PAIR.MSEQ_APPLIED.MSEQ 0 (wrap 32 h.mseq)) ∧
     (s.follows = true → h.last = true → (s.pair.rxSet ++ [h.record b]).any (·.sync) = true →
       completes c s fun s' =>
         s' = ((s.advance t).updPair (fun p => { p with rxSet := [] })).stageSet (wrap 32 h.mseq) (s.pair.rxSet ++ [h.record b])) ∧
     (s.follows = false → completes c s fun s' => s' = s.advance t)) ∧
  (∀ (s : State) (m : Nat) (l : List MRec), s.pair.prepared.length < 64 → changeId l = none →
    s.stageSet m l = (s.updPair (fun p => { p with prepared := p.prepared ++ [{ mseq := m, recs := l }], stagedMseq := m })).sendAck) ∧
  (∀ (s : State) (m : Nat) (l : List MRec), 64 ≤ s.pair.prepared.length → s.stageSet m l = s.catchUp 9) ∧
  (∀ (s : State) (t m : Nat) (h : RecHead) (p : Machine.PSet), s.follows = true → s.pair.prepared.find? (fun p => p.mseq == wrap 32 m) = some p →
    completes (.grantRecord t h m) s fun s' =>
      s' = (((s.advance t).updPair (fun q => { q with prepared := q.prepared.filter (fun x => x.mseq != p.mseq) })).applyPrepared p
        (wrap 64 h.seq64)).setReg PAIR.MSEQ_APPLIED.MSEQ 0 h.mseq) ∧
  (∀ (s : State) (t m : Nat) (h : RecHead), s.follows = true → s.pair.prepared.find? (fun p => p.mseq == wrap 32 m) = none →
    completes (.grantRecord t h m) s fun s' => s' = (s.advance t).catchUp 9) ∧
  (∀ (s : State) (t : Nat) (h : RecHead) (task block slots lines : Nat), s.follows = true → h.last = true → h.sync = false → s.pair.rxSet = [] →
    completes (.commitRecord t h task block slots lines) s fun s' => s' = ((s.advance t).takeCommit task (wrap 64 h.seq64)).setEnds h) ∧
  (∀ (s : State) (x n : Nat), x < 256 → n ≠ 0 →
    s.takeCommit x n = ((s.updTask x (fun d => { d with prevSeq := n })).setReg TASK.TASKt_LSEQ_LO.SEQ x n).setReg TASK.TASKt_LSEQ_HI.SEQ x
      (n / 2 ^ 32)) ∧
  (∀ (s : State) (t : Nat) (h : RecHead) (sig : Nat) (sl : Slot), s.follows = true → h.last = true → h.sync = false → s.pair.rxSet = [] →
    completes (.slotRecord t h sig sl) s fun s' => s' = ((s.advance t).takeSlot sig sl (wrap 64 h.seq64) h.marks).setEnds h) ∧
  (∀ (s : State) (t : Nat) (h : RecHead) (addr : Nat) (data : List Nat), s.follows = true → h.last = true → h.sync = false → s.pair.rxSet = [] →
    completes (.lineRecord t h addr data) s fun s' => s' = ((s.advance t).takeWords addr (data.take 8)).setEnds h) ∧
  (∀ (s : State) (t : Nat) (h : RecHead) (source : Nat) (slots : List (Nat × Nat × Nat)), s.follows = true → h.last = true → h.sync = false → s.pair.rxSet = [] →
    completes (.ingressRecord t h source slots) s fun s' => s' = ((s.advance t).takeBody (wrap 64 h.seq64) (.ingress source slots)).setEnds h) ∧
  (∀ (s : State) (t : Nat) (h : RecHead) (e : CapEntry), s.follows = true → h.last = true → h.sync = false → s.pair.rxSet = [] →
    completes (.captureRecord t h e) s fun s' => s' = ((s.advance t).pushCapture e h.marks).setEnds h) ∧
  (∀ (s : State) (t : Nat) (h : RecHead) (sig : Nat) (set : Bool) (value port : Nat), s.follows = true → h.last = true → h.sync = false → s.pair.rxSet = [] →
    completes (.forceRecord t h sig set value port) s fun s' => s' = ((s.advance t).takeBody (wrap 64 h.seq64) (.force sig set value port)).setEnds h) ∧
  (∀ (s : State) (t : Nat) (h : RecHead) (task state cause ovrrun readPos : Nat), s.follows = true → h.last = true → h.sync = false → s.pair.rxSet = [] →
    completes (.taskstRecord t h task state cause ovrrun readPos) s fun s' => s' = ((s.advance t).takeTask task state cause ovrrun readPos).setEnds h) ∧
  (∀ (s : State) (t : Nat) (h : RecHead) (addr value : Nat), s.follows = true → h.last = true → h.sync = false → s.pair.rxSet = [] →
    completes (.regwRecord t h addr value) s fun s' => s' = ((s.advance t).takeWrite addr (wrap 32 value)).setEnds h) ∧
  (∀ (s : State) (t : Nat) (h : RecHead) (cell off value : Nat), s.follows = true → h.last = true → h.sync = false → s.pair.rxSet = [] →
    completes (.cellwRecord t h cell off value) s fun s' => s' = ((s.advance t).takeCell cell off (wrap 32 value)).setEnds h) ∧
  (∀ (s : State) (t : Nat) (h : RecHead) (bytes : List Nat), s.follows = true → h.last = true → h.sync = false → s.pair.rxSet = [] →
    completes (.safetyRecord t h bytes) s fun s' => s' = ((s.advance t).updSafe (fun x => { x with mirrored := (bytes.take 16).map (wrap 8) })).setEnds h) ∧
  (∀ (s : State) (t : Nat) (h : RecHead) (pb1 epoch1 pb12 epoch12 age : Nat), s.follows = true → h.last = true → h.sync = false → s.pair.rxSet = [] →
    completes (.timeRecord t h pb1 epoch1 pb12 epoch12 age) s fun s' => s' = ((s.advance t).takeTime pb1 epoch1 pb12 epoch12 age).setEnds h) ∧
  (∀ (s : State) (t : Nat) (h : RecHead) (base value epoch cause : Nat), s.follows = true → h.last = true → h.sync = false → s.pair.rxSet = [] →
    completes (.stepRecord t h base value epoch cause) s fun s' => s' = ((s.advance t).takeStep base value epoch cause).setEnds h) ∧
  (∀ (s : State) (t : Nat) (h : RecHead) (addr : Nat) (data : List Nat), s.follows = true → h.last = true → h.sync = false → s.pair.rxSet = [] →
    completes (.bulkRecord t h addr data) s fun s' => s' = ((s.advance t).takeBulk addr (data.take 128)).setEnds h)

/-- R57, R61, R224, R231: what a SLOT record does to a signal: nothing to one that is not mirrored; a source that does not own it is refused;
the record reaches RAW alone while the signal is forced; else the slot takes the record's content under its number, its FLAGS rebuilt and its
pins and safety requests following, and no other slot changes (no flip being armed at the Tray, R285). -/
def Obligations.SlotRecordsReachTheImage : Prop :=
  (∀ (s : State) (g : Nat) (sl : Slot) (n m : Nat), s.isMirrored g = false → s.takeSlot g sl n m = s) ∧
  (∀ (s : State) (g : Nat) (sl : Slot) (n m : Nat), s.isMirrored g = true → s.mayWrite g sl.source = false →
    s.takeSlot g sl n m = s.ownerRefused g sl.source) ∧
  (∀ (s : State) (g : Nat) (sl : Slot) (n m : Nat) (d : DirEntry) (f : Force), s.img.dir.get g = some d → d.mirrored = true →
    s.mayWrite g sl.source = true → s.img.forces.get g = some f →
    (s.takeSlot g sl n m).img.slots = s.img.slots ∧
    (s.takeSlot g sl n m).img.forces.get g = some { f with
      rawValue := normalise d.type sl.value, rawQual := (cleanQuality sl.qual sl.detail).1, rawDetail := (cleanQuality sl.qual sl.detail).2
      rawSeq := n }) ∧
  (∀ (s : State) (g : Nat) (sl : Slot) (n m : Nat), s.isMirrored g = true → s.mayWrite g sl.source = true → s.img.forces.get g = none →
    s.takeSlot g sl n m = ((s.acceptWrite g sl.source sl.value sl.qual sl.detail n s.now (marks := m)).copyToPins g).copyToSafe g) ∧
  (∀ (s : State) (g src v q e n i m : Nat) (d : DirEntry), s.img.dir.get g = some d → s.img.forces.get g = none →
    s.img.forceDropped.get g = false → d.stampBase = none → s.flag LEAF.FLIPm_CTRL.ARM 1 = false →
    let a := s.acceptWrite g src v q e n i (marks := m)
    a.img.slots.get g = { value := normalise d.type v, seq := wrap 32 n, source := src, qual := (cleanQuality q e).1, detail := (cleanQuality q e).2
                          type := d.type, aged := false, changed := decide (normalise d.type v ≠ (s.slotRead g).value) ||
                            decide ((cleanQuality q e).1 ≠ (s.slotRead g).qual ∨ (cleanQuality q e).2 ≠ (s.slotRead g).detail)
                          stamped := false, mirrored := d.mirrored, flag7 := false } ∧
    (∀ k, k ≠ g → a.img.slots.get k = s.img.slots.get k) ∧ a.img.forces = s.img.forces)

/-- R215 to R218, R223, R241 to R243: heartbeats sent and received, a lane or the link lost and back, a path silent for 200 µs. Paths never
heard and the records are notes/assumptions/41.md. Completes: heartbeatSend, path2HeartbeatRx, hbRecord, pathLoss, laneDown,
vorvyLinkLoss, vorvyLinkReturn, unknownRecord. -/
def Obligations.PartnerIsHeardAndLost : Prop :=
  (∀ (s : State) (t : Nat), s.mode.beats = true →
    completes (.heartbeatSend t true) s fun s' =>
      s' = if (s.advance t).owesFeed then (s.advance t).beat.startFeed else (s.advance t).beat) ∧
  (∀ (s : State),
    let a := s.updPair (fun p => { p with hbCount := wrap 8 (s.pair.hbCount + 1), beatMode := s.mode.code })
    s.beat = (a.emit (.heartbeat2 a.hbByte (wrap 8 (s.pair.hbCount + 1)) (wrap 8 (s.reg PAIR.EPOCH.EPOCH))
        (hbCrc a.hbByte (wrap 8 (s.pair.hbCount + 1)) (wrap 8 (s.reg PAIR.EPOCH.EPOCH))))).sendPlain
        (.hb a.hbByte (wrap 8 (s.pair.hbCount + 1)) (s.reg PAIR.EPOCH.EPOCH)
          (if s.isActive then s.reg PAIR.MSEQ_SENT.MSEQ else s.reg PAIR.MSEQ_APPLIED.MSEQ) (s.reg SYS.VARIANT.CODE)
          (s.reg UPD.MPROTO.OWN) (s.reg PAIR.STAT.BUMPLESS + 2 * s.reg PAIR.STAT.NBWHY))) ∧
  (∀ (s : State) (t : Nat) (k : Bool), k = false ∨ s.mode.beats = false → completes (.heartbeatSend t k) s fun s' => s' = s.advance t) ∧
  (∀ (s : State) (t b0 b1 b2 b3 : Nat), s.mode ≠ .off → hbCrc (wrap 8 b0) (wrap 8 b1) (wrap 8 b2) = wrap 8 b3 →
    s.pair.p2Ctr ≠ some (wrap 8 b1) →
    completes (.path2HeartbeatRx t b0 b1 b2 b3) s fun s' =>
      s' = ((s.advance t).updPair (fun p => { p with p2Ctr := some (wrap 8 b1) })).hear 2 (wrap 8 b0)) ∧
  (∀ (s : State) (t b0 b1 b2 b3 : Nat), hbCrc (wrap 8 b0) (wrap 8 b1) (wrap 8 b2) ≠ wrap 8 b3 ∨ s.pair.p2Ctr = some (wrap 8 b1) →
    completes (.path2HeartbeatRx t b0 b1 b2 b3) s fun s' => s' = s.advance t) ∧
  (∀ (s : State) (t b0 c e v pr b13 : Nat) (peer : Option FwImage),
    let a := (s.advance t).updPair (fun p => { p with
      p1Ctr := some (wrap 8 c), partnerBumpless := bitOf 0 b13, hiPartner := seenEpoch p.hiPartner (wrap 32 e), peer := peer })
    s.mode ≠ .off → s.pair.linkUp = true → s.pair.p1Ctr ≠ some (wrap 8 c) →
    completes (.hbRecord t b0 c e v pr b13 peer) s fun s' =>
      s' = (((a.setReg PAIR.PARTNER.VARIANT 0 v).setReg PAIR.PARTNER.PROTO 0 pr).hear 1 (wrap 8 b0)).checkPartner) ∧
  (∀ (s : State) (t : Nat),
    let a := (s.advance t).losePath 1
    s.mode ≠ .off → s.flag PAIR.STAT.PATH1_LOST = false → s.pair.p1At + us 200 ≤ max s.now t →
    completes (.pathLoss t 1) s fun s' =>
      s' = (if a.judgePair.flag PAIR.STAT.PATH1_LOST && a.judgePair.flag PAIR.STAT.PATH2_LOST then a.judgePair.partnerFailed else a.judgePair)) ∧
  (∀ (s : State) (t : Nat),
    let a := (s.advance t).losePath 2
    s.mode ≠ .off → s.flag PAIR.STAT.PATH2_LOST = false → s.pair.p2At + us 200 ≤ max s.now t →
    completes (.pathLoss t 2) s fun s' =>
      s' = (if a.judgePair.flag PAIR.STAT.PATH1_LOST && a.judgePair.flag PAIR.STAT.PATH2_LOST then a.judgePair.partnerFailed else a.judgePair)) ∧
  (∀ (s : State) (t : Nat), s.flag PAIR.STAT.LANE_DOWN = false →
    completes (.laneDown t) s fun s' =>
      s'.reg PAIR.STAT.LANE_DOWN = 1 ∧ s.regsKeptBut s' (PAIR.STAT.LANE_DOWN :: recorderFlds) ∧ s'.pair = s.pair ∧ s'.mode = s.mode) ∧
  (∀ (s : State) (t : Nat),
    let a := (s.advance t).updPair (fun p => { p with linkUp := false, linkDownAt := max s.now t, feeding := false })
    (s.flag PAIR.STAT.PATH2_LOST = true → completes (.vorvyLinkLoss t) s fun s' => s' = a) ∧
    (s.flag PAIR.STAT.PATH2_LOST = false → s.mode = .standby → completes (.vorvyLinkLoss t) s fun s' => s' = a.catchUp 8) ∧
    (s.flag PAIR.STAT.PATH2_LOST = false → s.mode = .active → completes (.vorvyLinkLoss t) s fun s' => s' = a.dropStream.judgePair)) ∧
  (∀ (s : State) (t : Nat),
    let a := ((s.advance t).updPair (fun p => { p with linkUp := true })).setReg PAIR.STAT.LANE_DOWN 0 0
    (s.mode = .sync → s.reg PAIR.STAT.SYNCWHY = 8 → completes (.vorvyLinkReturn t) s fun s' => s' = a.catchUp 8) ∧
    (s.mode = .standby → completes (.vorvyLinkReturn t) s fun s' => s' = a)) ∧
  (∀ (s : State) (t ty : Nat), s.pair.linkUp = true →
    completes (.unknownRecord t ty) s fun s' =>
      s'.pair = { s.pair with unknownSeen := true, unknownCount := s.pair.unknownCount + 1 } ∧ s.regsKeptBut s' recorderFlds ∧
      s'.img = s.img ∧ (s.pair.unknownSeen = true → s'.recorder = s.recorder))

/-- R219 to R221, R233, R239, R483: the latch: the holder refreshes it; a granted claim gives the unit the line under the epoch of the
latch, a refused one leaves it in SYNC; a unit that finds its claim released, or a later epoch on a ring, is demoted. The gap and the
sequence after a takeover are notes/assumptions/33.md and 37.md. Completes: latchRefresh, claimResult, claimReleased. -/
def Obligations.LatchGivesTheLine : Prop :=
  (∀ (s : State) (t : Nat), s.flag PAIR.STAT.AUTH = true →
    completes (.latchRefresh t) s fun s' => s'.out = .latchRefresh :: s.out ∧ s'.regs = s.regs ∧ s'.pair = { s.pair with lastRefresh := max s.now t }) ∧
  (∀ (s : State) (t : Nat), s.flag PAIR.STAT.AUTH = false → completes (.latchRefresh t) s fun s' => s' = s.advance t) ∧
  (∀ (s : State) (t e : Nat),
    let a := (((s.advance t).updPair (fun p => { p with claimFor := 0, lastRefresh := max s.now t })).setReg PAIR.EPOCH.EPOCH 0 (wrap 32 e)).setReg
      PAIR.STAT.AUTH 0 1
    s.pair.claimFor ≠ 0 →
    (s.pair.claimFor = Claim.takeover → completes (.claimResult t true e) s fun s' => s' = a.takeOver) ∧
    (s.pair.claimFor = Claim.resignation → completes (.claimResult t true e) s fun s' => s' = a.takeFromPartner) ∧
    (s.pair.claimFor = Claim.load → completes (.claimResult t true e) s fun s' => s' = ((a.startRings false).afterLoad true).endLoading) ∧
    (s.pair.claimFor ≠ Claim.takeover → s.pair.claimFor ≠ Claim.resignation → s.pair.claimFor ≠ Claim.load →
      completes (.claimResult t true e) s fun s' => s' = (a.startRings false).afterLoad false)) ∧
  (∀ (s : State) (t e : Nat),
    let a := (s.advance t).record 0x90B 0 .fault [(4, s.pair.claimCand)]
    s.pair.claimFor ≠ 0 →
    completes (.claimResult t false e) s fun s' =>
      s' = (a.updPair (fun p => { p with claimFor := 0, resignRx := 0 })).endLoading.catchUp
        (if (s.pair.claimFor = Claim.start ∨ s.pair.claimFor = Claim.load) ∧ s.flag PAIR.PARTNER.VALID then 1 else 7)) ∧
  (∀ (s : State) (t : Nat), s.flag PAIR.STAT.AUTH = true →
    (completes (.claimReleased t true) s fun s' => s' = (s.advance t).demote 1) ∧
    (∀ e, s.pair.hiRing = some e → laterMod 32 e (s.reg PAIR.EPOCH.EPOCH) = true →
      completes (.claimReleased t false) s fun s' => s' = (s.advance t).demote 2) ∧
    (s.pair.hiRing.any (fun e => laterMod 32 e (s.reg PAIR.EPOCH.EPOCH)) = false →
      completes (.claimReleased t false) s fun s' => s' = s.advance t)) ∧
  (∀ (s : State) (t : Nat) (r : Bool), s.flag PAIR.STAT.AUTH = false → completes (.claimReleased t r) s fun s' => s' = s.advance t)

/-- R221, R485, R486: a demoted unit is in HALT without the line, no task is on a core, its mirror queue is empty, and its epoch stays. -/
def Obligations.DemotionHalts : Prop :=
  ∀ (s : State) (c : Nat),
    (s.demote c).mode = .halt ∧ (s.demote c).reg PAIR.STAT.AUTH = 0 ∧ (s.demote c).reg SYS.HALTWHY.WHY = 1 ∧
    (s.demote c).reg PAIR.EPOCH.EPOCH = s.reg PAIR.EPOCH.EPOCH ∧ (s.demote c).pair.mq = [] ∧ (s.demote c).pair.claimFor = 0 ∧
    (∀ b, b < 16 → (s.demote c).current b = none)

/-- R225, R228 to R230: the stream's upkeep: acknowledgements clear the queue, the standby acknowledges, the active unit sends its bases,
and the pair becomes bumpless 10 ms after the conditions hold. How the queue is trimmed is notes/assumptions/42.md. Completes:
ackRecord, standbyAckSend, timeRecordSend, bumplessSettle, streamLag. -/
def Obligations.StreamIsKeptUp : Prop :=
  (∀ (s : State) (t ap st : Nat), (s.isActive = false ∨ s.pair.linkUp = false) → completes (.ackRecord t ap st) s fun s' => s' = s.advance t) ∧
  (∀ (s : State) (t ap st : Nat),
    let a := (((s.advance t).showLag.setReg PAIR.MSEQ_APPLIED.MSEQ 0 (wrap 32 ap)).updPair (fun p => { p with
      mq := p.mq.filter (fun e => !(upTo (wrap 32 ap) e.mseq || upTo (wrap 32 st) e.mseq)) })).showFill
    let b := (a.each ((a.tasks.task.filter (fun e => e.2.waitAck)).map Prod.fst) (fun s t => s.ackTask (wrap 32 st) t)).answerForces
      (upTo (wrap 32 ap))
    s.isActive = true → s.pair.linkUp = true →
    completes (.ackRecord t ap st) s fun s' =>
      s' = ((match b.struct.commitMseq with
        | some m => if upTo (wrap 32 st) m then b.grantChange else b
        | none => b).judgePair.sendWaiting).feedMore) ∧
  (∀ (s : State) (t : Nat), (s.mode = .standby ∨ s.mode = .sync) → s.pair.linkUp = true →
    completes (.standbyAckSend t) s fun s' =>
      s'.out = .mirror { sync := false, last := true, bulk := false, mseq := wrap 32 (s.reg PAIR.MSEQ_SENT.MSEQ + 1), seq64 := 0
                         body := .ack (s.reg PAIR.MSEQ_APPLIED.MSEQ) s.pair.stagedMseq } :: s.out ∧
      s.regsKeptBut s' [PAIR.MSEQ_SENT.MSEQ] ∧ s'.pair = s.pair ∧ s'.img = s.img) ∧
  (∀ (s : State) (t : Nat),
    let a := s.advance t
    s.streaming = true →
    completes (.timeRecordSend t) s fun s' =>
      s' = (a.sendMirror .async (.time (a.baseVal 1) (a.baseEpoch 1) (a.baseVal 12) (a.baseEpoch 12) 0)).feedMore) ∧
  (∀ (s : State) (t : Nat),
    let a := (s.advance t).judgePair
    a.isActive = true → a.reg PAIR.STAT.NBWHY = 5 → a.pair.okSince + Config.bumplessSettle ≤ a.now →
    completes (.bumplessSettle t) s fun s' =>
      s'.reg PAIR.STAT.BUMPLESS = 1 ∧ s'.reg PAIR.STAT.NBWHY = 0 ∧
      a.regsKeptBut s' ([PAIR.STAT.BUMPLESS, PAIR.STAT.NBWHY] ++ recorderFlds) ∧ s'.pair = a.pair) ∧
  (∀ (s : State) (t : Nat), completes (.streamLag t) s fun s' => s' = (s.advance t).judgePair)

/-- R214, R238 to R242, R244, R447: resignation, removal, and the end of a transfer. A resignation without rings and the reasons of SYNC are
notes/assumptions/38.md and 39.md. Completes: pairCmdResign, resignWindowEnd, resignRelease, resignRecord, earlyBreak,
leavingBumplessWaitEnd, leavingResignWaitEnd, syncComplete, shadowFault. -/
def Obligations.ResignationAndRemoval : Prop :=
  (∀ (s : State) (t m : Nat), completes (.pairCmdResign t m) s fun s' => s' = (s.advance t).requestResign 1) ∧
  (∀ (s : State) (t : Nat),
    let a := s.advance t
    s.pair.resign = .window → s.pair.resignAt + (if s.pair.resignShort then Config.resignWindowShort else Config.resignWindow) ≤ a.now →
    completes (.resignWindowEnd t) s fun s' => s' = a.endWindow ∧ s'.pair.resign = .drain) ∧
  (∀ (s : State) (t : Nat),
    let a := s.advance t
    s.isActive = true → s.pair.resign = .drain → s.drained = true →
    (s.flag PAIR.STAT.BUMPLESS = true ∨ (s.pair.resignShort = true ∧ s.pair.leavingSince + Config.leavingBumplessWait ≤ a.now)) →
    completes (.resignRelease t) s fun s' => s' = a.releaseLine.fallBack) ∧
  (∀ (s : State) (t e m : Nat) (h : RecHead), s.pair.linkUp = true → s.mode = .standby → s.pair.claimFor = 0 →
    completes (.resignRecord t h e m) s fun s' =>
      s'.reg PAIR.MSEQ_APPLIED.MSEQ = wrap 32 h.mseq ∧ s'.pair.claimFor = Claim.resignation ∧ s'.pair.resignRx = max s.now t + 1 ∧
      s'.mode = .standby ∧ s.regsKeptBut s' [PAIR.MSEQ_APPLIED.MSEQ] ∧
      ∃ c, s'.out = .claim c :: s.out ∧ s'.pair.claimCand = c) ∧
  (∀ (s : State) (t : Nat),
    let a := { s.advance t with power := { s.power with earlyBroke := true, earlyMade := false } }.setReg PAIR.STAT.LEAVING 0 1
    s.power.earlyMade = true → s.mode ≠ .off →
    (s.isActive = false → completes (.earlyBreak t) s fun s' => s' = a) ∧
    (s.isActive = true → s.power.warned = false → a.partnerStandby = true → completes (.earlyBreak t) s fun s' => s' = a.resignShort 3)) ∧
  (∀ (s : State) (t : Nat),
    let a := s.advance t
    s.isActive = true → s.pair.resignShort = true → s.pair.resign ≠ .none → s.pair.leavingSince + Config.leavingBumplessWait ≤ a.now →
    s.flag PAIR.STAT.BUMPLESS = false →
    completes (.leavingBumplessWaitEnd t) s fun s' => s' = (a.endWindow).finishCommits.releaseLine.fallBack) ∧
  (∀ (s : State) (t : Nat),
    let a := s.advance t
    s.pair.waitLeaving = true → s.mode = .standby → s.pair.claimFor = 0 → s.pair.leavingSince + Config.leavingResignWait ≤ a.now →
    completes (.leavingResignWaitEnd t) s fun s' => s' = a.claim Claim.takeover) ∧
  (∀ (s : State) (t : Nat),
    let a := s.advance t
    s.mode = .sync → s.reg PAIR.BULK.PHASE = 5 → s.pair.linkUp = true → s.partnerPresent = true →
    completes (.syncComplete t) s fun s' => s' = ((a.enterMode .standby).settle).showPins) ∧
  (∀ (s : State) (t p : Nat),
    let a := ((((s.advance t).setReg PAIR.STAT.SHADOW_FAULT 0 1).setReg PAIR.SHADOW.PIN 0 p).setReg PAIR.SHADOW.VALID 0 1).record 0x909 0 .fault [(1, p)]
    p < 64 → s.reg FPIN.PINp_CFG.DIR p = 2 → s.pinCommand p = false → s.mode.drivesPins = true →
    (s.mode = .standby → completes (.shadowFault t p) s fun s' => s' = (a.setReg FPIN.PINp_STAT.RELEASED p 1).showPin p) ∧
    (s.mode ≠ .standby → completes (.shadowFault t p) s fun s' =>
      s' = if s.isActive && s.partnerStandby then a.emit (.releasePin p) else a))

/-- R242, R257, R263, R271: a whole container in the stream: a STANDBY checks a delta and keeps it prepared; a unit in SYNC takes the
structure, and the state items follow. When a unit in SYNC takes the structure is notes/assumptions/39.md. Completes: structRecord. -/
def Obligations.StreamedStructures : Prop :=
  (∀ (s : State) (t : Nat) (h : RecHead) (c : Container), s.pair.linkUp = true → h.last = true → s.mode = .standby → c.kind = 2 →
    completes (.structRecord t h c) s fun s' => s' = ((s.advance t).takeDelta c).setReg PAIR.MSEQ_APPLIED.MSEQ 0 h.mseq) ∧
  (∀ (s : State) (t : Nat) (h : RecHead) (c : Container),
    let a := (s.advance t).checkPartner
    s.pair.linkUp = true → h.last = true → (s.mode ≠ .standby ∨ c.kind ≠ 2) →
    (a.mode = .sync → 2 ≤ a.reg PAIR.BULK.PHASE →
      completes (.structRecord t h c) s fun s' => s' = (a.takeStructure c).setReg PAIR.MSEQ_APPLIED.MSEQ 0 h.mseq) ∧
    (a.mode ≠ .sync ∨ a.reg PAIR.BULK.PHASE < 2 → completes (.structRecord t h c) s fun s' => s' = a)) ∧
  (∀ (s : State) (t : Nat) (h : RecHead) (c : Container), (h.last = false ∨ s.pair.linkUp = false) →
    completes (.structRecord t h c) s fun s' => s' = s.advance t)

/-- R256, R263, R265, R266: a checked container is loaded or prepared; a change commit is taken once its affected tasks are held, at once
without a STANDBY partner; HOLDMAX and the partner's silence end an attempt. R262, R265: a commit attempt that ends without a change
leaves the running image, the prepared change and the sequence as they were, and no task held by it; a discarded change leaves the
running image as it was. What a load keeps is notes/assumptions/43.md; contents and checks are operands (notes/assumptions/10.md).
Completes: fullLoadApply, changePrepared, olcCmdCommit, olcCmdAbort, olcCmdRetract, changeCommit, holdmaxExpiry, changeAckTimeout,
transferLapse. -/
def Obligations.StructureChanges : Prop :=
  (∀ (s : State) (t : Nat) (c : Container),
    let b := ((((s.advance t).setReg STRUCT.STAT.STATE 0 StructState.loading).applyFull c).addReg STRUCT.COUNTS.LOADS 0 1).lifeAdd 0x153 1
    s.struct.loading = some c → c.kind = 1 → (s.mode = .commission ∨ s.mode = .hold ∨ s.mode = .service) →
    completes (.fullLoadApply t) s fun s' => s' = if b.flag PAIR.STAT.AUTH then (b.afterLoad true).endLoading else b.claim Claim.load) ∧
  (∀ (s : State) (t : Nat) (c : Container),
    let a := ((s.advance t).storeSpare { c with kind := 1 }).updStruct (fun x => { x with
      loading := none, prepared := some c, traffic := max s.now t })
    s.struct.loading = some c → c.kind = 2 →
    completes (.changePrepared t) s fun s' =>
      s' = (((if a.partnerStandby then a.sendMirror .bulk (.struct c.image.id true) else a).setReg STRUCT.STAT.STATE 0
        StructState.prepared).showPending).answerChange 0x0405 0) ∧
  (∀ (s : State) (t m : Nat), completes (.olcCmdCommit t m) s fun s' => s' = (s.advance t).beginCommit) ∧
  (∀ (s : State) (t m : Nat), s.isActive = true → completes (.olcCmdAbort t m) s fun s' => s' = (s.advance t).abortChange) ∧
  (∀ (s : State) (t m : Nat), s.isActive = false → completes (.olcCmdAbort t m) s fun s' => s' = s.advance t) ∧
  (∀ (s : State) (t : Nat), s.isActive = false → completes (.olcCmdRetract t) s fun s' =>
    s'.pair.prepared = s.pair.prepared.filter (fun x => !isChangeSet x) ∧ s'.regs = s.regs ∧ s'.struct = s.struct) ∧
  (∀ (s : State) (t : Nat), s.isActive = true → completes (.olcCmdRetract t) s fun s' => s' = s.advance t) ∧
  (∀ (s b : State) (t : Nat),
    let a := s.advance t
    s.reg STRUCT.STAT.STATE = StructState.holding → s.struct.commitMseq = none → s.allHeld = true →
    (s.partnerStandby = false → completes (.changeCommit t) s fun s' => s' = a.grantChange) ∧
    (s.partnerStandby = true → s.streaming = true →
      a.sendMirror .sync (.regw (STRUCT.OLC_COMMIT.ID.addrOf 0) ((s.struct.prepared.map (·.image.id)).getD 0)) true = b →
      completes (.changeCommit t) s fun s' =>
        s' = (b.updPair (fun p => { p with openSets := p.openSets ++ [b.reg PAIR.MSEQ_SENT.MSEQ] })).updStruct
          (fun x => { x with commitMseq := some (b.reg PAIR.MSEQ_SENT.MSEQ), commitAt := b.now }))) ∧
  (∀ (s : State) (t : Nat),
    let a := s.advance t
    s.reg STRUCT.STAT.STATE = StructState.holding → s.struct.commitMseq = none → s.allHeld = false →
    s.struct.holdAt + msec (s.reg STRUCT.OLC_CFG.HOLDMAX) ≤ a.now →
    completes (.holdmaxExpiry t) s fun s' => s' = a.endAttempt ChangeResult.timeout) ∧
  (∀ (s : State) (t m : Nat),
    let a := s.advance t
    s.struct.commitMseq = some m → s.struct.commitAt + us 20 ≤ a.now →
    completes (.changeAckTimeout t) s fun s' =>
      s' = ((a.updPair (fun p => { p with openSets := p.openSets.filter (fun x => x != m) })).mirrorReg
        (STRUCT.OLC_CMD.OP.addrOf 0) 3).endAttempt ChangeResult.partnerNotReady) ∧
  (∀ (s : State) (t : Nat),
    let a := s.advance t
    s.structSession = false → s.isActive = true → s.struct.prepared.isSome = true → s.reg STRUCT.STAT.STATE = StructState.prepared →
    s.struct.traffic + sec 600 ≤ a.now →
    completes (.transferLapse t) s fun s' => s' = a.discardChange ChangeResult.lapsed) ∧
  (∀ (s : State) (t : Nat), s.tState t = TaskState.held → t < 256 →
    let a := s.updTask t (fun d => { d with heldBy := false })
    s.releaseTask t = (a.setTState t (a.restState t)).mirrorTask t ∧ (s.releaseTask t).tState t = a.restState t ∧
    ((s.releaseTask t).task t).heldBy = false ∧ (s.releaseTask t).img = s.img) ∧
  (∀ (s : State), s.abortChange.struct.image = s.struct.image ∧ s.abortChange.img = s.img ∧ s.abortChange.settings = s.settings) ∧
  (∀ (s : State) (r : Nat) (c : Container), s.struct.prepared = some c →
    (s.discardChange r).struct.prepared = none ∧ (s.discardChange r).reg STRUCT.STAT.STATE = StructState.idle ∧
    (s.discardChange r).reg STRUCT.STAT.RESULT = wrap STRUCT.STAT.RESULT.width r ∧ (s.discardChange r).reg STRUCT.PEND_ID.ID = 0)

/-- R274 to R276: what the memory controller makes of every syndrome, and the data it delivers: 0 is clean, 0xFE poisoned, a data bit's
column is corrected by inverting that bit, a check bit's column is corrected with the data as stored, an address bit's column is an
address fault, and everything else is uncorrectable, the last three delivered as stored with poison; the difference of two different
columns is never clean and never corrected. One inverted data bit or check bit of a clean word is thus corrected on every read; two
inverted data bits, or a word read under an address that differs in one bit, are poison to every reader. -/
def Obligations.LeafCodeCorrectsOneBit : Prop :=
  (∀ syn, syn < 256 →
    (syn = 0 → leafDecode syn = .clean) ∧
    (∀ i c, dataColumns[i]? = some c → syn = c → leafDecode syn = .corrected (2 ^ i)) ∧
    (∀ i, i < 8 → syn = 2 ^ i → leafDecode syn = .corrected 0) ∧
    (syn ∈ addrColumns → leafDecode syn = .addressFault) ∧
    (syn = 0xFE → leafDecode syn = .poisoned) ∧
    (syn ≠ 0 → syn ≠ 0xFE → syn ∉ dataColumns → (∀ i, i < 8 → syn ≠ 2 ^ i) → syn ∉ addrColumns → leafDecode syn = .uncorrectable)) ∧
  (∀ c d, c ∈ dataColumns ++ (List.range 8).map (2 ^ ·) ++ addrColumns → d ∈ dataColumns ++ (List.range 8).map (2 ^ ·) ++ addrColumns →
    c ≠ d → (leafDecode (c ^^^ d)).poison = true) ∧
  (∀ (s : State) (m w : Nat),
    (∀ f, leafDecode (s.synAt m w) = .corrected f → s.wordAt m w = s.dataAt m w ^^^ f ∧ s.poisonAt m w = false) ∧
    (leafDecode (s.synAt m w) = .clean → s.wordAt m w = s.dataAt m w ∧ s.poisonAt m w = false) ∧
    ((leafDecode (s.synAt m w) = .addressFault ∨ leafDecode (s.synAt m w) = .poisoned ∨ leafDecode (s.synAt m w) = .uncorrectable) →
      s.wordAt m w = s.dataAt m w ∧ s.poisonAt m w = true)) ∧
  (∀ (s : State) (m w : Nat), (m ≠ 1 ∨ 2 * trayImageWords ≤ w) → s.synAt m w = 0 → s.dataAt m w < 2 ^ 64 →
     (∀ i, i < 64 → (s.strike m w (2 ^ i) 0 0).wordAt m w = s.wordAt m w ∧ (s.strike m w (2 ^ i) 0 0).poisonAt m w = false) ∧
     (∀ i, i < 8 → (s.strike m w 0 (2 ^ i) 0).wordAt m w = s.wordAt m w ∧ (s.strike m w 0 (2 ^ i) 0).poisonAt m w = false) ∧
     (∀ i j, i < 64 → j < 64 → i ≠ j → (s.strike m w (2 ^ i + 2 ^ j) 0 0).poisonAt m w = true) ∧
     (∀ i, i < 36 → leafDecode ((s.strike m w 0 0 (2 ^ i)).synAt m w) = .addressFault ∧ (s.strike m w 0 0 (2 ^ i)).poisonAt m w = true))

/-- R277, R280, R283: a full write puts the word in place with fresh check bits, whatever stood there; a word written with the mark of
poison is poison to every reader; a masked write of all bytes is a full write; no write changes another word. -/
def Obligations.WordsReadBack : Prop :=
  ∀ (s : State) (m w v : Nat), (m ≠ 1 ∨ 2 * trayImageWords ≤ w) → w < 2 ^ 36 → s.flag LEAF.FLIPm_CTRL.ARM m = false →
    (s.writeWord m w v).wordAt m w = wrap 64 v ∧ (s.writeWord m w v).poisonAt m w = false ∧
    (s.writePoison m w v).poisonAt m w = true ∧
    (∀ q, s.storeMasked m w v 255 q = s.writeWord m w v) ∧
    (∀ x, x < 2 ^ 36 → x ≠ w → (s.writeWord m w v).wordAt m x = s.wordAt m x ∧ (s.writeWord m w v).poisonAt m x = s.poisonAt m x) ∧
    s.regsKeptBut (s.writeWord m w v) [] ∧ (s.writeWord m w v).img = s.img

/-- R90, R282, R294, R295: a core's access: a misaligned or unmapped one and one its key does not admit fault, the last with a guard
refusal; an admitted one is performed, after the owed copy of its DRAM page. R295, R296: the other masters' accesses are performed part
by part, and a refusal shows the master, the kind, the colour and the address, counts, and changes no memory. Where memories lie is
notes/assumptions/30.md. Completes: guardedAccess. -/
def Obligations.AccessesAreGuarded : Prop :=
  (∀ (s : State) (t b sv k addr len v pc e : Nat), b < 16 → ([1, 2, 4, 8].contains len = false ∨ addr % len ≠ 0) →
    completes (.guardedAccess t b sv k addr len v pc e 0 0) s fun s' =>
      s' = (s.advance t).coreFault b (accessCause 0 k) TaskCause.misaligned (wrap 32 addr) pc addr e) ∧
  (∀ (s : State) (t b sv k addr len v pc e : Nat), b < 16 → [1, 2, 4, 8].contains len = true → addr % len = 0 → locate (addr / 8) = none →
    completes (.guardedAccess t b sv k addr len v pc e 0 0) s fun s' =>
      s' = (s.advance t).coreFault b (accessCause 1 k) TaskCause.access (wrap 32 addr) pc addr e) ∧
  (∀ (s : State) (t b sv k addr len v pc e m w : Nat),
    let a := if m = 0 then (s.advance t).finishCopy (w / pageWords) else s.advance t
    b < 16 → [1, 2, 4, 8].contains len = true → addr % len = 0 → locate (addr / 8) = some (m, w) →
    ((a.keyOf b 256).admits k (a.colourAt m w) = true →
      completes (.guardedAccess t b sv k addr len v pc e 0 0) s fun s' => s' = a.coreDo b k m w (addr % 8) len v pc e) ∧
    ((a.keyOf b 256).admits k (a.colourAt m w) = false →
      completes (.guardedAccess t b sv k addr len v pc e 0 0) s fun s' =>
        s' = (a.guardRefuse b k (a.colourAt m w) addr false).coreFault b (accessCause 1 k) TaskCause.access (wrap 32 addr) pc addr e)) ∧
  (∀ (s : State) (b m w off size v pc e : Nat), s.cycleTask b = none → s.synAt m w = 0 →
    s.coreDo b 0 m w off size v pc e = s.emit (.memory b (physical m w * 8 + off) (bitField (8 * off) (8 * size) (s.wordAt m w)) false false)) ∧
  (∀ (s : State) (t m sv k addr len v pc e : Nat),
    let a := s.advance t
    16 ≤ m → m < 38 →
    completes (.guardedAccess t m sv k addr len v pc e 0 0) s fun s' =>
      s' = (a.dmaAccess m sv k addr len v).2.2.2.emit
        (.memory m addr (a.dmaAccess m sv k addr len v).1 (a.dmaAccess m sv k addr len v).2.1 (a.dmaAccess m sv k addr len v).2.2.1)) ∧
  (∀ (s : State) (m k c addr : Nat) (p : Bool), m < 64 → k < 4 → c < 16 →
    (s.guardRefuse m k c addr p).reg GUARD.STAT.FAULT = 1 ∧
    (s.guardRefuse m k c addr p).reg GUARD.FAULTCNT.COUNT = satAdd GUARD.FAULTCNT.COUNT.width (s.reg GUARD.FAULTCNT.COUNT) 1 ∧
    (s.guardRefuse m k c addr p).reg GUARD.LAST_MASTER.MASTER = m ∧ (s.guardRefuse m k c addr p).reg GUARD.LAST_MASTER.KIND = k ∧
    (s.guardRefuse m k c addr p).reg GUARD.LAST_MASTER.COLOUR = c ∧
    (s.guardRefuse m k c addr p).reg GUARD.LAST_ADDR_LO.ADDR = wrap GUARD.LAST_ADDR_LO.ADDR.width addr ∧
    s.memoryKept (s.guardRefuse m k c addr p) ∧ s.imageKept (s.guardRefuse m k c addr p)) ∧
  (∀ (k : Machine.Key) (c : Nat), k.admits 0 c = bitOf c k.read ∧ k.admits 1 c = bitOf c k.write ∧ k.admits 2 c = bitOf c k.exec ∧
    k.admits 3 c = (bitOf c k.read && bitOf c k.write))

/-- R286 to R290, R297, R299, R302: tags, page copies, the scrubber, the colour probe and the ROM gate. R286, R287: the scrubber refuses an
empty range, a memory that is not there, a range that does not lie in it, a memory that is off, and a second pass, in that order, and
changes nothing else; a pass that ends is not running and shows what it checked. The mirrored abort is notes/assumptions/42.md, the gate
notes/assumptions/46.md. Completes: tagReload, pageRetireCopy, scrubGo, scrubAbort, scrubDone, probeAddrHiWrite, romGateCall. -/
def Obligations.MemoryIsKeptUp : Prop :=
  (∀ (s : State) (t m addr : Nat), (locate (addr / 8)).isSome = true →
    completes (.tagReload t m addr true) s fun s' =>
      s'.reg GUARD.STAT.TAGERR = 1 ∧ s'.reg GUARD.TAGERR.COUNT = satAdd GUARD.TAGERR.COUNT.width (s.reg GUARD.TAGERR.COUNT) 1 ∧
      s.regsKeptBut s' ([GUARD.STAT.TAGERR, GUARD.TAGERR.COUNT] ++ recorderFlds) ∧ s'.leaf = s.leaf) ∧
  (∀ (s : State) (t m addr k w : Nat),
    let a := ((((s.advance t).setReg GUARD.STAT.TAGERR 0 1).addReg GUARD.TAGERR.COUNT 0 1).lifeAdd 0x158 1).note 6 m []
    locate (addr / 8) = some (k, w) →
    completes (.tagReload t m addr false) s fun s' =>
      s' = ({ a with leaf := { a.leaf with badGroup := a.leaf.badGroup.set (cellKey k (w / granuleWords k / 8)) true } }.setReg
        GUARD.STAT.TAG_DEGRADED 0 1).cause 6 true) ∧
  (∀ (s : State) (t p : Nat), completes (.pageRetireCopy t p) s fun s' => s' = (s.advance t).finishCopy p) ∧
  (∀ (s : State) (t : Nat), completes (.scrubGo t) s fun s' => s' = ((s.advance t).mirrorScrub 1).scrubGo false) ∧
  (∀ (s : State) (t n : Nat),
    let a := (s.advance t).mirrorScrub 2
    completes (.scrubAbort t n) s fun s' => s' = if a.scrubbing then a.scrubEnd n ScrubResult.aborted else a) ∧
  (∀ (s : State) (t : Nat), s.scrubbing = true → 0 < toSigned 32 (s.reg KETTLE.SYSD_ACCT.ACCT) →
    completes (.scrubDone t) s fun s' => s' = (s.advance t).scrubEnd s.leaf.scrubLen ScrubResult.done) ∧
  (∀ (s : State) (t m v : Nat),
    let a := (s.advance t).setReg GUARD.PROBE_ADDR_HI.ADDR 0 v
    completes (.probeAddrHiWrite t m v) s fun s' =>
      s.regsKeptBut s' [GUARD.PROBE_ADDR_HI.ADDR] ∧ s'.leaf = s.leaf ∧
      ∀ k w, locate ((a.reg GUARD.PROBE_ADDR_LO.ADDR + a.reg GUARD.PROBE_ADDR_HI.ADDR * 2 ^ 32) / 8) = some (k, w) →
        s'.latched m (GUARD.PROBE_COL.COLOUR.addrOf 0) = some (s.colourAt k w + 16)) ∧
  (∀ (s : State) (t b : Nat) (im : Image),
    let a := s.advance t
    b < 16 → s.leaf.gate = 0 → s.cycleTask b = none →
    (s.mode = .load → s.struct.image = some im → completes (.romGateCall t b true) s fun s' => s' = (a.loadSafety im).gateReturns b 0) ∧
    (s.mode.runtimeRuns = true → s.port.attest ≠ [] → completes (.romGateCall t b false) s fun s' => s' = a.setGate (b + 1))) ∧
  (∀ (s : State) (b : Bool), s.reg LEAF.SCRUB_LEN.WORDS = 0 → s.scrubGo b = s.setReg LEAF.SCRUB_STAT.RESULT 0 ScrubResult.empty) ∧
  (∀ (s : State) (b : Bool), s.reg LEAF.SCRUB_LEN.WORDS ≠ 0 → 38 ≤ s.reg LEAF.SCRUB_MEM.MEM →
    s.scrubGo b = s.setReg LEAF.SCRUB_STAT.RESULT 0 ScrubResult.errMem) ∧
  (∀ (s : State) (b : Bool), s.reg LEAF.SCRUB_LEN.WORDS ≠ 0 → s.reg LEAF.SCRUB_MEM.MEM < 38 →
    s.scrubRange (s.reg LEAF.SCRUB_MEM.MEM) = true → s.memOff (s.reg LEAF.SCRUB_MEM.MEM) = false → s.scrubbing = true →
    s.scrubGo b = s.setReg LEAF.SCRUB_STAT.RESULT 0 ScrubResult.busy) ∧
  (∀ (s : State) (b : Bool), s.reg LEAF.SCRUB_LEN.WORDS ≠ 0 → s.reg LEAF.SCRUB_MEM.MEM < 38 →
    s.scrubRange (s.reg LEAF.SCRUB_MEM.MEM) = true → s.memOff (s.reg LEAF.SCRUB_MEM.MEM) = false → s.scrubbing = false →
    (s.scrubGo b).scrubbing = true ∧ (s.scrubGo b).leaf.scrubLen = s.reg LEAF.SCRUB_LEN.WORDS ∧
    (s.scrubGo b).reg LEAF.SCRUB_CHECKED.COUNT = 0) ∧
  (∀ (s : State) (n r : Nat), r < 8 → s.leaf.scrubLen < 2 ^ 30 →
    (s.scrubEnd n r).scrubbing = false ∧ (s.scrubEnd n r).reg LEAF.SCRUB_STAT.RESULT = r ∧
    (s.scrubEnd n r).reg LEAF.SCRUB_CHECKED.COUNT = min n s.leaf.scrubLen)

/-- R305, R306, R310, R312, R314, R320 to R323, R325, R326, R328, R329: samples of every channel, the common ceiling, probes and parking, thermal
trips, HART turns, the front end's restart, short circuits and the overvoltage flags. Damping, scaling and the retry are
notes/assumptions/47.md. Completes: loopSample, powerCapStep, probe, park, unpark, parkTimeout, trip, thermalTrip, thermalRetry,
hartResponse, hartTimeout, hartBurstRx, frontendWatchdogExpiry, frontendRestartDone, pinShort, pinShortRetry, acOvervoltage. -/
def Obligations.LoopChannelsAndPins : Prop :=
  (∀ (s : State) (t input : Nat) (xs temps : List Nat),
    let a := s.advance t
    let b := (a.when (a.loops.sampleAt == 0) (fun s => s.restartDwell 2)).takeChannels.each (List.range 32)
      (fun s c => s.sampleChannel c ((xs[c]?).getD 0) ((temps[c]?).getD 0))
    let d := { b with loops := { b.loops with
      sampleAt := b.now + 1, next := nextSample (b.baseVal (a.reg LOOP.CFG.BASE)), epoch := b.baseEpoch (a.reg LOOP.CFG.BASE) } }
    let e := (d.setReg LOOP.POWER.OUT 0 (min d.loopPower 65535)).setReg LOOP.POWER.IN 0 (min input 65535)
    a.loopsRun = true → a.sampleDue = true →
    completes (.loopSample t xs temps input) s fun s' =>
      s' = e.when e.isActive (fun s => s.each ([0, 1, 2, 3].filter (fun g => e.loops.turn.get g == 0)) (fun s g => s.nextTurn g))) ∧
  (∀ (s : State) (t : Nat),
    let a := s.advance t
    a.loopsRun = true →
    (10800 < a.loopPower → a.loops.capAt + msec 100 ≤ a.now → supplyMin < a.reg LOOP.CEIL.CEIL →
      completes (.powerCapStep t) s fun s' => s' = a.setCeil (max supplyMin (a.reg LOOP.CEIL.CEIL - 10))) ∧
    (a.loopPower < 10000 → a.loops.capAt + sec 1 ≤ a.now → a.reg LOOP.CEIL.CEIL < supplyMax →
      completes (.powerCapStep t) s fun s' => s' = a.setCeil (min supplyMax (a.reg LOOP.CEIL.CEIL + 10)))) ∧
  (∀ (s : State) (t c : Nat),
    let a := s.advance t
    c < 32 → a.isActive = true → a.loopsRun = true → a.reg LOOP.CHc_CFG.MODE c ≠ 0 → a.reg LOOP.CHc_CFG.MODE c ≠ LoopMode.multidrop →
    a.loopState c = LoopState.run →
    (a.hartBusy c = true → completes (.probe t c) s fun s' => s' = a.updChan c (fun d => { d with probeDue := true })) ∧
    (a.hartBusy c = false → completes (.probe t c) s fun s' =>
      s' = ((a.mirrorReg (LOOP.CHc_CMD.OP.addrOf c) 2).setReg LOOP.CHc_STAT.STATE c LoopState.probing).updChan c (fun d => { d with
        probeX0 := d.x, probeSteps := 0, probeV := d.vsup, probeDue := false, probedAt := a.now }))) ∧
  (∀ (s : State) (t c : Nat), c < 32 → s.isActive = false → s.loopsRun = true → s.loopState c = LoopState.run →
    completes (.park t c) s fun s' =>
      s'.loopState c = LoopState.parked ∧ s'.reg LOOP.CHc_MEAS.VSUP c = (if s.power.shed then 0 else 800) ∧
      (s'.chan c).parkedAt = max s.now t + 1 ∧ s.regsKeptBut s' [LOOP.CHc_STAT.STATE, LOOP.CHc_MEAS.VSUP] ∧ s'.out = s.out) ∧
  (∀ (s : State) (t c : Nat),
    let a := (s.advance t).updChan c (fun d => { d with parkedAt := 0 })
    c < 32 → s.loopState c = LoopState.parked →
    (s.flag LOOP.STAT.FE_OK = true → completes (.unpark t c) s fun s' =>
      s' = (a.setReg LOOP.CHc_STAT.STATE c LoopState.run).capSupply c (a.ownTarget c (a.chan c).x)) ∧
    (s.flag LOOP.STAT.FE_OK = false → completes (.unpark t c) s fun s' => s' = a)) ∧
  (∀ (s : State) (t c : Nat), s.loopState c ≠ LoopState.parked → completes (.unpark t c) s fun s' => s' = s.advance t) ∧
  (∀ (s : State) (t c : Nat),
    let a := s.advance t
    ((s.chan c).parkedAt ≠ 0 → (s.chan c).parkedAt - 1 + msec 1500 ≤ a.now → completes (.parkTimeout t c) s fun s' => s' = a.unpark c) ∧
    (a.now < (s.chan c).parkedAt - 1 + msec 1500 → completes (.parkTimeout t c) s fun s' => s' = a)) ∧
  (∀ (s : State) (t c : Nat), c < 32 → s.isActive = false → s.loopState c = LoopState.run ∨ s.loopState c = LoopState.parked →
    completes (.trip t c) s fun s' =>
      s'.loopState c = LoopState.thermalOff ∧ (s'.chan c).openAt = max s.now t + 1 ∧ s.regsKeptBut s' [LOOP.CHc_STAT.STATE] ∧
      s'.out = s.out ∧ s'.recorder = s.recorder) ∧
  (∀ (s : State) (t c : Nat),
    let a := s.advance t
    let b := (((a.openElement c).noteLoop c).addReg LOOP.CHc_STAT.TRIPTOT c 1).occur 5 c (0x0D0 + c)
    let d := b.setReg LOOP.CHc_STAT.TRIPS c (min 31 (b.occWithin 5 c).length)
    let e := if d.isActive then d.mirrorReg (LOOP.CHc_CMD.OP.addrOf c) 4 else d
    c < 32 → a.flag SYS.UNITS.LOOP = true →
    (a.loopState c = LoopState.run ∨ a.loopState c = LoopState.probing ∨ a.loopState c = LoopState.parked) →
    completes (.thermalTrip t c) s fun s' => s' =
      if e.permanent 5 c then ((e.setReg LOOP.CHc_STAT.STATE c LoopState.retired).retireItem 5 c 0xA c 0xAE0).preferPartner else e) ∧
  (∀ (s : State) (t c : Nat),
    let a := s.advance t
    s.loopState c = LoopState.thermalOff → (s.chan c).openAt ≠ 0 → (s.chan c).openAt - 1 + sec 2 ≤ a.now →
    completes (.thermalRetry t c) s fun s' =>
      s' = ((a.setReg LOOP.CHc_STAT.STATE c LoopState.run).updChan c (fun d => { d with openAt := 0 })).enterService c) ∧
  (∀ (s : State) (t c k uid st : Nat) (vars : List Nat),
    let a := (s.advance t).addReg LOOP.CHc_HCNT.OK c 1
    s.isActive = true → s.loopsRun = true → s.loops.turn.get (c / 8) = c * 8 + k + 1 →
    (∀ p, s.loops.passing.get (c / 8) = some p →
      completes (.hartResponse t c k uid st vars) s fun s' => s' = (a.answerPass p 0 vars).endTurn (c / 8)) ∧
    (s.loops.passing.get (c / 8) = none → (s.loops.dev.get (5 * c + k)).known = true →
      completes (.hartResponse t c k uid st vars) s fun s' =>
        s' = ((a.updHart c k (fun d => { d with fails := 0, noResponse := false, vars := vars, status := wrap 16 st + 2 ^ 17 * bn (bitOf 17 st) })).deliverHart c k).endTurn
          (c / 8)) ∧
    (s.loops.passing.get (c / 8) = none → (s.loops.dev.get (5 * c + k)).known = false →
      completes (.hartResponse t c k uid st vars) s fun s' =>
        s' = (((if (s.loops.dev.get (5 * c + k)).uid ≠ 0 ∧ (s.loops.dev.get (5 * c + k)).uid ≠ uid then a.noteLoop c else a).updHart c k
          (fun d => { d with uid := uid, known := true, fails := 0 })).endTurn (c / 8)))) ∧
  (∀ (s : State) (t c k uid st : Nat) (vars : List Nat), s.isActive = false →
    completes (.hartResponse t c k uid st vars) s (fun s' => s' = (s.advance t).hearHart c k uid st vars) ∧
    completes (.hartTimeout t c k) s (fun s' => s' = (s.advance t).missHart c k)) ∧
  (∀ (s : State) (c k uid st : Nat) (vars : List Nat), (s.mode = .standby ∨ s.mode = .sync) → s.loopsRun = true →
    (s.hartDevices c).contains k = true →
    (s.hearHart c k uid st vars).loops.poll.get (c / 8) = c * 8 + k + 1 ∧
    ((s.hearHart c k uid st vars).loops.dev.get (5 * c + k)).uid = uid ∧ ((s.hearHart c k uid st vars).loops.dev.get (5 * c + k)).known = true ∧
    (s.missHart c k).loops.poll.get (c / 8) = c * 8 + k + 1 ∧ (s.hearHart c k uid st vars).out = s.out ∧ (s.missHart c k).out = s.out) ∧
  (∀ (s : State) (t c k : Nat),
    let a := (s.advance t).addReg LOOP.CHc_HCNT.FAIL c 1
    s.isActive = true → s.loopsRun = true → s.loops.turn.get (c / 8) = c * 8 + k + 1 →
    ((s.loops.dev.get (5 * c + k)).fails < 2 → completes (.hartTimeout t c k) s fun s' =>
      s' = (a.updHart c k (fun d => { d with fails := (s.loops.dev.get (5 * c + k)).fails + 1 })).hartAgain c k) ∧
    (2 ≤ (s.loops.dev.get (5 * c + k)).fails → ∀ p, s.loops.passing.get (c / 8) = some p → completes (.hartTimeout t c k) s fun s' =>
      s' = ((a.updHart c k (fun d => { d with fails := 0 })).nextFree.answerPass p
        ((a.updHart c k (fun d => { d with fails := 0 })).freeVal 8) []).endTurn (c / 8)) ∧
    (2 ≤ (s.loops.dev.get (5 * c + k)).fails → s.loops.passing.get (c / 8) = none →
    completes (.hartTimeout t c k) s fun s' =>
      s' = (((a.updHart c k (fun d => { d with fails := 0 })).updHart c k (fun d => { d with
        noResponse := true, known := false })).deliverHart c k).endTurn (c / 8))) ∧
  (∀ (s : State) (t c : Nat), c < 32 → s.loopsRun = true →
    completes (.hartBurstRx t c) s fun s' =>
      s'.reg LOOP.CHc_HCNT.FAIL c = satAdd LOOP.CHc_HCNT.FAIL.width (s.reg LOOP.CHc_HCNT.FAIL c) 1 ∧
      s.regsKeptBut s' [LOOP.CHc_HCNT.FAIL] ∧ s'.loops = s.loops ∧ s'.out = s.out) ∧
  (∀ (s : State) (t : Nat), s.loopsRun = true → completes (.frontendWatchdogExpiry t) s fun s' => s' = (s.advance t).stopFrontend) ∧
  (∀ (s : State) (t : Nat), s.flag SYS.UNITS.LOOP = true → s.mode.runtimeRuns = true → s.flag UPD.PARTp_STAT.STOPPED 2 = false →
    let a := if s.loops.restarting then ((s.advance t).addReg LOOP.FERST.COUNT 0 1).noteLoop 0 else s.advance t
    completes (.frontendRestartDone t) s fun s' => s' = ({ a with loops := { a.loops with restarting := false } }).frontendRuns) ∧
  (∀ (s : State) (t p : Nat),
    let a := (((s.advance t).setReg FPIN.PINp_STAT.SHORT p 1).addReg FPIN.PINp_STAT.SHORTS p 1).addReg FPIN.SHORTCNT.COUNT 0 1
    let b := (({ a with loops := { a.loops with shortAt := a.loops.shortAt.set p (a.now + 1) } }.note 0xA (pinInstance p) []).occur 6 p
      (0x0F0 + p)).showPin p
    p < 64 → (s.advance t).pinCommand p = true →
    (b.permanent 6 p = false → completes (.pinShort t p) s fun s' => s' = b) ∧
    (b.permanent 6 p = true → completes (.pinShort t p) s fun s' =>
      s' = ((((b.setReg FPIN.PINp_STAT.RETIRED p 1).retireItem 6 p 0xA (pinInstance p) 0xAE0).showPin p).cause 4 true).preferPartner)) ∧
  (∀ (s : State) (t p : Nat),
    let a := s.advance t
    p < 64 → s.loops.shortAt.get p ≠ 0 → s.loops.shortAt.get p - 1 + msec 100 ≤ a.now →
    completes (.pinShortRetry t p) s fun s' =>
      s' = ({ a with loops := { a.loops with shortAt := a.loops.shortAt.set p 0 } }.setReg FPIN.PINp_STAT.SHORT p 0).showPin p) ∧
  (∀ (s : State) (t m : Nat) (b : Bool), m < FPIN.ACm_STAT.OVERV.count → s.flag SYS.UNITS.ACS = true →
    completes (.acOvervoltage t m b) s fun s' =>
      s'.reg FPIN.ACm_STAT.OVERV m = bn b ∧ s.regsKeptBut s' [FPIN.ACm_STAT.OVERV] ∧ s'.img = s.img ∧ s'.out = s.out)

/-- R332, R334, R335, R345 to R347, R350, R351, R353, R361, R362: the safety unit's cycle, diagnostics, watchdog, self-test, cross-check,
pre-energise test, test pulses, overcurrent and status signals. The readings of the safety unit are notes/assumptions/48.md. Completes:
safetyCycle, safetyDiagnostic, safetyWatchdogExpiry, safetySelftestDone, encoderCrossCheck, preEnergiseTest, testPulse,
outputOvercurrent, safeStatusDelivery. -/
def Obligations.SafetyUnitActs : Prop :=
  (∀ (s : State) (t reaction : Nat) (off on : List Bool) (deltas : List Int) (zs : List (Option Int)) (losses exts : List Bool),
    let a := ((s.advance t).setReg SAFE.STAT.STATE 0 (if (s.advance t).isActive then SafeState.run else SafeState.watch)).each [0, 1, 2, 3] (fun s e =>
      s.cycleEnc e ((deltas[e]?).getD 0) ((zs[e]?).getD none) ((losses[e]?).getD false))
    let b := a.each [0, 1, 2, 3] (fun s k => s.cyclePair k (s.channelDemands k off on false) (s.channelDemands k off on true))
    let d := ((b.setFlag SAFE.STAT.STARTUP_DONE 0 ([0, 1, 2, 3].all (fun k =>
      (b.safe.params.pairs.get k).use != 1 || bitOf k (b.reg SAFE.STARTUP.TESTED)))).each (List.range 8) State.cycleFun).endRequest
    (s.advance t).flag SYS.UNITS.SAFE = true → s.safeState = SafeState.run ∨ s.safeState = SafeState.watch →
    completes (.safetyCycle t off on deltas zs losses exts reaction) s fun s' =>
      s' = (d.each [0, 1, 2, 3] (fun s j => s.cycleOut reaction j ((exts[j]?).getD false))).showSafe) ∧
  (∀ (s : State) (t reaction : Nat) (off on : List Bool) (deltas : List Int) (zs : List (Option Int)) (losses exts : List Bool),
    s.flag SYS.UNITS.SAFE = true → s.safeState = SafeState.starting ∨ s.safeState = SafeState.failsafe →
    completes (.safetyCycle t off on deltas zs losses exts reaction) s fun s' => s' = (s.advance t).endRequest.showSafe) ∧
  (∀ (s : State) (t : Nat) (ok : Bool),
    let a := (s.advance t).updSafe (fun x => { x with diagAt := (s.advance t).now + 1 })
    s.flag SYS.UNITS.SAFE = true → s.safeState ≠ SafeState.failsafe →
    (ok = true → (s.safe.diagAt = 0 ∨ s.safe.diagAt - 1 + sec 3600 < (s.advance t).now) → completes (.safetyDiagnostic t ok) s fun s' =>
      s' = ((a.addReg SAFE.DIAG.TRANSIENT 0 1).note 0xC 0x30 [(1, 9)]).restartDwell 1) ∧
    (ok = true → s.safe.diagAt ≠ 0 → (s.advance t).now ≤ s.safe.diagAt - 1 + sec 3600 → completes (.safetyDiagnostic t ok) s fun s' =>
      s' = (((a.addReg SAFE.DIAG.TRANSIENT 0 1).note 0xC 0x30 [(1, 9)]).restartDwell 1).failSafe 9) ∧
    (ok = false → completes (.safetyDiagnostic t ok) s fun s' => s' = a.failSafe 9)) ∧
  (∀ (s : State) (t : Nat), s.flag SYS.UNITS.SAFE = true → s.safeState ≠ SafeState.failsafe →
    completes (.safetyWatchdogExpiry t) s fun s' => s' = (s.advance t).failSafe 0xA) ∧
  (∀ (s : State) (t : Nat), s.flag SYS.UNITS.SAFE = true → s.safeState = SafeState.starting → s.flag UPD.PARTp_STAT.STOPPED 1 = false →
    completes (.safetySelftestDone t) s fun s' =>
      s' = ((s.advance t).startCross.setReg SAFE.STAT.STATE 0 (if s.isActive then SafeState.run else SafeState.watch)).restartDwell 1) ∧
  (∀ (s : State) (t : Nat), s.flag SYS.UNITS.SAFE = true → s.safeState ≠ SafeState.failsafe → s.safeState ≠ SafeState.starting →
    completes (.encoderCrossCheck t) s fun s' => s' = ((s.advance t).each [0, 1, 2, 3] State.crossCheck).showSafe) ∧
  (∀ (s : State) (t j : Nat) (ok : Bool),
    let a := s.advance t
    j < 4 → s.flag SYS.UNITS.SAFE = true → (s.safe.out.get j).testAt ≠ 0 → s.outMayRun j = true →
    (ok = true → (s.safe.out.get j).testAt - 1 + us (2 * (s.safe.params.outs.get j).tpw) ≤ a.now →
      completes (.preEnergiseTest t j ok) s fun s' =>
        s' = (a.updOut j (fun o => { o with on := true, testAt := 0, pulseAt := a.now + msec (a.safe.params.outs.get j).tpp })).showSafe) ∧
    (ok = true → a.now < (s.safe.out.get j).testAt - 1 + us (2 * (s.safe.params.outs.get j).tpw) →
      completes (.preEnergiseTest t j ok) s fun s' => s' = a) ∧
    (ok = false → completes (.preEnergiseTest t j ok) s fun s' => s' = (a.outFault j 4).showSafe)) ∧
  (∀ (s : State) (t j : Nat) (ok : Bool), (s.safe.out.get j).testAt = 0 ∨ s.outMayRun j = false →
    completes (.preEnergiseTest t j ok) s fun s' => s' = s.advance t) ∧
  (∀ (s : State) (t j : Nat) (fell rose : Bool),
    let a := s.advance t
    let o := s.safe.out.get j
    let fin := o.pulseAt + us (s.safe.params.outs.get j).tpw
    j < 4 → o.on = true → o.pulseAt ≤ a.now →
    (fell = false → o.pulseAt + us 80 ≤ a.now → completes (.testPulse t j fell rose) s fun s' => s' = (a.outFault j 2).showSafe) ∧
    (fell = true → rose = false → fin + us 200 ≤ a.now → completes (.testPulse t j fell rose) s fun s' => s' = (a.outFault j 3).showSafe) ∧
    (fell = true → rose = true → fin ≤ a.now → completes (.testPulse t j fell rose) s fun s' =>
      s' = (a.bumpReg SAFE.PULSES.COUNT 0).updOut j (fun o => { o with
        pulseAt := o.pulseAt + msec (s.safe.params.outs.get j).tpp, lower := !o.lower })) ∧
    ((fell = false ∧ a.now < o.pulseAt + us 80) ∨ (fell = true ∧ rose = false ∧ a.now < fin + us 200) ∨
      (fell = true ∧ rose = true ∧ a.now < fin) → completes (.testPulse t j fell rose) s fun s' => s' = a)) ∧
  (∀ (s : State) (t j : Nat), j < 4 → (s.safe.out.get j).on = true →
    completes (.outputOvercurrent t j) s fun s' => s' = ((s.advance t).outFault j 5).showSafe) ∧
  (∀ (s : State) (t : Nat),
    let a := (s.advance t).updSafe (fun x => { x with due := false, shownAt := (s.advance t).now })
    s.flag SYS.UNITS.SAFE = true → s.safe.params.statusEn = true → s.ingressOn = true →
    (s.safe.due = true ∨ s.safe.shownAt + msec 100 ≤ (s.advance t).now) →
    completes (.safeStatusDelivery t) s fun s' =>
      s' = a.deliver 0x8000 (((List.range 16).zip s.safeBytes).map (fun x => (s.safe.params.status + x.1, x.2, 0))) a.now)

/-- R349, R358, R360: who may ask what of the safety unit: RESTART a core or an OPERATE command, CLEAR the ENG port at TUNE or SERVICE,
CONFIRM the ENG port at SERVICE in COMMISSION; others are DENIED and change nothing but the result; a request taken makes the mailbox BUSY, and
another before its completion is answered so; it is completed in a safety cycle with its result; the lockout ends after 10 minutes. That the
next safety cycle completes a request is notes/assumptions/48.md. Completes: safeMboxRestart, safeMboxClear, safeMboxConfirm, confirmLockEnd. -/
def Obligations.SafetyRequestsAreJudged : Prop :=
  (∀ (s : State) (t m cls port : Nat),
    completes (.safeMboxRestart t m cls port) s (fun s' => s' = (s.advance t).mbox (mayRestart m cls port) 1 none) ∧
    completes (.safeMboxClear t m cls port) s (fun s' => s' = (s.advance t).mbox ((s.advance t).mayClear m cls port) 2 none) ∧
    completes (.safeMboxConfirm t m cls port) s (fun s' => s' = (s.advance t).mbox ((s.advance t).mayConfirm m cls port) 3 none)) ∧
  (∀ (s : State) (m cls port : Nat),
    (mayRestart m cls port = true ↔ (m < 16 ∧ cls = 0) ∨ (m = 36 ∧ cls = 1 ∧ port < 3)) ∧
    (s.mayClear m cls port = true ↔ m = 36 ∧ cls = 2 ∧ port = 0 ∧ 1 ≤ s.reg PORT.STAT.KEY) ∧
    (s.mayConfirm m cls port = true ↔ m = 36 ∧ cls = 3 ∧ port = 0 ∧ s.reg PORT.STAT.KEY = 2 ∧ s.mode = .commission)) ∧
  (∀ (s : State) (op : Nat) (r : Option (Req × Nat)), s.flag SYS.UNITS.SAFE = true →
    ((s.mbox false op r).reg SAFE.MBOX_STAT.RESULT = MboxResult.denied ∧ s.regsKeptBut (s.mbox false op r) [SAFE.MBOX_STAT.RESULT] ∧
      (s.mbox false op r).safe = s.safe) ∧
    (s.safe.request.isSome = true → (s.mbox true op r).reg SAFE.MBOX_STAT.RESULT = MboxResult.busy ∧
      s.regsKeptBut (s.mbox true op r) [SAFE.MBOX_STAT.RESULT] ∧ (s.mbox true op r).safe = s.safe) ∧
    (s.safe.request = none → (s.mbox true op r).reg SAFE.MBOX_STAT.BUSY = 1 ∧ s.regsKeptBut (s.mbox true op r) [SAFE.MBOX_STAT.BUSY] ∧
      (s.mbox true op r).safe = { s.safe with request := some { op := op, arg := s.reg SAFE.MBOX_ARG.ARG, reply := r } })) ∧
  (∀ (s : State) (op : Nat) (b : Bool) (r : Option (Req × Nat)), s.flag SYS.UNITS.SAFE = false → s.mbox b op r = s) ∧
  (∀ (s : State) (q : MboxReq), s.safe.request = some q → q.reply = none →
    let x := if q.op = 1 then s.safeRestart q.arg else if q.op = 2 then s.safeClear q.arg else s.safeConfirm q.arg
    s.endRequest = ((x.2.updSafe (fun y => { y with request := none })).setReg SAFE.MBOX_STAT.BUSY 0 0).setReg SAFE.MBOX_STAT.RESULT 0 x.1) ∧
  (∀ (s : State) (q : MboxReq) (r : Req) (op : Nat), s.safe.request = some q → q.reply = some (r, op) →
    let x := if q.op = 1 then s.safeRestart q.arg else if q.op = 2 then s.safeClear q.arg else s.safeConfirm q.arg
    s.endRequest = (((x.2.updSafe (fun y => { y with request := none })).setReg SAFE.MBOX_STAT.BUSY 0 0).setReg SAFE.MBOX_STAT.RESULT 0
      x.1).respond r op 0 [(0, leBytes 4 x.1)]) ∧
  (∀ (s : State) (mask : Nat),
    let named := [0, 1, 2, 3].filter (fun j => bitOf j mask)
    let waits := fun j => (s.safe.out.get j).st == OutState.waitRestart && s.outJudge j == OutState.waitRestart
    (named.all waits = false → (s.safeRestart mask).1 = MboxResult.notWaiting) ∧ (named.all waits = true → (s.safeRestart mask).1 = MboxResult.done) ∧
    (∀ j, j ∈ named → waits j = true → ((s.safeRestart mask).2.safe.out.get j).wait = false ∧
      ((s.safeRestart mask).2.safe.out.get j).released = true) ∧
    (∀ j, j ∉ named ∨ waits j = false → (s.safeRestart mask).2.safe.out.get j = s.safe.out.get j)) ∧
  (∀ (s : State) (v : Nat), s.flag SAFE.STAT.LOCKED = false → wrap 32 v = s.reg SAFE.CHECK.VALUE →
    (s.safeConfirm v).1 = MboxResult.done ∧ (s.safeConfirm v).2.reg SAFE.CONFIRMED.VALUE = wrap 32 v ∧
    (s.safeConfirm v).2.flag SAFE.STAT.CONFIRMED = true) ∧
  (∀ (s : State) (v : Nat), s.flag SAFE.STAT.LOCKED = true → s.safeConfirm v = (MboxResult.locked, s)) ∧
  (∀ (s : State) (t : Nat), s.flag SAFE.STAT.LOCKED = true → s.safe.lockedAt + sec 600 ≤ (s.advance t).now →
    completes (.confirmLockEnd t) s fun s' => s'.flag SAFE.STAT.LOCKED = false ∧ s.regsKeptBut s' [SAFE.STAT.LOCKED] ∧ s'.safe = s.safe)

/-- R334, R347, R353, R364: an output may be energised only when it is ARMED and requested, on the active unit with its supply whole; a
latched fault or FAILSAFE gives FAULT before all else; a demand holds it in DEMAND; a fault opens it at once. -/
def Obligations.OutputsStayOffOutsideArmed : Prop :=
  (∀ (s : State) (j : Nat), s.outMayRun j = true →
    (s.safe.out.get j).st = OutState.armed ∧ (s.safe.out.get j).req = true ∧ s.isActive = true ∧ s.power.shed = false) ∧
  (∀ (s : State) (j : Nat), (s.safe.params.outs.get j).use ≠ 0 →
    ((s.safe.out.get j).fault ≠ 0 ∨ s.safeState = SafeState.failsafe → s.outJudge j = OutState.fault) ∧
    (s.outJudge j = OutState.armed → (s.safe.out.get j).fault = 0 ∧ s.safeState ≠ SafeState.failsafe ∧ s.flag SAFE.STAT.CONFIRMED = true ∧
      s.outUntested j = false ∧ s.outDemand j = false ∧ (s.safe.out.get j).wait = false ∧
      ((s.safe.params.outs.get j).restart = 1 → (s.safe.out.get j).released = true))) ∧
  (∀ (s : State) (j code : Nat), j < 4 →
    ((s.outFault j code).safe.out.get j).on = false ∧ ((s.outFault j code).safe.out.get j).fault = code ∧
    (s.outFault j code).reg SAFE.LASTFAULT.CODE = wrap SAFE.LASTFAULT.CODE.width code ∧
    ∀ k, k ≠ j → (s.outFault j code).safe.out.get k = s.safe.out.get k) ∧
  (∀ (s : State) (k : Nat) (a b : Bool), (s.safe.params.pairs.get k).use ≠ 0 → (s.safe.pair.get k).st = PairState.released → b = a →
    ((s.cyclePair k a b).safe.pair.get k).st = (if a then PairState.demand else PairState.released)) ∧
  (∀ (s : State) (k : Nat) (a b : Bool), (s.safe.params.pairs.get k).use ≠ 0 → (s.safe.pair.get k).st = PairState.faultHeld →
    (a || b) = true → ((s.cyclePair k a b).safe.pair.get k).st = PairState.faultHeld ∨ ((s.cyclePair k a b).safe.pair.get k).st = PairState.fault)

/-- R369, R372 to R375, R379 to R385: frames received through the Strainer and in error, requests, pushes and cancels, frames sent and lost,
the loop delay measured in them, the pause without a partner, bus-off and recovery. The readings of the CAN engine are notes/assumptions/49.md. Completes: canFrameRx,
canRxError, txreqWrite, txqPush, txcancelWrite, txSuccess, txError, noPartnerPauseEnd, busOff, recover, busOffDelayEnd, recoveryDone. -/
def Obligations.CanFramesAndErrors : Prop :=
  (∀ (s : State) (t n sof idw dlc : Nat) (data : List Nat),
    let a := ((s.advance t).goodRx n).judgeCan n
    n < 4 → s.canOn n = true → s.reg CAN.STAT.STATE n ≠ 3 →
    (completes (.canFrameRx t n sof idw dlc true data) s fun s' => s' = a.addReg CAN.RXCNT.REMOTE n 1) ∧
    ((a.elements sof).strain n idw = none → completes (.canFrameRx t n sof idw dlc false data) s fun s' => s' = a.addReg CAN.RXCNT.NOMATCH n 1) ∧
    (∀ e, (a.elements sof).strain n idw = some e →
      let x := (a.elements sof).elemAction n e
      (x.2.1 = false → completes (.canFrameRx t n sof idw dlc false data) s fun s' => s' = a.keepFrame n x.1 e sof idw dlc data) ∧
      (x.2.1 = true → completes (.canFrameRx t n sof idw dlc false data) s fun s' =>
        s' = (a.keepFrame n x.1 e sof idw dlc data).deliverMap n e x.2.2 sof data))) ∧
  (∀ (s : State) (t n lec : Nat) (p : Bool),
    let a := ((s.advance t).setReg CAN.ERR.LEC n (min lec 6)).raiseRec n (if p then 8 else 1)
    n < 4 → s.canOn n = true → s.reg CAN.STAT.STATE n ≠ 3 →
    completes (.canRxError t n lec p) s fun s' => s' = (a.when a.isActive (fun s => s.addReg CAN.ERRCNT.FRAMES n 1)).judgeCan n) ∧
  (∀ (s : State) (t b n mask pc e x : Nat) (areas : List (Option CanFrame)),
    let a := s.advance t
    s.cycleTask b = some x → n < 4 → s.canOn n = true →
    (((List.range 32).filter (fun i => bitOf i mask)).any (fun i => s.reg CAN.TXBb_CFG.OWNER (txKey n i) != x) = true →
      completes (.txreqWrite t b n mask pc e areas) s fun s' => s' = a.canFault b x pc (CAN.TXREQ.REQ.addrOf n) e) ∧
    (((List.range 32).filter (fun i => bitOf i mask)).any (fun i => s.reg CAN.TXBb_CFG.OWNER (txKey n i) != x) = false →
      let bits := (List.range 32).filter (fun i => bitOf i mask)
      let l := bits.filter (fun i => !s.flag CAN.TXBb_CFG.MAPPED (txKey n i))
      let w := a.each ((bits.zip areas).filter (fun y => l.contains y.1)) (fun s y => s.writeArea (canWord n (txPlace y.1)) y.2)
      completes (.txreqWrite t b n mask pc e areas) s fun s' =>
        s' = (w.setReg CAN.TXREQ.REQ n (w.reg CAN.TXREQ.REQ n ||| wrap 32 (l.map (fun i => 2 ^ i)).sum)).updTask x (fun d => { d with
          canStaged := d.canStaged.filter (fun y => !(y.1 == n && l.contains y.2)) ++ l.map (fun i => (n, i)) }))) ∧
  (∀ (s : State) (t b n pc e x : Nat) (area : Option CanFrame),
    let a := s.advance t
    s.cycleTask b = some x → n < 4 → s.canOn n = true →
    (s.reg CAN.CFG.TXQTASK n = x → completes (.txqPush t b n pc e area) s fun s' =>
      s' = ((a.writeArea (canWord n (queuePlace ((s.canPort n).queueAt + (s.canPort n).queue.length +
        ((s.task x).canStaged.filter (fun y => y == (n, 32))).length))) area).setReg CAN.TXQSTAT.PUSH n 1).updTask x
          (fun d => { d with canStaged := d.canStaged ++ [(n, 32)] })) ∧
    (s.reg CAN.CFG.TXQTASK n ≠ x → completes (.txqPush t b n pc e area) s fun s' =>
      s' = a.canFault b x pc (CAN.TXQSTAT.PUSH.addrOf n) e)) ∧
  (∀ (s : State) (t m n mask : Nat), n < 4 → s.absentAt (CAN.TXCANCEL.CAN.addrOf n) = false →
    completes (.txcancelWrite t m n mask) s fun s' =>
      s' = (s.advance t).each ((List.range 32).filter (fun b => bitOf b mask)) (fun s b => s.cancelTx n b)) ∧
  (∀ (s : State) (t n sof tdcv i : Nat),
    let a := (((((s.advance t).addReg CAN.TXCNT.COUNT n 1).setReg CAN.ERR.LEC n 0).dropReg CAN.ERR.TEC n).setReg CAN.STAT.NO_PARTNER n 0).updCan n
      (fun p => { p with ackErrs := 0 })
    let b := (a.noteTdcv n (s.txFrame n i).idw tdcv).judgeCan n
    (s.canPort n).active = some i → i < 31 →
    completes (.txSuccess t n sof tdcv) s fun s' =>
      s' = (((b.updCan n (fun p => { p with buf := p.buf.upd i (fun f => { f with stamp := wrap 64 (sof / 4) }) })).dmaWrite canDma 256 1
        (canWord n (txPlace i) + 1) [wrap 64 (sof / 4)]).leaveBus n i TxStatus.sent).startTx n) ∧
  (∀ (s : State) (t n i : Nat) (f : TxFault) (p : Bool),
    let a := f.tdcv.elim (s.advance t) (fun v => (s.advance t).noteTdcv n (s.txFrame n i).idw v)
    let b := (a.setReg CAN.ERR.LEC n (min f.lec 6)).addReg CAN.ERRCNT.FRAMES n 1
    let c := if p = true ∧ f.lec = 3 ∧ b.reg CAN.STAT.STATE n = 2 then b else b.setReg CAN.ERR.TEC n (min (b.reg CAN.ERR.TEC n + 8) 511)
    let d := (if f.lec = 3 then c.ackError n else c.updCan n (fun q => { q with ackErrs := 0 })).judgeCan n
    (s.canPort n).active = some i → i < 32 →
    (f.lec = 0 → completes (.txError t n f p) s fun s' =>
      s' = (a.leaveBus n i (if a.flag CAN.TXBb_CFG.SINGLE (txKey n i) then TxStatus.failed else TxStatus.pending)).startTx n) ∧
    (f.lec ≠ 0 → completes (.txError t n f p) s fun s' =>
      s' = (d.leaveBus n i (if d.flag CAN.TXBb_CFG.SINGLE (txKey n i) then TxStatus.failed else TxStatus.pending)).startTx n)) ∧
  (∀ (s : State) (t n : Nat) (f : TxFault) (p : Bool), (s.canPort n).active = none →
    completes (.txError t n f p) s fun s' => s' = s.advance t) ∧
  (∀ (s : State) (t n : Nat),
    let a := (s.advance t).setReg CAN.STAT.PAUSED n 0
    s.flag CAN.STAT.PAUSED n = true → (s.canPort n).pauseAt - 1 + msec (s.reg CAN.NPCFG.PAUSE n) ≤ (s.advance t).now →
    completes (.noPartnerPauseEnd t n) s fun s' => s' = (a.updCan n (fun p => { p with ackErrs := 0, pauseAt := 0 })).startTx n) ∧
  (∀ (s : State) (t n : Nat),
    let a := (((s.advance t).record 0xB01 n .warning [(1, s.reg CAN.ERR.LEC n)]).addReg CAN.ERRCNT.BUSOFF n 1).occur 8 n (0x134 + n)
    let b := (a.setReg CAN.STAT.STATE n 3).updCan n (fun p => { p with busOffAt := a.now + 1, prevOk := false })
    n < 4 → s.canOn n = true → s.isActive = true → s.reg CAN.STAT.STATE n ≠ 3 → (s.canPort n).active = none → 255 < s.reg CAN.ERR.TEC n →
    completes (.busOff t n) s fun s' =>
      s' = if b.permanent 8 n then (b.retireItem 8 n 0xB n 0xB01).setReg CAN.STAT.RETIRED n 1 else b) ∧
  (∀ (s : State) (t m n : Nat), n < 4 → s.busOffHere n = true →
    (completes (.recover t m n) s fun s' =>
      s'.flag CAN.STAT.RECOVERING n = true ∧ s.regsKeptBut s' [CAN.STAT.RECOVERING] ∧ s'.can = s.can ∧ s'.out = s.out) ∧
    (s.flag CAN.BOCFG.AUTO n = true → (s.canPort n).busOffAt - 1 + msec (s.reg CAN.BOCFG.DELAY n) ≤ (s.advance t).now →
      completes (.busOffDelayEnd t n) s fun s' =>
        s'.flag CAN.STAT.RECOVERING n = true ∧ s.regsKeptBut s' [CAN.STAT.RECOVERING] ∧ s'.can = s.can ∧ s'.out = s.out)) ∧
  (∀ (s : State) (t n : Nat), s.canOn n = true → s.reg CAN.STAT.STATE n = 3 → s.flag CAN.STAT.RECOVERING n = true →
    completes (.recoveryDone t n) s fun s' =>
      s' = (((s.advance t).freshPort n).updCan n (fun p => { p with busOffAt := 0, ackErrs := 0 })).startTx n)

/-- R386 to R389: reference messages sent and received, and the holdover of the CAN time. PB12 of a master is notes/assumptions/22.md.
Completes: ctsReferenceSend, ctsReferenceRx, ctsHoldover. -/
def Obligations.CanTimeService : Prop :=
  (∀ (s : State) (t n : Nat),
    let m := wrap 16 (s.reg CAN.CTS_STAT.MSEQ n + 1)
    let b := if (s.canPort n).prevOk then s.advance t else (s.advance t).nextFree
    let a := b.updCan n (fun p => { p with
      prevOk := false, sending := s.canSends n, sentAt := b.now, sentVal := b.baseVal (min 5 (s.reg CAN.CTS_CFG.BASE n))
      sentEpoch := b.baseEpoch (min 5 (s.reg CAN.CTS_CFG.BASE n)) })
    n < 4 → s.canOn n = true → s.isActive = true → s.reg CAN.CTS_CFG.ROLE n = 1 → (s.advance t).referenceDue n = true →
    (s.canSends n = true → completes (.ctsReferenceSend t n) s fun s' =>
      s' = (a.setReg CAN.CTS_STAT.MSEQ n m).requestTx n 31
        { idw := s.reg CAN.CTS_ID.ID n + bn (s.flag CAN.CTS_ID.IDE n) * 2 ^ 29 + 2 ^ 30 + bn (s.flag CAN.CFG.BRSEN n) * 2 ^ 31
          dlc := 10, data := (s.advance t).referenceData n m, stamp := 0 }) ∧
    (s.canSends n = false → completes (.ctsReferenceSend t n) s fun s' => s' = a)) ∧
  (∀ (s : State) (t n sof mseq v e b f : Nat),
    let a := ((s.advance t).updCan n (fun p => { p with
      captures := ((wrap 16 mseq, sof) :: (s.canPort n).captures.filter (fun x => x.1 != wrap 16 mseq)).take 4 })).setReg
        CAN.CTS_STAT.MSEQ n (wrap 16 mseq)
    n < 4 → s.canOn n = true → s.reg CAN.STAT.STATE n ≠ 3 → s.reg CAN.CTS_CFG.ROLE n = 2 →
    (bitOf 0 f = true → completes (.ctsReferenceRx t n sof mseq v e b f) s fun s' => s' = a.setReg CAN.CTS_STAT.PAIRED n 0) ∧
    (∀ c, bitOf 0 f = false → (s.canPort n).captures.find? (fun x => x.1 == diffMod 16 (wrap 16 mseq) 1) = some c →
      s.mode ≠ .standby → s.mode ≠ .sync →
      completes (.ctsReferenceRx t n sof mseq v e b f) s fun s' =>
        s' = ((a.setReg CAN.CTS_STAT.PAIRED n 1).disciplineCan n (wrap 16 mseq) (wrap 64 v) (c.2 - ns (s.reg CAN.CTS_PDLY.NS n))).steerRef 12)) ∧
  (∀ (s : State) (t n : Nat), n < 4 → s.reg CAN.CTS_CFG.ROLE n = 2 → s.mode ≠ .standby → s.mode ≠ .sync →
    (s.reg PHASE.BASEn_STATUS.STATE 12 = BaseState.locked → (s.canPort n).pairAt - 1 + 12 * s.ctsPeriod n ≤ (s.advance t).now →
      completes (.ctsHoldover t n) s fun s' =>
        s'.reg PHASE.BASEn_STATUS.STATE 12 = BaseState.holdover ∧ s.regsKeptBut s' [PHASE.BASEn_STATUS.STATE] ∧ s'.out = s.out) ∧
    (s.reg PHASE.BASEn_STATUS.STATE 12 = BaseState.holdover →
      (s.phase.base.get 12).holdAt + sec (s.reg CAN.CTS_CFG.HOLDTO n) ≤ (s.advance t).now →
      completes (.ctsHoldover t n) s fun s' =>
        s'.reg PHASE.BASEn_STATUS.STATE 12 = BaseState.unlocked ∧ s.regsKeptBut s' [PHASE.BASEn_STATUS.STATE] ∧ s'.out = s.out))

/-- R376, R380, R383: a FIFO never holds more than 64 frames and a queue never more than 16; a port is error-passive exactly when TEC
exceeds 127 or RP is set, and bus-off stays; a request on an ACTIVE buffer waits for its frame to end. -/
def Obligations.CanBoundsAndStates : Prop :=
  (∀ (s : State) (n k : Nat) (e : CanEntry), k < 2 → (s.canPort n).fifo0.length ≤ 64 → (s.canPort n).fifo1.length ≤ 64 →
    ((s.storeFifo n k e).canPort n).fifo0.length ≤ 64 ∧ ((s.storeFifo n k e).canPort n).fifo1.length ≤ 64) ∧
  (∀ (s : State) (n : Nat) (f : CanFrame), 16 ≤ (s.canPort n).queue.length → s.mayNotSend n f = false →
    s.pushTx n f = s.setReg CAN.TXQSTAT.FULL n 1) ∧
  (∀ (s : State) (n : Nat), n < 4 → s.reg CAN.STAT.STATE n ≠ 3 →
    ((s.judgeCan n).reg CAN.STAT.STATE n = 2 ↔ (127 < s.reg CAN.ERR.TEC n ∨ s.flag CAN.ERR.RP n = true)) ∧
    ((s.judgeCan n).reg CAN.STAT.STATE n ≠ 2 → (s.judgeCan n).reg CAN.STAT.STATE n = 1)) ∧
  (∀ (s : State) (n : Nat), s.reg CAN.STAT.STATE n = 3 → s.judgeCan n = s) ∧
  (∀ (s : State) (n b : Nat) (f : CanFrame), s.mayNotSend n f = false → s.txStatus n b = TxStatus.active →
    (s.requestTx n b f).regs = s.regs ∧ ((s.requestTx n b f).canPort n).again.get b = some f ∧
    ((s.requestTx n b f).canPort n).buf = (s.canPort n).buf)

/-- R393 to R397, R399, R409: Announce, Sync and Follow_Up of a track's master, their timeouts, the delay mechanism, and a link's loss. The
order of masters is notes/assumptions/50.md, the servo notes/assumptions/51.md. Completes: announceRx, announceTimeout, syncRx,
followUpRx, syncTimeout, domainHoldoverTimeout, delayReqSend, delayRespRx, pdelayReqRx, portLinkUp, portLinkDown. -/
def Obligations.DomainTracksFollowTheirMasters : Prop :=
  (∀ (s : State) (t port tr dom k : Nat) (x : Ann),
    let a := s.advance t
    s.ptpOn port = true → x.steps < 255 → s.trackFor port tr dom = some k →
    completes (.announceRx t port tr dom x) s fun s' =>
      s' = ((a.updTrk k (fun d => { d with
        anns := { x with port := port, at_ := a.now, gm := wrap 64 x.gm } :: (d.anns.filter (fun b => a.annFresh k b && !(b.port == port && b.sender == x.sender)))
        })).rechoose k).settlePtp) ∧
  (∀ (s : State) (t k : Nat),
    let a := s.advance t
    k < 4 → s.flag PTP.DOMk_CFG.EN k = true → (s.trk k).chosen ≠ none → (s.trk k).anns.filter (a.annFresh k) = [] →
    completes (.announceTimeout t k) s fun s' =>
      s' = ((((a.updTrk k (fun d => { d with anns := [] })).reanchor (2 + k)).setBaseState (2 + k) BaseState.invalid).updTrk k (fun d => { d with
        chosen := none, waiting := none, asked := false, good := 0, outlier := false })).settlePtp) ∧
  (∀ (s : State) (t port tr dom snd seq rx origin k : Nat) (corr li acq : Int),
    let a := ((s.advance t).updTrk k (fun d => { d with logSync := li })).setReg PTP.DOMk_STAT.LOGSYNC k (ofSigned 4 li)
    li ≤ 1 → -7 ≤ li → s.trackOfMaster port tr dom snd = some k →
    (completes (.syncRx t port tr dom snd seq rx true origin corr li acq) s fun s' =>
      s' = a.updTrk k (fun d => { d with waiting := some (seq, min rx (s.advance t).now, corr) })) ∧
    (completes (.syncRx t port tr dom snd seq rx false origin corr li acq) s fun s' =>
      s' = a.completeSync k port (min rx (s.advance t).now) origin corr acq)) ∧
  (∀ (s : State) (t port tr dom snd seq rx origin k : Nat) (corr acq c : Int), s.trackOfMaster port tr dom snd = some k →
    (s.trk k).waiting = some (seq, rx, c) →
    completes (.followUpRx t port tr dom snd seq origin corr acq) s fun s' =>
      s' = (s.advance t).completeSync k port rx origin (c + corr) acq) ∧
  (∀ (s : State) (t k : Nat),
    let a := s.advance t
    k < 4 → s.flag PTP.DOMk_CFG.EN k = true → s.reg PHASE.BASEn_STATUS.STATE (2 + k) = BaseState.locked →
    (s.trk k).syncAt - 1 + 3 * logSeconds (s.trk k).logSync ≤ a.now →
    completes (.syncTimeout t k) s fun s' =>
      s' = (((a.setBaseState (2 + k) BaseState.holdover).updBase (2 + k) (fun d => { d with holdAt := a.now })).updTrk k (fun d => { d with
        good := 0 })).settlePtp) ∧
  (∀ (s : State) (t k : Nat),
    let a := s.advance t
    k < 4 → s.reg PHASE.BASEn_STATUS.STATE (2 + k) = BaseState.holdover → (s.phase.base.get (2 + k)).holdAt + sec 10 ≤ a.now →
    completes (.domainHoldoverTimeout t k) s fun s' => s' = (a.setBaseState (2 + k) BaseState.unlocked).settlePtp) ∧
  (∀ (s : State) (t k : Nat), k < 4 → s.flag PTP.DOMk_CFG.EN k = true → s.mode.runtimeRuns = true → (s.trk k).chosen ≠ none → (s.trk k).reqAt = 0 →
    completes (.delayReqSend t k) s fun s' =>
      s' = ((s.advance t).updTrk k (fun d => { d with reqAt := (s.advance t).now + 1, asked := true })).emit
        (.ptp k (if s.flag PTP.DOMk_CFG.DELAY k then 2 else 1) [s.reg PTP.DOMk_STAT.PORT k])) ∧
  (∀ (s : State) (t port tr dom snd rx stamp k : Nat) (corr ml : Int), s.trackOfResponder port tr dom snd = some k → k < 4 →
    (s.trk k).asked = true → s.flag PTP.DOMk_CFG.DELAY k = true →
    completes (.delayRespRx t port tr dom snd rx stamp corr ml) s fun s' =>
      s'.reg PTP.DOMk_DELAY.NS k = min (max 0 ((((rx - ((s.trk k).reqAt - 1) : Nat) : Int) * 2 ^ 30 - (stamp : Int) * 2 ^ 32 - corr * 2 ^ 16) *
        100 / 2 ^ 33)).toNat (2 ^ 32 - 1) ∧
      (s'.trk k).asked = false ∧ s.regsKeptBut s' [PTP.DOMk_DELAY.NS] ∧ s'.out = s.out) ∧
  (∀ (s : State) (t port tr dom seq k : Nat), s.ptpOn port = true → s.trackFor port tr dom = some k → s.flag PTP.DOMk_CFG.DELAY k = true →
    completes (.pdelayReqRx t port tr dom seq) s fun s' =>
      s' = ((s.advance t).emit (.ptp k 3 [port, seq])).emit (.ptp k 10 [port, seq])) ∧
  (∀ (s : State) (t : Nat), completes (.portLinkUp t 0) s fun s' =>
    s'.flag PORT.STAT.ENG_LINK = true ∧ s.regsKeptBut s' [PORT.STAT.ENG_LINK] ∧ s'.ptp = s.ptp) ∧
  (∀ (s : State) (t : Nat), completes (.portLinkUp t 1) s fun s' =>
    s'.flag PORT.STAT.PLA_LINK = true ∧ s.regsKeptBut s' [PORT.STAT.PLA_LINK] ∧ s'.ptp = s.ptp) ∧
  (∀ (s : State) (t : Nat), completes (.portLinkDown t 0) s fun s' =>
    s'.flag PORT.STAT.ENG_LINK = false ∧ s.regsKeptBut s' [PORT.STAT.ENG_LINK] ∧ s'.ptp = s.ptp) ∧
  (∀ (s : State) (t p : Nat),
    let a := (s.advance t).setLink p false
    p = 1 ∨ p = 2 →
    completes (.portLinkDown t p) s fun s' =>
      s' = (a.each (List.range 4) (fun s k =>
        if (s.trk k).anns.filter (fun x => x.port != p - 1 && s.annFresh k x) = [] then s
        else (s.updTrk k (fun d => { d with anns := (s.trk k).anns.filter (fun x => x.port != p - 1 && s.annFresh k x) })).rechoose k)).settlePtp)

/-- R400, R402 to R405: plant time set by hand, its return to the primary, its holdover, and what an offset from the selected track does:
slewed within the step threshold, stepped beyond it where STEPACT is set, slewed at 50 ppm otherwise. Which tracks are used again is
notes/assumptions/52.md. Completes: plantRevert, plantHoldoverTimeout, plantSetHiWrite. -/
def Obligations.PlantTimeFollowsItsTracks : Prop :=
  (∀ (s : State) (t : Nat),
    let a := (s.advance t).judgeQual
    a.plantOwn = true → a.flag PTP.PLANT_STAT.SELVALID = true → a.flag PTP.PLANT_STAT.ONSEC = true →
    a.usable (a.reg PTP.PLANT_CFG.PRIM) = true → a.reg PTP.PLANT_CFG.REVERT ≠ 0 → a.ptp.primSince ≠ 0 →
    a.ptp.primSince - 1 + sec (a.reg PTP.PLANT_CFG.REVERT) ≤ a.now →
    completes (.plantRevert t) s fun s' => s' = a.switchPlant (a.reg PTP.PLANT_CFG.PRIM)) ∧
  (∀ (s : State) (t : Nat), s.plantOwn = true → s.reg PHASE.BASEn_STATUS.STATE 1 = BaseState.holdover →
    (s.phase.base.get 1).holdAt + sec (s.reg PTP.PLANT_CFG.HOLDTO) ≤ (s.advance t).now →
    completes (.plantHoldoverTimeout t) s fun s' =>
      s'.reg PHASE.BASEn_STATUS.STATE 1 = BaseState.unlocked ∧ s.regsKeptBut s' [PHASE.BASEn_STATUS.STATE] ∧ s'.phase = (s.advance t).phase) ∧
  (∀ (s : State) (t m hi : Nat),
    let v := wrap 32 hi * 2 ^ 32 + s.reg PTP.PLANT_SET_LO.VAL
    s.reg PTP.PLANT_CFG.SRC ≠ 1 → s.mode ≠ .standby → s.mode ≠ .sync →
    completes (.plantSetHiWrite t m hi) s fun s' =>
      s' = (s.advance t).stepBase 1 (if s.reg PHASE.BASEn_STATUS.STATE 1 = BaseState.invalid then Cause.acquisition else Cause.plantSet)
        (decide (s.reg PHASE.BASEn_STATUS.STATE 1 = BaseState.invalid)) (fun s =>
        ((s.anchorAt 1 v).setReg PHASE.BASEn_RATE.RATE 1 0).setBaseState 1 BaseState.locked)) ∧
  (∀ (s : State) (t m hi : Nat), s.reg PTP.PLANT_CFG.SRC = 1 ∨ s.mode = .standby ∨ s.mode = .sync →
    completes (.plantSetHiWrite t m hi) s fun s' => s.regsKeptBut s' recorderFlds ∧ s'.phase = (s.advance t).phase ∧ s'.ptp = s.ptp) ∧
  (∀ (s : State) (k : Nat) (o : Int), o.natAbs ≤ fracUs (s.reg PTP.PLANT_STEP.THR) → s.plantStep k o = s.slewPlant k o false) ∧
  (∀ (s : State) (k : Nat) (o : Int), fracUs (s.reg PTP.PLANT_STEP.THR) < o.natAbs → s.flag PTP.PLANT_CFG.STEPACT = false →
    s.plantStep k o = s.slewPlant k o true) ∧
  (∀ (s : State) (k : Nat), fracUs (s.reg PTP.PLANT_SWMAX.MAX) < (s.plantOffset k).natAbs →
    (s.switchPlant k).reg PTP.PLANT_STAT.DISAGREE = 1 ∧ (s.switchPlant k).usable k = false ∧
    (s.switchPlant k).reg PTP.SWITCHES.DISAGREE = satAdd PTP.SWITCHES.DISAGREE.width (s.reg PTP.SWITCHES.DISAGREE) 1 ∧
    s.regsKeptBut (s.switchPlant k) ([PTP.PLANT_STAT.DISAGREE, PTP.SWITCHES.DISAGREE] ++ recorderFlds) ∧
    (s.switchPlant k).phase = s.phase)

/-- R325, R360, R418, R424, R428 to R430, R466: READ, OPERATE and TUNE requests that are taken up: their items in order, each with its
result, and the response. The statuses of corner items are notes/assumptions/54.md, opaque bytes notes/assumptions/57.md. Completes:
readSig, readStat, readRec, attest, attestSigned, readIdkey, writeSig, ackAlarm, safeRestart, forceSet, forceClear, writeRt, safeClear,
hartPass. -/
def Obligations.ReadOperateAndTuneRequests : Prop :=
  (∀ (s : State) (t p c q x : Nat) (l : List Nat),
    let b := (s.advance t).taken ⟨p, c, q, x⟩ ⟨1, 0, 58⟩ l.length
    (s.advance t).admitsRequest ⟨p, c, q, x⟩ ⟨1, 0, 58⟩ 0 l.length →
    completes (.readSig t p c q x l) s fun s' =>
      s' = (b.doItems State.readSig l).2.answer ⟨p, c, q, x⟩ 1 (b.doItems State.readSig l).1) ∧
  (∀ (b : State) (sig : Nat), sig < 2 ^ 17 →
    let a := b.noteDmaSlot portBridge 256 sig
    (b.readsSlot portBridge 256 sig = false → b.readSig sig = ((Status.denied, []), a)) ∧
    (b.readsSlot portBridge 256 sig = true → (b.img.dir.get sig).isSome = true → b.slotPoison sig ≠ (false, false) →
      b.readSig sig = ((Status.errPoison, []), a)) ∧
    (b.readsSlot portBridge 256 sig = true → ((b.img.dir.get sig).isSome = true → b.slotPoison sig = (false, false)) →
      b.readSig sig = ((0, leBytes 4 sig ++ leBytes 8 (b.slotOf sig).value ++ leBytes 8 (b.slotOf sig).word1), a))) ∧
  (∀ (s : State) (t p c q x : Nat),
    let b := (s.advance t).taken ⟨p, c, q, x⟩ ⟨2, 0, 1⟩ 1
    (s.advance t).admitsRequest ⟨p, c, q, x⟩ ⟨2, 0, 1⟩ 0 1 →
    completes (.readStat t p c q x [0]) s fun s' => s' = b.answer ⟨p, c, q, x⟩ 2 [(0, b.summary)]) ∧
  (∀ (s : State) (t p c q x first n f : Nat),
    let b := (s.advance t).taken ⟨p, c, q, x⟩ ⟨3, 0, 1⟩ 1
    (s.advance t).admitsRequest ⟨p, c, q, x⟩ ⟨3, 0, 1⟩ 0 1 → n ≠ 0 →
    f = max first (b.reg REC.OLDEST.RECNO) →
    completes (.readRec t p c q x [(first, n)]) s fun s' => s' = b.startFlush.answer ⟨p, c, q, x⟩ 3
      [(0, leBytes 4 f ++ leBytes 4 (min (min n 44) (b.reg REC.NEWEST.RECNO + 1 - f)) ++
        ((List.range (min (min n 44) (b.reg REC.NEWEST.RECNO + 1 - f))).map
          (fun k => (((b.windowAt (f + k)).words).map (leBytes 4)).flatten)).flatten)]) ∧
  (∀ (s : State) (t p c q x n : Nat),
    let b := (s.advance t).taken ⟨p, c, q, x⟩ ⟨4, 0, 1⟩ 1
    (s.advance t).admitsRequest ⟨p, c, q, x⟩ ⟨4, 0, 1⟩ 0 1 → s.port.attest.length < 4 →
    completes (.attest t p c q x [n]) s fun s' =>
      s' = { b with port := { b.port with attest := b.port.attest ++ [(⟨p, c, q, x⟩, wrap 256 n)] } }) ∧
  (∀ (s : State) (t n : Nat) (r : Req) (l : List (Req × Nat)),
    let b := (({ s.advance t with port := { s.port with attest := l } }).bumpReg PORT.ATTCNT.COUNT 0).setGate 0
    s.port.attest = (r, n) :: l →
    completes (.attestSigned t) s fun s' =>
      s' = b.answer r 4 [(0, b.report n ++ leBytes 1280 (Config.signature (ofBytes (b.report n))))]) ∧
  (∀ (s : State) (t p c q x o n : Nat),
    let b := (s.advance t).taken ⟨p, c, q, x⟩ ⟨5, 0, 1⟩ 1
    (s.advance t).admitsRequest ⟨p, c, q, x⟩ ⟨5, 0, 1⟩ 0 1 → n ≤ 1024 → o + n ≤ 1793 →
    completes (.readIdkey t p c q x [(o, n)]) s fun s' => s' = b.answer ⟨p, c, q, x⟩ 5 [(0, identityBytes o n)]) ∧
  (∀ (s : State) (t p c q x : Nat) (l : List (Nat × Nat)),
    let b := (s.advance t).taken ⟨p, c, q, x⟩ ⟨0x101, 1, 120⟩ l.length
    (s.advance t).admitsRequest ⟨p, c, q, x⟩ ⟨0x101, 1, 120⟩ 0 l.length →
    completes (.writeSig t p c q x l) s fun s' =>
      s' = (b.doItems (State.writeSig p) l).2.answer ⟨p, c, q, x⟩ 0x101 (b.doItems (State.writeSig p) l).1) ∧
  (∀ (b : State) (p sig v : Nat) (d : DirEntry), p ≠ 3 → b.img.dir.get sig = some d →
    (d.owner / 4096 = 7 → State.writeSig p b (sig, v) = ((0, []), b.commandWrite sig p v)) ∧
    (d.owner / 4096 ≠ 7 → State.writeSig p b (sig, v) = ((Status.notOwner, []), b.ownerRefused sig (0x7000 + p)))) ∧
  (∀ (s : State) (t p c q x : Nat) (l : List Nat),
    let b := (s.advance t).taken ⟨p, c, q, x⟩ ⟨0x102, 1, 64⟩ l.length
    (s.advance t).admitsRequest ⟨p, c, q, x⟩ ⟨0x102, 1, 64⟩ 0 l.length →
    completes (.ackAlarm t p c q x l) s fun s' =>
      s' = (b.doItems (State.ackAlarm p) l).2.answer ⟨p, c, q, x⟩ 0x102 (b.doItems (State.ackAlarm p) l).1) ∧
  (∀ (b : State) (p k sig : Nat) (im : Image), k < 64 → b.struct.image = some im → im.acks[k]? = some sig → (b.img.dir.get sig).isSome = true →
    State.ackAlarm p b k = ((0, []), b.commandWrite sig p (wrap 64 (b.ownerValue sig + 1)))) ∧
  (∀ (s : State) (t p c q x m : Nat),
    let b := (s.advance t).taken ⟨p, c, q, x⟩ ⟨0x103, 1, 1⟩ 1
    let n := b.setReg SAFE.MBOX_ARG.ARG 0 m
    let d := n.mbox (mayRestart 36 1 p) 1 (some (⟨p, c, q, x⟩, 0x103))
    p ≠ 3 → (s.advance t).admitsRequest ⟨p, c, q, x⟩ ⟨0x103, 1, 1⟩ 0 1 → s.flag SYS.UNITS.SAFE = true →
    completes (.safeRestart t p c q x [m]) s fun s' =>
      s' = if (d.safe.request.bind (·.reply)) = some (⟨p, c, q, x⟩, 0x103) then d
        else d.answer ⟨p, c, q, x⟩ 0x103 [(0, leBytes 4 (d.reg SAFE.MBOX_STAT.RESULT))]) ∧
  (∀ (s : State) (t p c q x : Nat) (l : List (Nat × Nat)),
    let b := (s.advance t).taken ⟨p, c, q, x⟩ ⟨0x201, 2, 60⟩ l.length
    (s.advance t).admitsRequest ⟨p, c, q, x⟩ ⟨0x201, 2, 60⟩ 0 l.length →
    completes (.forceSet t p c q x l) s fun s' =>
      s' = State.answerForce ⟨p, c, q, x⟩ 0x201 (s.reg PAIR.MSEQ_SENT.MSEQ) (b.doItems (State.forceSet p) l).2 (b.doItems (State.forceSet p) l).1) ∧
  (∀ (b : State) (p sig v : Nat) (d : DirEntry), b.img.dir.get sig = some d →
    (d.safety = true → State.forceSet p b (sig, v) = ((Status.forceSafety, []), b)) ∧
    (d.safety = false → (b.img.forces.get sig).isSome = true ∨ b.img.forces.length < Config.forceMax →
      State.forceSet p b (sig, v) = ((0, []), (((b.grantSeq 1).2.placeForce sig v p (b.grantSeq 1).1).copyToPins sig).sendMirror .async
        (.force sig true (normalise d.type v) p) (seq64 := (b.grantSeq 1).1)))) ∧
  (∀ (s : State) (t p c q x : Nat) (l : List Nat),
    let b := (s.advance t).taken ⟨p, c, q, x⟩ ⟨0x202, 2, 120⟩ l.length
    (s.advance t).admitsRequest ⟨p, c, q, x⟩ ⟨0x202, 2, 120⟩ 0 l.length →
    completes (.forceClear t p c q x l) s fun s' =>
      s' = State.answerForce ⟨p, c, q, x⟩ 0x202 (s.reg PAIR.MSEQ_SENT.MSEQ) (b.doItems (State.forceClear p) l).2 (b.doItems (State.forceClear p) l).1) ∧
  (∀ (b : State) (p sig : Nat), (b.img.dir.get sig).isSome = true → (b.img.forces.get sig).isSome = true →
    State.forceClear p b sig = ((0, []), (((b.grantSeq 1).2.liftForce sig (b.grantSeq 1).1).copyToPins sig).sendMirror .async
      (.force sig false 0 p) (seq64 := (b.grantSeq 1).1))) ∧
  (∀ (s : State) (t p c q x a v : Nat),
    let b := (s.advance t).taken ⟨p, c, q, x⟩ ⟨0x203, 2, 120⟩ 1
    (s.advance t).admitsRequest ⟨p, c, q, x⟩ ⟨0x203, 2, 120⟩ 0 1 →
    (s.isRunTime a = true → completes (.writeRt t p c q x [(a, v)]) s fun s' =>
      s' = (b.writeRegister 36 a (wrap 32 v) 0).2.answer ⟨p, c, q, x⟩ 0x203 [((b.writeRegister 36 a (wrap 32 v) 0).1, [])]) ∧
    (s.isRunTime a = false → completes (.writeRt t p c q x [(a, v)]) s fun s' =>
      s' = b.answer ⟨p, c, q, x⟩ 0x203 [(Status.notRuntime, [])])) ∧
  (∀ (s : State) (t p c q x m : Nat),
    let b := (s.advance t).taken ⟨p, c, q, x⟩ ⟨0x204, 2, 1⟩ 1
    let n := b.setReg SAFE.MBOX_ARG.ARG 0 m
    let d := n.mbox (n.mayClear 36 2 p) 2 (some (⟨p, c, q, x⟩, 0x204))
    (s.advance t).admitsRequest ⟨p, c, q, x⟩ ⟨0x204, 2, 1⟩ 0 1 → s.flag SYS.UNITS.SAFE = true →
    completes (.safeClear t p c q x [m]) s fun s' =>
      s' = if (d.safe.request.bind (·.reply)) = some (⟨p, c, q, x⟩, 0x204) then d
        else d.answer ⟨p, c, q, x⟩ 0x204 [(0, leBytes 4 (d.reg SAFE.MBOX_STAT.RESULT))]) ∧
  (∀ (s : State) (t p c q x ch : Nat) (data : List Nat),
    let b := (s.advance t).taken ⟨p, c, q, x⟩ ⟨0x205, 2, 1⟩ 1
    let d := { b with loops := { b.loops with waiting := b.loops.waiting ++ [{ channel := ch, req := ⟨p, c, q, x⟩, data := data }] } }
    (s.advance t).admitsRequest ⟨p, c, q, x⟩ ⟨0x205, 2, 1⟩ 0 1 → ch < 32 →
    2 ≤ data.length → data.length ≤ 257 → s.loopsRun = true → s.hartDevices ch ≠ [] → s.loopState ch = LoopState.run →
    completes (.hartPass t p c q x [(ch, data)]) s fun s' => s' = if b.loops.turn.get (ch / 8) = 0 then d.nextTurn (ch / 8) else d)

/-- R238, R250, R255, R261, R262, R265, R298, R358, R422, R425, R439, R466, R469, R480, R484, R527: ENGINEER and MAINTAIN requests that are
taken up. Sessions are notes/assumptions/56.md, contents notes/assumptions/10.md, DEBUG notes/assumptions/45.md and 58.md. Completes:
olcOpen, olcCommit, olcAbort, resign, structOpen, fwOpen, keyOpen, xfer, xferEnd, regwin, safeConfirm, keyRemove, recClear, retireClear,
modeRun, modeHold, modeService, modeHalt, modeReset, debug. -/
def Obligations.EngineerAndMaintainRequests : Prop :=
  (∀ (s : State) (t p c q x n : Nat),
    let b := (s.advance t).taken ⟨p, c, q, x⟩ ⟨0x301, 3, 1⟩ 1
    s.mode.runs = true → (s.advance t).admitsRequest ⟨p, c, q, x⟩ ⟨0x301, 3, 1⟩ s.trialBlocks 1 →
    s.sessionBusy = false → (s.advance t).openOutranked p c = false → 0 < n → n ≤ structMax →
    completes (.olcOpen t p c q x [n]) s fun s' =>
      s' = ((b.openSession ⟨p, c, q, x⟩ 4 n 0).2.setReg STRUCT.STAT.STATE 0 StructState.receiving).answer ⟨p, c, q, x⟩ 0x301
        [(b.openSession ⟨p, c, q, x⟩ 4 n 0).1]) ∧
  (∀ (s : State) (t p c q x n : Nat),
    let b := (s.advance t).taken ⟨p, c, q, x⟩ ⟨0x302, 3, 1⟩ 1
    (s.advance t).admitsRequest ⟨p, c, q, x⟩ ⟨0x302, 3, 1⟩ 0 1 →
    s.reg STRUCT.STAT.STATE ≠ StructState.holding → s.preparedIs n = true → s.mode.runs = true →
    completes (.olcCommit t p c q x [n]) s fun s' => s' = ({ b with port := { b.port with olcWait := some ⟨p, c, q, x⟩ } }).beginCommit) ∧
  (∀ (s : State) (t p c q x n : Nat),
    let b := (s.advance t).taken ⟨p, c, q, x⟩ ⟨0x303, 3, 1⟩ 1
    (s.advance t).admitsRequest ⟨p, c, q, x⟩ ⟨0x303, 3, 1⟩ 0 1 → s.preparedIs n = true →
    completes (.olcAbort t p c q x [n]) s fun s' => s' = b.abortChange.answer ⟨p, c, q, x⟩ 0x303 [(0, [])]) ∧
  (∀ (s : State) (t p c q x n : Nat),
    let b := (s.advance t).taken ⟨p, c, q, x⟩ ⟨0x304, 3, 1⟩ 1
    (s.advance t).admitsRequest ⟨p, c, q, x⟩ ⟨0x304, 3, 1⟩ 0 1 →
    completes (.resign t p c q x [n]) s fun s' =>
      s' = (b.requestResign 1).answer ⟨p, c, q, x⟩ 0x304 [(0, leBytes 4 ((b.requestResign 1).reg PAIR.CMDSTAT.RESULT))]) ∧
  (∀ (s : State) (t p c q x n : Nat),
    let b := (s.advance t).taken ⟨p, c, q, x⟩ ⟨0x401, 4, 1⟩ 1
    s.mode = .commission ∨ s.mode = .hold ∨ s.mode = .service →
    (s.advance t).admitsRequest ⟨p, c, q, x⟩ ⟨0x401, 4, 1⟩ s.trialBlocks 1 → s.sessionBusy = false → (s.advance t).openOutranked p c = false → 0 < n → n ≤ structMax →
    completes (.structOpen t p c q x [n]) s fun s' =>
      s' = ((b.openSession ⟨p, c, q, x⟩ 1 n 0).2.setReg STRUCT.STAT.STATE 0 StructState.receiving).answer ⟨p, c, q, x⟩ 0x401
        [(b.openSession ⟨p, c, q, x⟩ 1 n 0).1]) ∧
  (∀ (s : State) (t p c q x w n : Nat),
    let b := (s.advance t).taken ⟨p, c, q, x⟩ ⟨0x402, 4, 1⟩ 1
    ((s.onTrial && s.mode != .recovery) || (s.isActive && s.partnerStandby)) = false →
    (s.advance t).admitsRequest ⟨p, c, q, x⟩ ⟨0x402, 4, 1⟩ 0 1 → s.sessionBusy = false → (s.advance t).openOutranked p c = false → w < 512 → 0 < n → n ≤ fwSlotSize (wrap 8 w) →
    (s.upd.staged = 0 ∨ s.upd.staged = wrap 8 w) →
    completes (.fwOpen t p c q x [(w, n)]) s fun s' =>
      s' = ((b.openSession ⟨p, c, q, x⟩ 2 n w).2.setUpdState UpdState.receiving (wrap 8 w - 1)).answer ⟨p, c, q, x⟩ 0x402
        [(b.openSession ⟨p, c, q, x⟩ 2 n w).1]) ∧
  (∀ (s : State) (t p c q x k : Nat),
    let b := (s.advance t).taken ⟨p, c, q, x⟩ ⟨0x403, 4, 1⟩ 1
    (s.advance t).admitsRequest ⟨p, c, q, x⟩ ⟨0x403, 4, 1⟩ s.trialBlocks 1 → s.sessionBusy = false → (s.advance t).openOutranked p c = false → k < 4 →
    completes (.keyOpen t p c q x [k]) s fun s' =>
      s' = (b.openSession ⟨p, c, q, x⟩ 3 (2 ^ 32) k).2.answer ⟨p, c, q, x⟩ 0x403 [(b.openSession ⟨p, c, q, x⟩ 3 (2 ^ 32) k).1]) ∧
  (∀ (s : State) (t p c q x o : Nat) (data : List Nat) (z : Session),
    let b := (s.advance t).taken ⟨p, c, q, x⟩ (s.sessionRow 0x404) 1
    (s.ownSession ⟨p, c, q, x⟩).isSome = true →
    (s.advance t).admitsRequest ⟨p, c, q, x⟩ (s.sessionRow 0x404) 0 1 → s.port.session = some z → data.length ≤ 1024 → o + data.length ≤ z.total →
    completes (.xfer t p c q x [(o, data)]) s fun s' =>
      s' = ({ b with port := { b.port with session := some { z with
        lastAt := b.now
        got := (data.zip (List.range data.length)).foldl (fun g (y : Nat × Nat) => g.set (o + y.2) (wrap 8 y.1 + 1)) z.got } } }).answer ⟨p, c, q, x⟩ 0x404
          [(0, [])]) ∧
  (∀ (s : State) (t p c q x crc : Nat) (k : Content) (peer : Option FwImage),
    let b := (s.advance t).taken ⟨p, c, q, x⟩ (s.sessionRow 0x405) 1
    (s.ownSession ⟨p, c, q, x⟩).isSome = true →
    (s.advance t).admitsRequest ⟨p, c, q, x⟩ (s.sessionRow 0x405) 0 1 →
    completes (.xferEnd t p c q x [crc] k peer) s fun s' => s' = b.xferEnd ⟨p, c, q, x⟩ crc k peer) ∧
  (∀ (b : State) (r : Req) (crc : Nat) (k : Content) (peer : Option FwImage) (z : Session),
    let a := { b with port := { b.port with session := some { z with lastAt := b.now } } }
    let e := b.readContent k (b.received z)
    b.port.session = some z → z.complete = true →
    (wrap 32 crc = crc32 (b.received z) →
      (z.kind = 1 → b.xferEnd r crc k peer = (a.endStruct e).2.answer r 0x405 [(a.endStruct e).1]) ∧
      (z.kind = 2 → b.xferEnd r crc k peer = (a.endFw z.arg e peer).2.2 ((a.endFw z.arg e peer).2.1.answer r 0x405 [(a.endFw z.arg e peer).1])) ∧
      (z.kind = 3 → b.xferEnd r crc k peer = (a.endKey z.arg (b.received z)).2.answer r 0x405 [(a.endKey z.arg (b.received z)).1])) ∧
    (wrap 32 crc ≠ crc32 (b.received z) → z.kind ≠ 2 → b.xferEnd r crc k peer = a.answer r 0x405 [endWord 2 0xFF])) ∧
  (∀ (s : State) (t p c q x : Nat) (l : List (Nat × Nat × Nat × Nat)),
    let b := (s.advance t).taken ⟨p, c, q, x⟩ ⟨0x406, 4, 120⟩ l.length
    (s.advance t).admitsRequest ⟨p, c, q, x⟩ ⟨0x406, 4, 120⟩ 0 l.length →
    completes (.regwin t p c q x l) s fun s' =>
      s' = (b.doItems State.regwin l).2.answer ⟨p, c, q, x⟩ 0x406 (b.doItems State.regwin l).1) ∧
  (∀ (b : State) (a v : Nat), a % 4 = 0 → inPage a = true →
    b.regwin (a, 4, 0, v) = ((0, leBytes 4 (b.readRegister 36 a).1), (b.readRegister 36 a).2) ∧
    b.regwin (a, 4, 1, v) = (((b.writeRegister 36 a (wrap 32 v) 0).1, leBytes 4 0), (b.writeRegister 36 a (wrap 32 v) 0).2)) ∧
  (∀ (s : State) (t p c q x v : Nat),
    let b := (s.advance t).taken ⟨p, c, q, x⟩ ⟨0x407, 4, 1⟩ 1
    let n := b.setReg SAFE.MBOX_ARG.ARG 0 v
    let d := n.mbox (n.mayConfirm 36 3 p) 3 (some (⟨p, c, q, x⟩, 0x407))
    (s.advance t).admitsRequest ⟨p, c, q, x⟩ ⟨0x407, 4, 1⟩ s.trialBlocks 1 → s.flag SYS.UNITS.SAFE = true →
    completes (.safeConfirm t p c q x [v]) s fun s' =>
      s' = if (d.safe.request.bind (·.reply)) = some (⟨p, c, q, x⟩, 0x407) then d
        else d.answer ⟨p, c, q, x⟩ 0x407 [(0, leBytes 4 (d.reg SAFE.MBOX_STAT.RESULT))]) ∧
  (∀ (s : State) (t p c q x k : Nat),
    let b := (s.advance t).taken ⟨p, c, q, x⟩ ⟨0x408, 4, 1⟩ 1
    (s.advance t).admitsRequest ⟨p, c, q, x⟩ ⟨0x408, 4, 1⟩ s.trialBlocks 1 → k < 4 →
    (s.struct.keys.get k).isSome = true →
    completes (.keyRemove t p c q x [k]) s fun s' =>
      s' = ((b.putKey k none).record 0xE05 0 .info [(1, 2), (1, k)]).answer ⟨p, c, q, x⟩ 0x408 [(0, [])]) ∧
  (∀ (s : State) (t p c q x : Nat),
    let b := (s.advance t).taken ⟨p, c, q, x⟩ ⟨0x409, 4, 1⟩ 1
    (s.advance t).admitsRequest ⟨p, c, q, x⟩ ⟨0x409, 4, 1⟩ 0 1 → s.flag REC.STAT.CADDY_FAIL = false →
    completes (.recClear t p c q x [0x434C5252]) s fun s' => s' = b.clearRecorder.answer ⟨p, c, q, x⟩ 0x409 [(0, [])]) ∧
  (∀ (s : State) (t p c q x : Nat) (l : List (Nat × Nat)),
    let b := (s.advance t).taken ⟨p, c, q, x⟩ ⟨0x40A, 4, 1⟩ l.length
    (s.advance t).admitsRequest ⟨p, c, q, x⟩ ⟨0x40A, 4, 1⟩ 0 l.length →
    completes (.retireClear t p c q x l) s fun s' =>
      s' = (b.doItems State.retireClear l).2.answer ⟨p, c, q, x⟩ 0x40A (b.doItems State.retireClear l).1) ∧
  (∀ (b : State) (kind index : Nat) (e : RetEntry), index < kindCount kind →
    b.life.retired.find? (fun e => e.kind == kind && e.index == index) = some e → e.clearPending = false →
    b.retireClear (kind, index) = ((0, []), ({ b with life := { b.life with retired := b.life.retired.map (fun (y : RetEntry) =>
      if y.kind = kind ∧ y.index = index then { y with clearPending := true } else y) } }).record ((itemSource kind index).1 * 256 + 0xF2)
        (itemSource kind index).2 .info [(1, kind), (2, index)])) ∧
  (∀ (s : State) (t p c q x : Nat),
    let b := (s.advance t).taken ⟨p, c, q, x⟩ ⟨0x40B, 4, 1⟩ 1
    (s.advance t).admitsRequest ⟨p, c, q, x⟩ ⟨0x40B, 4, 1⟩ 0 1 →
    (s.modeAccepts 7 = true → completes (.modeRun t p c q x [7]) s fun s' =>
      s' = b.modeRun.answer ⟨p, c, q, x⟩ 0x40B [(0, leBytes 4 b.modeRun.mode.code)]) ∧
    (s.modeAccepts 9 = true → completes (.modeHold t p c q x [9]) s fun s' =>
      s' = b.modeHold.answer ⟨p, c, q, x⟩ 0x40B [(0, leBytes 4 b.modeHold.mode.code)]) ∧
    (s.modeAccepts 10 = true → completes (.modeService t p c q x [10]) s fun s' =>
      s' = b.modeService.answer ⟨p, c, q, x⟩ 0x40B [(0, leBytes 4 b.modeService.mode.code)]) ∧
    (s.modeAccepts 11 = true → completes (.modeHalt t p c q x [11]) s fun s' =>
      s' = b.modeHalt.answer ⟨p, c, q, x⟩ 0x40B [(0, leBytes 4 b.modeHalt.mode.code)]) ∧
    (s.modeAccepts 16 = true → completes (.modeReset t p c q x [16]) s fun s' =>
      s' = (b.flushNow.answer ⟨p, c, q, x⟩ 0x40B [(0, leBytes 4 b.flushNow.mode.code)]).moduleReset ResetCause.modeReset)) ∧
  (∀ (s : State) (t c q x : Nat) (l : List (Nat × Nat × Nat)),
    let b := (s.advance t).taken ⟨0, c, q, x⟩ ⟨0x40C, 4, 60⟩ l.length
    s.reg PORT.STAT.KEY = 2 → s.mode = .service →
    (s.advance t).admitsRequest ⟨0, c, q, x⟩ ⟨0x40C, 4, 60⟩ 0 l.length →
    completes (.debug t 0 c q x l) s fun s' =>
      s' = (b.doItems State.debugAccess l).2.answer ⟨0, c, q, x⟩ 0x40C (b.doItems State.debugAccess l).1)

/-- R412, R413, R414, R417 to R420: what keeps a request from being served: a mode that does not listen, a client 0, the port's ceiling, the
role, no items or too many, in that order; a duplicate is not executed, its held response leaves again; a number judged once is a
duplicate ever after, until it is out of the window. R415, R417, R418, R425, R426: the key switch, a session's lapse, frames in error,
unknown operations, the answers to ARP and ICMP, other traffic, and the modem's registration. Counts of refusals are
notes/assumptions/53.md, the modem notes/assumptions/66.md. Completes: keySwitchChange, sessionLapse, arpRequest, icmpEcho,
commandFrameError, unknownOp, foreignTraffic, cellRegistration. -/
def Obligations.PortRequestsAndEvents : Prop :=
  (∀ (s : State) (r : Req) (op n : Nat), s.listens r.port = false → s.arrive r op n = (false, s)) ∧
  (∀ (s : State) (r : Req) (op n : Nat), s.listens r.port = true → wrap 32 r.client = 0 → s.arrive r op n = (false, s.frameError)) ∧
  (∀ (s : State) (r : Req) (row : CmdRow) (k n : Nat),
    (s.admitsClass r.port row.cls = false → s.wholeStatus r row k n = some Status.authority) ∧
    (s.admitsClass r.port row.cls = true → s.mode ≠ .recovery → k = 0 → 1 ≤ row.cls → row.cls ≤ 3 → s.isActive = false →
      s.wholeStatus r row k n = some Status.notActive) ∧
    (s.admitsClass r.port row.cls = true → s.mode ≠ .recovery → k = 0 → s.isActive = true → n = 0 → s.wholeStatus r row k n = some Status.empty) ∧
    (s.admitsClass r.port row.cls = true → s.mode ≠ .recovery → k = 0 → s.isActive = true → row.max < n →
      s.wholeStatus r row k n = some Status.tooMany)) ∧
  (∀ (c : Client) (n : Nat), (c.judge n).1 = .fresh → ((c.judge n).2.judge n).1 = .duplicate) ∧
  (∀ (c : Client) (n : Nat), (c.judge n).1 ≠ .fresh → (c.judge n).2 = c) ∧
  (∀ (s : State) (r : Req) (row : CmdRow) (k : Nat) (l : List Nat) (f : State → Nat → ItemResult × State) (a : State),
    s.arrive r row.op l.length = (false, a) → s.serve r row k l f = a) ∧
  (∀ (s : State) (r : Req) (op st i : Nat), st < 256 → op < 2 ^ 16 → r.port < 4 →
    (s.countRefusal r op st i).reg PORT.LASTREF.OP = op ∧ (s.countRefusal r op st i).reg PORT.LASTREF.STATUS = st ∧
    (s.countRefusal r op st i).reg PORT.LASTREF.PORT = r.port ∧
    (s.countRefusal r op st i).reg PORT.REFUSED.COUNT = satAdd PORT.REFUSED.COUNT.width (s.reg PORT.REFUSED.COUNT) 1 ∧
    s.regsKeptBut (s.countRefusal r op st i) ([PORT.LASTREF.OP, PORT.LASTREF.STATUS, PORT.LASTREF.PORT, PORT.REFUSED.COUNT] ++ recorderFlds)) ∧
  (∀ (s : State) (t pos : Nat),
    let a := ((s.advance t).sense PORT.STAT.KEY 0 pos).showCeil
    pos ≤ 2 → pos ≠ s.outside.get (PORT.STAT.KEY.key 0) → a.port.session = none → a.mode ≠ .off →
    completes (.keySwitchChange t pos) s fun s' => s' = a.record 0xF0E 0 .info [(1, pos), (1, 0)]) ∧
  (∀ (s : State) (t pos : Nat) (x : Session),
    let a := ((s.advance t).sense PORT.STAT.KEY 0 pos).showCeil
    pos ≤ 2 → pos ≠ s.outside.get (PORT.STAT.KEY.key 0) → a.port.session = some x → a.admitsClass x.port (sessionClass x.kind) = false → x.kind ≠ 0 →
    a.closeSession.mode ≠ .off →
    completes (.keySwitchChange t pos) s fun s' => s' = a.closeSession.record 0xF0E 0 .info [(1, pos), (1, x.kind)]) ∧
  (∀ (s : State) (t : Nat) (x : Session), s.port.session = some x → x.lastAt + sec 600 ≤ (s.advance t).now →
    completes (.sessionLapse t) s fun s' => s' =
      if x.kind = 1 ∨ x.kind = 4 then (s.advance t).closeSession.changeResult ChangeResult.lapsed 0 else (s.advance t).closeSession) ∧
  (∀ (s : State) (t p addr : Nat), s.answersFor p addr = true →
    completes (.arpRequest t p addr) s fun s' => s' = (s.advance t).emit (.arpReply p addr)) ∧
  (∀ (s : State) (t p addr : Nat) (data : List Nat), s.answersFor p addr = true →
    completes (.icmpEcho t p addr data) s fun s' => s' = (s.advance t).emit (.icmpReply p data)) ∧
  (∀ (s : State) (t p : Nat), s.listens p = true →
    completes (.commandFrameError t p) s fun s' =>
      s'.reg PORT.FRAMEERR.COUNT = satAdd PORT.FRAMEERR.COUNT.width (s.reg PORT.FRAMEERR.COUNT) 1 ∧ s.regsKeptBut s' [PORT.FRAMEERR.COUNT] ∧
      s'.out = s.out ∧ s'.port = s.port) ∧
  (∀ (s : State) (t p c q x op n : Nat), knownOps.contains op = false → (s.advance t).goesOn ⟨p, c, q, x⟩ →
    completes (.unknownOp t p c q x op n) s fun s' =>
      s' = ((s.advance t).arrive ⟨p, c, q, x⟩ op n).2.refuseAll ⟨p, c, q, x⟩ op Status.unknownOp n) ∧
  (∀ (s : State) (t p : Nat), p < 3 → s.listens p = true →
    completes (.foreignTraffic t p) s fun s' =>
      s'.reg PORT.FOREIGN.COUNT = satAdd PORT.FOREIGN.COUNT.width (s.reg PORT.FOREIGN.COUNT) 1 ∧ s.regsKeptBut s' [PORT.FOREIGN.COUNT] ∧
      s'.out = s.out ∧ s'.port = s.port) ∧
  (∀ (s : State) (t reg rat rsrp : Nat) (b : Bool), s.flag SYS.UNITS.MODEM = true → s.power.sim = true → s.flag UPD.PARTp_STAT.STOPPED 3 = false →
    s.mode.runtimeRuns = true → reg < 4 →
    completes (.cellRegistration t reg rat rsrp b) s fun s' =>
      s'.reg PORT.CELL_STAT.REG = reg ∧ s'.flag PORT.STAT.CELL_UP = (b && reg == 2 && s.flag PORT.CFG.CELLEN) ∧
      s.regsKeptBut s' [PORT.CELL_STAT.REG, PORT.CELL_STAT.RAT, PORT.CELL_STAT.RSRP, PORT.STAT.CELL_UP] ∧ s'.out = s.out) ∧
  (∀ (s : State) (r : Req) (row : CmdRow) (k n : Nat), s.admitsRequest r row k n →
    (s.arrive r row.op n).1 = true ∧ (s.arrive r row.op n).2.wholeStatus r row k n = none ∧
    (s.taken r row n).reg PORT.CMDCNT.COUNT = satAdd PORT.CMDCNT.COUNT.width (s.reg PORT.CMDCNT.COUNT) 1) ∧
  (∀ (s : State) (r : Req), s.listens r.port = true → wrap 32 r.client ≠ 0 → r.port ≠ 3 → s.pending = [] →
    s.port.clients.find? (fun x => x.id == r.client) = none → s.goesOn r)

/-- R26: a read of BASEn_VAL_LO returns it and latches VAL_HI, EPOCH and STATUS of that base for the master; no register changes. R26, R87,
R123, R124, R301, R302, R410, R474: reads of low words that latch their high words for the reading master alone. Completes:
baseValLoRead, imageSeqLoRead, taskLseqLoRead, blkEpcLoRead, leafLastaddrLoRead, guardLastAddrLoRead, ptpGmidLoRead, optimeLoRead. -/
def Obligations.LowReadsLatchForTheMaster : Prop :=
  (∀ (s : State) (t m b : Nat), b < 16 →
     completes (.baseValLoRead t m b) s fun s' =>
       s'.out = .readData m (PHASE.BASEn_VAL_LO.VAL.addrOf b) ((s.advance t).word (PHASE.BASEn_VAL_LO.VAL.addrOf b)) :: s.out ∧
       s'.latched m (PHASE.BASEn_VAL_HI.VAL.addrOf b) = some ((s.advance t).word (PHASE.BASEn_VAL_HI.VAL.addrOf b)) ∧
       s'.latched m (PHASE.BASEn_EPOCH.EPOCH.addrOf b) = some ((s.advance t).word (PHASE.BASEn_EPOCH.EPOCH.addrOf b)) ∧
       s'.latched m (PHASE.BASEn_STATUS.STATE.addrOf b) = some ((s.advance t).word (PHASE.BASEn_STATUS.STATE.addrOf b)) ∧
       s'.regs = s.regs) ∧
  (∀ (s : State) (t m : Nat), completes (.imageSeqLoRead t m) s
    ((s.advance t).lowReadBy m (IMAGE.SEQ_LO.SEQ.addrOf 0) [IMAGE.SEQ_HI.SEQ.addrOf 0])) ∧
  (∀ (s : State) (t m x : Nat), x < 256 → completes (.taskLseqLoRead t m x) s
    ((s.advance t).lowReadBy m (TASK.TASKt_LSEQ_LO.SEQ.addrOf x) [TASK.TASKt_LSEQ_LO.SEQ.addrOf x + 4])) ∧
  (∀ (s : State) (t m b : Nat), b < 16 → completes (.blkEpcLoRead t m b false) s
    ((s.advance t).lowReadBy m (BLK.EPC_LO.EPC.addrOf b) [BLK.EPC_LO.EPC.addrOf b + 4])) ∧
  (∀ (s : State) (t m b : Nat), b < 16 → completes (.blkEpcLoRead t m b true) s
    ((s.advance t).lowReadBy m (BLK.TVAL_LO.TVAL.addrOf b) [BLK.TVAL_LO.TVAL.addrOf b + 4])) ∧
  (∀ (s : State) (t m : Nat), completes (.leafLastaddrLoRead t m) s
    ((s.advance t).lowReadBy m (LEAF.LASTADDR_LO.ADDR.addrOf 0)
      [LEAF.LASTADDR_HI.ADDR.addrOf 0, LEAF.LASTERR.MEM.addrOf 0, LEAF.LASTSYN.SYN.addrOf 0])) ∧
  (∀ (s : State) (t m : Nat), completes (.guardLastAddrLoRead t m) s
    ((s.advance t).lowReadBy m (GUARD.LAST_ADDR_LO.ADDR.addrOf 0) [GUARD.LAST_ADDR_HI.ADDR.addrOf 0, GUARD.LAST_MASTER.MASTER.addrOf 0])) ∧
  (∀ (s : State) (t m k : Nat), k < 4 → completes (.ptpGmidLoRead t m k) s
    ((s.advance t).lowReadBy m (PTP.DOMk_GMID_LO.ID.addrOf k) [PTP.DOMk_GMID_LO.ID.addrOf k + 4])) ∧
  (∀ (s : State) (t m : Nat), completes (.optimeLoRead t m) s
    ((s.advance t).lowReadBy m (REC.OPTIME_LO.MS.addrOf 0) [REC.OPTIME_HI.MS.addrOf 0]))

/-- R441, R444 to R447, R454: START, ABANDON, the confirmation of a trial, the end of its window, and a migration that fails. The readings
of trials are notes/assumptions/59.md. Completes: updStart, updAbandon, trialConfirm, trialWindowEnd, migrationFail. -/
def Obligations.TrialsOfImages : Prop :=
  (∀ (s : State) (t m : Nat), s.upd.staged ≠ 0 → s.reg UPD.STAT.STATE = UpdState.staged → s.trialAllowed (s.upd.staged - 1) = true →
    completes (.updStart t m) s fun s' => s' = (s.advance t).startTrial (s.upd.staged - 1)) ∧
  (∀ (s : State) (t m : Nat), s.upd.staged ≠ 0 → s.reg UPD.STAT.STATE = UpdState.staged → s.trialAllowed (s.upd.staged - 1) = false →
    completes (.updStart t m) s fun s' => s' = s.advance t) ∧
  (∀ (s : State) (t m p : Nat),
    let a := (s.advance t).setFwValid p (s.fwOther p) false
    s.upd.staged ≠ 0 → s.reg UPD.STAT.STATE = UpdState.staged → s.reg UPD.STAT.PART = p →
    completes (.updAbandon t m) s fun s' =>
      s' = (a.updUpd (fun u => { u with staged := 0, slots := u.slots.set (2 * p + a.fwOther p) none })).setUpdState UpdState.idle 0) ∧
  (∀ (s : State) (t m : Nat), s.reg UPD.STAT.STATE = UpdState.trial → s.flag UPD.STAT.FAILED = false →
    completes (.updAbandon t m) s fun s' => s' = (s.advance t).failTrial (s.reg UPD.STAT.PART)) ∧
  (∀ (s : State) (t : Nat), (s.advance t).confirmable = true →
    (completes (.trialConfirm t) s fun s' => s' = (s.advance t).confirm) ∧
    (s.upd.windowAt ≠ 0 → (s.advance t).windowEnd ≤ (s.advance t).now → completes (.trialWindowEnd t) s fun s' => s' = (s.advance t).confirm)) ∧
  (∀ (s : State) (t : Nat), (s.advance t).confirmable = false → s.upd.windowAt ≠ 0 → (s.advance t).windowEnd ≤ (s.advance t).now →
    s.reg UPD.STAT.STATE = UpdState.trial → s.flag UPD.STAT.FAILED = false →
    completes (.trialWindowEnd t) s fun s' => s' = (s.advance t).failTrial (s.reg UPD.STAT.PART)) ∧
  (∀ (s : State) (t : Nat), s.mode = .boot → s.flag UPD.PARTp_STAT.TRIAL 0 = true → s.upd.attempted.get 0 = true →
    completes (.migrationFail t) s fun s' => s' = (s.advance t).migrationFailed) ∧
  (∀ (s : State) (x : FwImage) (p : Nat) (peer : Option FwImage), s.fwReason x p peer = none →
    x.layoutOk = true ∧ x.rootOk = true ∧ x.signed = true ∧ x.part = p + 1 ∧ s.flag UPD.PARTp_STAT.PRESENT p = true ∧ s.fwFits x p = true) ∧
  (∀ (s : State) (reason code : Nat), reason < 256 → code < 256 →
    (s.fwReject reason code).upd = s.upd ∧ (s.fwReject reason code).reg UPD.REJECT.REASON = wrap UPD.REJECT.REASON.width reason ∧
    s.regsKeptBut (s.fwReject reason code) ([UPD.REJECT.REASON, UPD.REJECT.PART] ++ recorderFlds))

/-- R463 to R465, R470 to R472, R475: flushes, the record window, the lifetime selections, the periodic save and the samples of a second.
Cursors and selections by master and the outcome operands are notes/assumptions/60.md. Completes: flush, flushDone, cursorWrite,
win7Read, lifeSelectWrite, lifetimeSave, histogramSample. -/
def Obligations.RecorderAndLifetime : Prop :=
  (∀ (s : State) (t m : Nat), s.flag REC.STAT.FLUSHING = false → s.recorder.buffer ≠ [] →
    completes (.flush t m) s fun s' =>
      s'.flag REC.STAT.FLUSHING = true ∧ s'.recorder.flushCount = s.recorder.buffer.length ∧ s'.recorder.buffer = s.recorder.buffer ∧
      s.regsKeptBut s' [REC.STAT.FLUSHING]) ∧
  (∀ (s : State) (t : Nat), s.flag REC.STAT.FLUSHING = true →
    (completes (.flushDone t true) s fun s' => s' = ((s.advance t).setReg REC.STAT.CADDY_FAIL 0 0).finishFlush) ∧
    (completes (.flushDone t false) s fun s' =>
      s'.flag REC.STAT.CADDY_FAIL = true ∧ s.regsKeptBut s' [REC.STAT.CADDY_FAIL] ∧ s'.recorder = s.recorder)) ∧
  (∀ (s : State) (t m v : Nat), completes (.cursorWrite t m v) s fun s' =>
    s'.recorder.cursor.get m = wrap 32 v ∧ s'.recorder.window.get m = some ((s.advance t).windowAt (wrap 32 v)) ∧
    s.regsKeptBut s' [REC.STAT.FLUSHING] ∧ ∀ k, k ≠ m → s'.recorder.cursor.get k = s.recorder.cursor.get k) ∧
  (∀ (s : State) (t m : Nat), completes (.win7Read t m) s fun s' =>
    s'.recorder.cursor.get m = wrap 32 (s.recorder.cursor.get m + 1) ∧
    s'.out = .readData m (REC.WINk.DATA.addrOf 7) (s.windowWord m 7) :: s.out ∧ s.regsKeptBut s' [REC.STAT.FLUSHING]) ∧
  (∀ (s : State) (t m v : Nat), completes (.lifeSelectWrite t m 0 v) s fun s' =>
    s'.latched m (LIFE.CVAL_LO.VAL.addrOf 0) = some (wrap 32 ((s.advance t).lifeCounter (wrap 9 v))) ∧
    s'.latched m (LIFE.CVAL_HI.VAL.addrOf 0) = some ((s.advance t).lifeCounter (wrap 9 v) / 2 ^ 32) ∧ s'.regs = s.regs ∧ s'.life = s.life) ∧
  (∀ (s : State) (t m v : Nat), wrap 5 v < 24 → completes (.lifeSelectWrite t m 1 v) s fun s' =>
    s'.latched m (LIFE.HVAL_LO.VAL.addrOf 0) = some (wrap 32 (s.life.hist.get (32 * wrap 5 v + bitField 5 5 v))) ∧ s'.regs = s.regs ∧ s'.life = s.life) ∧
  (∀ (s : State) (t m v : Nat), completes (.lifeSelectWrite t m 2 v) s fun s' =>
    s'.latched m (LIFE.RSTAT.RETIRED.addrOf 0) = some ((s.advance t).itemStat (wrap 4 v) (bitField 4 12 v)) ∧ s'.regs = s.regs ∧ s'.life = s.life) ∧
  (∀ (s : State) (t : Nat),
    let a := { s.advance t with life := { s.life with savedAt := (s.advance t).opTime } }
    s.mode ≠ .off → s.life.savedAt + 600000 ≤ (s.advance t).opTime →
    (completes (.lifetimeSave t true) s fun s' => s' = a.saveEvidence) ∧
    (completes (.lifetimeSave t false) s fun s' => s' = a.setReg LIFE.STAT.SAVE_FAIL 0 1)) ∧
  (∀ (s : State) (t v i b e : Nat),
    let a := s.advance t
    s.mode.runtimeRuns = true →
    (completes (.histogramSample t false v i b e) s fun s' => s' = a.sampleSecond v i b e) ∧
    (s.streaming = true → completes (.histogramSample t true v i b e) s fun s' =>
      s' = (a.histAdd 16 (log2Bin (max s.pair.lagMax100 (a.streamAge / us 1)))).updPair (fun p => { p with lagMax100 := 0 })))

/-- R5, R15 to R18, R523: the register space: reads that answer and act, writes, bad accesses that fault a core and give another master
nothing, and the ranges of units that are absent. Mixed words are notes/assumptions/65.md, bad accesses of other masters
notes/assumptions/68.md. Completes: rcRead, registerWrite, absentUnitAccess. -/
def Obligations.RegisterSpaceIsAccessed : Prop :=
  (∀ (s : State) (t m addr pc : Nat),
    let a := s.advance t
    inSpace addr = true → addr % 4 = 0 → inPage addr = true →
    (a.absentAt addr = false → completes (.rcRead t m addr 4 pc) s fun s' => s' = (a.readEffect m addr).emit (.readData m addr (a.readWord m addr))) ∧
    (a.absentAt addr = true → completes (.rcRead t m addr 4 pc) s fun s' => s' = (a.absentHit addr).emit (.readData m addr 0))) ∧
  (∀ (s : State) (t m addr w pc : Nat),
    let a := s.advance t
    inSpace addr = true → w ≠ 4 ∨ addr % 4 ≠ 0 ∨ inPage addr = false →
    (m < 16 → completes (.rcRead t m addr w pc) s fun s' => s' = a.nextFree.coreFault m (accessCause 1 0) TaskCause.access (wrap 32 addr) pc addr (a.freeVal 32)) ∧
    (16 ≤ m → completes (.rcRead t m addr w pc) s fun s' => s' = a) ∧
    (m < 16 → ∀ v, completes (.registerWrite t m addr w v pc) s fun s' =>
      s' = a.nextFree.coreFault m (accessCause 1 1) TaskCause.access (wrap 32 addr) pc addr (a.freeVal 32)) ∧
    (16 ≤ m → ∀ v, completes (.registerWrite t m addr w v pc) s fun s' => s' = a)) ∧
  (∀ (s : State) (t m addr v pc : Nat),
    let a := s.advance t
    inSpace addr = true → addr % 4 = 0 → inPage addr = true →
    completes (.registerWrite t m addr 4 v pc) s fun s' => s' = (a.writeRegister m addr (wrap 32 v) pc).2) ∧
  (∀ (s : State) (t m addr : Nat), s.absentAt addr = true →
    (completes (.absentUnitAccess t m addr true) s fun s' =>
      s'.reg SYS.ABSENT_HIT.HIT = 1 ∧ s'.reg SYS.ABSENT_ADDR.ADDR = wrap SYS.ABSENT_ADDR.ADDR.width addr ∧
      s.regsKeptBut s' [SYS.ABSENT_HIT.HIT, SYS.ABSENT_ADDR.ADDR] ∧ s'.out = s.out) ∧
    (completes (.absentUnitAccess t m addr false) s fun s' =>
      s'.reg SYS.ABSENT_HIT.HIT = 1 ∧ s.regsKeptBut s' [SYS.ABSENT_HIT.HIT, SYS.ABSENT_ADDR.ADDR] ∧ s'.out = .readData m addr 0 :: s.out)) ∧
  (∀ (s : State) (m a v : Nat), (fieldsAt a).any (fun x => x.1.acc == .RWL) = true → s.rwlOpen = false →
    s.plainWrite m a v = (0x12, (s.clearBits a v).writeRefused a m 1)) ∧
  (∀ (s : State) (m a v : Nat), ((fieldsAt a).any (fun x => x.1.acc == .RWL) = true → s.rwlOpen = true) → s.valuesOk a v = false →
    s.plainWrite m a v = (9, (s.clearBits a v).writeRefused a m 2)) ∧
  (∀ (s : State) (a v : Nat) (f : Fld) (i : Nat), fieldsAt a = [(f, i)] → f.acc = .RO →
    s.storeFields a v = s ∧ s.clearBits a v = s)

/-- R427, R476, R482, R483, R485 to R487, R491, R493, R494, R498, R501, R504, R511: the supply, BOOT, resets, power failure, the hot-swap
switch, the early contact, and the SIM. The readings of modes and power failure are notes/assumptions/63.md and 64.md. Completes:
powerUp, bootEnd, holdupCharged, moduleReset, moduleWatchdogExpiry, carrierReset, haltSelfReset, powerFailWarning, supplyReturn,
holdupExhausted, hotswapTrip, hotswapReclose, earlyMake, reinserted, simRemoved, simInserted. -/
def Obligations.PowerAndResets : Prop :=
  (∀ (s : State) (t : Nat), s.mode = .off → s.power.swapOpen = false → s.power.earlyMade = true →
    completes (.powerUp t) s fun s' => s' = (((s.advance t).bumpReg REC.PCYC.COUNT 0).resetUnit ResetKind.power 0).lifeAdd 0x140 1) ∧
  (∀ (s : State) (t : Nat),
    let a := s.advance t
    s.mode = .boot → s.power.charged = true → s.power.bootAt + msec 2 ≤ a.now → s.flag UPD.STAT.MIGFAIL = false →
    ((s.flag PAIR.PARTNER.VALID && s.pair.partnerAuth) = true → completes (.bootEnd t) s fun s' => s' = a.catchUp 1) ∧
    ((s.flag PAIR.PARTNER.VALID && s.pair.partnerAuth) = false →
      completes (.bootEnd t) s fun s' => s' = if a.imageStored then (((a.enterMode .load).startImage.2).showPins).claim Claim.start
        else (a.startImage.2.enterMode .service).showPins)) ∧
  (∀ (s : State) (t : Nat), s.mode ≠ .off →
    (completes (.holdupCharged t true) s fun s' => s'.power.charged = true ∧ s'.regs = s.regs ∧ s'.mode = s.mode ∧ s'.recorder = s.recorder) ∧
    (completes (.holdupCharged t false) s fun s' => s.regsKeptBut s' recorderFlds ∧ s'.power = s.power ∧ s'.mode = s.mode)) ∧
  (∀ (s : State) (t c : Nat), s.resettable = true → s.mode ≠ .boot → 1 ≤ c → c ≤ 6 →
    (s.mode = .halt → c = ResetCause.modeReset) →
    completes (.moduleReset t c) s fun s' => s' = (s.advance t).moduleReset c) ∧
  (∀ (s : State) (t : Nat), s.resettable = true → s.mode ≠ .boot →
    completes (.moduleWatchdogExpiry t false) s fun s' => s' = (s.advance t).watchdogReset 1) ∧
  (∀ (s : State) (t : Nat), s.resettable = true → s.mode = .boot → s.power.bootAt + sec 10 ≤ (s.advance t).now →
    completes (.moduleWatchdogExpiry t true) s fun s' => s' = (s.advance t).watchdogReset 2) ∧
  (∀ (s : State) (t : Nat), s.resettable = true →
    completes (.carrierReset t) s fun s' => s' = (s.advance t).resetUnit ResetKind.carrier 0) ∧
  (∀ (s : State) (t : Nat), s.mode = .halt → s.reg SYS.HALTWHY.WHY = 1 → s.power.haltBeats ≠ 0 →
    s.power.haltBeats - 1 + sec 60 ≤ (s.advance t).now → s.reg SYS.HALTWHY.SELFRST < 3 → s.power.warned = false →
    completes (.haltSelfReset t) s fun s' => s' = ((s.advance t).addReg SYS.HALTWHY.SELFRST 0 1).moduleReset ResetCause.fromHalt) ∧
  (∀ (s : State) (t : Nat), s.mode = .halt → 3 ≤ s.reg SYS.HALTWHY.SELFRST → completes (.haltSelfReset t) s fun s' => s' = s.advance t) ∧
  (∀ (s : State) (t : Nat), s.mode ≠ .off → s.power.warned = false →
    completes (.powerFailWarning t) s fun s' => s' = (s.advance t).powerFail) ∧
  (∀ (s : State) (t : Nat), s.power.warned = true → s.power.swapOpen = false → s.power.warnAt + msec 100 ≤ (s.advance t).now →
    completes (.supplyReturn t) s fun s' => s' = (s.advance t).endSequence.powerUp ResetKind.brownout) ∧
  (∀ (s : State) (t : Nat), s.mode ≠ .off → s.power.warned = true →
    completes (.holdupExhausted t) s fun s' => s' = (s.advance t).sampleHoldup.endSequence.powerOff) ∧
  (∀ (s : State) (t c v : Nat),
    let a := (s.advance t).openSwitch c
    c = 1 ∨ c = 2 → s.power.swapOpen = false →
    (s.mode = .off → completes (.hotswapTrip t c v) s fun s' => s' = a) ∧
    (s.mode ≠ .off → s.power.charged = false →
      completes (.hotswapTrip t c v) s fun s' => s' = (a.record 0xF0F 0 .fault [(1, c), (2, v)]).powerOff) ∧
    (s.mode ≠ .off → s.power.charged = true → s.power.warned = false →
      completes (.hotswapTrip t c v) s fun s' => s' = (a.record 0xF0F 0 .fault [(1, c), (2, v)]).powerFail)) ∧
  (∀ (s : State) (t : Nat) (low : Bool), s.mode = .off → s.power.swapOpen = true →
    s.power.swapAt + (if s.power.swapCase = 1 then msec 100 else sec 1) ≤ (s.advance t).wallNow →
    (s.power.swapHeld = false ∨ low = true → completes (.hotswapReclose t low) s fun s' =>
      s'.power.swapOpen = false ∧ s'.power.swapHeld = false ∧ s'.regs = s.regs ∧ s'.mode = .off) ∧
    (s.power.swapHeld = true → low = false → completes (.hotswapReclose t low) s fun s' => s' = s.advance t)) ∧
  (∀ (s : State) (t : Nat), s.power.earlyMade = false →
    (s.mode = .off → completes (.earlyMake t) s fun s' =>
      s'.power.earlyMade = true ∧ s'.power.swapOpen = false ∧ s'.power.swapHeld = false ∧ s'.regs = s.regs) ∧
    (s.mode ≠ .off → completes (.earlyMake t) s fun s' =>
      s'.power.earlyMade = true ∧ s'.power.swapOpen = s.power.swapOpen ∧ s'.power.earlyAt = (s.advance t).now + 1 ∧ s'.regs = s.regs)) ∧
  (∀ (s : State) (t : Nat), s.resettable = true → s.mode ≠ .boot → s.power.earlyBroke = true → s.power.earlyMade = true → s.power.earlyAt ≠ 0 →
    s.power.earlyAt - 1 + sec 10 ≤ (s.advance t).now →
    completes (.reinserted t) s fun s' => s' = ((s.advance t).record 0xF10 0 .info []).moduleReset ResetCause.reinserted) ∧
  (∀ (s : State) (t : Nat), s.flag SYS.UNITS.MODEM = true → s.mode ≠ .off →
    (completes (.simRemoved t) s fun s' =>
      s'.power.sim = false ∧ s'.reg PORT.CELL_STAT.REG = 0 ∧ s'.flag PORT.STAT.CELL_UP = false ∧
      s.regsKeptBut s' ([PORT.CELL_STAT.REG, PORT.STAT.CELL_UP] ++ recorderFlds)) ∧
    (completes (.simInserted t) s fun s' =>
      s'.power.sim = true ∧ s'.reg PORT.CELL_STAT.REG = 1 ∧ s.regsKeptBut s' [PORT.CELL_STAT.REG] ∧ s'.recorder = s.recorder))

/-- A step takes the command at the front of the queue and gives it the state with the queue's rest. With an empty queue the block idles: while
the reflex layer has not come to rest it runs a frame, and else nothing changes (the model's choice, notes/assumptions/1.md). -/
def Obligations.StepRunsTheFrontCommand : Prop :=
  (∀ (c : Instr) (l : List Instr) (s : State), step { s with pending := c :: l } = exec c { s with pending := l }) ∧
  (∀ (s : State), s.pending = [] → step s = .next s.idle) ∧
  (∀ (s : State), s.pending = [] → s.cells.awake = false → step s = .next s)

/-- Every step keeps the register table sound: its keys rise, every entry is an instance of a field of the register map that is not 0, and
its value fits the field's bits (R15, R16). -/
def Obligations.EveryStepKeepsTheRegistersSound : Prop :=
  ∀ (s s' : State), s.regsSound = true → step s = .next s' → s'.regsSound = true

/-- The state after reset: its registers are sound, the queue is empty, nothing is latched, no memory word and no force is listed; the
mode is BOOT (R476); PB0 counts from 0 in epoch 1 (R28); the trial window is 15 and the dwell 60 (R457), HOLDMAX 100 ms (R262), the ENG
and CELL ceilings TUNE, the plant ports' OPERATE as the register holds them (R412). The unit as it was delivered is the model's choice
(notes/assumptions/3.md). -/
def Obligations.ResetIsSound : Prop :=
  State.reset.regsSound = true ∧ State.reset.pending = [] ∧ State.reset.latches = [] ∧ State.reset.leaf.data = [] ∧
  State.reset.leaf.syn = [] ∧ State.reset.img.forces = [] ∧
  State.reset.mode = .boot ∧ State.reset.now = 0 ∧ State.reset.baseEpoch 0 = 1 ∧ State.reset.reg UPD.CFG.WINDOW = 15 ∧ State.reset.reg UPD.CFG.DWELL = 60 ∧
  State.reset.reg STRUCT.OLC_CFG.HOLDMAX = 100 ∧ State.reset.reg PORT.CEIL.ENG = 3 ∧ State.reset.reg PORT.CEIL.CELL = 3
end

