-- ==== Sys2Proof/Laws/Tab.lean ====
section
/-! SUPPORT. The sparse tables: what a read gives after a write, and that every operation keeps the canonical form. -/

namespace Sys2Proof.Machine

@[simp] theorem Tab.get_nil {α : Type} [Inhabited α] (k : Nat) : Tab.get ([] : Tab α) k = default := rfl

/-- A read after a listing gives the listed value there and what was there elsewhere. -/
theorem Tab.get_insert {α : Type} [Inhabited α] (t : Tab α) (k j : Nat) (v : α) : (Tab.insert t k v).get j = if j = k then v else t.get j := by
  induction t with
  | nil =>
    by_cases h : j = k
    · simp [Tab.insert, Tab.get, h]
    · simp [Tab.insert, Tab.get, h, Ne.symm h]
  | cons x t ih =>
    obtain ⟨i, w⟩ := x
    unfold Tab.insert
    by_cases h1 : i = k
    · subst h1
      by_cases h : j = i
      · simp [Tab.get, h]
      · simp [Tab.get, h, Ne.symm h]
    · by_cases h2 : k < i
      · by_cases h : j = k
        · simp [Tab.get, h1, h2, h]
        · simp [Tab.get, h1, h2, h, Ne.symm h]
      · by_cases h : i = j
        · subst h; simp [Tab.get, h1, h2]
        · simp [Tab.get, h1, h2, h, ih]

variable {α : Type} [Inhabited α] [DecidableEq α]

/-- A canonical table keeps its form when the bound below it falls. -/
theorem Tab.wfFrom_weaken {t : Tab α} {lo : Option Nat} {a : Nat} (hl : lo = none ∨ ∃ b, lo = some b ∧ b ≤ a)
    (h : Tab.wfFrom (some a) t = true) : Tab.wfFrom lo t = true := by
  cases t with
  | nil => cases lo <;> rfl
  | cons x t =>
    obtain ⟨k, v⟩ := x
    rcases hl with rfl | ⟨b, rfl, hb⟩ <;> simp only [Tab.wfFrom, Bool.and_eq_true, decide_eq_true_eq] at h ⊢
    · exact ⟨⟨trivial, h.1.2⟩, h.2⟩
    · exact ⟨⟨by omega, h.1.2⟩, h.2⟩

/-- Below the first key of a canonical table every read gives the default. -/
theorem Tab.get_below {t : Tab α} {a k : Nat} (h : Tab.wfFrom (some a) t = true) (hk : k ≤ a) : t.get k = default := by
  induction t generalizing a with
  | nil => rfl
  | cons x t ih =>
    obtain ⟨i, v⟩ := x
    simp only [Tab.wfFrom, Bool.and_eq_true, decide_eq_true_eq] at h
    have hi : i ≠ k := by omega
    simp only [Tab.get, hi, if_false]
    exact ih h.2 (by omega)

/-- Removing an entry changes the read there only. -/
theorem Tab.get_erase (t : Tab α) (k j : Nat) : (Tab.erase t k).get j = if j = k then default else t.get j := by
  induction t with
  | nil => simp [Tab.erase, Tab.get]
  | cons x t ih =>
    obtain ⟨i, v⟩ := x
    unfold Tab.erase
    by_cases h1 : i = k
    · subst h1
      by_cases hj : j = i
      · simpa [hj] using ih
      · simpa [hj, Tab.get, Ne.symm hj] using ih
    · by_cases hj : i = j
      · subst hj; simp [Tab.get, h1]
      · simp [Tab.get, h1, hj, ih]

/-- A write that is not of the default value reads back, and changes no other key. -/
theorem Tab.get_set_listed (t : Tab α) (k j : Nat) (v : α) (hv : v ≠ default) :
    (Tab.set t k v).get j = if j = k then v else t.get j := by
  simp [Tab.set, hv, Tab.get_insert]

/-- A write reads back, and changes no other key. -/
theorem Tab.get_set (t : Tab α) (k j : Nat) (v : α) : (Tab.set t k v).get j = if j = k then v else t.get j := by
  by_cases hv : v = default
  · subst hv; simp [Tab.set, Tab.get_erase]
  · exact Tab.get_set_listed t k j v hv

/-- A write changes no other key. -/
theorem Tab.get_set_ne (t : Tab α) {k j : Nat} (v : α) (hj : j ≠ k) : (Tab.set t k v).get j = t.get j := by
  simp [Tab.get_set, hj]

/-- A read after an update through a function. -/
theorem Tab.get_upd (t : Tab α) (k j : Nat) (f : α → α) :
    (Tab.upd t k f).get j = if j = k then f (t.get k) else t.get j := Tab.get_set t k j _

theorem Tab.wfFrom_insert {t : Tab α} {lo : Option Nat} (h : Tab.wfFrom lo t = true) {k : Nat} {v : α} (hv : v ≠ default)
    (hl : ∀ l, lo = some l → l < k) : Tab.wfFrom lo (Tab.insert t k v) = true := by
  induction t generalizing lo with
  | nil =>
    cases lo with
    | none => simp [Tab.insert, Tab.wfFrom, hv]
    | some l => simp [Tab.insert, Tab.wfFrom, hv, hl l rfl]
  | cons x t ih =>
    obtain ⟨i, w⟩ := x
    simp only [Tab.wfFrom, Bool.and_eq_true, decide_eq_true_eq] at h
    unfold Tab.insert
    by_cases h1 : i = k
    · subst h1
      simp only [if_true, Tab.wfFrom, Bool.and_eq_true, decide_eq_true_eq]
      exact ⟨⟨h.1.1, hv⟩, h.2⟩
    · by_cases h2 : k < i
      · simp only [h1, h2, if_true, if_false, Tab.wfFrom, Bool.and_eq_true, decide_eq_true_eq]
        refine ⟨⟨?_, hv⟩, ⟨trivial, h.1.2⟩, h.2⟩
        cases lo with
        | none => rfl
        | some l => simpa using hl l rfl
      · simp only [h1, h2, if_false, Tab.wfFrom, Bool.and_eq_true, decide_eq_true_eq]
        exact ⟨⟨h.1.1, h.1.2⟩, ih h.2 (by intro l hl'; cases hl'; omega)⟩

theorem Tab.wfFrom_erase {t : Tab α} {lo : Option Nat} (h : Tab.wfFrom lo t = true) (k : Nat) :
    Tab.wfFrom lo (Tab.erase t k) = true := by
  induction t generalizing lo with
  | nil => simpa [Tab.erase] using h
  | cons x t ih =>
    obtain ⟨i, w⟩ := x
    simp only [Tab.wfFrom, Bool.and_eq_true, decide_eq_true_eq] at h
    unfold Tab.erase
    by_cases h1 : i = k
    · simp only [h1, if_true]
      apply Tab.wfFrom_weaken (a := i) _ (ih h.2)
      cases lo with
      | none => exact .inl rfl
      | some l => exact .inr ⟨l, rfl, by have := h.1.1; simp at this; omega⟩
    · simp only [h1, if_false, Tab.wfFrom, Bool.and_eq_true, decide_eq_true_eq]
      exact ⟨h.1, ih h.2⟩

/-- Every write keeps the canonical form. -/
theorem Tab.wf_set {t : Tab α} (h : t.wf = true) (k : Nat) (v : α) : (Tab.set t k v).wf = true := by
  by_cases hv : v = default
  · simpa [Tab.set, hv, Tab.wf] using Tab.wfFrom_erase h k
  · simpa [Tab.set, hv, Tab.wf] using Tab.wfFrom_insert h hv (by intro l hl; cases hl)

/-- Every update keeps the canonical form. -/
theorem Tab.wf_upd {t : Tab α} (h : t.wf = true) (k : Nat) (f : α → α) : (Tab.upd t k f).wf = true := Tab.wf_set h k _

/-- A filter keeps the canonical form. -/
theorem Tab.wfFrom_filter {t : Tab α} {lo : Option Nat} (h : Tab.wfFrom lo t = true) (p : Nat × α → Bool) :
    Tab.wfFrom lo (t.filter p) = true := by
  induction t generalizing lo with
  | nil => exact h
  | cons x t ih =>
    obtain ⟨i, w⟩ := x
    simp only [Tab.wfFrom, Bool.and_eq_true, decide_eq_true_eq] at h
    by_cases hp : p (i, w)
    · simp only [List.filter_cons, hp, if_true, Tab.wfFrom, Bool.and_eq_true, decide_eq_true_eq]
      exact ⟨h.1, ih h.2⟩
    · simp only [List.filter_cons, hp, Bool.false_eq_true, if_false]
      apply Tab.wfFrom_weaken (a := i) _ (ih h.2)
      cases lo with
      | none => exact .inl rfl
      | some l => exact .inr ⟨l, rfl, by have := h.1.1; simp at this; omega⟩

theorem Tab.wf_filter {t : Tab α} (h : t.wf = true) (p : Nat × α → Bool) : Tab.wf (t.filter p) = true :=
  Tab.wfFrom_filter h p

/-- Where an entry of a written table comes from. -/
theorem Tab.mem_set {t : Tab α} {k : Nat} {v : α} {x : Nat × α} (h : x ∈ Tab.set t k v) :
    (x = (k, v) ∧ v ≠ default) ∨ x ∈ t := by
  by_cases hv : v = default
  · refine .inr ?_
    simp only [Tab.set, hv, if_true] at h
    induction t with
    | nil => simp [Tab.erase] at h
    | cons y t ih =>
      obtain ⟨i, w⟩ := y
      unfold Tab.erase at h
      by_cases h1 : i = k
      · simp only [h1, if_true] at h; exact List.mem_cons_of_mem _ (ih h)
      · simp only [h1, if_false, List.mem_cons] at h ⊢
        exact h.imp_right ih
  · simp only [Tab.set, hv, if_false] at h
    induction t with
    | nil => simp only [Tab.insert, List.mem_singleton] at h; exact .inl ⟨h, hv⟩
    | cons y t ih =>
      obtain ⟨i, w⟩ := y
      unfold Tab.insert at h
      by_cases h1 : i = k
      · simp only [h1, if_true, List.mem_cons] at h
        exact h.imp (fun e => ⟨e, hv⟩) (List.mem_cons_of_mem _)
      · by_cases h2 : k < i
        · simp only [h1, h2, if_true, if_false, List.mem_cons] at h
          exact h.imp (fun e => ⟨e, hv⟩) (fun e => List.mem_cons.mpr e)
        · simp only [h1, h2, if_false, List.mem_cons] at h
          rcases h with h | h
          · exact .inr (h ▸ List.mem_cons_self)
          · exact (ih h).imp_right (List.mem_cons_of_mem _)

end Sys2Proof.Machine
end

