-- ==== Sys2Proof/Laws/State.lean ====
section
/-! SUPPORT. One lemma per field of State for each of the plain updates: what an update leaves alone, so that no proof unfolds a record
update. -/

namespace Sys2Proof.Machine

/-! ### advance -/

@[simp] theorem State.advance_regs (s : State) (t : Nat) : (s.advance t).regs = s.regs := rfl
@[simp] theorem State.advance_outside (s : State) (t : Nat) : (s.advance t).outside = s.outside := rfl
@[simp] theorem State.advance_raced (s : State) (t : Nat) : (s.advance t).raced = s.raced := rfl
@[simp] theorem State.advance_settings (s : State) (t : Nat) : (s.advance t).settings = s.settings := rfl
@[simp] theorem State.advance_latches (s : State) (t : Nat) : (s.advance t).latches = s.latches := rfl
@[simp] theorem State.advance_mode (s : State) (t : Nat) : (s.advance t).mode = s.mode := rfl
@[simp] theorem State.advance_prevMode (s : State) (t : Nat) : (s.advance t).prevMode = s.prevMode := rfl
@[simp] theorem State.advance_freeCtr (s : State) (t : Nat) : (s.advance t).freeCtr = s.freeCtr := rfl
@[simp] theorem State.advance_out (s : State) (t : Nat) : (s.advance t).out = s.out := rfl
@[simp] theorem State.advance_phase (s : State) (t : Nat) : (s.advance t).phase = s.phase := rfl
@[simp] theorem State.advance_img (s : State) (t : Nat) : (s.advance t).img = s.img := rfl
@[simp] theorem State.advance_tasks (s : State) (t : Nat) : (s.advance t).tasks = s.tasks := rfl
@[simp] theorem State.advance_cells (s : State) (t : Nat) : (s.advance t).cells = s.cells := rfl
@[simp] theorem State.advance_pair (s : State) (t : Nat) : (s.advance t).pair = s.pair := rfl
@[simp] theorem State.advance_recorder (s : State) (t : Nat) : (s.advance t).recorder = s.recorder := rfl
@[simp] theorem State.advance_life (s : State) (t : Nat) : (s.advance t).life = s.life := rfl
@[simp] theorem State.advance_power (s : State) (t : Nat) : (s.advance t).power = s.power := rfl
@[simp] theorem State.advance_kettle (s : State) (t : Nat) : (s.advance t).kettle = s.kettle := rfl
@[simp] theorem State.advance_leaf (s : State) (t : Nat) : (s.advance t).leaf = s.leaf := rfl
@[simp] theorem State.advance_rings (s : State) (t : Nat) : (s.advance t).rings = s.rings := rfl
@[simp] theorem State.advance_loops (s : State) (t : Nat) : (s.advance t).loops = s.loops := rfl
@[simp] theorem State.advance_safe (s : State) (t : Nat) : (s.advance t).safe = s.safe := rfl
@[simp] theorem State.advance_struct (s : State) (t : Nat) : (s.advance t).struct = s.struct := rfl
@[simp] theorem State.advance_port (s : State) (t : Nat) : (s.advance t).port = s.port := rfl
@[simp] theorem State.advance_upd (s : State) (t : Nat) : (s.advance t).upd = s.upd := rfl
@[simp] theorem State.advance_can (s : State) (t : Nat) : (s.advance t).can = s.can := rfl
@[simp] theorem State.advance_ptp (s : State) (t : Nat) : (s.advance t).ptp = s.ptp := rfl
@[simp] theorem State.advance_pending (s : State) (t : Nat) : (s.advance t).pending = s.pending := rfl
@[simp] theorem State.advance_reg (s : State) (t : Nat) (g : Fld) (j : Nat) : (s.advance t).reg g j = s.reg g j := rfl
@[simp] theorem State.advance_flag (s : State) (t : Nat) (g : Fld) (j : Nat) : (s.advance t).flag g j = s.flag g j := rfl

/-! ### at -/

@[simp] theorem State.at_regs (s : State) (t : Nat) : (s.at t).regs = s.regs := rfl
@[simp] theorem State.at_outside (s : State) (t : Nat) : (s.at t).outside = s.outside := rfl
@[simp] theorem State.at_raced (s : State) (t : Nat) : (s.at t).raced = s.raced := rfl
@[simp] theorem State.at_settings (s : State) (t : Nat) : (s.at t).settings = s.settings := rfl
@[simp] theorem State.at_latches (s : State) (t : Nat) : (s.at t).latches = s.latches := rfl
@[simp] theorem State.at_mode (s : State) (t : Nat) : (s.at t).mode = s.mode := rfl
@[simp] theorem State.at_prevMode (s : State) (t : Nat) : (s.at t).prevMode = s.prevMode := rfl
@[simp] theorem State.at_freeCtr (s : State) (t : Nat) : (s.at t).freeCtr = s.freeCtr := rfl
@[simp] theorem State.at_out (s : State) (t : Nat) : (s.at t).out = s.out := rfl
@[simp] theorem State.at_phase (s : State) (t : Nat) : (s.at t).phase = s.phase := rfl
@[simp] theorem State.at_img (s : State) (t : Nat) : (s.at t).img = s.img := rfl
@[simp] theorem State.at_tasks (s : State) (t : Nat) : (s.at t).tasks = s.tasks := rfl
@[simp] theorem State.at_cells (s : State) (t : Nat) : (s.at t).cells = s.cells := rfl
@[simp] theorem State.at_pair (s : State) (t : Nat) : (s.at t).pair = s.pair := rfl
@[simp] theorem State.at_recorder (s : State) (t : Nat) : (s.at t).recorder = s.recorder := rfl
@[simp] theorem State.at_life (s : State) (t : Nat) : (s.at t).life = s.life := rfl
@[simp] theorem State.at_power (s : State) (t : Nat) : (s.at t).power = s.power := rfl
@[simp] theorem State.at_kettle (s : State) (t : Nat) : (s.at t).kettle = s.kettle := rfl
@[simp] theorem State.at_leaf (s : State) (t : Nat) : (s.at t).leaf = s.leaf := rfl
@[simp] theorem State.at_rings (s : State) (t : Nat) : (s.at t).rings = s.rings := rfl
@[simp] theorem State.at_loops (s : State) (t : Nat) : (s.at t).loops = s.loops := rfl
@[simp] theorem State.at_safe (s : State) (t : Nat) : (s.at t).safe = s.safe := rfl
@[simp] theorem State.at_struct (s : State) (t : Nat) : (s.at t).struct = s.struct := rfl
@[simp] theorem State.at_port (s : State) (t : Nat) : (s.at t).port = s.port := rfl
@[simp] theorem State.at_upd (s : State) (t : Nat) : (s.at t).upd = s.upd := rfl
@[simp] theorem State.at_can (s : State) (t : Nat) : (s.at t).can = s.can := rfl
@[simp] theorem State.at_ptp (s : State) (t : Nat) : (s.at t).ptp = s.ptp := rfl
@[simp] theorem State.at_pending (s : State) (t : Nat) : (s.at t).pending = s.pending := rfl
@[simp] theorem State.at_reg (s : State) (t : Nat) (g : Fld) (j : Nat) : (s.at t).reg g j = s.reg g j := rfl
@[simp] theorem State.at_flag (s : State) (t : Nat) (g : Fld) (j : Nat) : (s.at t).flag g j = s.flag g j := rfl

/-! ### emit -/

@[simp] theorem State.emit_now (s : State) (o : Out) : (s.emit o).now = s.now := rfl
@[simp] theorem State.emit_regs (s : State) (o : Out) : (s.emit o).regs = s.regs := rfl
@[simp] theorem State.emit_outside (s : State) (o : Out) : (s.emit o).outside = s.outside := rfl
@[simp] theorem State.emit_raced (s : State) (o : Out) : (s.emit o).raced = s.raced := rfl
@[simp] theorem State.emit_settings (s : State) (o : Out) : (s.emit o).settings = s.settings := rfl
@[simp] theorem State.emit_latches (s : State) (o : Out) : (s.emit o).latches = s.latches := rfl
@[simp] theorem State.emit_mode (s : State) (o : Out) : (s.emit o).mode = s.mode := rfl
@[simp] theorem State.emit_prevMode (s : State) (o : Out) : (s.emit o).prevMode = s.prevMode := rfl
@[simp] theorem State.emit_freeCtr (s : State) (o : Out) : (s.emit o).freeCtr = s.freeCtr := rfl
@[simp] theorem State.emit_phase (s : State) (o : Out) : (s.emit o).phase = s.phase := rfl
@[simp] theorem State.emit_img (s : State) (o : Out) : (s.emit o).img = s.img := rfl
@[simp] theorem State.emit_tasks (s : State) (o : Out) : (s.emit o).tasks = s.tasks := rfl
@[simp] theorem State.emit_cells (s : State) (o : Out) : (s.emit o).cells = s.cells := rfl
@[simp] theorem State.emit_pair (s : State) (o : Out) : (s.emit o).pair = s.pair := rfl
@[simp] theorem State.emit_recorder (s : State) (o : Out) : (s.emit o).recorder = s.recorder := rfl
@[simp] theorem State.emit_life (s : State) (o : Out) : (s.emit o).life = s.life := rfl
@[simp] theorem State.emit_power (s : State) (o : Out) : (s.emit o).power = s.power := rfl
@[simp] theorem State.emit_kettle (s : State) (o : Out) : (s.emit o).kettle = s.kettle := rfl
@[simp] theorem State.emit_leaf (s : State) (o : Out) : (s.emit o).leaf = s.leaf := rfl
@[simp] theorem State.emit_rings (s : State) (o : Out) : (s.emit o).rings = s.rings := rfl
@[simp] theorem State.emit_loops (s : State) (o : Out) : (s.emit o).loops = s.loops := rfl
@[simp] theorem State.emit_safe (s : State) (o : Out) : (s.emit o).safe = s.safe := rfl
@[simp] theorem State.emit_struct (s : State) (o : Out) : (s.emit o).struct = s.struct := rfl
@[simp] theorem State.emit_port (s : State) (o : Out) : (s.emit o).port = s.port := rfl
@[simp] theorem State.emit_upd (s : State) (o : Out) : (s.emit o).upd = s.upd := rfl
@[simp] theorem State.emit_can (s : State) (o : Out) : (s.emit o).can = s.can := rfl
@[simp] theorem State.emit_ptp (s : State) (o : Out) : (s.emit o).ptp = s.ptp := rfl
@[simp] theorem State.emit_pending (s : State) (o : Out) : (s.emit o).pending = s.pending := rfl
@[simp] theorem State.emit_reg (s : State) (o : Out) (g : Fld) (j : Nat) : (s.emit o).reg g j = s.reg g j := rfl
@[simp] theorem State.emit_flag (s : State) (o : Out) (g : Fld) (j : Nat) : (s.emit o).flag g j = s.flag g j := rfl

/-! ### nextFree -/

@[simp] theorem State.nextFree_now (s : State) : (s.nextFree).now = s.now := rfl
@[simp] theorem State.nextFree_regs (s : State) : (s.nextFree).regs = s.regs := rfl
@[simp] theorem State.nextFree_outside (s : State) : (s.nextFree).outside = s.outside := rfl
@[simp] theorem State.nextFree_raced (s : State) : (s.nextFree).raced = s.raced := rfl
@[simp] theorem State.nextFree_settings (s : State) : (s.nextFree).settings = s.settings := rfl
@[simp] theorem State.nextFree_latches (s : State) : (s.nextFree).latches = s.latches := rfl
@[simp] theorem State.nextFree_mode (s : State) : (s.nextFree).mode = s.mode := rfl
@[simp] theorem State.nextFree_prevMode (s : State) : (s.nextFree).prevMode = s.prevMode := rfl
@[simp] theorem State.nextFree_out (s : State) : (s.nextFree).out = s.out := rfl
@[simp] theorem State.nextFree_phase (s : State) : (s.nextFree).phase = s.phase := rfl
@[simp] theorem State.nextFree_img (s : State) : (s.nextFree).img = s.img := rfl
@[simp] theorem State.nextFree_tasks (s : State) : (s.nextFree).tasks = s.tasks := rfl
@[simp] theorem State.nextFree_cells (s : State) : (s.nextFree).cells = s.cells := rfl
@[simp] theorem State.nextFree_pair (s : State) : (s.nextFree).pair = s.pair := rfl
@[simp] theorem State.nextFree_recorder (s : State) : (s.nextFree).recorder = s.recorder := rfl
@[simp] theorem State.nextFree_life (s : State) : (s.nextFree).life = s.life := rfl
@[simp] theorem State.nextFree_power (s : State) : (s.nextFree).power = s.power := rfl
@[simp] theorem State.nextFree_kettle (s : State) : (s.nextFree).kettle = s.kettle := rfl
@[simp] theorem State.nextFree_leaf (s : State) : (s.nextFree).leaf = s.leaf := rfl
@[simp] theorem State.nextFree_rings (s : State) : (s.nextFree).rings = s.rings := rfl
@[simp] theorem State.nextFree_loops (s : State) : (s.nextFree).loops = s.loops := rfl
@[simp] theorem State.nextFree_safe (s : State) : (s.nextFree).safe = s.safe := rfl
@[simp] theorem State.nextFree_struct (s : State) : (s.nextFree).struct = s.struct := rfl
@[simp] theorem State.nextFree_port (s : State) : (s.nextFree).port = s.port := rfl
@[simp] theorem State.nextFree_upd (s : State) : (s.nextFree).upd = s.upd := rfl
@[simp] theorem State.nextFree_can (s : State) : (s.nextFree).can = s.can := rfl
@[simp] theorem State.nextFree_ptp (s : State) : (s.nextFree).ptp = s.ptp := rfl
@[simp] theorem State.nextFree_pending (s : State) : (s.nextFree).pending = s.pending := rfl
@[simp] theorem State.nextFree_reg (s : State) (g : Fld) (j : Nat) : (s.nextFree).reg g j = s.reg g j := rfl
@[simp] theorem State.nextFree_flag (s : State) (g : Fld) (j : Nat) : (s.nextFree).flag g j = s.flag g j := rfl

/-! ### lifeAdd -/

@[simp] theorem State.lifeAdd_now (s : State) (i n : Nat) : (s.lifeAdd i n).now = s.now := rfl
@[simp] theorem State.lifeAdd_regs (s : State) (i n : Nat) : (s.lifeAdd i n).regs = s.regs := rfl
@[simp] theorem State.lifeAdd_outside (s : State) (i n : Nat) : (s.lifeAdd i n).outside = s.outside := rfl
@[simp] theorem State.lifeAdd_raced (s : State) (i n : Nat) : (s.lifeAdd i n).raced = s.raced := rfl
@[simp] theorem State.lifeAdd_settings (s : State) (i n : Nat) : (s.lifeAdd i n).settings = s.settings := rfl
@[simp] theorem State.lifeAdd_latches (s : State) (i n : Nat) : (s.lifeAdd i n).latches = s.latches := rfl
@[simp] theorem State.lifeAdd_mode (s : State) (i n : Nat) : (s.lifeAdd i n).mode = s.mode := rfl
@[simp] theorem State.lifeAdd_prevMode (s : State) (i n : Nat) : (s.lifeAdd i n).prevMode = s.prevMode := rfl
@[simp] theorem State.lifeAdd_freeCtr (s : State) (i n : Nat) : (s.lifeAdd i n).freeCtr = s.freeCtr := rfl
@[simp] theorem State.lifeAdd_out (s : State) (i n : Nat) : (s.lifeAdd i n).out = s.out := rfl
@[simp] theorem State.lifeAdd_phase (s : State) (i n : Nat) : (s.lifeAdd i n).phase = s.phase := rfl
@[simp] theorem State.lifeAdd_img (s : State) (i n : Nat) : (s.lifeAdd i n).img = s.img := rfl
@[simp] theorem State.lifeAdd_tasks (s : State) (i n : Nat) : (s.lifeAdd i n).tasks = s.tasks := rfl
@[simp] theorem State.lifeAdd_cells (s : State) (i n : Nat) : (s.lifeAdd i n).cells = s.cells := rfl
@[simp] theorem State.lifeAdd_pair (s : State) (i n : Nat) : (s.lifeAdd i n).pair = s.pair := rfl
@[simp] theorem State.lifeAdd_recorder (s : State) (i n : Nat) : (s.lifeAdd i n).recorder = s.recorder := rfl
@[simp] theorem State.lifeAdd_power (s : State) (i n : Nat) : (s.lifeAdd i n).power = s.power := rfl
@[simp] theorem State.lifeAdd_kettle (s : State) (i n : Nat) : (s.lifeAdd i n).kettle = s.kettle := rfl
@[simp] theorem State.lifeAdd_leaf (s : State) (i n : Nat) : (s.lifeAdd i n).leaf = s.leaf := rfl
@[simp] theorem State.lifeAdd_rings (s : State) (i n : Nat) : (s.lifeAdd i n).rings = s.rings := rfl
@[simp] theorem State.lifeAdd_loops (s : State) (i n : Nat) : (s.lifeAdd i n).loops = s.loops := rfl
@[simp] theorem State.lifeAdd_safe (s : State) (i n : Nat) : (s.lifeAdd i n).safe = s.safe := rfl
@[simp] theorem State.lifeAdd_struct (s : State) (i n : Nat) : (s.lifeAdd i n).struct = s.struct := rfl
@[simp] theorem State.lifeAdd_port (s : State) (i n : Nat) : (s.lifeAdd i n).port = s.port := rfl
@[simp] theorem State.lifeAdd_upd (s : State) (i n : Nat) : (s.lifeAdd i n).upd = s.upd := rfl
@[simp] theorem State.lifeAdd_can (s : State) (i n : Nat) : (s.lifeAdd i n).can = s.can := rfl
@[simp] theorem State.lifeAdd_ptp (s : State) (i n : Nat) : (s.lifeAdd i n).ptp = s.ptp := rfl
@[simp] theorem State.lifeAdd_pending (s : State) (i n : Nat) : (s.lifeAdd i n).pending = s.pending := rfl
@[simp] theorem State.lifeAdd_reg (s : State) (i n : Nat) (g : Fld) (j : Nat) : (s.lifeAdd i n).reg g j = s.reg g j := rfl
@[simp] theorem State.lifeAdd_flag (s : State) (i n : Nat) (g : Fld) (j : Nat) : (s.lifeAdd i n).flag g j = s.flag g j := rfl

/-! ### histAdd -/

@[simp] theorem State.histAdd_now (s : State) (h b : Nat) : (s.histAdd h b).now = s.now := rfl
@[simp] theorem State.histAdd_regs (s : State) (h b : Nat) : (s.histAdd h b).regs = s.regs := rfl
@[simp] theorem State.histAdd_outside (s : State) (h b : Nat) : (s.histAdd h b).outside = s.outside := rfl
@[simp] theorem State.histAdd_raced (s : State) (h b : Nat) : (s.histAdd h b).raced = s.raced := rfl
@[simp] theorem State.histAdd_settings (s : State) (h b : Nat) : (s.histAdd h b).settings = s.settings := rfl
@[simp] theorem State.histAdd_latches (s : State) (h b : Nat) : (s.histAdd h b).latches = s.latches := rfl
@[simp] theorem State.histAdd_mode (s : State) (h b : Nat) : (s.histAdd h b).mode = s.mode := rfl
@[simp] theorem State.histAdd_prevMode (s : State) (h b : Nat) : (s.histAdd h b).prevMode = s.prevMode := rfl
@[simp] theorem State.histAdd_freeCtr (s : State) (h b : Nat) : (s.histAdd h b).freeCtr = s.freeCtr := rfl
@[simp] theorem State.histAdd_out (s : State) (h b : Nat) : (s.histAdd h b).out = s.out := rfl
@[simp] theorem State.histAdd_phase (s : State) (h b : Nat) : (s.histAdd h b).phase = s.phase := rfl
@[simp] theorem State.histAdd_img (s : State) (h b : Nat) : (s.histAdd h b).img = s.img := rfl
@[simp] theorem State.histAdd_tasks (s : State) (h b : Nat) : (s.histAdd h b).tasks = s.tasks := rfl
@[simp] theorem State.histAdd_cells (s : State) (h b : Nat) : (s.histAdd h b).cells = s.cells := rfl
@[simp] theorem State.histAdd_pair (s : State) (h b : Nat) : (s.histAdd h b).pair = s.pair := rfl
@[simp] theorem State.histAdd_recorder (s : State) (h b : Nat) : (s.histAdd h b).recorder = s.recorder := rfl
@[simp] theorem State.histAdd_power (s : State) (h b : Nat) : (s.histAdd h b).power = s.power := rfl
@[simp] theorem State.histAdd_kettle (s : State) (h b : Nat) : (s.histAdd h b).kettle = s.kettle := rfl
@[simp] theorem State.histAdd_leaf (s : State) (h b : Nat) : (s.histAdd h b).leaf = s.leaf := rfl
@[simp] theorem State.histAdd_rings (s : State) (h b : Nat) : (s.histAdd h b).rings = s.rings := rfl
@[simp] theorem State.histAdd_loops (s : State) (h b : Nat) : (s.histAdd h b).loops = s.loops := rfl
@[simp] theorem State.histAdd_safe (s : State) (h b : Nat) : (s.histAdd h b).safe = s.safe := rfl
@[simp] theorem State.histAdd_struct (s : State) (h b : Nat) : (s.histAdd h b).struct = s.struct := rfl
@[simp] theorem State.histAdd_port (s : State) (h b : Nat) : (s.histAdd h b).port = s.port := rfl
@[simp] theorem State.histAdd_upd (s : State) (h b : Nat) : (s.histAdd h b).upd = s.upd := rfl
@[simp] theorem State.histAdd_can (s : State) (h b : Nat) : (s.histAdd h b).can = s.can := rfl
@[simp] theorem State.histAdd_ptp (s : State) (h b : Nat) : (s.histAdd h b).ptp = s.ptp := rfl
@[simp] theorem State.histAdd_pending (s : State) (h b : Nat) : (s.histAdd h b).pending = s.pending := rfl
@[simp] theorem State.histAdd_reg (s : State) (h b : Nat) (g : Fld) (j : Nat) : (s.histAdd h b).reg g j = s.reg g j := rfl
@[simp] theorem State.histAdd_flag (s : State) (h b : Nat) (g : Fld) (j : Nat) : (s.histAdd h b).flag g j = s.flag g j := rfl

/-! ### occurs -/

@[simp] theorem State.occurs_now (s : State) (k i : Nat) : (s.occurs k i).now = s.now := rfl
@[simp] theorem State.occurs_regs (s : State) (k i : Nat) : (s.occurs k i).regs = s.regs := rfl
@[simp] theorem State.occurs_outside (s : State) (k i : Nat) : (s.occurs k i).outside = s.outside := rfl
@[simp] theorem State.occurs_raced (s : State) (k i : Nat) : (s.occurs k i).raced = s.raced := rfl
@[simp] theorem State.occurs_settings (s : State) (k i : Nat) : (s.occurs k i).settings = s.settings := rfl
@[simp] theorem State.occurs_latches (s : State) (k i : Nat) : (s.occurs k i).latches = s.latches := rfl
@[simp] theorem State.occurs_mode (s : State) (k i : Nat) : (s.occurs k i).mode = s.mode := rfl
@[simp] theorem State.occurs_prevMode (s : State) (k i : Nat) : (s.occurs k i).prevMode = s.prevMode := rfl
@[simp] theorem State.occurs_freeCtr (s : State) (k i : Nat) : (s.occurs k i).freeCtr = s.freeCtr := rfl
@[simp] theorem State.occurs_out (s : State) (k i : Nat) : (s.occurs k i).out = s.out := rfl
@[simp] theorem State.occurs_phase (s : State) (k i : Nat) : (s.occurs k i).phase = s.phase := rfl
@[simp] theorem State.occurs_img (s : State) (k i : Nat) : (s.occurs k i).img = s.img := rfl
@[simp] theorem State.occurs_tasks (s : State) (k i : Nat) : (s.occurs k i).tasks = s.tasks := rfl
@[simp] theorem State.occurs_cells (s : State) (k i : Nat) : (s.occurs k i).cells = s.cells := rfl
@[simp] theorem State.occurs_pair (s : State) (k i : Nat) : (s.occurs k i).pair = s.pair := rfl
@[simp] theorem State.occurs_recorder (s : State) (k i : Nat) : (s.occurs k i).recorder = s.recorder := rfl
@[simp] theorem State.occurs_power (s : State) (k i : Nat) : (s.occurs k i).power = s.power := rfl
@[simp] theorem State.occurs_kettle (s : State) (k i : Nat) : (s.occurs k i).kettle = s.kettle := rfl
@[simp] theorem State.occurs_leaf (s : State) (k i : Nat) : (s.occurs k i).leaf = s.leaf := rfl
@[simp] theorem State.occurs_rings (s : State) (k i : Nat) : (s.occurs k i).rings = s.rings := rfl
@[simp] theorem State.occurs_loops (s : State) (k i : Nat) : (s.occurs k i).loops = s.loops := rfl
@[simp] theorem State.occurs_safe (s : State) (k i : Nat) : (s.occurs k i).safe = s.safe := rfl
@[simp] theorem State.occurs_struct (s : State) (k i : Nat) : (s.occurs k i).struct = s.struct := rfl
@[simp] theorem State.occurs_port (s : State) (k i : Nat) : (s.occurs k i).port = s.port := rfl
@[simp] theorem State.occurs_upd (s : State) (k i : Nat) : (s.occurs k i).upd = s.upd := rfl
@[simp] theorem State.occurs_can (s : State) (k i : Nat) : (s.occurs k i).can = s.can := rfl
@[simp] theorem State.occurs_ptp (s : State) (k i : Nat) : (s.occurs k i).ptp = s.ptp := rfl
@[simp] theorem State.occurs_pending (s : State) (k i : Nat) : (s.occurs k i).pending = s.pending := rfl
@[simp] theorem State.occurs_reg (s : State) (k i : Nat) (g : Fld) (j : Nat) : (s.occurs k i).reg g j = s.reg g j := rfl
@[simp] theorem State.occurs_flag (s : State) (k i : Nat) (g : Fld) (j : Nat) : (s.occurs k i).flag g j = s.flag g j := rfl

/-! ### occur -/

@[simp] theorem State.occur_now (s : State) (k i c : Nat) : (s.occur k i c).now = s.now := rfl
@[simp] theorem State.occur_regs (s : State) (k i c : Nat) : (s.occur k i c).regs = s.regs := rfl
@[simp] theorem State.occur_outside (s : State) (k i c : Nat) : (s.occur k i c).outside = s.outside := rfl
@[simp] theorem State.occur_raced (s : State) (k i c : Nat) : (s.occur k i c).raced = s.raced := rfl
@[simp] theorem State.occur_settings (s : State) (k i c : Nat) : (s.occur k i c).settings = s.settings := rfl
@[simp] theorem State.occur_latches (s : State) (k i c : Nat) : (s.occur k i c).latches = s.latches := rfl
@[simp] theorem State.occur_mode (s : State) (k i c : Nat) : (s.occur k i c).mode = s.mode := rfl
@[simp] theorem State.occur_prevMode (s : State) (k i c : Nat) : (s.occur k i c).prevMode = s.prevMode := rfl
@[simp] theorem State.occur_freeCtr (s : State) (k i c : Nat) : (s.occur k i c).freeCtr = s.freeCtr := rfl
@[simp] theorem State.occur_out (s : State) (k i c : Nat) : (s.occur k i c).out = s.out := rfl
@[simp] theorem State.occur_phase (s : State) (k i c : Nat) : (s.occur k i c).phase = s.phase := rfl
@[simp] theorem State.occur_img (s : State) (k i c : Nat) : (s.occur k i c).img = s.img := rfl
@[simp] theorem State.occur_tasks (s : State) (k i c : Nat) : (s.occur k i c).tasks = s.tasks := rfl
@[simp] theorem State.occur_cells (s : State) (k i c : Nat) : (s.occur k i c).cells = s.cells := rfl
@[simp] theorem State.occur_pair (s : State) (k i c : Nat) : (s.occur k i c).pair = s.pair := rfl
@[simp] theorem State.occur_recorder (s : State) (k i c : Nat) : (s.occur k i c).recorder = s.recorder := rfl
@[simp] theorem State.occur_power (s : State) (k i c : Nat) : (s.occur k i c).power = s.power := rfl
@[simp] theorem State.occur_kettle (s : State) (k i c : Nat) : (s.occur k i c).kettle = s.kettle := rfl
@[simp] theorem State.occur_leaf (s : State) (k i c : Nat) : (s.occur k i c).leaf = s.leaf := rfl
@[simp] theorem State.occur_rings (s : State) (k i c : Nat) : (s.occur k i c).rings = s.rings := rfl
@[simp] theorem State.occur_loops (s : State) (k i c : Nat) : (s.occur k i c).loops = s.loops := rfl
@[simp] theorem State.occur_safe (s : State) (k i c : Nat) : (s.occur k i c).safe = s.safe := rfl
@[simp] theorem State.occur_struct (s : State) (k i c : Nat) : (s.occur k i c).struct = s.struct := rfl
@[simp] theorem State.occur_port (s : State) (k i c : Nat) : (s.occur k i c).port = s.port := rfl
@[simp] theorem State.occur_upd (s : State) (k i c : Nat) : (s.occur k i c).upd = s.upd := rfl
@[simp] theorem State.occur_can (s : State) (k i c : Nat) : (s.occur k i c).can = s.can := rfl
@[simp] theorem State.occur_ptp (s : State) (k i c : Nat) : (s.occur k i c).ptp = s.ptp := rfl
@[simp] theorem State.occur_pending (s : State) (k i c : Nat) : (s.occur k i c).pending = s.pending := rfl
@[simp] theorem State.occur_reg (s : State) (k i c : Nat) (g : Fld) (j : Nat) : (s.occur k i c).reg g j = s.reg g j := rfl
@[simp] theorem State.occur_flag (s : State) (k i c : Nat) (g : Fld) (j : Nat) : (s.occur k i c).flag g j = s.flag g j := rfl

/-! ### setLatch -/

@[simp] theorem State.setLatch_now (s : State) (m a w : Nat) : (s.setLatch m a w).now = s.now := rfl
@[simp] theorem State.setLatch_regs (s : State) (m a w : Nat) : (s.setLatch m a w).regs = s.regs := rfl
@[simp] theorem State.setLatch_outside (s : State) (m a w : Nat) : (s.setLatch m a w).outside = s.outside := rfl
@[simp] theorem State.setLatch_raced (s : State) (m a w : Nat) : (s.setLatch m a w).raced = s.raced := rfl
@[simp] theorem State.setLatch_settings (s : State) (m a w : Nat) : (s.setLatch m a w).settings = s.settings := rfl
@[simp] theorem State.setLatch_mode (s : State) (m a w : Nat) : (s.setLatch m a w).mode = s.mode := rfl
@[simp] theorem State.setLatch_prevMode (s : State) (m a w : Nat) : (s.setLatch m a w).prevMode = s.prevMode := rfl
@[simp] theorem State.setLatch_freeCtr (s : State) (m a w : Nat) : (s.setLatch m a w).freeCtr = s.freeCtr := rfl
@[simp] theorem State.setLatch_out (s : State) (m a w : Nat) : (s.setLatch m a w).out = s.out := rfl
@[simp] theorem State.setLatch_phase (s : State) (m a w : Nat) : (s.setLatch m a w).phase = s.phase := rfl
@[simp] theorem State.setLatch_img (s : State) (m a w : Nat) : (s.setLatch m a w).img = s.img := rfl
@[simp] theorem State.setLatch_tasks (s : State) (m a w : Nat) : (s.setLatch m a w).tasks = s.tasks := rfl
@[simp] theorem State.setLatch_cells (s : State) (m a w : Nat) : (s.setLatch m a w).cells = s.cells := rfl
@[simp] theorem State.setLatch_pair (s : State) (m a w : Nat) : (s.setLatch m a w).pair = s.pair := rfl
@[simp] theorem State.setLatch_recorder (s : State) (m a w : Nat) : (s.setLatch m a w).recorder = s.recorder := rfl
@[simp] theorem State.setLatch_life (s : State) (m a w : Nat) : (s.setLatch m a w).life = s.life := rfl
@[simp] theorem State.setLatch_power (s : State) (m a w : Nat) : (s.setLatch m a w).power = s.power := rfl
@[simp] theorem State.setLatch_kettle (s : State) (m a w : Nat) : (s.setLatch m a w).kettle = s.kettle := rfl
@[simp] theorem State.setLatch_leaf (s : State) (m a w : Nat) : (s.setLatch m a w).leaf = s.leaf := rfl
@[simp] theorem State.setLatch_rings (s : State) (m a w : Nat) : (s.setLatch m a w).rings = s.rings := rfl
@[simp] theorem State.setLatch_loops (s : State) (m a w : Nat) : (s.setLatch m a w).loops = s.loops := rfl
@[simp] theorem State.setLatch_safe (s : State) (m a w : Nat) : (s.setLatch m a w).safe = s.safe := rfl
@[simp] theorem State.setLatch_struct (s : State) (m a w : Nat) : (s.setLatch m a w).struct = s.struct := rfl
@[simp] theorem State.setLatch_port (s : State) (m a w : Nat) : (s.setLatch m a w).port = s.port := rfl
@[simp] theorem State.setLatch_upd (s : State) (m a w : Nat) : (s.setLatch m a w).upd = s.upd := rfl
@[simp] theorem State.setLatch_can (s : State) (m a w : Nat) : (s.setLatch m a w).can = s.can := rfl
@[simp] theorem State.setLatch_ptp (s : State) (m a w : Nat) : (s.setLatch m a w).ptp = s.ptp := rfl
@[simp] theorem State.setLatch_pending (s : State) (m a w : Nat) : (s.setLatch m a w).pending = s.pending := rfl
@[simp] theorem State.setLatch_reg (s : State) (m a w : Nat) (g : Fld) (j : Nat) : (s.setLatch m a w).reg g j = s.reg g j := rfl
@[simp] theorem State.setLatch_flag (s : State) (m a w : Nat) (g : Fld) (j : Nat) : (s.setLatch m a w).flag g j = s.flag g j := rfl

/-! ### updPair -/

@[simp] theorem State.updPair_now (s : State) (f : PairSt → PairSt) : (s.updPair f).now = s.now := rfl
@[simp] theorem State.updPair_regs (s : State) (f : PairSt → PairSt) : (s.updPair f).regs = s.regs := rfl
@[simp] theorem State.updPair_outside (s : State) (f : PairSt → PairSt) : (s.updPair f).outside = s.outside := rfl
@[simp] theorem State.updPair_raced (s : State) (f : PairSt → PairSt) : (s.updPair f).raced = s.raced := rfl
@[simp] theorem State.updPair_settings (s : State) (f : PairSt → PairSt) : (s.updPair f).settings = s.settings := rfl
@[simp] theorem State.updPair_latches (s : State) (f : PairSt → PairSt) : (s.updPair f).latches = s.latches := rfl
@[simp] theorem State.updPair_mode (s : State) (f : PairSt → PairSt) : (s.updPair f).mode = s.mode := rfl
@[simp] theorem State.updPair_prevMode (s : State) (f : PairSt → PairSt) : (s.updPair f).prevMode = s.prevMode := rfl
@[simp] theorem State.updPair_freeCtr (s : State) (f : PairSt → PairSt) : (s.updPair f).freeCtr = s.freeCtr := rfl
@[simp] theorem State.updPair_out (s : State) (f : PairSt → PairSt) : (s.updPair f).out = s.out := rfl
@[simp] theorem State.updPair_phase (s : State) (f : PairSt → PairSt) : (s.updPair f).phase = s.phase := rfl
@[simp] theorem State.updPair_img (s : State) (f : PairSt → PairSt) : (s.updPair f).img = s.img := rfl
@[simp] theorem State.updPair_tasks (s : State) (f : PairSt → PairSt) : (s.updPair f).tasks = s.tasks := rfl
@[simp] theorem State.updPair_cells (s : State) (f : PairSt → PairSt) : (s.updPair f).cells = s.cells := rfl
@[simp] theorem State.updPair_recorder (s : State) (f : PairSt → PairSt) : (s.updPair f).recorder = s.recorder := rfl
@[simp] theorem State.updPair_life (s : State) (f : PairSt → PairSt) : (s.updPair f).life = s.life := rfl
@[simp] theorem State.updPair_power (s : State) (f : PairSt → PairSt) : (s.updPair f).power = s.power := rfl
@[simp] theorem State.updPair_kettle (s : State) (f : PairSt → PairSt) : (s.updPair f).kettle = s.kettle := rfl
@[simp] theorem State.updPair_leaf (s : State) (f : PairSt → PairSt) : (s.updPair f).leaf = s.leaf := rfl
@[simp] theorem State.updPair_rings (s : State) (f : PairSt → PairSt) : (s.updPair f).rings = s.rings := rfl
@[simp] theorem State.updPair_loops (s : State) (f : PairSt → PairSt) : (s.updPair f).loops = s.loops := rfl
@[simp] theorem State.updPair_safe (s : State) (f : PairSt → PairSt) : (s.updPair f).safe = s.safe := rfl
@[simp] theorem State.updPair_struct (s : State) (f : PairSt → PairSt) : (s.updPair f).struct = s.struct := rfl
@[simp] theorem State.updPair_port (s : State) (f : PairSt → PairSt) : (s.updPair f).port = s.port := rfl
@[simp] theorem State.updPair_upd (s : State) (f : PairSt → PairSt) : (s.updPair f).upd = s.upd := rfl
@[simp] theorem State.updPair_can (s : State) (f : PairSt → PairSt) : (s.updPair f).can = s.can := rfl
@[simp] theorem State.updPair_ptp (s : State) (f : PairSt → PairSt) : (s.updPair f).ptp = s.ptp := rfl
@[simp] theorem State.updPair_pending (s : State) (f : PairSt → PairSt) : (s.updPair f).pending = s.pending := rfl
@[simp] theorem State.updPair_reg (s : State) (f : PairSt → PairSt) (g : Fld) (j : Nat) : (s.updPair f).reg g j = s.reg g j := rfl
@[simp] theorem State.updPair_flag (s : State) (f : PairSt → PairSt) (g : Fld) (j : Nat) : (s.updPair f).flag g j = s.flag g j := rfl

/-! ### updCan -/

@[simp] theorem State.updCan_now (s : State) (n : Nat) (f : CanPort → CanPort) : (s.updCan n f).now = s.now := rfl
@[simp] theorem State.updCan_regs (s : State) (n : Nat) (f : CanPort → CanPort) : (s.updCan n f).regs = s.regs := rfl
@[simp] theorem State.updCan_outside (s : State) (n : Nat) (f : CanPort → CanPort) : (s.updCan n f).outside = s.outside := rfl
@[simp] theorem State.updCan_raced (s : State) (n : Nat) (f : CanPort → CanPort) : (s.updCan n f).raced = s.raced := rfl
@[simp] theorem State.updCan_settings (s : State) (n : Nat) (f : CanPort → CanPort) : (s.updCan n f).settings = s.settings := rfl
@[simp] theorem State.updCan_latches (s : State) (n : Nat) (f : CanPort → CanPort) : (s.updCan n f).latches = s.latches := rfl
@[simp] theorem State.updCan_mode (s : State) (n : Nat) (f : CanPort → CanPort) : (s.updCan n f).mode = s.mode := rfl
@[simp] theorem State.updCan_prevMode (s : State) (n : Nat) (f : CanPort → CanPort) : (s.updCan n f).prevMode = s.prevMode := rfl
@[simp] theorem State.updCan_freeCtr (s : State) (n : Nat) (f : CanPort → CanPort) : (s.updCan n f).freeCtr = s.freeCtr := rfl
@[simp] theorem State.updCan_out (s : State) (n : Nat) (f : CanPort → CanPort) : (s.updCan n f).out = s.out := rfl
@[simp] theorem State.updCan_phase (s : State) (n : Nat) (f : CanPort → CanPort) : (s.updCan n f).phase = s.phase := rfl
@[simp] theorem State.updCan_img (s : State) (n : Nat) (f : CanPort → CanPort) : (s.updCan n f).img = s.img := rfl
@[simp] theorem State.updCan_tasks (s : State) (n : Nat) (f : CanPort → CanPort) : (s.updCan n f).tasks = s.tasks := rfl
@[simp] theorem State.updCan_cells (s : State) (n : Nat) (f : CanPort → CanPort) : (s.updCan n f).cells = s.cells := rfl
@[simp] theorem State.updCan_pair (s : State) (n : Nat) (f : CanPort → CanPort) : (s.updCan n f).pair = s.pair := rfl
@[simp] theorem State.updCan_recorder (s : State) (n : Nat) (f : CanPort → CanPort) : (s.updCan n f).recorder = s.recorder := rfl
@[simp] theorem State.updCan_life (s : State) (n : Nat) (f : CanPort → CanPort) : (s.updCan n f).life = s.life := rfl
@[simp] theorem State.updCan_power (s : State) (n : Nat) (f : CanPort → CanPort) : (s.updCan n f).power = s.power := rfl
@[simp] theorem State.updCan_kettle (s : State) (n : Nat) (f : CanPort → CanPort) : (s.updCan n f).kettle = s.kettle := rfl
@[simp] theorem State.updCan_leaf (s : State) (n : Nat) (f : CanPort → CanPort) : (s.updCan n f).leaf = s.leaf := rfl
@[simp] theorem State.updCan_rings (s : State) (n : Nat) (f : CanPort → CanPort) : (s.updCan n f).rings = s.rings := rfl
@[simp] theorem State.updCan_loops (s : State) (n : Nat) (f : CanPort → CanPort) : (s.updCan n f).loops = s.loops := rfl
@[simp] theorem State.updCan_safe (s : State) (n : Nat) (f : CanPort → CanPort) : (s.updCan n f).safe = s.safe := rfl
@[simp] theorem State.updCan_struct (s : State) (n : Nat) (f : CanPort → CanPort) : (s.updCan n f).struct = s.struct := rfl
@[simp] theorem State.updCan_port (s : State) (n : Nat) (f : CanPort → CanPort) : (s.updCan n f).port = s.port := rfl
@[simp] theorem State.updCan_upd (s : State) (n : Nat) (f : CanPort → CanPort) : (s.updCan n f).upd = s.upd := rfl
@[simp] theorem State.updCan_ptp (s : State) (n : Nat) (f : CanPort → CanPort) : (s.updCan n f).ptp = s.ptp := rfl
@[simp] theorem State.updCan_pending (s : State) (n : Nat) (f : CanPort → CanPort) : (s.updCan n f).pending = s.pending := rfl
@[simp] theorem State.updCan_reg (s : State) (n : Nat) (f : CanPort → CanPort) (g : Fld) (j : Nat) : (s.updCan n f).reg g j = s.reg g j := rfl
@[simp] theorem State.updCan_flag (s : State) (n : Nat) (f : CanPort → CanPort) (g : Fld) (j : Nat) : (s.updCan n f).flag g j = s.flag g j := rfl

/-! ### updCell -/

@[simp] theorem State.updCell_now (s : State) (c : Nat) (f : CellDyn → CellDyn) : (s.updCell c f).now = s.now := rfl
@[simp] theorem State.updCell_regs (s : State) (c : Nat) (f : CellDyn → CellDyn) : (s.updCell c f).regs = s.regs := rfl
@[simp] theorem State.updCell_outside (s : State) (c : Nat) (f : CellDyn → CellDyn) : (s.updCell c f).outside = s.outside := rfl
@[simp] theorem State.updCell_raced (s : State) (c : Nat) (f : CellDyn → CellDyn) : (s.updCell c f).raced = s.raced := rfl
@[simp] theorem State.updCell_settings (s : State) (c : Nat) (f : CellDyn → CellDyn) : (s.updCell c f).settings = s.settings := rfl
@[simp] theorem State.updCell_latches (s : State) (c : Nat) (f : CellDyn → CellDyn) : (s.updCell c f).latches = s.latches := rfl
@[simp] theorem State.updCell_mode (s : State) (c : Nat) (f : CellDyn → CellDyn) : (s.updCell c f).mode = s.mode := rfl
@[simp] theorem State.updCell_prevMode (s : State) (c : Nat) (f : CellDyn → CellDyn) : (s.updCell c f).prevMode = s.prevMode := rfl
@[simp] theorem State.updCell_freeCtr (s : State) (c : Nat) (f : CellDyn → CellDyn) : (s.updCell c f).freeCtr = s.freeCtr := rfl
@[simp] theorem State.updCell_out (s : State) (c : Nat) (f : CellDyn → CellDyn) : (s.updCell c f).out = s.out := rfl
@[simp] theorem State.updCell_phase (s : State) (c : Nat) (f : CellDyn → CellDyn) : (s.updCell c f).phase = s.phase := rfl
@[simp] theorem State.updCell_img (s : State) (c : Nat) (f : CellDyn → CellDyn) : (s.updCell c f).img = s.img := rfl
@[simp] theorem State.updCell_tasks (s : State) (c : Nat) (f : CellDyn → CellDyn) : (s.updCell c f).tasks = s.tasks := rfl
@[simp] theorem State.updCell_pair (s : State) (c : Nat) (f : CellDyn → CellDyn) : (s.updCell c f).pair = s.pair := rfl
@[simp] theorem State.updCell_recorder (s : State) (c : Nat) (f : CellDyn → CellDyn) : (s.updCell c f).recorder = s.recorder := rfl
@[simp] theorem State.updCell_life (s : State) (c : Nat) (f : CellDyn → CellDyn) : (s.updCell c f).life = s.life := rfl
@[simp] theorem State.updCell_power (s : State) (c : Nat) (f : CellDyn → CellDyn) : (s.updCell c f).power = s.power := rfl
@[simp] theorem State.updCell_kettle (s : State) (c : Nat) (f : CellDyn → CellDyn) : (s.updCell c f).kettle = s.kettle := rfl
@[simp] theorem State.updCell_leaf (s : State) (c : Nat) (f : CellDyn → CellDyn) : (s.updCell c f).leaf = s.leaf := rfl
@[simp] theorem State.updCell_rings (s : State) (c : Nat) (f : CellDyn → CellDyn) : (s.updCell c f).rings = s.rings := rfl
@[simp] theorem State.updCell_loops (s : State) (c : Nat) (f : CellDyn → CellDyn) : (s.updCell c f).loops = s.loops := rfl
@[simp] theorem State.updCell_safe (s : State) (c : Nat) (f : CellDyn → CellDyn) : (s.updCell c f).safe = s.safe := rfl
@[simp] theorem State.updCell_struct (s : State) (c : Nat) (f : CellDyn → CellDyn) : (s.updCell c f).struct = s.struct := rfl
@[simp] theorem State.updCell_port (s : State) (c : Nat) (f : CellDyn → CellDyn) : (s.updCell c f).port = s.port := rfl
@[simp] theorem State.updCell_upd (s : State) (c : Nat) (f : CellDyn → CellDyn) : (s.updCell c f).upd = s.upd := rfl
@[simp] theorem State.updCell_can (s : State) (c : Nat) (f : CellDyn → CellDyn) : (s.updCell c f).can = s.can := rfl
@[simp] theorem State.updCell_ptp (s : State) (c : Nat) (f : CellDyn → CellDyn) : (s.updCell c f).ptp = s.ptp := rfl
@[simp] theorem State.updCell_pending (s : State) (c : Nat) (f : CellDyn → CellDyn) : (s.updCell c f).pending = s.pending := rfl
@[simp] theorem State.updCell_reg (s : State) (c : Nat) (f : CellDyn → CellDyn) (g : Fld) (j : Nat) : (s.updCell c f).reg g j = s.reg g j := rfl
@[simp] theorem State.updCell_flag (s : State) (c : Nat) (f : CellDyn → CellDyn) (g : Fld) (j : Nat) : (s.updCell c f).flag g j = s.flag g j := rfl

/-! ### updTask -/

@[simp] theorem State.updTask_now (s : State) (t : Nat) (f : TaskDyn → TaskDyn) : (s.updTask t f).now = s.now := rfl
@[simp] theorem State.updTask_regs (s : State) (t : Nat) (f : TaskDyn → TaskDyn) : (s.updTask t f).regs = s.regs := rfl
@[simp] theorem State.updTask_outside (s : State) (t : Nat) (f : TaskDyn → TaskDyn) : (s.updTask t f).outside = s.outside := rfl
@[simp] theorem State.updTask_raced (s : State) (t : Nat) (f : TaskDyn → TaskDyn) : (s.updTask t f).raced = s.raced := rfl
@[simp] theorem State.updTask_settings (s : State) (t : Nat) (f : TaskDyn → TaskDyn) : (s.updTask t f).settings = s.settings := rfl
@[simp] theorem State.updTask_latches (s : State) (t : Nat) (f : TaskDyn → TaskDyn) : (s.updTask t f).latches = s.latches := rfl
@[simp] theorem State.updTask_mode (s : State) (t : Nat) (f : TaskDyn → TaskDyn) : (s.updTask t f).mode = s.mode := rfl
@[simp] theorem State.updTask_prevMode (s : State) (t : Nat) (f : TaskDyn → TaskDyn) : (s.updTask t f).prevMode = s.prevMode := rfl
@[simp] theorem State.updTask_freeCtr (s : State) (t : Nat) (f : TaskDyn → TaskDyn) : (s.updTask t f).freeCtr = s.freeCtr := rfl
@[simp] theorem State.updTask_out (s : State) (t : Nat) (f : TaskDyn → TaskDyn) : (s.updTask t f).out = s.out := rfl
@[simp] theorem State.updTask_phase (s : State) (t : Nat) (f : TaskDyn → TaskDyn) : (s.updTask t f).phase = s.phase := rfl
@[simp] theorem State.updTask_img (s : State) (t : Nat) (f : TaskDyn → TaskDyn) : (s.updTask t f).img = s.img := rfl
@[simp] theorem State.updTask_cells (s : State) (t : Nat) (f : TaskDyn → TaskDyn) : (s.updTask t f).cells = s.cells := rfl
@[simp] theorem State.updTask_pair (s : State) (t : Nat) (f : TaskDyn → TaskDyn) : (s.updTask t f).pair = s.pair := rfl
@[simp] theorem State.updTask_recorder (s : State) (t : Nat) (f : TaskDyn → TaskDyn) : (s.updTask t f).recorder = s.recorder := rfl
@[simp] theorem State.updTask_life (s : State) (t : Nat) (f : TaskDyn → TaskDyn) : (s.updTask t f).life = s.life := rfl
@[simp] theorem State.updTask_power (s : State) (t : Nat) (f : TaskDyn → TaskDyn) : (s.updTask t f).power = s.power := rfl
@[simp] theorem State.updTask_kettle (s : State) (t : Nat) (f : TaskDyn → TaskDyn) : (s.updTask t f).kettle = s.kettle := rfl
@[simp] theorem State.updTask_leaf (s : State) (t : Nat) (f : TaskDyn → TaskDyn) : (s.updTask t f).leaf = s.leaf := rfl
@[simp] theorem State.updTask_rings (s : State) (t : Nat) (f : TaskDyn → TaskDyn) : (s.updTask t f).rings = s.rings := rfl
@[simp] theorem State.updTask_loops (s : State) (t : Nat) (f : TaskDyn → TaskDyn) : (s.updTask t f).loops = s.loops := rfl
@[simp] theorem State.updTask_safe (s : State) (t : Nat) (f : TaskDyn → TaskDyn) : (s.updTask t f).safe = s.safe := rfl
@[simp] theorem State.updTask_struct (s : State) (t : Nat) (f : TaskDyn → TaskDyn) : (s.updTask t f).struct = s.struct := rfl
@[simp] theorem State.updTask_port (s : State) (t : Nat) (f : TaskDyn → TaskDyn) : (s.updTask t f).port = s.port := rfl
@[simp] theorem State.updTask_upd (s : State) (t : Nat) (f : TaskDyn → TaskDyn) : (s.updTask t f).upd = s.upd := rfl
@[simp] theorem State.updTask_can (s : State) (t : Nat) (f : TaskDyn → TaskDyn) : (s.updTask t f).can = s.can := rfl
@[simp] theorem State.updTask_ptp (s : State) (t : Nat) (f : TaskDyn → TaskDyn) : (s.updTask t f).ptp = s.ptp := rfl
@[simp] theorem State.updTask_pending (s : State) (t : Nat) (f : TaskDyn → TaskDyn) : (s.updTask t f).pending = s.pending := rfl
@[simp] theorem State.updTask_reg (s : State) (t : Nat) (f : TaskDyn → TaskDyn) (g : Fld) (j : Nat) : (s.updTask t f).reg g j = s.reg g j := rfl
@[simp] theorem State.updTask_flag (s : State) (t : Nat) (f : TaskDyn → TaskDyn) (g : Fld) (j : Nat) : (s.updTask t f).flag g j = s.flag g j := rfl

/-! ### updBase -/

@[simp] theorem State.updBase_now (s : State) (b : Nat) (f : BaseSt → BaseSt) : (s.updBase b f).now = s.now := rfl
@[simp] theorem State.updBase_regs (s : State) (b : Nat) (f : BaseSt → BaseSt) : (s.updBase b f).regs = s.regs := rfl
@[simp] theorem State.updBase_outside (s : State) (b : Nat) (f : BaseSt → BaseSt) : (s.updBase b f).outside = s.outside := rfl
@[simp] theorem State.updBase_raced (s : State) (b : Nat) (f : BaseSt → BaseSt) : (s.updBase b f).raced = s.raced := rfl
@[simp] theorem State.updBase_settings (s : State) (b : Nat) (f : BaseSt → BaseSt) : (s.updBase b f).settings = s.settings := rfl
@[simp] theorem State.updBase_latches (s : State) (b : Nat) (f : BaseSt → BaseSt) : (s.updBase b f).latches = s.latches := rfl
@[simp] theorem State.updBase_mode (s : State) (b : Nat) (f : BaseSt → BaseSt) : (s.updBase b f).mode = s.mode := rfl
@[simp] theorem State.updBase_prevMode (s : State) (b : Nat) (f : BaseSt → BaseSt) : (s.updBase b f).prevMode = s.prevMode := rfl
@[simp] theorem State.updBase_freeCtr (s : State) (b : Nat) (f : BaseSt → BaseSt) : (s.updBase b f).freeCtr = s.freeCtr := rfl
@[simp] theorem State.updBase_out (s : State) (b : Nat) (f : BaseSt → BaseSt) : (s.updBase b f).out = s.out := rfl
@[simp] theorem State.updBase_img (s : State) (b : Nat) (f : BaseSt → BaseSt) : (s.updBase b f).img = s.img := rfl
@[simp] theorem State.updBase_tasks (s : State) (b : Nat) (f : BaseSt → BaseSt) : (s.updBase b f).tasks = s.tasks := rfl
@[simp] theorem State.updBase_cells (s : State) (b : Nat) (f : BaseSt → BaseSt) : (s.updBase b f).cells = s.cells := rfl
@[simp] theorem State.updBase_pair (s : State) (b : Nat) (f : BaseSt → BaseSt) : (s.updBase b f).pair = s.pair := rfl
@[simp] theorem State.updBase_recorder (s : State) (b : Nat) (f : BaseSt → BaseSt) : (s.updBase b f).recorder = s.recorder := rfl
@[simp] theorem State.updBase_life (s : State) (b : Nat) (f : BaseSt → BaseSt) : (s.updBase b f).life = s.life := rfl
@[simp] theorem State.updBase_power (s : State) (b : Nat) (f : BaseSt → BaseSt) : (s.updBase b f).power = s.power := rfl
@[simp] theorem State.updBase_kettle (s : State) (b : Nat) (f : BaseSt → BaseSt) : (s.updBase b f).kettle = s.kettle := rfl
@[simp] theorem State.updBase_leaf (s : State) (b : Nat) (f : BaseSt → BaseSt) : (s.updBase b f).leaf = s.leaf := rfl
@[simp] theorem State.updBase_rings (s : State) (b : Nat) (f : BaseSt → BaseSt) : (s.updBase b f).rings = s.rings := rfl
@[simp] theorem State.updBase_loops (s : State) (b : Nat) (f : BaseSt → BaseSt) : (s.updBase b f).loops = s.loops := rfl
@[simp] theorem State.updBase_safe (s : State) (b : Nat) (f : BaseSt → BaseSt) : (s.updBase b f).safe = s.safe := rfl
@[simp] theorem State.updBase_struct (s : State) (b : Nat) (f : BaseSt → BaseSt) : (s.updBase b f).struct = s.struct := rfl
@[simp] theorem State.updBase_port (s : State) (b : Nat) (f : BaseSt → BaseSt) : (s.updBase b f).port = s.port := rfl
@[simp] theorem State.updBase_upd (s : State) (b : Nat) (f : BaseSt → BaseSt) : (s.updBase b f).upd = s.upd := rfl
@[simp] theorem State.updBase_can (s : State) (b : Nat) (f : BaseSt → BaseSt) : (s.updBase b f).can = s.can := rfl
@[simp] theorem State.updBase_ptp (s : State) (b : Nat) (f : BaseSt → BaseSt) : (s.updBase b f).ptp = s.ptp := rfl
@[simp] theorem State.updBase_pending (s : State) (b : Nat) (f : BaseSt → BaseSt) : (s.updBase b f).pending = s.pending := rfl
@[simp] theorem State.updBase_reg (s : State) (b : Nat) (f : BaseSt → BaseSt) (g : Fld) (j : Nat) : (s.updBase b f).reg g j = s.reg g j := rfl
@[simp] theorem State.updBase_flag (s : State) (b : Nat) (f : BaseSt → BaseSt) (g : Fld) (j : Nat) : (s.updBase b f).flag g j = s.flag g j := rfl

/-! ### updEnc -/

@[simp] theorem State.updEnc_now (s : State) (e : Nat) (f : EncSt → EncSt) : (s.updEnc e f).now = s.now := rfl
@[simp] theorem State.updEnc_regs (s : State) (e : Nat) (f : EncSt → EncSt) : (s.updEnc e f).regs = s.regs := rfl
@[simp] theorem State.updEnc_outside (s : State) (e : Nat) (f : EncSt → EncSt) : (s.updEnc e f).outside = s.outside := rfl
@[simp] theorem State.updEnc_raced (s : State) (e : Nat) (f : EncSt → EncSt) : (s.updEnc e f).raced = s.raced := rfl
@[simp] theorem State.updEnc_settings (s : State) (e : Nat) (f : EncSt → EncSt) : (s.updEnc e f).settings = s.settings := rfl
@[simp] theorem State.updEnc_latches (s : State) (e : Nat) (f : EncSt → EncSt) : (s.updEnc e f).latches = s.latches := rfl
@[simp] theorem State.updEnc_mode (s : State) (e : Nat) (f : EncSt → EncSt) : (s.updEnc e f).mode = s.mode := rfl
@[simp] theorem State.updEnc_prevMode (s : State) (e : Nat) (f : EncSt → EncSt) : (s.updEnc e f).prevMode = s.prevMode := rfl
@[simp] theorem State.updEnc_freeCtr (s : State) (e : Nat) (f : EncSt → EncSt) : (s.updEnc e f).freeCtr = s.freeCtr := rfl
@[simp] theorem State.updEnc_out (s : State) (e : Nat) (f : EncSt → EncSt) : (s.updEnc e f).out = s.out := rfl
@[simp] theorem State.updEnc_img (s : State) (e : Nat) (f : EncSt → EncSt) : (s.updEnc e f).img = s.img := rfl
@[simp] theorem State.updEnc_tasks (s : State) (e : Nat) (f : EncSt → EncSt) : (s.updEnc e f).tasks = s.tasks := rfl
@[simp] theorem State.updEnc_cells (s : State) (e : Nat) (f : EncSt → EncSt) : (s.updEnc e f).cells = s.cells := rfl
@[simp] theorem State.updEnc_pair (s : State) (e : Nat) (f : EncSt → EncSt) : (s.updEnc e f).pair = s.pair := rfl
@[simp] theorem State.updEnc_recorder (s : State) (e : Nat) (f : EncSt → EncSt) : (s.updEnc e f).recorder = s.recorder := rfl
@[simp] theorem State.updEnc_life (s : State) (e : Nat) (f : EncSt → EncSt) : (s.updEnc e f).life = s.life := rfl
@[simp] theorem State.updEnc_power (s : State) (e : Nat) (f : EncSt → EncSt) : (s.updEnc e f).power = s.power := rfl
@[simp] theorem State.updEnc_kettle (s : State) (e : Nat) (f : EncSt → EncSt) : (s.updEnc e f).kettle = s.kettle := rfl
@[simp] theorem State.updEnc_leaf (s : State) (e : Nat) (f : EncSt → EncSt) : (s.updEnc e f).leaf = s.leaf := rfl
@[simp] theorem State.updEnc_rings (s : State) (e : Nat) (f : EncSt → EncSt) : (s.updEnc e f).rings = s.rings := rfl
@[simp] theorem State.updEnc_loops (s : State) (e : Nat) (f : EncSt → EncSt) : (s.updEnc e f).loops = s.loops := rfl
@[simp] theorem State.updEnc_safe (s : State) (e : Nat) (f : EncSt → EncSt) : (s.updEnc e f).safe = s.safe := rfl
@[simp] theorem State.updEnc_struct (s : State) (e : Nat) (f : EncSt → EncSt) : (s.updEnc e f).struct = s.struct := rfl
@[simp] theorem State.updEnc_port (s : State) (e : Nat) (f : EncSt → EncSt) : (s.updEnc e f).port = s.port := rfl
@[simp] theorem State.updEnc_upd (s : State) (e : Nat) (f : EncSt → EncSt) : (s.updEnc e f).upd = s.upd := rfl
@[simp] theorem State.updEnc_can (s : State) (e : Nat) (f : EncSt → EncSt) : (s.updEnc e f).can = s.can := rfl
@[simp] theorem State.updEnc_ptp (s : State) (e : Nat) (f : EncSt → EncSt) : (s.updEnc e f).ptp = s.ptp := rfl
@[simp] theorem State.updEnc_pending (s : State) (e : Nat) (f : EncSt → EncSt) : (s.updEnc e f).pending = s.pending := rfl
@[simp] theorem State.updEnc_reg (s : State) (e : Nat) (f : EncSt → EncSt) (g : Fld) (j : Nat) : (s.updEnc e f).reg g j = s.reg g j := rfl
@[simp] theorem State.updEnc_flag (s : State) (e : Nat) (f : EncSt → EncSt) (g : Fld) (j : Nat) : (s.updEnc e f).flag g j = s.flag g j := rfl

/-! ### updStruct -/

@[simp] theorem State.updStruct_now (s : State) (f : StructSt → StructSt) : (s.updStruct f).now = s.now := rfl
@[simp] theorem State.updStruct_regs (s : State) (f : StructSt → StructSt) : (s.updStruct f).regs = s.regs := rfl
@[simp] theorem State.updStruct_outside (s : State) (f : StructSt → StructSt) : (s.updStruct f).outside = s.outside := rfl
@[simp] theorem State.updStruct_raced (s : State) (f : StructSt → StructSt) : (s.updStruct f).raced = s.raced := rfl
@[simp] theorem State.updStruct_settings (s : State) (f : StructSt → StructSt) : (s.updStruct f).settings = s.settings := rfl
@[simp] theorem State.updStruct_latches (s : State) (f : StructSt → StructSt) : (s.updStruct f).latches = s.latches := rfl
@[simp] theorem State.updStruct_mode (s : State) (f : StructSt → StructSt) : (s.updStruct f).mode = s.mode := rfl
@[simp] theorem State.updStruct_prevMode (s : State) (f : StructSt → StructSt) : (s.updStruct f).prevMode = s.prevMode := rfl
@[simp] theorem State.updStruct_freeCtr (s : State) (f : StructSt → StructSt) : (s.updStruct f).freeCtr = s.freeCtr := rfl
@[simp] theorem State.updStruct_out (s : State) (f : StructSt → StructSt) : (s.updStruct f).out = s.out := rfl
@[simp] theorem State.updStruct_phase (s : State) (f : StructSt → StructSt) : (s.updStruct f).phase = s.phase := rfl
@[simp] theorem State.updStruct_img (s : State) (f : StructSt → StructSt) : (s.updStruct f).img = s.img := rfl
@[simp] theorem State.updStruct_tasks (s : State) (f : StructSt → StructSt) : (s.updStruct f).tasks = s.tasks := rfl
@[simp] theorem State.updStruct_cells (s : State) (f : StructSt → StructSt) : (s.updStruct f).cells = s.cells := rfl
@[simp] theorem State.updStruct_pair (s : State) (f : StructSt → StructSt) : (s.updStruct f).pair = s.pair := rfl
@[simp] theorem State.updStruct_recorder (s : State) (f : StructSt → StructSt) : (s.updStruct f).recorder = s.recorder := rfl
@[simp] theorem State.updStruct_life (s : State) (f : StructSt → StructSt) : (s.updStruct f).life = s.life := rfl
@[simp] theorem State.updStruct_power (s : State) (f : StructSt → StructSt) : (s.updStruct f).power = s.power := rfl
@[simp] theorem State.updStruct_kettle (s : State) (f : StructSt → StructSt) : (s.updStruct f).kettle = s.kettle := rfl
@[simp] theorem State.updStruct_leaf (s : State) (f : StructSt → StructSt) : (s.updStruct f).leaf = s.leaf := rfl
@[simp] theorem State.updStruct_rings (s : State) (f : StructSt → StructSt) : (s.updStruct f).rings = s.rings := rfl
@[simp] theorem State.updStruct_loops (s : State) (f : StructSt → StructSt) : (s.updStruct f).loops = s.loops := rfl
@[simp] theorem State.updStruct_safe (s : State) (f : StructSt → StructSt) : (s.updStruct f).safe = s.safe := rfl
@[simp] theorem State.updStruct_port (s : State) (f : StructSt → StructSt) : (s.updStruct f).port = s.port := rfl
@[simp] theorem State.updStruct_upd (s : State) (f : StructSt → StructSt) : (s.updStruct f).upd = s.upd := rfl
@[simp] theorem State.updStruct_can (s : State) (f : StructSt → StructSt) : (s.updStruct f).can = s.can := rfl
@[simp] theorem State.updStruct_ptp (s : State) (f : StructSt → StructSt) : (s.updStruct f).ptp = s.ptp := rfl
@[simp] theorem State.updStruct_pending (s : State) (f : StructSt → StructSt) : (s.updStruct f).pending = s.pending := rfl
@[simp] theorem State.updStruct_reg (s : State) (f : StructSt → StructSt) (g : Fld) (j : Nat) : (s.updStruct f).reg g j = s.reg g j := rfl
@[simp] theorem State.updStruct_flag (s : State) (f : StructSt → StructSt) (g : Fld) (j : Nat) : (s.updStruct f).flag g j = s.flag g j := rfl

/-! ### updUpd -/

@[simp] theorem State.updUpd_now (s : State) (f : UpdSt → UpdSt) : (s.updUpd f).now = s.now := rfl
@[simp] theorem State.updUpd_regs (s : State) (f : UpdSt → UpdSt) : (s.updUpd f).regs = s.regs := rfl
@[simp] theorem State.updUpd_outside (s : State) (f : UpdSt → UpdSt) : (s.updUpd f).outside = s.outside := rfl
@[simp] theorem State.updUpd_raced (s : State) (f : UpdSt → UpdSt) : (s.updUpd f).raced = s.raced := rfl
@[simp] theorem State.updUpd_settings (s : State) (f : UpdSt → UpdSt) : (s.updUpd f).settings = s.settings := rfl
@[simp] theorem State.updUpd_latches (s : State) (f : UpdSt → UpdSt) : (s.updUpd f).latches = s.latches := rfl
@[simp] theorem State.updUpd_mode (s : State) (f : UpdSt → UpdSt) : (s.updUpd f).mode = s.mode := rfl
@[simp] theorem State.updUpd_prevMode (s : State) (f : UpdSt → UpdSt) : (s.updUpd f).prevMode = s.prevMode := rfl
@[simp] theorem State.updUpd_freeCtr (s : State) (f : UpdSt → UpdSt) : (s.updUpd f).freeCtr = s.freeCtr := rfl
@[simp] theorem State.updUpd_out (s : State) (f : UpdSt → UpdSt) : (s.updUpd f).out = s.out := rfl
@[simp] theorem State.updUpd_phase (s : State) (f : UpdSt → UpdSt) : (s.updUpd f).phase = s.phase := rfl
@[simp] theorem State.updUpd_img (s : State) (f : UpdSt → UpdSt) : (s.updUpd f).img = s.img := rfl
@[simp] theorem State.updUpd_tasks (s : State) (f : UpdSt → UpdSt) : (s.updUpd f).tasks = s.tasks := rfl
@[simp] theorem State.updUpd_cells (s : State) (f : UpdSt → UpdSt) : (s.updUpd f).cells = s.cells := rfl
@[simp] theorem State.updUpd_pair (s : State) (f : UpdSt → UpdSt) : (s.updUpd f).pair = s.pair := rfl
@[simp] theorem State.updUpd_recorder (s : State) (f : UpdSt → UpdSt) : (s.updUpd f).recorder = s.recorder := rfl
@[simp] theorem State.updUpd_life (s : State) (f : UpdSt → UpdSt) : (s.updUpd f).life = s.life := rfl
@[simp] theorem State.updUpd_power (s : State) (f : UpdSt → UpdSt) : (s.updUpd f).power = s.power := rfl
@[simp] theorem State.updUpd_kettle (s : State) (f : UpdSt → UpdSt) : (s.updUpd f).kettle = s.kettle := rfl
@[simp] theorem State.updUpd_leaf (s : State) (f : UpdSt → UpdSt) : (s.updUpd f).leaf = s.leaf := rfl
@[simp] theorem State.updUpd_rings (s : State) (f : UpdSt → UpdSt) : (s.updUpd f).rings = s.rings := rfl
@[simp] theorem State.updUpd_loops (s : State) (f : UpdSt → UpdSt) : (s.updUpd f).loops = s.loops := rfl
@[simp] theorem State.updUpd_safe (s : State) (f : UpdSt → UpdSt) : (s.updUpd f).safe = s.safe := rfl
@[simp] theorem State.updUpd_struct (s : State) (f : UpdSt → UpdSt) : (s.updUpd f).struct = s.struct := rfl
@[simp] theorem State.updUpd_port (s : State) (f : UpdSt → UpdSt) : (s.updUpd f).port = s.port := rfl
@[simp] theorem State.updUpd_can (s : State) (f : UpdSt → UpdSt) : (s.updUpd f).can = s.can := rfl
@[simp] theorem State.updUpd_ptp (s : State) (f : UpdSt → UpdSt) : (s.updUpd f).ptp = s.ptp := rfl
@[simp] theorem State.updUpd_pending (s : State) (f : UpdSt → UpdSt) : (s.updUpd f).pending = s.pending := rfl
@[simp] theorem State.updUpd_reg (s : State) (f : UpdSt → UpdSt) (g : Fld) (j : Nat) : (s.updUpd f).reg g j = s.reg g j := rfl
@[simp] theorem State.updUpd_flag (s : State) (f : UpdSt → UpdSt) (g : Fld) (j : Nat) : (s.updUpd f).flag g j = s.flag g j := rfl

/-! ### updSafe -/

@[simp] theorem State.updSafe_now (s : State) (f : SafeSt → SafeSt) : (s.updSafe f).now = s.now := rfl
@[simp] theorem State.updSafe_regs (s : State) (f : SafeSt → SafeSt) : (s.updSafe f).regs = s.regs := rfl
@[simp] theorem State.updSafe_outside (s : State) (f : SafeSt → SafeSt) : (s.updSafe f).outside = s.outside := rfl
@[simp] theorem State.updSafe_raced (s : State) (f : SafeSt → SafeSt) : (s.updSafe f).raced = s.raced := rfl
@[simp] theorem State.updSafe_settings (s : State) (f : SafeSt → SafeSt) : (s.updSafe f).settings = s.settings := rfl
@[simp] theorem State.updSafe_latches (s : State) (f : SafeSt → SafeSt) : (s.updSafe f).latches = s.latches := rfl
@[simp] theorem State.updSafe_mode (s : State) (f : SafeSt → SafeSt) : (s.updSafe f).mode = s.mode := rfl
@[simp] theorem State.updSafe_prevMode (s : State) (f : SafeSt → SafeSt) : (s.updSafe f).prevMode = s.prevMode := rfl
@[simp] theorem State.updSafe_freeCtr (s : State) (f : SafeSt → SafeSt) : (s.updSafe f).freeCtr = s.freeCtr := rfl
@[simp] theorem State.updSafe_out (s : State) (f : SafeSt → SafeSt) : (s.updSafe f).out = s.out := rfl
@[simp] theorem State.updSafe_phase (s : State) (f : SafeSt → SafeSt) : (s.updSafe f).phase = s.phase := rfl
@[simp] theorem State.updSafe_img (s : State) (f : SafeSt → SafeSt) : (s.updSafe f).img = s.img := rfl
@[simp] theorem State.updSafe_tasks (s : State) (f : SafeSt → SafeSt) : (s.updSafe f).tasks = s.tasks := rfl
@[simp] theorem State.updSafe_cells (s : State) (f : SafeSt → SafeSt) : (s.updSafe f).cells = s.cells := rfl
@[simp] theorem State.updSafe_pair (s : State) (f : SafeSt → SafeSt) : (s.updSafe f).pair = s.pair := rfl
@[simp] theorem State.updSafe_recorder (s : State) (f : SafeSt → SafeSt) : (s.updSafe f).recorder = s.recorder := rfl
@[simp] theorem State.updSafe_life (s : State) (f : SafeSt → SafeSt) : (s.updSafe f).life = s.life := rfl
@[simp] theorem State.updSafe_power (s : State) (f : SafeSt → SafeSt) : (s.updSafe f).power = s.power := rfl
@[simp] theorem State.updSafe_kettle (s : State) (f : SafeSt → SafeSt) : (s.updSafe f).kettle = s.kettle := rfl
@[simp] theorem State.updSafe_leaf (s : State) (f : SafeSt → SafeSt) : (s.updSafe f).leaf = s.leaf := rfl
@[simp] theorem State.updSafe_rings (s : State) (f : SafeSt → SafeSt) : (s.updSafe f).rings = s.rings := rfl
@[simp] theorem State.updSafe_loops (s : State) (f : SafeSt → SafeSt) : (s.updSafe f).loops = s.loops := rfl
@[simp] theorem State.updSafe_struct (s : State) (f : SafeSt → SafeSt) : (s.updSafe f).struct = s.struct := rfl
@[simp] theorem State.updSafe_port (s : State) (f : SafeSt → SafeSt) : (s.updSafe f).port = s.port := rfl
@[simp] theorem State.updSafe_upd (s : State) (f : SafeSt → SafeSt) : (s.updSafe f).upd = s.upd := rfl
@[simp] theorem State.updSafe_can (s : State) (f : SafeSt → SafeSt) : (s.updSafe f).can = s.can := rfl
@[simp] theorem State.updSafe_ptp (s : State) (f : SafeSt → SafeSt) : (s.updSafe f).ptp = s.ptp := rfl
@[simp] theorem State.updSafe_pending (s : State) (f : SafeSt → SafeSt) : (s.updSafe f).pending = s.pending := rfl
@[simp] theorem State.updSafe_reg (s : State) (f : SafeSt → SafeSt) (g : Fld) (j : Nat) : (s.updSafe f).reg g j = s.reg g j := rfl
@[simp] theorem State.updSafe_flag (s : State) (f : SafeSt → SafeSt) (g : Fld) (j : Nat) : (s.updSafe f).flag g j = s.flag g j := rfl

/-! ### updChan -/

@[simp] theorem State.updChan_now (s : State) (c : Nat) (f : LoopDyn → LoopDyn) : (s.updChan c f).now = s.now := rfl
@[simp] theorem State.updChan_regs (s : State) (c : Nat) (f : LoopDyn → LoopDyn) : (s.updChan c f).regs = s.regs := rfl
@[simp] theorem State.updChan_outside (s : State) (c : Nat) (f : LoopDyn → LoopDyn) : (s.updChan c f).outside = s.outside := rfl
@[simp] theorem State.updChan_raced (s : State) (c : Nat) (f : LoopDyn → LoopDyn) : (s.updChan c f).raced = s.raced := rfl
@[simp] theorem State.updChan_settings (s : State) (c : Nat) (f : LoopDyn → LoopDyn) : (s.updChan c f).settings = s.settings := rfl
@[simp] theorem State.updChan_latches (s : State) (c : Nat) (f : LoopDyn → LoopDyn) : (s.updChan c f).latches = s.latches := rfl
@[simp] theorem State.updChan_mode (s : State) (c : Nat) (f : LoopDyn → LoopDyn) : (s.updChan c f).mode = s.mode := rfl
@[simp] theorem State.updChan_prevMode (s : State) (c : Nat) (f : LoopDyn → LoopDyn) : (s.updChan c f).prevMode = s.prevMode := rfl
@[simp] theorem State.updChan_freeCtr (s : State) (c : Nat) (f : LoopDyn → LoopDyn) : (s.updChan c f).freeCtr = s.freeCtr := rfl
@[simp] theorem State.updChan_out (s : State) (c : Nat) (f : LoopDyn → LoopDyn) : (s.updChan c f).out = s.out := rfl
@[simp] theorem State.updChan_phase (s : State) (c : Nat) (f : LoopDyn → LoopDyn) : (s.updChan c f).phase = s.phase := rfl
@[simp] theorem State.updChan_img (s : State) (c : Nat) (f : LoopDyn → LoopDyn) : (s.updChan c f).img = s.img := rfl
@[simp] theorem State.updChan_tasks (s : State) (c : Nat) (f : LoopDyn → LoopDyn) : (s.updChan c f).tasks = s.tasks := rfl
@[simp] theorem State.updChan_cells (s : State) (c : Nat) (f : LoopDyn → LoopDyn) : (s.updChan c f).cells = s.cells := rfl
@[simp] theorem State.updChan_pair (s : State) (c : Nat) (f : LoopDyn → LoopDyn) : (s.updChan c f).pair = s.pair := rfl
@[simp] theorem State.updChan_recorder (s : State) (c : Nat) (f : LoopDyn → LoopDyn) : (s.updChan c f).recorder = s.recorder := rfl
@[simp] theorem State.updChan_life (s : State) (c : Nat) (f : LoopDyn → LoopDyn) : (s.updChan c f).life = s.life := rfl
@[simp] theorem State.updChan_power (s : State) (c : Nat) (f : LoopDyn → LoopDyn) : (s.updChan c f).power = s.power := rfl
@[simp] theorem State.updChan_kettle (s : State) (c : Nat) (f : LoopDyn → LoopDyn) : (s.updChan c f).kettle = s.kettle := rfl
@[simp] theorem State.updChan_leaf (s : State) (c : Nat) (f : LoopDyn → LoopDyn) : (s.updChan c f).leaf = s.leaf := rfl
@[simp] theorem State.updChan_rings (s : State) (c : Nat) (f : LoopDyn → LoopDyn) : (s.updChan c f).rings = s.rings := rfl
@[simp] theorem State.updChan_safe (s : State) (c : Nat) (f : LoopDyn → LoopDyn) : (s.updChan c f).safe = s.safe := rfl
@[simp] theorem State.updChan_struct (s : State) (c : Nat) (f : LoopDyn → LoopDyn) : (s.updChan c f).struct = s.struct := rfl
@[simp] theorem State.updChan_port (s : State) (c : Nat) (f : LoopDyn → LoopDyn) : (s.updChan c f).port = s.port := rfl
@[simp] theorem State.updChan_upd (s : State) (c : Nat) (f : LoopDyn → LoopDyn) : (s.updChan c f).upd = s.upd := rfl
@[simp] theorem State.updChan_can (s : State) (c : Nat) (f : LoopDyn → LoopDyn) : (s.updChan c f).can = s.can := rfl
@[simp] theorem State.updChan_ptp (s : State) (c : Nat) (f : LoopDyn → LoopDyn) : (s.updChan c f).ptp = s.ptp := rfl
@[simp] theorem State.updChan_pending (s : State) (c : Nat) (f : LoopDyn → LoopDyn) : (s.updChan c f).pending = s.pending := rfl
@[simp] theorem State.updChan_reg (s : State) (c : Nat) (f : LoopDyn → LoopDyn) (g : Fld) (j : Nat) : (s.updChan c f).reg g j = s.reg g j := rfl
@[simp] theorem State.updChan_flag (s : State) (c : Nat) (f : LoopDyn → LoopDyn) (g : Fld) (j : Nat) : (s.updChan c f).flag g j = s.flag g j := rfl

/-! ### updRing -/

@[simp] theorem State.updRing_now (s : State) (r : Nat) (f : RingDyn → RingDyn) : (s.updRing r f).now = s.now := rfl
@[simp] theorem State.updRing_regs (s : State) (r : Nat) (f : RingDyn → RingDyn) : (s.updRing r f).regs = s.regs := rfl
@[simp] theorem State.updRing_outside (s : State) (r : Nat) (f : RingDyn → RingDyn) : (s.updRing r f).outside = s.outside := rfl
@[simp] theorem State.updRing_raced (s : State) (r : Nat) (f : RingDyn → RingDyn) : (s.updRing r f).raced = s.raced := rfl
@[simp] theorem State.updRing_settings (s : State) (r : Nat) (f : RingDyn → RingDyn) : (s.updRing r f).settings = s.settings := rfl
@[simp] theorem State.updRing_latches (s : State) (r : Nat) (f : RingDyn → RingDyn) : (s.updRing r f).latches = s.latches := rfl
@[simp] theorem State.updRing_mode (s : State) (r : Nat) (f : RingDyn → RingDyn) : (s.updRing r f).mode = s.mode := rfl
@[simp] theorem State.updRing_prevMode (s : State) (r : Nat) (f : RingDyn → RingDyn) : (s.updRing r f).prevMode = s.prevMode := rfl
@[simp] theorem State.updRing_freeCtr (s : State) (r : Nat) (f : RingDyn → RingDyn) : (s.updRing r f).freeCtr = s.freeCtr := rfl
@[simp] theorem State.updRing_out (s : State) (r : Nat) (f : RingDyn → RingDyn) : (s.updRing r f).out = s.out := rfl
@[simp] theorem State.updRing_phase (s : State) (r : Nat) (f : RingDyn → RingDyn) : (s.updRing r f).phase = s.phase := rfl
@[simp] theorem State.updRing_img (s : State) (r : Nat) (f : RingDyn → RingDyn) : (s.updRing r f).img = s.img := rfl
@[simp] theorem State.updRing_tasks (s : State) (r : Nat) (f : RingDyn → RingDyn) : (s.updRing r f).tasks = s.tasks := rfl
@[simp] theorem State.updRing_cells (s : State) (r : Nat) (f : RingDyn → RingDyn) : (s.updRing r f).cells = s.cells := rfl
@[simp] theorem State.updRing_pair (s : State) (r : Nat) (f : RingDyn → RingDyn) : (s.updRing r f).pair = s.pair := rfl
@[simp] theorem State.updRing_recorder (s : State) (r : Nat) (f : RingDyn → RingDyn) : (s.updRing r f).recorder = s.recorder := rfl
@[simp] theorem State.updRing_life (s : State) (r : Nat) (f : RingDyn → RingDyn) : (s.updRing r f).life = s.life := rfl
@[simp] theorem State.updRing_power (s : State) (r : Nat) (f : RingDyn → RingDyn) : (s.updRing r f).power = s.power := rfl
@[simp] theorem State.updRing_kettle (s : State) (r : Nat) (f : RingDyn → RingDyn) : (s.updRing r f).kettle = s.kettle := rfl
@[simp] theorem State.updRing_leaf (s : State) (r : Nat) (f : RingDyn → RingDyn) : (s.updRing r f).leaf = s.leaf := rfl
@[simp] theorem State.updRing_loops (s : State) (r : Nat) (f : RingDyn → RingDyn) : (s.updRing r f).loops = s.loops := rfl
@[simp] theorem State.updRing_safe (s : State) (r : Nat) (f : RingDyn → RingDyn) : (s.updRing r f).safe = s.safe := rfl
@[simp] theorem State.updRing_struct (s : State) (r : Nat) (f : RingDyn → RingDyn) : (s.updRing r f).struct = s.struct := rfl
@[simp] theorem State.updRing_port (s : State) (r : Nat) (f : RingDyn → RingDyn) : (s.updRing r f).port = s.port := rfl
@[simp] theorem State.updRing_upd (s : State) (r : Nat) (f : RingDyn → RingDyn) : (s.updRing r f).upd = s.upd := rfl
@[simp] theorem State.updRing_can (s : State) (r : Nat) (f : RingDyn → RingDyn) : (s.updRing r f).can = s.can := rfl
@[simp] theorem State.updRing_ptp (s : State) (r : Nat) (f : RingDyn → RingDyn) : (s.updRing r f).ptp = s.ptp := rfl
@[simp] theorem State.updRing_pending (s : State) (r : Nat) (f : RingDyn → RingDyn) : (s.updRing r f).pending = s.pending := rfl
@[simp] theorem State.updRing_reg (s : State) (r : Nat) (f : RingDyn → RingDyn) (g : Fld) (j : Nat) : (s.updRing r f).reg g j = s.reg g j := rfl
@[simp] theorem State.updRing_flag (s : State) (r : Nat) (f : RingDyn → RingDyn) (g : Fld) (j : Nat) : (s.updRing r f).flag g j = s.flag g j := rfl

/-! ### updSta -/

@[simp] theorem State.updSta_now (s : State) (k : Nat) (f : StationDyn → StationDyn) : (s.updSta k f).now = s.now := rfl
@[simp] theorem State.updSta_regs (s : State) (k : Nat) (f : StationDyn → StationDyn) : (s.updSta k f).regs = s.regs := rfl
@[simp] theorem State.updSta_outside (s : State) (k : Nat) (f : StationDyn → StationDyn) : (s.updSta k f).outside = s.outside := rfl
@[simp] theorem State.updSta_raced (s : State) (k : Nat) (f : StationDyn → StationDyn) : (s.updSta k f).raced = s.raced := rfl
@[simp] theorem State.updSta_settings (s : State) (k : Nat) (f : StationDyn → StationDyn) : (s.updSta k f).settings = s.settings := rfl
@[simp] theorem State.updSta_latches (s : State) (k : Nat) (f : StationDyn → StationDyn) : (s.updSta k f).latches = s.latches := rfl
@[simp] theorem State.updSta_mode (s : State) (k : Nat) (f : StationDyn → StationDyn) : (s.updSta k f).mode = s.mode := rfl
@[simp] theorem State.updSta_prevMode (s : State) (k : Nat) (f : StationDyn → StationDyn) : (s.updSta k f).prevMode = s.prevMode := rfl
@[simp] theorem State.updSta_freeCtr (s : State) (k : Nat) (f : StationDyn → StationDyn) : (s.updSta k f).freeCtr = s.freeCtr := rfl
@[simp] theorem State.updSta_out (s : State) (k : Nat) (f : StationDyn → StationDyn) : (s.updSta k f).out = s.out := rfl
@[simp] theorem State.updSta_phase (s : State) (k : Nat) (f : StationDyn → StationDyn) : (s.updSta k f).phase = s.phase := rfl
@[simp] theorem State.updSta_img (s : State) (k : Nat) (f : StationDyn → StationDyn) : (s.updSta k f).img = s.img := rfl
@[simp] theorem State.updSta_tasks (s : State) (k : Nat) (f : StationDyn → StationDyn) : (s.updSta k f).tasks = s.tasks := rfl
@[simp] theorem State.updSta_cells (s : State) (k : Nat) (f : StationDyn → StationDyn) : (s.updSta k f).cells = s.cells := rfl
@[simp] theorem State.updSta_pair (s : State) (k : Nat) (f : StationDyn → StationDyn) : (s.updSta k f).pair = s.pair := rfl
@[simp] theorem State.updSta_recorder (s : State) (k : Nat) (f : StationDyn → StationDyn) : (s.updSta k f).recorder = s.recorder := rfl
@[simp] theorem State.updSta_life (s : State) (k : Nat) (f : StationDyn → StationDyn) : (s.updSta k f).life = s.life := rfl
@[simp] theorem State.updSta_power (s : State) (k : Nat) (f : StationDyn → StationDyn) : (s.updSta k f).power = s.power := rfl
@[simp] theorem State.updSta_kettle (s : State) (k : Nat) (f : StationDyn → StationDyn) : (s.updSta k f).kettle = s.kettle := rfl
@[simp] theorem State.updSta_leaf (s : State) (k : Nat) (f : StationDyn → StationDyn) : (s.updSta k f).leaf = s.leaf := rfl
@[simp] theorem State.updSta_loops (s : State) (k : Nat) (f : StationDyn → StationDyn) : (s.updSta k f).loops = s.loops := rfl
@[simp] theorem State.updSta_safe (s : State) (k : Nat) (f : StationDyn → StationDyn) : (s.updSta k f).safe = s.safe := rfl
@[simp] theorem State.updSta_struct (s : State) (k : Nat) (f : StationDyn → StationDyn) : (s.updSta k f).struct = s.struct := rfl
@[simp] theorem State.updSta_port (s : State) (k : Nat) (f : StationDyn → StationDyn) : (s.updSta k f).port = s.port := rfl
@[simp] theorem State.updSta_upd (s : State) (k : Nat) (f : StationDyn → StationDyn) : (s.updSta k f).upd = s.upd := rfl
@[simp] theorem State.updSta_can (s : State) (k : Nat) (f : StationDyn → StationDyn) : (s.updSta k f).can = s.can := rfl
@[simp] theorem State.updSta_ptp (s : State) (k : Nat) (f : StationDyn → StationDyn) : (s.updSta k f).ptp = s.ptp := rfl
@[simp] theorem State.updSta_pending (s : State) (k : Nat) (f : StationDyn → StationDyn) : (s.updSta k f).pending = s.pending := rfl
@[simp] theorem State.updSta_reg (s : State) (k : Nat) (f : StationDyn → StationDyn) (g : Fld) (j : Nat) : (s.updSta k f).reg g j = s.reg g j := rfl
@[simp] theorem State.updSta_flag (s : State) (k : Nat) (f : StationDyn → StationDyn) (g : Fld) (j : Nat) : (s.updSta k f).flag g j = s.flag g j := rfl

/-! ### updTrk -/

@[simp] theorem State.updTrk_now (s : State) (k : Nat) (f : TrackSt → TrackSt) : (s.updTrk k f).now = s.now := rfl
@[simp] theorem State.updTrk_regs (s : State) (k : Nat) (f : TrackSt → TrackSt) : (s.updTrk k f).regs = s.regs := rfl
@[simp] theorem State.updTrk_outside (s : State) (k : Nat) (f : TrackSt → TrackSt) : (s.updTrk k f).outside = s.outside := rfl
@[simp] theorem State.updTrk_raced (s : State) (k : Nat) (f : TrackSt → TrackSt) : (s.updTrk k f).raced = s.raced := rfl
@[simp] theorem State.updTrk_settings (s : State) (k : Nat) (f : TrackSt → TrackSt) : (s.updTrk k f).settings = s.settings := rfl
@[simp] theorem State.updTrk_latches (s : State) (k : Nat) (f : TrackSt → TrackSt) : (s.updTrk k f).latches = s.latches := rfl
@[simp] theorem State.updTrk_mode (s : State) (k : Nat) (f : TrackSt → TrackSt) : (s.updTrk k f).mode = s.mode := rfl
@[simp] theorem State.updTrk_prevMode (s : State) (k : Nat) (f : TrackSt → TrackSt) : (s.updTrk k f).prevMode = s.prevMode := rfl
@[simp] theorem State.updTrk_freeCtr (s : State) (k : Nat) (f : TrackSt → TrackSt) : (s.updTrk k f).freeCtr = s.freeCtr := rfl
@[simp] theorem State.updTrk_out (s : State) (k : Nat) (f : TrackSt → TrackSt) : (s.updTrk k f).out = s.out := rfl
@[simp] theorem State.updTrk_phase (s : State) (k : Nat) (f : TrackSt → TrackSt) : (s.updTrk k f).phase = s.phase := rfl
@[simp] theorem State.updTrk_img (s : State) (k : Nat) (f : TrackSt → TrackSt) : (s.updTrk k f).img = s.img := rfl
@[simp] theorem State.updTrk_tasks (s : State) (k : Nat) (f : TrackSt → TrackSt) : (s.updTrk k f).tasks = s.tasks := rfl
@[simp] theorem State.updTrk_cells (s : State) (k : Nat) (f : TrackSt → TrackSt) : (s.updTrk k f).cells = s.cells := rfl
@[simp] theorem State.updTrk_pair (s : State) (k : Nat) (f : TrackSt → TrackSt) : (s.updTrk k f).pair = s.pair := rfl
@[simp] theorem State.updTrk_recorder (s : State) (k : Nat) (f : TrackSt → TrackSt) : (s.updTrk k f).recorder = s.recorder := rfl
@[simp] theorem State.updTrk_life (s : State) (k : Nat) (f : TrackSt → TrackSt) : (s.updTrk k f).life = s.life := rfl
@[simp] theorem State.updTrk_power (s : State) (k : Nat) (f : TrackSt → TrackSt) : (s.updTrk k f).power = s.power := rfl
@[simp] theorem State.updTrk_kettle (s : State) (k : Nat) (f : TrackSt → TrackSt) : (s.updTrk k f).kettle = s.kettle := rfl
@[simp] theorem State.updTrk_leaf (s : State) (k : Nat) (f : TrackSt → TrackSt) : (s.updTrk k f).leaf = s.leaf := rfl
@[simp] theorem State.updTrk_rings (s : State) (k : Nat) (f : TrackSt → TrackSt) : (s.updTrk k f).rings = s.rings := rfl
@[simp] theorem State.updTrk_loops (s : State) (k : Nat) (f : TrackSt → TrackSt) : (s.updTrk k f).loops = s.loops := rfl
@[simp] theorem State.updTrk_safe (s : State) (k : Nat) (f : TrackSt → TrackSt) : (s.updTrk k f).safe = s.safe := rfl
@[simp] theorem State.updTrk_struct (s : State) (k : Nat) (f : TrackSt → TrackSt) : (s.updTrk k f).struct = s.struct := rfl
@[simp] theorem State.updTrk_port (s : State) (k : Nat) (f : TrackSt → TrackSt) : (s.updTrk k f).port = s.port := rfl
@[simp] theorem State.updTrk_upd (s : State) (k : Nat) (f : TrackSt → TrackSt) : (s.updTrk k f).upd = s.upd := rfl
@[simp] theorem State.updTrk_can (s : State) (k : Nat) (f : TrackSt → TrackSt) : (s.updTrk k f).can = s.can := rfl
@[simp] theorem State.updTrk_pending (s : State) (k : Nat) (f : TrackSt → TrackSt) : (s.updTrk k f).pending = s.pending := rfl
@[simp] theorem State.updTrk_reg (s : State) (k : Nat) (f : TrackSt → TrackSt) (g : Fld) (j : Nat) : (s.updTrk k f).reg g j = s.reg g j := rfl
@[simp] theorem State.updTrk_flag (s : State) (k : Nat) (f : TrackSt → TrackSt) (g : Fld) (j : Nat) : (s.updTrk k f).flag g j = s.flag g j := rfl

/-! ### updPtp -/

@[simp] theorem State.updPtp_now (s : State) (f : PtpSt → PtpSt) : (s.updPtp f).now = s.now := rfl
@[simp] theorem State.updPtp_regs (s : State) (f : PtpSt → PtpSt) : (s.updPtp f).regs = s.regs := rfl
@[simp] theorem State.updPtp_outside (s : State) (f : PtpSt → PtpSt) : (s.updPtp f).outside = s.outside := rfl
@[simp] theorem State.updPtp_raced (s : State) (f : PtpSt → PtpSt) : (s.updPtp f).raced = s.raced := rfl
@[simp] theorem State.updPtp_settings (s : State) (f : PtpSt → PtpSt) : (s.updPtp f).settings = s.settings := rfl
@[simp] theorem State.updPtp_latches (s : State) (f : PtpSt → PtpSt) : (s.updPtp f).latches = s.latches := rfl
@[simp] theorem State.updPtp_mode (s : State) (f : PtpSt → PtpSt) : (s.updPtp f).mode = s.mode := rfl
@[simp] theorem State.updPtp_prevMode (s : State) (f : PtpSt → PtpSt) : (s.updPtp f).prevMode = s.prevMode := rfl
@[simp] theorem State.updPtp_freeCtr (s : State) (f : PtpSt → PtpSt) : (s.updPtp f).freeCtr = s.freeCtr := rfl
@[simp] theorem State.updPtp_out (s : State) (f : PtpSt → PtpSt) : (s.updPtp f).out = s.out := rfl
@[simp] theorem State.updPtp_phase (s : State) (f : PtpSt → PtpSt) : (s.updPtp f).phase = s.phase := rfl
@[simp] theorem State.updPtp_img (s : State) (f : PtpSt → PtpSt) : (s.updPtp f).img = s.img := rfl
@[simp] theorem State.updPtp_tasks (s : State) (f : PtpSt → PtpSt) : (s.updPtp f).tasks = s.tasks := rfl
@[simp] theorem State.updPtp_cells (s : State) (f : PtpSt → PtpSt) : (s.updPtp f).cells = s.cells := rfl
@[simp] theorem State.updPtp_pair (s : State) (f : PtpSt → PtpSt) : (s.updPtp f).pair = s.pair := rfl
@[simp] theorem State.updPtp_recorder (s : State) (f : PtpSt → PtpSt) : (s.updPtp f).recorder = s.recorder := rfl
@[simp] theorem State.updPtp_life (s : State) (f : PtpSt → PtpSt) : (s.updPtp f).life = s.life := rfl
@[simp] theorem State.updPtp_power (s : State) (f : PtpSt → PtpSt) : (s.updPtp f).power = s.power := rfl
@[simp] theorem State.updPtp_kettle (s : State) (f : PtpSt → PtpSt) : (s.updPtp f).kettle = s.kettle := rfl
@[simp] theorem State.updPtp_leaf (s : State) (f : PtpSt → PtpSt) : (s.updPtp f).leaf = s.leaf := rfl
@[simp] theorem State.updPtp_rings (s : State) (f : PtpSt → PtpSt) : (s.updPtp f).rings = s.rings := rfl
@[simp] theorem State.updPtp_loops (s : State) (f : PtpSt → PtpSt) : (s.updPtp f).loops = s.loops := rfl
@[simp] theorem State.updPtp_safe (s : State) (f : PtpSt → PtpSt) : (s.updPtp f).safe = s.safe := rfl
@[simp] theorem State.updPtp_struct (s : State) (f : PtpSt → PtpSt) : (s.updPtp f).struct = s.struct := rfl
@[simp] theorem State.updPtp_port (s : State) (f : PtpSt → PtpSt) : (s.updPtp f).port = s.port := rfl
@[simp] theorem State.updPtp_upd (s : State) (f : PtpSt → PtpSt) : (s.updPtp f).upd = s.upd := rfl
@[simp] theorem State.updPtp_can (s : State) (f : PtpSt → PtpSt) : (s.updPtp f).can = s.can := rfl
@[simp] theorem State.updPtp_pending (s : State) (f : PtpSt → PtpSt) : (s.updPtp f).pending = s.pending := rfl
@[simp] theorem State.updPtp_reg (s : State) (f : PtpSt → PtpSt) (g : Fld) (j : Nat) : (s.updPtp f).reg g j = s.reg g j := rfl
@[simp] theorem State.updPtp_flag (s : State) (f : PtpSt → PtpSt) (g : Fld) (j : Nat) : (s.updPtp f).flag g j = s.flag g j := rfl

/-! ### setReg -/

@[simp] theorem State.noteEvent_now (s : State) (f : Fld) (i : Nat) (g : Nat → Nat) : (s.noteEvent f i g).now = s.now := by
  unfold State.noteEvent; split <;> rfl
@[simp] theorem State.noteEvent_regs (s : State) (f : Fld) (i : Nat) (g : Nat → Nat) : (s.noteEvent f i g).regs = s.regs := by
  unfold State.noteEvent; split <;> rfl
@[simp] theorem State.noteEvent_outside (s : State) (f : Fld) (i : Nat) (g : Nat → Nat) : (s.noteEvent f i g).outside = s.outside := by
  unfold State.noteEvent; split <;> rfl
@[simp] theorem State.noteEvent_settings (s : State) (f : Fld) (i : Nat) (g : Nat → Nat) : (s.noteEvent f i g).settings = s.settings := by
  unfold State.noteEvent; split <;> rfl
@[simp] theorem State.noteEvent_latches (s : State) (f : Fld) (i : Nat) (g : Nat → Nat) : (s.noteEvent f i g).latches = s.latches := by
  unfold State.noteEvent; split <;> rfl
@[simp] theorem State.noteEvent_mode (s : State) (f : Fld) (i : Nat) (g : Nat → Nat) : (s.noteEvent f i g).mode = s.mode := by
  unfold State.noteEvent; split <;> rfl
@[simp] theorem State.noteEvent_prevMode (s : State) (f : Fld) (i : Nat) (g : Nat → Nat) : (s.noteEvent f i g).prevMode = s.prevMode := by
  unfold State.noteEvent; split <;> rfl
@[simp] theorem State.noteEvent_freeCtr (s : State) (f : Fld) (i : Nat) (g : Nat → Nat) : (s.noteEvent f i g).freeCtr = s.freeCtr := by
  unfold State.noteEvent; split <;> rfl
@[simp] theorem State.noteEvent_out (s : State) (f : Fld) (i : Nat) (g : Nat → Nat) : (s.noteEvent f i g).out = s.out := by
  unfold State.noteEvent; split <;> rfl
@[simp] theorem State.noteEvent_phase (s : State) (f : Fld) (i : Nat) (g : Nat → Nat) : (s.noteEvent f i g).phase = s.phase := by
  unfold State.noteEvent; split <;> rfl
@[simp] theorem State.noteEvent_img (s : State) (f : Fld) (i : Nat) (g : Nat → Nat) : (s.noteEvent f i g).img = s.img := by
  unfold State.noteEvent; split <;> rfl
@[simp] theorem State.noteEvent_tasks (s : State) (f : Fld) (i : Nat) (g : Nat → Nat) : (s.noteEvent f i g).tasks = s.tasks := by
  unfold State.noteEvent; split <;> rfl
@[simp] theorem State.noteEvent_cells (s : State) (f : Fld) (i : Nat) (g : Nat → Nat) : (s.noteEvent f i g).cells = s.cells := by
  unfold State.noteEvent; split <;> rfl
@[simp] theorem State.noteEvent_pair (s : State) (f : Fld) (i : Nat) (g : Nat → Nat) : (s.noteEvent f i g).pair = s.pair := by
  unfold State.noteEvent; split <;> rfl
@[simp] theorem State.noteEvent_recorder (s : State) (f : Fld) (i : Nat) (g : Nat → Nat) : (s.noteEvent f i g).recorder = s.recorder := by
  unfold State.noteEvent; split <;> rfl
@[simp] theorem State.noteEvent_life (s : State) (f : Fld) (i : Nat) (g : Nat → Nat) : (s.noteEvent f i g).life = s.life := by
  unfold State.noteEvent; split <;> rfl
@[simp] theorem State.noteEvent_power (s : State) (f : Fld) (i : Nat) (g : Nat → Nat) : (s.noteEvent f i g).power = s.power := by
  unfold State.noteEvent; split <;> rfl
@[simp] theorem State.noteEvent_kettle (s : State) (f : Fld) (i : Nat) (g : Nat → Nat) : (s.noteEvent f i g).kettle = s.kettle := by
  unfold State.noteEvent; split <;> rfl
@[simp] theorem State.noteEvent_leaf (s : State) (f : Fld) (i : Nat) (g : Nat → Nat) : (s.noteEvent f i g).leaf = s.leaf := by
  unfold State.noteEvent; split <;> rfl
@[simp] theorem State.noteEvent_rings (s : State) (f : Fld) (i : Nat) (g : Nat → Nat) : (s.noteEvent f i g).rings = s.rings := by
  unfold State.noteEvent; split <;> rfl
@[simp] theorem State.noteEvent_loops (s : State) (f : Fld) (i : Nat) (g : Nat → Nat) : (s.noteEvent f i g).loops = s.loops := by
  unfold State.noteEvent; split <;> rfl
@[simp] theorem State.noteEvent_safe (s : State) (f : Fld) (i : Nat) (g : Nat → Nat) : (s.noteEvent f i g).safe = s.safe := by
  unfold State.noteEvent; split <;> rfl
@[simp] theorem State.noteEvent_struct (s : State) (f : Fld) (i : Nat) (g : Nat → Nat) : (s.noteEvent f i g).struct = s.struct := by
  unfold State.noteEvent; split <;> rfl
@[simp] theorem State.noteEvent_port (s : State) (f : Fld) (i : Nat) (g : Nat → Nat) : (s.noteEvent f i g).port = s.port := by
  unfold State.noteEvent; split <;> rfl
@[simp] theorem State.noteEvent_upd (s : State) (f : Fld) (i : Nat) (g : Nat → Nat) : (s.noteEvent f i g).upd = s.upd := by
  unfold State.noteEvent; split <;> rfl
@[simp] theorem State.noteEvent_can (s : State) (f : Fld) (i : Nat) (g : Nat → Nat) : (s.noteEvent f i g).can = s.can := by
  unfold State.noteEvent; split <;> rfl
@[simp] theorem State.noteEvent_ptp (s : State) (f : Fld) (i : Nat) (g : Nat → Nat) : (s.noteEvent f i g).ptp = s.ptp := by
  unfold State.noteEvent; split <;> rfl
@[simp] theorem State.noteEvent_pending (s : State) (f : Fld) (i : Nat) (g : Nat → Nat) : (s.noteEvent f i g).pending = s.pending := by
  unfold State.noteEvent; split <;> rfl

@[simp] theorem State.setReg_now (s : State) (f : Fld) (i v : Nat) : (s.setReg f i v).now = s.now := by
  unfold State.setReg; split <;> rfl
@[simp] theorem State.setReg_outside (s : State) (f : Fld) (i v : Nat) : (s.setReg f i v).outside = s.outside := by
  unfold State.setReg; split <;> rfl
@[simp] theorem State.setReg_raced (s : State) (f : Fld) (i v : Nat) : (s.setReg f i v).raced = s.raced := by
  unfold State.setReg; split <;> rfl
@[simp] theorem State.setReg_settings (s : State) (f : Fld) (i v : Nat) : (s.setReg f i v).settings = s.settings := by
  unfold State.setReg; split <;> rfl
@[simp] theorem State.setReg_latches (s : State) (f : Fld) (i v : Nat) : (s.setReg f i v).latches = s.latches := by
  unfold State.setReg; split <;> rfl
@[simp] theorem State.setReg_mode (s : State) (f : Fld) (i v : Nat) : (s.setReg f i v).mode = s.mode := by
  unfold State.setReg; split <;> rfl
@[simp] theorem State.setReg_prevMode (s : State) (f : Fld) (i v : Nat) : (s.setReg f i v).prevMode = s.prevMode := by
  unfold State.setReg; split <;> rfl
@[simp] theorem State.setReg_freeCtr (s : State) (f : Fld) (i v : Nat) : (s.setReg f i v).freeCtr = s.freeCtr := by
  unfold State.setReg; split <;> rfl
@[simp] theorem State.setReg_out (s : State) (f : Fld) (i v : Nat) : (s.setReg f i v).out = s.out := by
  unfold State.setReg; split <;> rfl
@[simp] theorem State.setReg_phase (s : State) (f : Fld) (i v : Nat) : (s.setReg f i v).phase = s.phase := by
  unfold State.setReg; split <;> rfl
@[simp] theorem State.setReg_img (s : State) (f : Fld) (i v : Nat) : (s.setReg f i v).img = s.img := by
  unfold State.setReg; split <;> rfl
@[simp] theorem State.setReg_tasks (s : State) (f : Fld) (i v : Nat) : (s.setReg f i v).tasks = s.tasks := by
  unfold State.setReg; split <;> rfl
@[simp] theorem State.setReg_cells (s : State) (f : Fld) (i v : Nat) : (s.setReg f i v).cells = s.cells := by
  unfold State.setReg; split <;> rfl
@[simp] theorem State.setReg_pair (s : State) (f : Fld) (i v : Nat) : (s.setReg f i v).pair = s.pair := by
  unfold State.setReg; split <;> rfl
@[simp] theorem State.setReg_recorder (s : State) (f : Fld) (i v : Nat) : (s.setReg f i v).recorder = s.recorder := by
  unfold State.setReg; split <;> rfl
@[simp] theorem State.setReg_life (s : State) (f : Fld) (i v : Nat) : (s.setReg f i v).life = s.life := by
  unfold State.setReg; split <;> rfl
@[simp] theorem State.setReg_power (s : State) (f : Fld) (i v : Nat) : (s.setReg f i v).power = s.power := by
  unfold State.setReg; split <;> rfl
@[simp] theorem State.setReg_kettle (s : State) (f : Fld) (i v : Nat) : (s.setReg f i v).kettle = s.kettle := by
  unfold State.setReg; split <;> rfl
@[simp] theorem State.setReg_leaf (s : State) (f : Fld) (i v : Nat) : (s.setReg f i v).leaf = s.leaf := by
  unfold State.setReg; split <;> rfl
@[simp] theorem State.setReg_rings (s : State) (f : Fld) (i v : Nat) : (s.setReg f i v).rings = s.rings := by
  unfold State.setReg; split <;> rfl
@[simp] theorem State.setReg_loops (s : State) (f : Fld) (i v : Nat) : (s.setReg f i v).loops = s.loops := by
  unfold State.setReg; split <;> rfl
@[simp] theorem State.setReg_safe (s : State) (f : Fld) (i v : Nat) : (s.setReg f i v).safe = s.safe := by
  unfold State.setReg; split <;> rfl
@[simp] theorem State.setReg_struct (s : State) (f : Fld) (i v : Nat) : (s.setReg f i v).struct = s.struct := by
  unfold State.setReg; split <;> rfl
@[simp] theorem State.setReg_port (s : State) (f : Fld) (i v : Nat) : (s.setReg f i v).port = s.port := by
  unfold State.setReg; split <;> rfl
@[simp] theorem State.setReg_upd (s : State) (f : Fld) (i v : Nat) : (s.setReg f i v).upd = s.upd := by
  unfold State.setReg; split <;> rfl
@[simp] theorem State.setReg_can (s : State) (f : Fld) (i v : Nat) : (s.setReg f i v).can = s.can := by
  unfold State.setReg; split <;> rfl
@[simp] theorem State.setReg_ptp (s : State) (f : Fld) (i v : Nat) : (s.setReg f i v).ptp = s.ptp := by
  unfold State.setReg; split <;> rfl
@[simp] theorem State.setReg_pending (s : State) (f : Fld) (i v : Nat) : (s.setReg f i v).pending = s.pending := by
  unfold State.setReg; split <;> rfl

@[simp] theorem State.setFlag_now (s : State) (f : Fld) (i : Nat) (b : Bool) : (s.setFlag f i b).now = s.now := State.setReg_now ..
@[simp] theorem State.setFlag_outside (s : State) (f : Fld) (i : Nat) (b : Bool) : (s.setFlag f i b).outside = s.outside := State.setReg_outside ..
@[simp] theorem State.setFlag_raced (s : State) (f : Fld) (i : Nat) (b : Bool) : (s.setFlag f i b).raced = s.raced := State.setReg_raced ..
@[simp] theorem State.setFlag_settings (s : State) (f : Fld) (i : Nat) (b : Bool) : (s.setFlag f i b).settings = s.settings := State.setReg_settings ..
@[simp] theorem State.setFlag_latches (s : State) (f : Fld) (i : Nat) (b : Bool) : (s.setFlag f i b).latches = s.latches := State.setReg_latches ..
@[simp] theorem State.setFlag_mode (s : State) (f : Fld) (i : Nat) (b : Bool) : (s.setFlag f i b).mode = s.mode := State.setReg_mode ..
@[simp] theorem State.setFlag_prevMode (s : State) (f : Fld) (i : Nat) (b : Bool) : (s.setFlag f i b).prevMode = s.prevMode := State.setReg_prevMode ..
@[simp] theorem State.setFlag_freeCtr (s : State) (f : Fld) (i : Nat) (b : Bool) : (s.setFlag f i b).freeCtr = s.freeCtr := State.setReg_freeCtr ..
@[simp] theorem State.setFlag_out (s : State) (f : Fld) (i : Nat) (b : Bool) : (s.setFlag f i b).out = s.out := State.setReg_out ..
@[simp] theorem State.setFlag_phase (s : State) (f : Fld) (i : Nat) (b : Bool) : (s.setFlag f i b).phase = s.phase := State.setReg_phase ..
@[simp] theorem State.setFlag_img (s : State) (f : Fld) (i : Nat) (b : Bool) : (s.setFlag f i b).img = s.img := State.setReg_img ..
@[simp] theorem State.setFlag_tasks (s : State) (f : Fld) (i : Nat) (b : Bool) : (s.setFlag f i b).tasks = s.tasks := State.setReg_tasks ..
@[simp] theorem State.setFlag_cells (s : State) (f : Fld) (i : Nat) (b : Bool) : (s.setFlag f i b).cells = s.cells := State.setReg_cells ..
@[simp] theorem State.setFlag_pair (s : State) (f : Fld) (i : Nat) (b : Bool) : (s.setFlag f i b).pair = s.pair := State.setReg_pair ..
@[simp] theorem State.setFlag_recorder (s : State) (f : Fld) (i : Nat) (b : Bool) : (s.setFlag f i b).recorder = s.recorder := State.setReg_recorder ..
@[simp] theorem State.setFlag_life (s : State) (f : Fld) (i : Nat) (b : Bool) : (s.setFlag f i b).life = s.life := State.setReg_life ..
@[simp] theorem State.setFlag_power (s : State) (f : Fld) (i : Nat) (b : Bool) : (s.setFlag f i b).power = s.power := State.setReg_power ..
@[simp] theorem State.setFlag_kettle (s : State) (f : Fld) (i : Nat) (b : Bool) : (s.setFlag f i b).kettle = s.kettle := State.setReg_kettle ..
@[simp] theorem State.setFlag_leaf (s : State) (f : Fld) (i : Nat) (b : Bool) : (s.setFlag f i b).leaf = s.leaf := State.setReg_leaf ..
@[simp] theorem State.setFlag_rings (s : State) (f : Fld) (i : Nat) (b : Bool) : (s.setFlag f i b).rings = s.rings := State.setReg_rings ..
@[simp] theorem State.setFlag_loops (s : State) (f : Fld) (i : Nat) (b : Bool) : (s.setFlag f i b).loops = s.loops := State.setReg_loops ..
@[simp] theorem State.setFlag_safe (s : State) (f : Fld) (i : Nat) (b : Bool) : (s.setFlag f i b).safe = s.safe := State.setReg_safe ..
@[simp] theorem State.setFlag_struct (s : State) (f : Fld) (i : Nat) (b : Bool) : (s.setFlag f i b).struct = s.struct := State.setReg_struct ..
@[simp] theorem State.setFlag_port (s : State) (f : Fld) (i : Nat) (b : Bool) : (s.setFlag f i b).port = s.port := State.setReg_port ..
@[simp] theorem State.setFlag_upd (s : State) (f : Fld) (i : Nat) (b : Bool) : (s.setFlag f i b).upd = s.upd := State.setReg_upd ..
@[simp] theorem State.setFlag_can (s : State) (f : Fld) (i : Nat) (b : Bool) : (s.setFlag f i b).can = s.can := State.setReg_can ..
@[simp] theorem State.setFlag_ptp (s : State) (f : Fld) (i : Nat) (b : Bool) : (s.setFlag f i b).ptp = s.ptp := State.setReg_ptp ..
@[simp] theorem State.setFlag_pending (s : State) (f : Fld) (i : Nat) (b : Bool) : (s.setFlag f i b).pending = s.pending := State.setReg_pending ..

@[simp] theorem State.addReg_now (s : State) (f : Fld) (i n : Nat) : (s.addReg f i n).now = s.now := by
  rw [State.addReg, State.setReg_now, State.noteEvent_now]
@[simp] theorem State.addReg_outside (s : State) (f : Fld) (i n : Nat) : (s.addReg f i n).outside = s.outside := by
  rw [State.addReg, State.setReg_outside, State.noteEvent_outside]
@[simp] theorem State.addReg_settings (s : State) (f : Fld) (i n : Nat) : (s.addReg f i n).settings = s.settings := by
  rw [State.addReg, State.setReg_settings, State.noteEvent_settings]
@[simp] theorem State.addReg_latches (s : State) (f : Fld) (i n : Nat) : (s.addReg f i n).latches = s.latches := by
  rw [State.addReg, State.setReg_latches, State.noteEvent_latches]
@[simp] theorem State.addReg_mode (s : State) (f : Fld) (i n : Nat) : (s.addReg f i n).mode = s.mode := by
  rw [State.addReg, State.setReg_mode, State.noteEvent_mode]
@[simp] theorem State.addReg_prevMode (s : State) (f : Fld) (i n : Nat) : (s.addReg f i n).prevMode = s.prevMode := by
  rw [State.addReg, State.setReg_prevMode, State.noteEvent_prevMode]
@[simp] theorem State.addReg_freeCtr (s : State) (f : Fld) (i n : Nat) : (s.addReg f i n).freeCtr = s.freeCtr := by
  rw [State.addReg, State.setReg_freeCtr, State.noteEvent_freeCtr]
@[simp] theorem State.addReg_out (s : State) (f : Fld) (i n : Nat) : (s.addReg f i n).out = s.out := by
  rw [State.addReg, State.setReg_out, State.noteEvent_out]
@[simp] theorem State.addReg_phase (s : State) (f : Fld) (i n : Nat) : (s.addReg f i n).phase = s.phase := by
  rw [State.addReg, State.setReg_phase, State.noteEvent_phase]
@[simp] theorem State.addReg_img (s : State) (f : Fld) (i n : Nat) : (s.addReg f i n).img = s.img := by
  rw [State.addReg, State.setReg_img, State.noteEvent_img]
@[simp] theorem State.addReg_tasks (s : State) (f : Fld) (i n : Nat) : (s.addReg f i n).tasks = s.tasks := by
  rw [State.addReg, State.setReg_tasks, State.noteEvent_tasks]
@[simp] theorem State.addReg_cells (s : State) (f : Fld) (i n : Nat) : (s.addReg f i n).cells = s.cells := by
  rw [State.addReg, State.setReg_cells, State.noteEvent_cells]
@[simp] theorem State.addReg_pair (s : State) (f : Fld) (i n : Nat) : (s.addReg f i n).pair = s.pair := by
  rw [State.addReg, State.setReg_pair, State.noteEvent_pair]
@[simp] theorem State.addReg_recorder (s : State) (f : Fld) (i n : Nat) : (s.addReg f i n).recorder = s.recorder := by
  rw [State.addReg, State.setReg_recorder, State.noteEvent_recorder]
@[simp] theorem State.addReg_life (s : State) (f : Fld) (i n : Nat) : (s.addReg f i n).life = s.life := by
  rw [State.addReg, State.setReg_life, State.noteEvent_life]
@[simp] theorem State.addReg_power (s : State) (f : Fld) (i n : Nat) : (s.addReg f i n).power = s.power := by
  rw [State.addReg, State.setReg_power, State.noteEvent_power]
@[simp] theorem State.addReg_kettle (s : State) (f : Fld) (i n : Nat) : (s.addReg f i n).kettle = s.kettle := by
  rw [State.addReg, State.setReg_kettle, State.noteEvent_kettle]
@[simp] theorem State.addReg_leaf (s : State) (f : Fld) (i n : Nat) : (s.addReg f i n).leaf = s.leaf := by
  rw [State.addReg, State.setReg_leaf, State.noteEvent_leaf]
@[simp] theorem State.addReg_rings (s : State) (f : Fld) (i n : Nat) : (s.addReg f i n).rings = s.rings := by
  rw [State.addReg, State.setReg_rings, State.noteEvent_rings]
@[simp] theorem State.addReg_loops (s : State) (f : Fld) (i n : Nat) : (s.addReg f i n).loops = s.loops := by
  rw [State.addReg, State.setReg_loops, State.noteEvent_loops]
@[simp] theorem State.addReg_safe (s : State) (f : Fld) (i n : Nat) : (s.addReg f i n).safe = s.safe := by
  rw [State.addReg, State.setReg_safe, State.noteEvent_safe]
@[simp] theorem State.addReg_struct (s : State) (f : Fld) (i n : Nat) : (s.addReg f i n).struct = s.struct := by
  rw [State.addReg, State.setReg_struct, State.noteEvent_struct]
@[simp] theorem State.addReg_port (s : State) (f : Fld) (i n : Nat) : (s.addReg f i n).port = s.port := by
  rw [State.addReg, State.setReg_port, State.noteEvent_port]
@[simp] theorem State.addReg_upd (s : State) (f : Fld) (i n : Nat) : (s.addReg f i n).upd = s.upd := by
  rw [State.addReg, State.setReg_upd, State.noteEvent_upd]
@[simp] theorem State.addReg_can (s : State) (f : Fld) (i n : Nat) : (s.addReg f i n).can = s.can := by
  rw [State.addReg, State.setReg_can, State.noteEvent_can]
@[simp] theorem State.addReg_ptp (s : State) (f : Fld) (i n : Nat) : (s.addReg f i n).ptp = s.ptp := by
  rw [State.addReg, State.setReg_ptp, State.noteEvent_ptp]
@[simp] theorem State.addReg_pending (s : State) (f : Fld) (i n : Nat) : (s.addReg f i n).pending = s.pending := by
  rw [State.addReg, State.setReg_pending, State.noteEvent_pending]

@[simp] theorem State.bumpReg_now (s : State) (f : Fld) (i : Nat) : (s.bumpReg f i).now = s.now := State.setReg_now ..
@[simp] theorem State.bumpReg_outside (s : State) (f : Fld) (i : Nat) : (s.bumpReg f i).outside = s.outside := State.setReg_outside ..
@[simp] theorem State.bumpReg_raced (s : State) (f : Fld) (i : Nat) : (s.bumpReg f i).raced = s.raced := State.setReg_raced ..
@[simp] theorem State.bumpReg_settings (s : State) (f : Fld) (i : Nat) : (s.bumpReg f i).settings = s.settings := State.setReg_settings ..
@[simp] theorem State.bumpReg_latches (s : State) (f : Fld) (i : Nat) : (s.bumpReg f i).latches = s.latches := State.setReg_latches ..
@[simp] theorem State.bumpReg_mode (s : State) (f : Fld) (i : Nat) : (s.bumpReg f i).mode = s.mode := State.setReg_mode ..
@[simp] theorem State.bumpReg_prevMode (s : State) (f : Fld) (i : Nat) : (s.bumpReg f i).prevMode = s.prevMode := State.setReg_prevMode ..
@[simp] theorem State.bumpReg_freeCtr (s : State) (f : Fld) (i : Nat) : (s.bumpReg f i).freeCtr = s.freeCtr := State.setReg_freeCtr ..
@[simp] theorem State.bumpReg_out (s : State) (f : Fld) (i : Nat) : (s.bumpReg f i).out = s.out := State.setReg_out ..
@[simp] theorem State.bumpReg_phase (s : State) (f : Fld) (i : Nat) : (s.bumpReg f i).phase = s.phase := State.setReg_phase ..
@[simp] theorem State.bumpReg_img (s : State) (f : Fld) (i : Nat) : (s.bumpReg f i).img = s.img := State.setReg_img ..
@[simp] theorem State.bumpReg_tasks (s : State) (f : Fld) (i : Nat) : (s.bumpReg f i).tasks = s.tasks := State.setReg_tasks ..
@[simp] theorem State.bumpReg_cells (s : State) (f : Fld) (i : Nat) : (s.bumpReg f i).cells = s.cells := State.setReg_cells ..
@[simp] theorem State.bumpReg_pair (s : State) (f : Fld) (i : Nat) : (s.bumpReg f i).pair = s.pair := State.setReg_pair ..
@[simp] theorem State.bumpReg_recorder (s : State) (f : Fld) (i : Nat) : (s.bumpReg f i).recorder = s.recorder := State.setReg_recorder ..
@[simp] theorem State.bumpReg_life (s : State) (f : Fld) (i : Nat) : (s.bumpReg f i).life = s.life := State.setReg_life ..
@[simp] theorem State.bumpReg_power (s : State) (f : Fld) (i : Nat) : (s.bumpReg f i).power = s.power := State.setReg_power ..
@[simp] theorem State.bumpReg_kettle (s : State) (f : Fld) (i : Nat) : (s.bumpReg f i).kettle = s.kettle := State.setReg_kettle ..
@[simp] theorem State.bumpReg_leaf (s : State) (f : Fld) (i : Nat) : (s.bumpReg f i).leaf = s.leaf := State.setReg_leaf ..
@[simp] theorem State.bumpReg_rings (s : State) (f : Fld) (i : Nat) : (s.bumpReg f i).rings = s.rings := State.setReg_rings ..
@[simp] theorem State.bumpReg_loops (s : State) (f : Fld) (i : Nat) : (s.bumpReg f i).loops = s.loops := State.setReg_loops ..
@[simp] theorem State.bumpReg_safe (s : State) (f : Fld) (i : Nat) : (s.bumpReg f i).safe = s.safe := State.setReg_safe ..
@[simp] theorem State.bumpReg_struct (s : State) (f : Fld) (i : Nat) : (s.bumpReg f i).struct = s.struct := State.setReg_struct ..
@[simp] theorem State.bumpReg_port (s : State) (f : Fld) (i : Nat) : (s.bumpReg f i).port = s.port := State.setReg_port ..
@[simp] theorem State.bumpReg_upd (s : State) (f : Fld) (i : Nat) : (s.bumpReg f i).upd = s.upd := State.setReg_upd ..
@[simp] theorem State.bumpReg_can (s : State) (f : Fld) (i : Nat) : (s.bumpReg f i).can = s.can := State.setReg_can ..
@[simp] theorem State.bumpReg_ptp (s : State) (f : Fld) (i : Nat) : (s.bumpReg f i).ptp = s.ptp := State.setReg_ptp ..
@[simp] theorem State.bumpReg_pending (s : State) (f : Fld) (i : Nat) : (s.bumpReg f i).pending = s.pending := State.setReg_pending ..

@[simp] theorem State.dropReg_now (s : State) (f : Fld) (i : Nat) : (s.dropReg f i).now = s.now := State.setReg_now ..
@[simp] theorem State.dropReg_outside (s : State) (f : Fld) (i : Nat) : (s.dropReg f i).outside = s.outside := State.setReg_outside ..
@[simp] theorem State.dropReg_raced (s : State) (f : Fld) (i : Nat) : (s.dropReg f i).raced = s.raced := State.setReg_raced ..
@[simp] theorem State.dropReg_settings (s : State) (f : Fld) (i : Nat) : (s.dropReg f i).settings = s.settings := State.setReg_settings ..
@[simp] theorem State.dropReg_latches (s : State) (f : Fld) (i : Nat) : (s.dropReg f i).latches = s.latches := State.setReg_latches ..
@[simp] theorem State.dropReg_mode (s : State) (f : Fld) (i : Nat) : (s.dropReg f i).mode = s.mode := State.setReg_mode ..
@[simp] theorem State.dropReg_prevMode (s : State) (f : Fld) (i : Nat) : (s.dropReg f i).prevMode = s.prevMode := State.setReg_prevMode ..
@[simp] theorem State.dropReg_freeCtr (s : State) (f : Fld) (i : Nat) : (s.dropReg f i).freeCtr = s.freeCtr := State.setReg_freeCtr ..
@[simp] theorem State.dropReg_out (s : State) (f : Fld) (i : Nat) : (s.dropReg f i).out = s.out := State.setReg_out ..
@[simp] theorem State.dropReg_phase (s : State) (f : Fld) (i : Nat) : (s.dropReg f i).phase = s.phase := State.setReg_phase ..
@[simp] theorem State.dropReg_img (s : State) (f : Fld) (i : Nat) : (s.dropReg f i).img = s.img := State.setReg_img ..
@[simp] theorem State.dropReg_tasks (s : State) (f : Fld) (i : Nat) : (s.dropReg f i).tasks = s.tasks := State.setReg_tasks ..
@[simp] theorem State.dropReg_cells (s : State) (f : Fld) (i : Nat) : (s.dropReg f i).cells = s.cells := State.setReg_cells ..
@[simp] theorem State.dropReg_pair (s : State) (f : Fld) (i : Nat) : (s.dropReg f i).pair = s.pair := State.setReg_pair ..
@[simp] theorem State.dropReg_recorder (s : State) (f : Fld) (i : Nat) : (s.dropReg f i).recorder = s.recorder := State.setReg_recorder ..
@[simp] theorem State.dropReg_life (s : State) (f : Fld) (i : Nat) : (s.dropReg f i).life = s.life := State.setReg_life ..
@[simp] theorem State.dropReg_power (s : State) (f : Fld) (i : Nat) : (s.dropReg f i).power = s.power := State.setReg_power ..
@[simp] theorem State.dropReg_kettle (s : State) (f : Fld) (i : Nat) : (s.dropReg f i).kettle = s.kettle := State.setReg_kettle ..
@[simp] theorem State.dropReg_leaf (s : State) (f : Fld) (i : Nat) : (s.dropReg f i).leaf = s.leaf := State.setReg_leaf ..
@[simp] theorem State.dropReg_rings (s : State) (f : Fld) (i : Nat) : (s.dropReg f i).rings = s.rings := State.setReg_rings ..
@[simp] theorem State.dropReg_loops (s : State) (f : Fld) (i : Nat) : (s.dropReg f i).loops = s.loops := State.setReg_loops ..
@[simp] theorem State.dropReg_safe (s : State) (f : Fld) (i : Nat) : (s.dropReg f i).safe = s.safe := State.setReg_safe ..
@[simp] theorem State.dropReg_struct (s : State) (f : Fld) (i : Nat) : (s.dropReg f i).struct = s.struct := State.setReg_struct ..
@[simp] theorem State.dropReg_port (s : State) (f : Fld) (i : Nat) : (s.dropReg f i).port = s.port := State.setReg_port ..
@[simp] theorem State.dropReg_upd (s : State) (f : Fld) (i : Nat) : (s.dropReg f i).upd = s.upd := State.setReg_upd ..
@[simp] theorem State.dropReg_can (s : State) (f : Fld) (i : Nat) : (s.dropReg f i).can = s.can := State.setReg_can ..
@[simp] theorem State.dropReg_ptp (s : State) (f : Fld) (i : Nat) : (s.dropReg f i).ptp = s.ptp := State.setReg_ptp ..
@[simp] theorem State.dropReg_pending (s : State) (f : Fld) (i : Nat) : (s.dropReg f i).pending = s.pending := State.setReg_pending ..

@[simp] theorem State.maxReg_now (s : State) (f : Fld) (i v : Nat) : (s.maxReg f i v).now = s.now := by
  rw [State.maxReg, State.setReg_now, State.noteEvent_now]
@[simp] theorem State.maxReg_outside (s : State) (f : Fld) (i v : Nat) : (s.maxReg f i v).outside = s.outside := by
  rw [State.maxReg, State.setReg_outside, State.noteEvent_outside]
@[simp] theorem State.maxReg_settings (s : State) (f : Fld) (i v : Nat) : (s.maxReg f i v).settings = s.settings := by
  rw [State.maxReg, State.setReg_settings, State.noteEvent_settings]
@[simp] theorem State.maxReg_latches (s : State) (f : Fld) (i v : Nat) : (s.maxReg f i v).latches = s.latches := by
  rw [State.maxReg, State.setReg_latches, State.noteEvent_latches]
@[simp] theorem State.maxReg_mode (s : State) (f : Fld) (i v : Nat) : (s.maxReg f i v).mode = s.mode := by
  rw [State.maxReg, State.setReg_mode, State.noteEvent_mode]
@[simp] theorem State.maxReg_prevMode (s : State) (f : Fld) (i v : Nat) : (s.maxReg f i v).prevMode = s.prevMode := by
  rw [State.maxReg, State.setReg_prevMode, State.noteEvent_prevMode]
@[simp] theorem State.maxReg_freeCtr (s : State) (f : Fld) (i v : Nat) : (s.maxReg f i v).freeCtr = s.freeCtr := by
  rw [State.maxReg, State.setReg_freeCtr, State.noteEvent_freeCtr]
@[simp] theorem State.maxReg_out (s : State) (f : Fld) (i v : Nat) : (s.maxReg f i v).out = s.out := by
  rw [State.maxReg, State.setReg_out, State.noteEvent_out]
@[simp] theorem State.maxReg_phase (s : State) (f : Fld) (i v : Nat) : (s.maxReg f i v).phase = s.phase := by
  rw [State.maxReg, State.setReg_phase, State.noteEvent_phase]
@[simp] theorem State.maxReg_img (s : State) (f : Fld) (i v : Nat) : (s.maxReg f i v).img = s.img := by
  rw [State.maxReg, State.setReg_img, State.noteEvent_img]
@[simp] theorem State.maxReg_tasks (s : State) (f : Fld) (i v : Nat) : (s.maxReg f i v).tasks = s.tasks := by
  rw [State.maxReg, State.setReg_tasks, State.noteEvent_tasks]
@[simp] theorem State.maxReg_cells (s : State) (f : Fld) (i v : Nat) : (s.maxReg f i v).cells = s.cells := by
  rw [State.maxReg, State.setReg_cells, State.noteEvent_cells]
@[simp] theorem State.maxReg_pair (s : State) (f : Fld) (i v : Nat) : (s.maxReg f i v).pair = s.pair := by
  rw [State.maxReg, State.setReg_pair, State.noteEvent_pair]
@[simp] theorem State.maxReg_recorder (s : State) (f : Fld) (i v : Nat) : (s.maxReg f i v).recorder = s.recorder := by
  rw [State.maxReg, State.setReg_recorder, State.noteEvent_recorder]
@[simp] theorem State.maxReg_life (s : State) (f : Fld) (i v : Nat) : (s.maxReg f i v).life = s.life := by
  rw [State.maxReg, State.setReg_life, State.noteEvent_life]
@[simp] theorem State.maxReg_power (s : State) (f : Fld) (i v : Nat) : (s.maxReg f i v).power = s.power := by
  rw [State.maxReg, State.setReg_power, State.noteEvent_power]
@[simp] theorem State.maxReg_kettle (s : State) (f : Fld) (i v : Nat) : (s.maxReg f i v).kettle = s.kettle := by
  rw [State.maxReg, State.setReg_kettle, State.noteEvent_kettle]
@[simp] theorem State.maxReg_leaf (s : State) (f : Fld) (i v : Nat) : (s.maxReg f i v).leaf = s.leaf := by
  rw [State.maxReg, State.setReg_leaf, State.noteEvent_leaf]
@[simp] theorem State.maxReg_rings (s : State) (f : Fld) (i v : Nat) : (s.maxReg f i v).rings = s.rings := by
  rw [State.maxReg, State.setReg_rings, State.noteEvent_rings]
@[simp] theorem State.maxReg_loops (s : State) (f : Fld) (i v : Nat) : (s.maxReg f i v).loops = s.loops := by
  rw [State.maxReg, State.setReg_loops, State.noteEvent_loops]
@[simp] theorem State.maxReg_safe (s : State) (f : Fld) (i v : Nat) : (s.maxReg f i v).safe = s.safe := by
  rw [State.maxReg, State.setReg_safe, State.noteEvent_safe]
@[simp] theorem State.maxReg_struct (s : State) (f : Fld) (i v : Nat) : (s.maxReg f i v).struct = s.struct := by
  rw [State.maxReg, State.setReg_struct, State.noteEvent_struct]
@[simp] theorem State.maxReg_port (s : State) (f : Fld) (i v : Nat) : (s.maxReg f i v).port = s.port := by
  rw [State.maxReg, State.setReg_port, State.noteEvent_port]
@[simp] theorem State.maxReg_upd (s : State) (f : Fld) (i v : Nat) : (s.maxReg f i v).upd = s.upd := by
  rw [State.maxReg, State.setReg_upd, State.noteEvent_upd]
@[simp] theorem State.maxReg_can (s : State) (f : Fld) (i v : Nat) : (s.maxReg f i v).can = s.can := by
  rw [State.maxReg, State.setReg_can, State.noteEvent_can]
@[simp] theorem State.maxReg_ptp (s : State) (f : Fld) (i v : Nat) : (s.maxReg f i v).ptp = s.ptp := by
  rw [State.maxReg, State.setReg_ptp, State.noteEvent_ptp]
@[simp] theorem State.maxReg_pending (s : State) (f : Fld) (i v : Nat) : (s.maxReg f i v).pending = s.pending := by
  rw [State.maxReg, State.setReg_pending, State.noteEvent_pending]

@[simp] theorem State.reload_now (s : State) (f : Fld) (i : Nat) : (s.reload f i).now = s.now := State.setReg_now ..
@[simp] theorem State.reload_outside (s : State) (f : Fld) (i : Nat) : (s.reload f i).outside = s.outside := State.setReg_outside ..
@[simp] theorem State.reload_raced (s : State) (f : Fld) (i : Nat) : (s.reload f i).raced = s.raced := State.setReg_raced ..
@[simp] theorem State.reload_settings (s : State) (f : Fld) (i : Nat) : (s.reload f i).settings = s.settings := State.setReg_settings ..
@[simp] theorem State.reload_latches (s : State) (f : Fld) (i : Nat) : (s.reload f i).latches = s.latches := State.setReg_latches ..
@[simp] theorem State.reload_mode (s : State) (f : Fld) (i : Nat) : (s.reload f i).mode = s.mode := State.setReg_mode ..
@[simp] theorem State.reload_prevMode (s : State) (f : Fld) (i : Nat) : (s.reload f i).prevMode = s.prevMode := State.setReg_prevMode ..
@[simp] theorem State.reload_freeCtr (s : State) (f : Fld) (i : Nat) : (s.reload f i).freeCtr = s.freeCtr := State.setReg_freeCtr ..
@[simp] theorem State.reload_out (s : State) (f : Fld) (i : Nat) : (s.reload f i).out = s.out := State.setReg_out ..
@[simp] theorem State.reload_phase (s : State) (f : Fld) (i : Nat) : (s.reload f i).phase = s.phase := State.setReg_phase ..
@[simp] theorem State.reload_img (s : State) (f : Fld) (i : Nat) : (s.reload f i).img = s.img := State.setReg_img ..
@[simp] theorem State.reload_tasks (s : State) (f : Fld) (i : Nat) : (s.reload f i).tasks = s.tasks := State.setReg_tasks ..
@[simp] theorem State.reload_cells (s : State) (f : Fld) (i : Nat) : (s.reload f i).cells = s.cells := State.setReg_cells ..
@[simp] theorem State.reload_pair (s : State) (f : Fld) (i : Nat) : (s.reload f i).pair = s.pair := State.setReg_pair ..
@[simp] theorem State.reload_recorder (s : State) (f : Fld) (i : Nat) : (s.reload f i).recorder = s.recorder := State.setReg_recorder ..
@[simp] theorem State.reload_life (s : State) (f : Fld) (i : Nat) : (s.reload f i).life = s.life := State.setReg_life ..
@[simp] theorem State.reload_power (s : State) (f : Fld) (i : Nat) : (s.reload f i).power = s.power := State.setReg_power ..
@[simp] theorem State.reload_kettle (s : State) (f : Fld) (i : Nat) : (s.reload f i).kettle = s.kettle := State.setReg_kettle ..
@[simp] theorem State.reload_leaf (s : State) (f : Fld) (i : Nat) : (s.reload f i).leaf = s.leaf := State.setReg_leaf ..
@[simp] theorem State.reload_rings (s : State) (f : Fld) (i : Nat) : (s.reload f i).rings = s.rings := State.setReg_rings ..
@[simp] theorem State.reload_loops (s : State) (f : Fld) (i : Nat) : (s.reload f i).loops = s.loops := State.setReg_loops ..
@[simp] theorem State.reload_safe (s : State) (f : Fld) (i : Nat) : (s.reload f i).safe = s.safe := State.setReg_safe ..
@[simp] theorem State.reload_struct (s : State) (f : Fld) (i : Nat) : (s.reload f i).struct = s.struct := State.setReg_struct ..
@[simp] theorem State.reload_port (s : State) (f : Fld) (i : Nat) : (s.reload f i).port = s.port := State.setReg_port ..
@[simp] theorem State.reload_upd (s : State) (f : Fld) (i : Nat) : (s.reload f i).upd = s.upd := State.setReg_upd ..
@[simp] theorem State.reload_can (s : State) (f : Fld) (i : Nat) : (s.reload f i).can = s.can := State.setReg_can ..
@[simp] theorem State.reload_ptp (s : State) (f : Fld) (i : Nat) : (s.reload f i).ptp = s.ptp := State.setReg_ptp ..
@[simp] theorem State.reload_pending (s : State) (f : Fld) (i : Nat) : (s.reload f i).pending = s.pending := State.setReg_pending ..

/-- The clock never goes back when a command arrives (R22), and stands at the command's instant or later. -/
theorem State.advance_now (s : State) (t : Nat) : (s.advance t).now = max s.now t := rfl

@[simp] theorem State.emit_out (s : State) (o : Out) : (s.emit o).out = o :: s.out := rfl

@[simp] theorem State.nextFree_freeCtr (s : State) : s.nextFree.freeCtr = s.freeCtr + 1 := rfl

@[simp] theorem State.when_true (s : State) (f : State → State) : s.when true f = f s := rfl

@[simp] theorem State.when_false (s : State) (f : State → State) : s.when false f = s := rfl

@[simp] theorem State.each_nil {α : Type} (s : State) (f : State → α → State) : s.each [] f = s := rfl

@[simp] theorem State.each_cons {α : Type} (s : State) (a : α) (l : List α) (f : State → α → State) :
    s.each (a :: l) f = (f s a).each l f := rfl

end Sys2Proof.Machine
end

