-- ==== Sys2Proof/Laws/Ops.lean ====
section
/-! SUPPORT. What the shared operations of Machine/Ops.lean do: register fields read back, and the recorder, the degradation causes and the mode
change nothing else. -/

namespace Sys2Proof.Machine

/-! ### Register fields -/

/-- A field reads back what was written to it, cut to its bits. -/
theorem State.reg_setReg (s : State) {f : Fld} {i : Nat} (v : Nat) (hi : i < f.count) :
    (s.setReg f i v).reg f i = wrap f.width v := by
  simp [State.setReg, State.reg, hi, Tab.get_set]

/-- A write changes nothing at another key. -/
theorem State.reg_setReg_key (s : State) (f g : Fld) (i j v : Nat) (hk : g.key j ≠ f.key i) :
    (s.setReg f i v).reg g j = s.reg g j := by
  unfold State.setReg State.reg
  split
  · exact Tab.get_set_ne _ _ hk
  · rfl

theorem Fld.key_ne {f g : Fld} {i j : Nat} (hid : f.id ≠ g.id) (hi : i < 2 ^ 20) (hj : j < 2 ^ 20) : g.key j ≠ f.key i := by
  unfold Fld.key
  omega

/-- A write of one field changes no other. -/
theorem State.reg_setReg_other (s : State) (f g : Fld) (i j v : Nat) (hid : f.id ≠ g.id) (hc : f.count ≤ 2 ^ 20) (hj : j < 2 ^ 20) :
    (s.setReg f i v).reg g j = s.reg g j := by
  by_cases hi : i < f.count
  · exact State.reg_setReg_key s f g i j v (Fld.key_ne hid (by omega) hj)
  · simp [State.setReg, hi]

/-- A write of one instance changes no other. -/
theorem State.reg_setReg_ne (s : State) (f : Fld) {i j : Nat} (v : Nat) (hj : j ≠ i) : (s.setReg f i v).reg f j = s.reg f j :=
  State.reg_setReg_key s f f i j v (by unfold Fld.key; omega)

/-- Every write keeps the canonical form. -/
theorem State.setReg_wf {s : State} (h : Tab.wf s.regs = true) (f : Fld) (i v : Nat) : Tab.wf (s.setReg f i v).regs = true := by
  unfold State.setReg
  split
  · exact Tab.wf_set h _ _
  · exact h

/-- A field of the map, by number, with room for its instances in a key. -/
def Fld.tabled (f : Fld) : Prop := fieldTable.find? (fun g => g.id == f.id) = some f ∧ f.count ≤ 2 ^ 20

theorem Fld.key_instance {f : Fld} {i : Nat} (hi : i < 2 ^ 20) : f.key i % 2 ^ 20 = i := by
  unfold Fld.key
  omega

theorem Fld.fieldOfKey_key {f : Fld} (hf : fieldTable.find? (fun g => g.id == f.id) = some f) {i : Nat} (hi : i < 2 ^ 20) :
    fieldOfKey (f.key i) = some f := by
  have h : f.key i / 2 ^ 20 = f.id := by
    unfold Fld.key
    omega
  unfold fieldOfKey
  rw [h]
  exact hf

theorem State.regEntryOk_of_key {f : Fld} {k v : Nat} (hk : fieldOfKey k = some f) (hi : k % 2 ^ 20 < f.count) (hv : v < 2 ^ f.width) :
    regEntryOk (k, v) = true := by
  unfold regEntryOk
  simp only [hk]
  exact decide_eq_true ⟨hi, hv⟩

/-- Every write of a field of the map keeps the register table sound. -/
theorem State.setReg_sound {s : State} (h : s.regsSound = true) (f : Fld) (hf : f.tabled) (i v : Nat) :
    (s.setReg f i v).regsSound = true := by
  unfold State.regsSound at h ⊢
  simp only [Bool.and_eq_true, List.all_eq_true] at h ⊢
  refine ⟨State.setReg_wf h.1 f i v, ?_⟩
  unfold State.setReg
  split
  · rename_i hi
    intro x hx
    rcases Tab.mem_set hx with ⟨rfl, _⟩ | hx
    · exact State.regEntryOk_of_key (Fld.fieldOfKey_key hf.1 (lt_of_lt_of_le hi hf.2)) (by rw [Fld.key_instance (lt_of_lt_of_le hi hf.2)]; exact hi)
        (Nat.mod_lt _ (by positivity))
    · exact h.2 x hx
  · exact h.2

theorem State.setFlag_reg_true (s : State) {f : Fld} {i : Nat} (hi : i < f.count) (hw : 0 < f.width) :
    (s.setFlag f i true).reg f i = 1 := by
  have : 2 ≤ 2 ^ f.width := by
    calc 2 = 2 ^ 1 := rfl
      _ ≤ 2 ^ f.width := Nat.pow_le_pow_right (by omega) hw
  rw [State.setFlag, State.reg_setReg s _ hi, wrap, bn]
  simp only [if_true]
  exact Nat.mod_eq_of_lt (by omega)

/-! ### Register frames -/

/-- A field that is not listed reads as before. -/
theorem State.regsKeptBut.reg {s s' : State} {fs : List Fld} (h : s.regsKeptBut s' fs) (f : Fld) (i : Nat) (hi : i < 2 ^ 20)
    (hf : ∀ g ∈ fs, g.id ≠ f.id) : s'.reg f i = s.reg f i := h f i hi hf

theorem State.regsKeptBut_refl (s : State) (fs : List Fld) : s.regsKeptBut s fs := fun _ _ _ _ => rfl

theorem State.regsKeptBut.trans {s s' s'' : State} {fs : List Fld} (h : s.regsKeptBut s' fs) (h' : s'.regsKeptBut s'' fs) :
    s.regsKeptBut s'' fs := fun f i hi hf => (h' f i hi hf).trans (h f i hi hf)

theorem State.regsKeptBut.mono {s s' : State} {fs gs : List Fld} (h : s.regsKeptBut s' fs) (hs : ∀ f ∈ fs, f ∈ gs) :
    s.regsKeptBut s' gs := fun f i hi hf => h f i hi (fun g hg => hf g (hs g hg))

/-- An operation that leaves the register table alone. -/
theorem State.regsKeptBut_of_regs {s s' : State} (fs : List Fld) (h : s'.regs = s.regs) : s.regsKeptBut s' fs := by
  intro f i _ _
  simp [State.reg, h]

theorem State.setReg_kept (s : State) (f : Fld) (i v : Nat) (fs : List Fld) (hf : f ∈ fs) (hc : f.count ≤ 2 ^ 20) :
    s.regsKeptBut (s.setReg f i v) fs :=
  fun g j hj hg => State.reg_setReg_other s f g i j v (hg f hf) hc hj

/-- A fold whose every step keeps a property keeps it. -/
theorem State.each_induct {α : Type} {P : State → Prop} (l : List α) (f : State → α → State) (hf : ∀ s x, x ∈ l → P s → P (f s x))
    {s : State} (h : P s) : P (s.each l f) := by
  induction l generalizing s with
  | nil => exact h
  | cons a l ih =>
    exact ih (fun s x hx hp => hf s x (List.mem_cons_of_mem _ hx) hp) (hf s a List.mem_cons_self h)

/-! ### What lies outside

`sense` writes the register that shows an outside value, and keeps the value. -/

theorem State.sense_regs (s : State) (f : Fld) (i v : Nat) : (s.sense f i v).regs = (s.setReg f i v).regs := by
  unfold State.sense State.setReg
  split <;> rfl

theorem State.reg_sense (s : State) {f : Fld} {i : Nat} (v : Nat) (hi : i < f.count) : (s.sense f i v).reg f i = wrap f.width v := by
  simp only [State.reg, State.sense_regs]
  exact State.reg_setReg s v hi

theorem State.reg_sense_other (s : State) (f g : Fld) (i j v : Nat) (hid : f.id ≠ g.id) (hc : f.count ≤ 2 ^ 20) (hj : j < 2 ^ 20) :
    (s.sense f i v).reg g j = s.reg g j := by
  simp only [State.reg, State.sense_regs]
  exact State.reg_setReg_other s f g i j v hid hc hj

theorem State.sense_kept (s : State) (f : Fld) (i v : Nat) (fs : List Fld) (hf : f ∈ fs) (hc : f.count ≤ 2 ^ 20) :
    s.regsKeptBut (s.sense f i v) fs := fun g j hj hg => State.reg_sense_other s f g i j v (hg f hf) hc hj

/-- Beside the register and the value outside, `sense` changes nothing. -/
theorem State.sense_frame (s : State) (f : Fld) (i v : Nat) :
    s.sense f i v = { s with regs := (s.sense f i v).regs, outside := (s.sense f i v).outside } := by
  unfold State.sense State.setReg
  split <;> rfl

/-! ### The recorder

A record changes the recorder, lost-record counts among the lifetime counters, the four fields of `recorderFlds`, and what the present cycle
brings to the fields that a read clears (R20). -/

/-- What the recorder's operations leave alone. -/
def State.recorderOnly (s s' : State) : Prop :=
  s.regsKeptBut s' recorderFlds ∧ (Tab.wf s.regs = true → Tab.wf s'.regs = true) ∧
    s' = { s with regs := s'.regs, raced := s'.raced, recorder := s'.recorder, life := s'.life }

theorem State.recorderOnly_refl (s : State) : s.recorderOnly s := ⟨s.regsKeptBut_refl _, id, rfl⟩

theorem State.recorderOnly.trans {s s' s'' : State} (h : s.recorderOnly s') (h' : s'.recorderOnly s'') : s.recorderOnly s'' := by
  refine ⟨h.1.trans h'.1, fun w => h'.2.1 (h.2.1 w), ?_⟩
  rw [h'.2.2, h.2.2]

theorem State.recorderOnly_setReg (s : State) (f : Fld) (i v : Nat) (hf : f ∈ recorderFlds) : s.recorderOnly (s.setReg f i v) := by
  refine ⟨State.setReg_kept s f i v _ hf ?_, fun w => State.setReg_wf w f i v, ?_⟩
  · simp only [recorderFlds, List.mem_cons, List.not_mem_nil, or_false] at hf
    rcases hf with rfl | rfl | rfl | rfl <;> decide
  · unfold State.setReg; split <;> rfl

theorem State.recorderOnly_rec (s : State) (r : RecSt) (l : LifeSt) : s.recorderOnly { s with recorder := r, life := l } :=
  ⟨State.regsKeptBut_of_regs _ rfl, id, rfl⟩

/-- The event kept of the present cycle (R20) is no field of the register table. -/
theorem State.noteEvent_reg (s : State) (f g : Fld) (i j : Nat) (h : Nat → Nat) : (s.noteEvent f i h).reg g j = s.reg g j := by
  rw [State.reg, State.noteEvent_regs, State.reg]

theorem State.recorderOnly_noteEvent (s : State) (f : Fld) (i : Nat) (g : Nat → Nat) : s.recorderOnly (s.noteEvent f i g) := by
  refine ⟨State.regsKeptBut_of_regs _ (s.noteEvent_regs f i g), fun w => (s.noteEvent_regs f i g).symm ▸ w, ?_⟩
  unfold State.noteEvent; split <;> rfl

theorem State.recorderOnly_addReg (s : State) (f : Fld) (i n : Nat) (hf : f ∈ recorderFlds) : s.recorderOnly (s.addReg f i n) :=
  (s.recorderOnly_noteEvent _ _ _).trans (State.recorderOnly_setReg _ _ _ _ hf)

theorem State.setBuffer_only (s : State) (b : List (Bool × Record)) : s.recorderOnly (s.setBuffer b) :=
  (s.recorderOnly_rec { s.recorder with buffer := b } s.life).trans
    (State.recorderOnly_setReg _ _ _ _ (by simp [recorderFlds]))

theorem State.lifeAdd_only (s : State) (i n : Nat) : s.recorderOnly (s.lifeAdd i n) := s.recorderOnly_rec s.recorder _

theorem State.startFlush_only (s : State) : s.recorderOnly s.startFlush := by
  unfold State.startFlush
  split
  · exact s.recorderOnly_rec _ s.life
  · split
    · exact s.recorderOnly_refl
    · exact (s.recorderOnly_rec { s.recorder with flushCount := s.recorder.buffer.length } s.life).trans
        (State.recorderOnly_setReg _ _ _ _ (by simp [recorderFlds]))

theorem State.fold_only (s : State) (sev : Severity) : s.recorderOnly (s.fold sev) := by
  unfold State.fold
  exact ((((s.setBuffer_only _).trans (State.recorderOnly_rec _ _ _)).trans
    (State.recorderOnly_addReg _ _ _ _ (by simp [recorderFlds]))).trans
    (State.recorderOnly_setReg _ _ _ _ (by simp [recorderFlds]))).trans (State.lifeAdd_only _ _ _)

theorem State.makeRoom_only (s : State) (r : Record) : s.recorderOnly (s.makeRoom r) := by
  have once : ∀ s : State, s.recorderOnly
      (if s.sharedRoom r then s else if s.holds .info then s.fold .info else if s.holds .warning then s.fold .warning else s) := by
    intro s
    split
    · exact s.recorderOnly_refl
    · split
      · exact s.fold_only _
      · split
        · exact s.fold_only _
        · exact s.recorderOnly_refl
  exact (once s).trans (once _)

theorem State.loseRecord_only (s : State) (r : Record) : s.recorderOnly (s.loseRecord r) := by
  unfold State.loseRecord
  refine ((State.recorderOnly.trans ?_ (State.recorderOnly_addReg _ _ _ _ (by simp [recorderFlds]))).trans
    (State.recorderOnly_setReg _ _ _ _ (by simp [recorderFlds]))).trans (State.lifeAdd_only _ _ _)
  split <;> exact s.recorderOnly_rec _ s.life

theorem State.bufferRecord_only (s : State) (b : Bool) (r : Record) : s.recorderOnly (s.bufferRecord b r) := by
  have h : s.recorderOnly ({ (s.setBuffer (s.recorder.buffer ++ [(b, r)])) with
      recorder := { (s.setBuffer (s.recorder.buffer ++ [(b, r)])).recorder with lastRec := some r } }) :=
    (s.setBuffer_only _).trans (State.recorderOnly_rec _ _ _)
  unfold State.bufferRecord
  dsimp only
  split
  · exact h.trans (State.startFlush_only _)
  · exact h

theorem State.repeatRecord_only (s : State) (l : Record) : s.recorderOnly (s.repeatRecord l) := by
  unfold State.repeatRecord
  dsimp only
  split
  · exact (s.recorderOnly_rec _ s.life).trans (State.setBuffer_only _ _)
  · exact s.recorderOnly_rec _ s.life

theorem State.enterRecord_only (s : State) (r : Record) : s.recorderOnly (s.enterRecord r) := by
  unfold State.enterRecord
  split
  · exact s.repeatRecord_only _
  · split
    · split
      · exact s.bufferRecord_only _ _
      · split
        · exact s.bufferRecord_only _ _
        · exact s.loseRecord_only _
    · dsimp only
      split
      · exact (s.makeRoom_only r).trans (State.bufferRecord_only _ _ _)
      · exact (s.makeRoom_only r).trans (State.loseRecord_only _ _)

/-- A record changes the recorder only. -/
theorem State.record_only (s : State) (code inst : Nat) (sev : Severity) (ps : List (Nat × Nat)) (inj : Bool) :
    s.recorderOnly (s.record code inst sev ps inj) := s.enterRecord_only _

theorem State.note_only (s : State) (cls inst : Nat) (ps : List (Nat × Nat)) : s.recorderOnly (s.note cls inst ps) :=
  s.record_only _ _ _ _ _

theorem State.writeRefused_only (s : State) (a m r : Nat) : s.recorderOnly (s.writeRefused a m r) := s.record_only _ _ _ _ _

/-- What a record leaves of every other part of the state. -/
theorem State.recorderOnly.frame {s s' : State} (h : s.recorderOnly s') :
    s'.now = s.now ∧ s'.mode = s.mode ∧ s'.pending = s.pending ∧ s'.out = s.out ∧ s'.img = s.img ∧ s'.leaf = s.leaf ∧
      s'.cells = s.cells ∧ s'.tasks = s.tasks ∧ s'.phase = s.phase ∧ s'.pair = s.pair ∧ s'.power = s.power ∧
      s'.safe = s.safe ∧ s'.struct = s.struct ∧ s'.upd = s.upd := by
  rw [h.2.2]; exact ⟨rfl, rfl, rfl, rfl, rfl, rfl, rfl, rfl, rfl, rfl, rfl, rfl, rfl, rfl⟩

/-- A field that is none of the recorder's reads the same after a record. -/
theorem State.record_reg (s : State) (code inst : Nat) (sev : Severity) (ps : List (Nat × Nat)) (inj : Bool) (g : Fld) (j : Nat)
    (hg : ∀ f ∈ recorderFlds, f.id ≠ g.id) (hj : j < 2 ^ 20) : (s.record code inst sev ps inj).reg g j = s.reg g j :=
  (s.record_only code inst sev ps inj).1 g j hj hg

/-! ### Reads through the shared operations -/

theorem State.reg_setFlag (s : State) {f : Fld} {i : Nat} (b : Bool) (hi : i < f.count) : (s.setFlag f i b).reg f i = wrap f.width (bn b) :=
  State.reg_setReg s _ hi

theorem wrap_satAdd (w a b : Nat) : wrap w (satAdd w a b) = satAdd w a b := by
  have : 0 < 2 ^ w := by positivity
  unfold wrap satAdd
  exact Nat.mod_eq_of_lt (by omega)

/-- A counter field rises, and stays at its largest value. -/
theorem State.reg_addReg (s : State) {f : Fld} {i : Nat} (n : Nat) (hi : i < f.count) :
    (s.addReg f i n).reg f i = satAdd f.width (s.reg f i) n := by
  rw [State.addReg, State.reg_setReg _ _ hi, wrap_satAdd]

theorem State.reg_bumpReg (s : State) {f : Fld} {i : Nat} (hi : i < f.count) :
    (s.bumpReg f i).reg f i = wrap f.width (s.reg f i + 1) := State.reg_setReg s _ hi

theorem State.reg_setFlag_other (s : State) (f g : Fld) (i j : Nat) (b : Bool) (hid : f.id ≠ g.id) (hc : f.count ≤ 2 ^ 20) (hj : j < 2 ^ 20) :
    (s.setFlag f i b).reg g j = s.reg g j := State.reg_setReg_other s f g i j _ hid hc hj

theorem State.reg_addReg_other (s : State) (f g : Fld) (i j n : Nat) (hid : f.id ≠ g.id) (hc : f.count ≤ 2 ^ 20) (hj : j < 2 ^ 20) :
    (s.addReg f i n).reg g j = s.reg g j := by
  rw [State.addReg, State.reg_setReg_other _ f g i j _ hid hc hj, State.noteEvent_reg]

theorem State.reg_bumpReg_other (s : State) (f g : Fld) (i j : Nat) (hid : f.id ≠ g.id) (hc : f.count ≤ 2 ^ 20) (hj : j < 2 ^ 20) :
    (s.bumpReg f i).reg g j = s.reg g j := State.reg_setReg_other s f g i j _ hid hc hj

theorem State.note_reg (s : State) (c i : Nat) (ps : List (Nat × Nat)) (g : Fld) (j : Nat) (hg : ∀ f ∈ recorderFlds, f.id ≠ g.id)
    (hj : j < 2 ^ 20) : (s.note c i ps).reg g j = s.reg g j := State.record_reg s _ _ _ _ _ g j hg hj

/-! ### Frames through the shared operations -/

theorem State.regsKeptBut.setReg {s s' : State} {fs : List Fld} (h : s.regsKeptBut s' fs) {f : Fld} {i v : Nat} (hf : f ∈ fs)
    (hc : f.count ≤ 2 ^ 20) : s.regsKeptBut (s'.setReg f i v) fs := h.trans (State.setReg_kept _ _ _ _ _ hf hc)

theorem State.regsKeptBut.only {s s' s'' : State} {fs : List Fld} (h : s.regsKeptBut s' fs) (ho : s'.recorderOnly s'')
    (hf : ∀ f ∈ recorderFlds, f ∈ fs) : s.regsKeptBut s'' fs := h.trans (ho.1.mono hf)

theorem State.regsKeptBut.same {s s' s'' : State} {fs : List Fld} (h : s.regsKeptBut s' fs) (e : s''.regs = s'.regs) :
    s.regsKeptBut s'' fs := h.trans (State.regsKeptBut_of_regs _ e)

theorem State.regsKeptBut.ite {s a b : State} {fs : List Fld} {p : Prop} [Decidable p] (ha : s.regsKeptBut a fs) (hb : s.regsKeptBut b fs) :
    s.regsKeptBut (if p then a else b) fs := by
  split <;> assumption

end Sys2Proof.Machine
end

