-- ==== Sys2Proof/Machine/Lamps.lean ====
section
/-! DEFINITION. The lamps of the front panel (18_supply_and_carrier.md R512) as views of the state. -/

namespace Sys2Proof.Machine

/-- The patterns of R512: BLINK 1 Hz, FAST 4 Hz, FLASH 0.1 s every 2 s. -/
inductive Pattern where
  | off | on | blink | fast | flash
  deriving DecidableEq, Repr, Inhabited

/-- The colours of R512. -/
inductive Colour where
  | red | amber | green
  deriving DecidableEq, Repr, Inhabited

/-- What a lamp shows. -/
structure Lamp where
  pattern : Pattern
  colour : Colour
  deriving DecidableEq, Repr, Inhabited

/-- The lamp is dark. -/
def Lamp.dark : Lamp := ⟨.off, .green⟩

/-- The first condition that applies (R512). -/
def firstLamp (l : List (Bool × Lamp)) : Lamp := ((l.find? Prod.fst).map Prod.snd).getD Lamp.dark

/-- R512: PWR. The supply is that of SYS.SUPPLY.VBUS, in 10 mV. -/
def State.lampPwr (s : State) : Lamp :=
  let v := s.reg SYS.SUPPLY.VBUS
  firstLamp [(s.power.warned, ⟨.on, .red⟩), (s.mode == .boot && !s.power.charged, ⟨.blink, .red⟩),
    (decide (1800 ≤ v ∧ v < 1920), ⟨.on, .amber⟩), (decide (1920 ≤ v), ⟨.on, .green⟩)]

/-- R512: MODE. -/
def State.lampMode (s : State) : Lamp :=
  match s.mode with
  | .halt => ⟨.on, .red⟩
  | .recovery => ⟨.blink, .red⟩
  | .boot => ⟨.fast, .amber⟩
  | .load => ⟨.blink, .amber⟩
  | .commission => ⟨.on, .amber⟩
  | .service => ⟨.flash, .amber⟩
  | .hold => ⟨.blink, .green⟩
  | .sync | .standby => ⟨.flash, .green⟩
  | .active | .degraded => ⟨.on, .green⟩
  | .off => Lamp.dark

/-- R512: ROLE. -/
def State.lampRole (s : State) : Lamp :=
  firstLamp [(s.flag PAIR.STAT.AUTH && !s.flag PAIR.STAT.BUMPLESS, ⟨.blink, .green⟩), (s.flag PAIR.STAT.AUTH, ⟨.on, .green⟩),
    (s.mode == .standby, ⟨.on, .amber⟩), (s.mode == .sync, ⟨.blink, .amber⟩)]

/-- R512: FAULT. -/
def State.lampFault (s : State) : Lamp :=
  let st := s.reg UPD.STAT.STATE
  firstLamp [(s.mode == .halt || (s.flag SYS.UNITS.SAFE && s.safeState == SafeState.failsafe), ⟨.on, .red⟩),
    (s.mode == .degraded, ⟨.blink, .red⟩), (s.flag PAIR.STAT.LEAVING, ⟨.fast, .amber⟩),
    (st == UpdState.trial || st == UpdState.probation, ⟨.flash, .amber⟩)]

/-- R512: SAFE, over the outputs in use. -/
def State.lampSafe (s : State) : Lamp :=
  let used := [0, 1, 2, 3].filter (fun j => (s.safe.params.outs.get j).use != 0)
  let some_ := fun (f : Nat → Bool) => used.any (fun j => f (s.safe.out.get j).st)
  if !s.flag SYS.UNITS.SAFE then Lamp.dark
  else firstLamp [(some_ (fun x => x == OutState.fault), ⟨.on, .red⟩), (s.flag SAFE.STAT.LOCKED, ⟨.blink, .red⟩),
    (some_ (fun x => x == OutState.unconfirmed || x == OutState.startup), ⟨.on, .amber⟩),
    (some_ (fun x => x == OutState.waitRestart), ⟨.blink, .green⟩),
    (used != [] && used.all (fun j => (s.safe.out.get j).st == OutState.armed), ⟨.on, .green⟩)]

/-- R512: for the first 0.3 s of BOOT every lamp is lit in each of its colours. -/
def State.lampTest (s : State) : Bool := s.mode == .boot && decide (s.now < s.power.bootAt + msec 300)

end Sys2Proof.Machine
end

