-- ==== Sys2Proof/WellFormed.lean ====
section
/-! DEFINITION. Well-formed commands: every operand lies in the range its field of the manual has. The block itself never meets another, since
the hardware that brings a command has no bit for it; the meanings are total all the same. -/

namespace Sys2Proof

/-- Every byte of a list is a byte. -/
def bytesOk (l : List Nat) : Bool := l.all (fun b => decide (b < 256))

/-- The operands lie in their ranges. -/
def Instr.wellFormed : Instr → Bool
  | .baseValLoRead _ master base => decide (master < 38) && decide (base < 16)
  | .mainsLock _ m _ _ _ _ => decide (m < 2)
  | .mainsLoss _ m _ => decide (m < 2)
  | .mainsHoldoverTimeout _ m => decide (m < 2)
  | .encoderEdge _ e _ _ _ _ => decide (e < 4)
  | .encoderZEdge _ e _ => decide (e < 4)
  | .encoderStall _ e => decide (e < 4)
  | .encoderSignalLoss _ e => decide (e < 4)
  | .encoderSignalReturn _ e => decide (e < 4)
  | .virtOffHiWrite _ master v value => decide (master < 38) && decide (v < 3) && decide (value < 2 ^ 32)
  | .virtSettingWrite _ master v which value => decide (master < 38) && decide (v < 3) && decide (which < 3) && decide (value < 2 ^ 32)
  | .mainsOffsetWrite _ master m value => decide (master < 38) && decide (m < 2) && decide (value < 2 ^ 32)
  | .sequenceSave _ => true
  | .ageingSweep _ => true
  | .staleMark _ sig => decide (sig < 2 ^ 17)
  | .imageSeqLoRead _ master => decide (master < 38)
  | .probeIdWrite _ master sig _ => decide (master < 38) && decide (sig < 2 ^ 17)
  | .dispatch _ block => decide (block < 16)
  | .inputReadDone _ task => decide (task < 256)
  | .pwait _ block _ word rs1 rs2 _ => decide (block < 16) && decide (word < 2 ^ 32) && decide (rs1 < 2 ^ 64) && decide (rs2 < 2 ^ 64)
  | .pwaitEnd _ task => decide (task < 256)
  | .scommit _ block _ word _ _ => decide (block < 16) && decide (word < 2 ^ 32)
  | .syncAckTimeout _ task => decide (task < 256)
  | .commitComplete _ task => decide (task < 256)
  | .skipEnd _ task => decide (task < 256)
  | .hang _ task _ => decide (task < 256)
  | .byield _ block _ word _ _ => decide (block < 16) && decide (word < 2 ^ 32)
  | .seqread _ block _ rest _ _ => decide (block < 16) && decide (rest < 2 ^ 32)
  | .taskException _ block _ _ _ _ _ => decide (block < 16)
  | .taskRestartWrite _ master value => decide (master < 38) && decide (value < 2 ^ 32)
  | .taskTimingWrite _ master task _ value => decide (master < 38) && decide (task < 256) && decide (value < 2 ^ 32)
  | .coreWatchdogExpiry _ block => decide (block < 16)
  | .blockRestart _ block _ _ _ => decide (block < 16)
  | .taskMoveDone _ task => decide (task < 256)
  | .taskLseqLoRead _ master task => decide (master < 38) && decide (task < 256)
  | .blkEpcLoRead _ master block _ => decide (master < 38) && decide (block < 16)
  | .compareFire _ cell => decide (cell < 4096)
  | .moveFire _ cell => decide (cell < 4096)
  | .fastPinEdge _ pin _ => decide (pin < 64)
  | .captureEdge _ cell _ _ _ => decide (cell < 4096)
  | .windowEdge _ cell _ _ _ => decide (cell < 4096)
  | .windowTimeout _ cell _ => decide (cell < 4096)
  | .pulseEnd _ _ => true
  | .stretchEnd _ cell => decide (cell < 4096)
  | .cellStageWrite _ master cell off value _ => decide (master < 38) && decide (cell < 4096) && decide (off < 32) && decide (value < 2 ^ 32)
  | .cellCtrlWrite _ master cell value _ => decide (master < 38) && decide (cell < 4096) && decide (value < 2 ^ 32)
  | .ruleClrWrite _ master cell value _ => decide (master < 38) && decide (cell < 4096) && decide (value < 2 ^ 32)
  | .selfCheckFail _ cell => decide (cell < 4096)
  | .cellRemap _ cell => decide (cell < 4096)
  | .strandParityError _ strand => decide (strand < 128)
  | .strandRestartDone _ strand => decide (strand < 128)
  | .strandMove _ strand => decide (strand < 128)
  | .kettleRefill _ _ _ _ _ => true
  | .sensorSample _ _ _ _ => true
  | .heatLevelLeave _ r => decide (r < 4)
  | .clockLevelLeave _ r => decide (r < 4)
  | .derateLeave _ => true
  | .regionStopWindowEnd _ r => decide (r < 4)
  | .regionPowerOff _ r => decide (r < 4)
  | .regionPowerOn _ r => decide (r < 4)
  | .rehomeWrite _ master value => decide (master < 38) && decide (value < 2 ^ 32)
  | .quotaWrite _ master _ value => decide (master < 38) && decide (value < 2 ^ 32)
  | .budgetWrite _ master value => decide (master < 38) && decide (value < 2 ^ 32)
  | .poolMeasure _ _ _ => true
  | .poolLimitRise _ => true
  | .periodStart _ ring => decide (ring < 2)
  | .periodGuard _ ring => decide (ring < 2)
  | .inputSegmentRx _ ring _ station _ _ seq _ _ _ _ => decide (ring < 2) && decide (station < 128) && decide (seq < 2 ^ 16)
  | .identRx _ ring _ station _ _ _ _ _ _ => decide (ring < 2) && decide (station < 128)
  | .cycleRx _ ring _ _ _ _ _ _ _ => decide (ring < 2)
  | .moduleFrameReturn _ ring _ _ => decide (ring < 2)
  | .foreignFrameRx _ => true
  | .heartbeatSend _ _ => true
  | .path2HeartbeatRx _ b0 b1 b2 b3 => decide (b0 < 256) && decide (b1 < 256) && decide (b2 < 256) && decide (b3 < 256)
  | .pathLoss _ path => decide (path < 3)
  | .laneDown _ => true
  | .vorvyLinkLoss _ => true
  | .latchRefresh _ => true
  | .claimResult _ _ _ => true
  | .claimReleased _ _ => true
  | .hbRecord _ b0 _ _ _ _ b13 _ => decide (b0 < 256) && decide (b13 < 256)
  | .ackRecord _ _ _ => true
  | .commitRecord _ _ task block _ _ => decide (task < 256) && decide (block < 16)
  | .slotRecord _ _ sig _ => decide (sig < 2 ^ 17)
  | .lineRecord _ _ _ _ => true
  | .grantRecord _ _ mseq => decide (mseq < 2 ^ 32)
  | .ingressRecord _ _ _ _ => true
  | .captureRecord _ _ _ => true
  | .forceRecord _ _ sig _ value port => decide (sig < 2 ^ 17) && decide (value < 2 ^ 64) && decide (port < 4)
  | .taskstRecord _ _ task _ _ _ _ => decide (task < 256)
  | .regwRecord _ _ _ value => decide (value < 2 ^ 32)
  | .cellwRecord _ _ cell off value => decide (cell < 4096) && decide (off < 32) && decide (value < 2 ^ 32)
  | .safetyRecord _ _ _ => true
  | .timeRecord _ _ _ _ _ _ _ => true
  | .stepRecord _ _ _ value _ _ => decide (value < 2 ^ 64)
  | .resignRecord _ _ _ mseq => decide (mseq < 2 ^ 32)
  | .bulkRecord _ _ _ _ => true
  | .structRecord _ _ _ => true
  | .unknownRecord _ type => decide (type < 256)
  | .timeRecordSend _ => true
  | .standbyAckSend _ => true
  | .bumplessSettle _ => true
  | .shadowFault _ pin => decide (pin < 64)
  | .pairCmdResign _ master => decide (master < 38)
  | .resignWindowEnd _ => true
  | .resignRelease _ => true
  | .earlyBreak _ => true
  | .leavingBumplessWaitEnd _ => true
  | .leavingResignWaitEnd _ => true
  | .syncComplete _ => true
  | .fullLoadApply _ => true
  | .changePrepared _ => true
  | .olcCmdCommit _ master => decide (master < 38)
  | .olcCmdAbort _ master => decide (master < 38)
  | .olcCmdRetract _ => true
  | .changeCommit _ => true
  | .holdmaxExpiry _ => true
  | .changeAckTimeout _ => true
  | .transferLapse _ => true
  | .guardedAccess _ master _ kind _ _ value _ _ _ _ => decide (master < 38) && decide (kind < 4) && decide (value < 2 ^ 32)
  | .tagReload _ master _ _ => decide (master < 38)
  | .pageRetireCopy _ page => decide (page < 256)
  | .romGateCall _ block _ => decide (block < 16)
  | .scrubGo _ => true
  | .scrubAbort _ _ => true
  | .scrubDone _ => true
  | .leafLastaddrLoRead _ master => decide (master < 38)
  | .guardLastAddrLoRead _ master => decide (master < 38)
  | .probeAddrHiWrite _ master value => decide (master < 38) && decide (value < 2 ^ 32)
  | .loopSample _ _ _ _ => true
  | .powerCapStep _ => true
  | .probe _ channel => decide (channel < 32)
  | .park _ channel => decide (channel < 32)
  | .unpark _ channel => decide (channel < 32)
  | .parkTimeout _ channel => decide (channel < 32)
  | .trip _ channel => decide (channel < 32)
  | .thermalTrip _ channel => decide (channel < 32)
  | .thermalRetry _ channel => decide (channel < 32)
  | .hartResponse _ channel device _ _ _ => decide (channel < 32) && decide (device < 5)
  | .hartTimeout _ channel device => decide (channel < 32) && decide (device < 5)
  | .frontendWatchdogExpiry _ => true
  | .pinShort _ pin => decide (pin < 64)
  | .pinShortRetry _ pin => decide (pin < 64)
  | .safetyCycle _ _ _ _ _ _ _ _ => true
  | .safetyDiagnostic _ _ => true
  | .safetyWatchdogExpiry _ => true
  | .encoderCrossCheck _ => true
  | .preEnergiseTest _ out _ => decide (out < 4)
  | .testPulse _ out _ _ => decide (out < 4)
  | .outputOvercurrent _ out => decide (out < 4)
  | .safeStatusDelivery _ => true
  | .safeMboxRestart _ master cls port => decide (master < 38) && decide (cls < 4) && decide (port < 4)
  | .safeMboxClear _ master cls port => decide (master < 38) && decide (cls < 4) && decide (port < 4)
  | .safeMboxConfirm _ master cls port => decide (master < 38) && decide (cls < 4) && decide (port < 4)
  | .confirmLockEnd _ => true
  | .canFrameRx _ port _ idw dlc _ data => decide (port < 4) && decide (idw < 2 ^ 32) && decide (dlc < 16) && bytesOk data
  | .ctsReferenceRx _ port _ mseq _ _ _ _ => decide (port < 4) && decide (mseq < 2 ^ 16)
  | .ctsHoldover _ port => decide (port < 4)
  | .ctsReferenceSend _ port => decide (port < 4)
  | .txreqWrite _ block port mask _ _ _ => decide (block < 16) && decide (port < 4) && decide (mask < 2 ^ 32)
  | .txqPush _ block port _ _ _ => decide (block < 16) && decide (port < 4)
  | .txcancelWrite _ master port mask => decide (master < 38) && decide (port < 4) && decide (mask < 2 ^ 32)
  | .txSuccess _ port _ _ => decide (port < 4)
  | .txError _ port err _ => decide (port < 4) && decide (err.lec < 8)
  | .noPartnerPauseEnd _ port => decide (port < 4)
  | .busOff _ port => decide (port < 4)
  | .busOffDelayEnd _ port => decide (port < 4)
  | .recover _ master port => decide (master < 38) && decide (port < 4)
  | .recoveryDone _ port => decide (port < 4)
  | .announceRx _ port _ dom _ => decide (port < 4) && decide (dom < 256)
  | .announceTimeout _ track => decide (track < 4)
  | .syncRx _ port _ dom _ seq _ _ _ _ _ _ => decide (port < 4) && decide (dom < 256) && decide (seq < 2 ^ 16)
  | .syncTimeout _ track => decide (track < 4)
  | .domainHoldoverTimeout _ track => decide (track < 4)
  | .delayReqSend _ track => decide (track < 4)
  | .delayRespRx _ port _ dom _ _ _ _ _ => decide (port < 4) && decide (dom < 256)
  | .pdelayReqRx _ port _ dom seq => decide (port < 4) && decide (dom < 256) && decide (seq < 2 ^ 16)
  | .plantRevert _ => true
  | .plantHoldoverTimeout _ => true
  | .plantSetHiWrite _ master _ => decide (master < 38)
  | .ptpGmidLoRead _ master track => decide (master < 38) && decide (track < 4)
  | .readSig _ port client seq session _ => decide (port < 4) && decide (client < 2 ^ 32) && decide (seq < 2 ^ 32) && decide (session < 2 ^ 32)
  | .readStat _ port client seq session _ => decide (port < 4) && decide (client < 2 ^ 32) && decide (seq < 2 ^ 32) && decide (session < 2 ^ 32)
  | .readRec _ port client seq session _ => decide (port < 4) && decide (client < 2 ^ 32) && decide (seq < 2 ^ 32) && decide (session < 2 ^ 32)
  | .attest _ port client seq session _ => decide (port < 4) && decide (client < 2 ^ 32) && decide (seq < 2 ^ 32) && decide (session < 2 ^ 32)
  | .attestSigned _ => true
  | .readIdkey _ port client seq session _ => decide (port < 4) && decide (client < 2 ^ 32) && decide (seq < 2 ^ 32) && decide (session < 2 ^ 32)
  | .writeSig _ port client seq session _ => decide (port < 4) && decide (client < 2 ^ 32) && decide (seq < 2 ^ 32) && decide (session < 2 ^ 32)
  | .ackAlarm _ port client seq session _ => decide (port < 4) && decide (client < 2 ^ 32) && decide (seq < 2 ^ 32) && decide (session < 2 ^ 32)
  | .safeRestart _ port client seq session _ => decide (port < 4) && decide (client < 2 ^ 32) && decide (seq < 2 ^ 32) && decide (session < 2 ^ 32)
  | .forceSet _ port client seq session _ => decide (port < 4) && decide (client < 2 ^ 32) && decide (seq < 2 ^ 32) && decide (session < 2 ^ 32)
  | .forceClear _ port client seq session _ => decide (port < 4) && decide (client < 2 ^ 32) && decide (seq < 2 ^ 32) && decide (session < 2 ^ 32)
  | .writeRt _ port client seq session _ => decide (port < 4) && decide (client < 2 ^ 32) && decide (seq < 2 ^ 32) && decide (session < 2 ^ 32)
  | .safeClear _ port client seq session _ => decide (port < 4) && decide (client < 2 ^ 32) && decide (seq < 2 ^ 32) && decide (session < 2 ^ 32)
  | .hartPass _ port client seq session _ => decide (port < 4) && decide (client < 2 ^ 32) && decide (seq < 2 ^ 32) && decide (session < 2 ^ 32)
  | .olcOpen _ port client seq session _ => decide (port < 4) && decide (client < 2 ^ 32) && decide (seq < 2 ^ 32) && decide (session < 2 ^ 32)
  | .olcCommit _ port client seq session _ => decide (port < 4) && decide (client < 2 ^ 32) && decide (seq < 2 ^ 32) && decide (session < 2 ^ 32)
  | .olcAbort _ port client seq session _ => decide (port < 4) && decide (client < 2 ^ 32) && decide (seq < 2 ^ 32) && decide (session < 2 ^ 32)
  | .resign _ port client seq session _ => decide (port < 4) && decide (client < 2 ^ 32) && decide (seq < 2 ^ 32) && decide (session < 2 ^ 32)
  | .structOpen _ port client seq session _ => decide (port < 4) && decide (client < 2 ^ 32) && decide (seq < 2 ^ 32) && decide (session < 2 ^ 32)
  | .fwOpen _ port client seq session _ => decide (port < 4) && decide (client < 2 ^ 32) && decide (seq < 2 ^ 32) && decide (session < 2 ^ 32)
  | .keyOpen _ port client seq session _ => decide (port < 4) && decide (client < 2 ^ 32) && decide (seq < 2 ^ 32) && decide (session < 2 ^ 32)
  | .xfer _ port client seq session _ => decide (port < 4) && decide (client < 2 ^ 32) && decide (seq < 2 ^ 32) && decide (session < 2 ^ 32)
  | .xferEnd _ port client seq session _ _ _ => decide (port < 4) && decide (client < 2 ^ 32) && decide (seq < 2 ^ 32) && decide (session < 2 ^ 32)
  | .regwin _ port client seq session _ => decide (port < 4) && decide (client < 2 ^ 32) && decide (seq < 2 ^ 32) && decide (session < 2 ^ 32)
  | .safeConfirm _ port client seq session _ => decide (port < 4) && decide (client < 2 ^ 32) && decide (seq < 2 ^ 32) && decide (session < 2 ^ 32)
  | .keyRemove _ port client seq session _ => decide (port < 4) && decide (client < 2 ^ 32) && decide (seq < 2 ^ 32) && decide (session < 2 ^ 32)
  | .recClear _ port client seq session _ => decide (port < 4) && decide (client < 2 ^ 32) && decide (seq < 2 ^ 32) && decide (session < 2 ^ 32)
  | .retireClear _ port client seq session _ => decide (port < 4) && decide (client < 2 ^ 32) && decide (seq < 2 ^ 32) && decide (session < 2 ^ 32)
  | .modeRun _ port client seq session _ => decide (port < 4) && decide (client < 2 ^ 32) && decide (seq < 2 ^ 32) && decide (session < 2 ^ 32)
  | .modeHold _ port client seq session _ => decide (port < 4) && decide (client < 2 ^ 32) && decide (seq < 2 ^ 32) && decide (session < 2 ^ 32)
  | .modeService _ port client seq session _ => decide (port < 4) && decide (client < 2 ^ 32) && decide (seq < 2 ^ 32) && decide (session < 2 ^ 32)
  | .modeHalt _ port client seq session _ => decide (port < 4) && decide (client < 2 ^ 32) && decide (seq < 2 ^ 32) && decide (session < 2 ^ 32)
  | .modeReset _ port client seq session _ => decide (port < 4) && decide (client < 2 ^ 32) && decide (seq < 2 ^ 32) && decide (session < 2 ^ 32)
  | .debug _ port client seq session _ => decide (port < 4) && decide (client < 2 ^ 32) && decide (seq < 2 ^ 32) && decide (session < 2 ^ 32)
  | .keySwitchChange _ position => decide (position < 3)
  | .sessionLapse _ => true
  | .arpRequest _ port _ => decide (port < 4)
  | .icmpEcho _ port _ data => decide (port < 4) && bytesOk data
  | .updStart _ master => decide (master < 38)
  | .updAbandon _ master => decide (master < 38)
  | .trialConfirm _ => true
  | .trialWindowEnd _ => true
  | .migrationFail _ => true
  | .flush _ master => decide (master < 38)
  | .flushDone _ _ => true
  | .cursorWrite _ master value => decide (master < 38) && decide (value < 2 ^ 32)
  | .win7Read _ master => decide (master < 38)
  | .optimeLoRead _ master => decide (master < 38)
  | .lifeSelectWrite _ master which value => decide (master < 38) && decide (which < 3) && decide (value < 2 ^ 32)
  | .lifetimeSave _ _ => true
  | .rcRead _ master _ _ _ => decide (master < 38)
  | .registerWrite _ master _ _ value _ => decide (master < 38) && decide (value < 2 ^ 32)
  | .powerUp _ => true
  | .bootEnd _ => true
  | .holdupCharged _ _ => true
  | .moduleReset _ _ => true
  | .moduleWatchdogExpiry _ _ => true
  | .carrierReset _ => true
  | .haltSelfReset _ => true
  | .powerFailWarning _ => true
  | .supplyReturn _ => true
  | .holdupExhausted _ => true
  | .hotswapTrip _ _ value => decide (value < 2 ^ 16)
  | .hotswapReclose _ _ => true
  | .earlyMake _ => true
  | .reinserted _ => true
  | .simRemoved _ => true
  | .simInserted _ => true
  | .absentUnitAccess _ master _ _ => decide (master < 38)
  | .taskFloorElapsed _ task => decide (task < 256)
  | .blockRestartDone _ block => decide (block < 16)
  | .phasewinChange _ cell => decide (cell < 4096)
  | .inputFilterElapsed _ pin => decide (pin < 64)
  | .periodEarlyGuard _ ring => decide (ring < 2)
  | .ringFrameInvalid _ port _ _ => decide (port < 4)
  | .stationPortLinkDown _ port => decide (port < 4)
  | .stationPortLinkUp _ port => decide (port < 4)
  | .vorvyLinkReturn _ => true
  | .streamLag _ => true
  | .frontendRestartDone _ => true
  | .hartBurstRx _ channel => decide (channel < 32)
  | .acOvervoltage _ m _ => decide (m < 2)
  | .safetySelftestDone _ => true
  | .canRxError _ port lec _ => decide (port < 4) && decide (lec < 8)
  | .followUpRx _ port _ dom _ seq _ _ _ => decide (port < 4) && decide (dom < 256) && decide (seq < 2 ^ 16)
  | .portLinkDown _ port => decide (port < 4)
  | .portLinkUp _ port => decide (port < 4)
  | .commandFrameError _ port => decide (port < 4)
  | .unknownOp _ port client seq session op _ => decide (port < 4) && decide (client < 2 ^ 32) && decide (seq < 2 ^ 32) && decide (session < 2 ^ 32) && decide (op < 2 ^ 16)
  | .foreignTraffic _ port => decide (port < 4)
  | .cellRegistration _ reg rat rsrp _ => decide (reg < 4) && decide (rat < 2) && decide (rsrp < 256)
  | .histogramSample _ _ _ _ _ _ => true

end Sys2Proof
end

