-- ==== Sys2Proof/Tests/Slice0.lean ====
section
/-! SUPPORT. Tests: an ill-formed command for every check of WellFormed, single steps against the manual's own figures, and for every statement
of the certificates the states and operands that meet the premises of each of its clauses. -/

open Sys2Proof Sys2Proof.Machine

namespace Sys2Proof.Tests

set_option Elab.async false
set_option linter.unusedVariables false

/-! ### Well-formedness -/

/-- Each command has one operand just outside its range. -/
theorem test_ill_formed_1 : ([.baseValLoRead 0 38 0, .baseValLoRead 0 0 16, .mainsLock 0 2 0 0 0 0, .mainsLoss 0 2 false, .mainsHoldoverTimeout 0 2,
     .encoderEdge 0 4 false false false false, .encoderZEdge 0 4 false, .encoderStall 0 4, .encoderSignalLoss 0 4,
     .encoderSignalReturn 0 4, .virtOffHiWrite 0 38 0 0, .virtOffHiWrite 0 0 3 0, .virtOffHiWrite 0 0 0 (2 ^ 32),
     .virtSettingWrite 0 38 0 0 0, .virtSettingWrite 0 0 3 0 0, .virtSettingWrite 0 0 0 3 0, .virtSettingWrite 0 0 0 0 (2 ^ 32),
     .mainsOffsetWrite 0 38 0 0, .mainsOffsetWrite 0 0 2 0, .mainsOffsetWrite 0 0 0 (2 ^ 32)] : List Instr).all (fun i => !i.wellFormed) = true := by decide +kernel

/-- Each command has one operand just outside its range. -/
theorem test_ill_formed_2 : ([.staleMark 0 (2 ^ 17), .imageSeqLoRead 0 38, .probeIdWrite 0 38 0 false, .probeIdWrite 0 0 (2 ^ 17) false, .dispatch 0 16,
     .inputReadDone 0 256, .pwait 0 16 0 0 0 0 0, .pwait 0 0 0 (2 ^ 32) 0 0 0, .pwait 0 0 0 0 (2 ^ 64) 0 0, .pwait 0 0 0 0 0 (2 ^ 64) 0,
     .pwaitEnd 0 256, .scommit 0 16 0 0 0 0, .scommit 0 0 0 (2 ^ 32) 0 0, .syncAckTimeout 0 256, .commitComplete 0 256, .skipEnd 0 256,
     .hang 0 256 0, .byield 0 16 0 0 0 0, .byield 0 0 0 (2 ^ 32) 0 0, .seqread 0 16 0 0 0 0] : List Instr).all (fun i => !i.wellFormed) = true := by decide +kernel

/-- Each command has one operand just outside its range. -/
theorem test_ill_formed_3 : ([.seqread 0 0 0 (2 ^ 32) 0 0, .taskException 0 16 0 0 0 0 0, .taskRestartWrite 0 38 0, .taskRestartWrite 0 0 (2 ^ 32),
     .taskTimingWrite 0 38 0 false 0, .taskTimingWrite 0 0 256 false 0, .taskTimingWrite 0 0 0 false (2 ^ 32), .coreWatchdogExpiry 0 16,
     .blockRestart 0 16 0 0 0, .taskMoveDone 0 256, .taskLseqLoRead 0 38 0, .taskLseqLoRead 0 0 256, .blkEpcLoRead 0 38 0 false,
     .blkEpcLoRead 0 0 16 false, .compareFire 0 4096, .moveFire 0 4096, .fastPinEdge 0 64 false, .captureEdge 0 4096 0 false false,
     .windowEdge 0 4096 0 false false, .windowTimeout 0 4096 false] : List Instr).all (fun i => !i.wellFormed) = true := by decide +kernel

/-- Each command has one operand just outside its range. -/
theorem test_ill_formed_4 : ([.stretchEnd 0 4096, .cellStageWrite 0 38 0 0 0 0, .cellStageWrite 0 0 4096 0 0 0, .cellStageWrite 0 0 0 32 0 0,
     .cellStageWrite 0 0 0 0 (2 ^ 32) 0, .cellCtrlWrite 0 38 0 0 0, .cellCtrlWrite 0 0 4096 0 0, .cellCtrlWrite 0 0 0 (2 ^ 32) 0,
     .ruleClrWrite 0 38 0 0 0, .ruleClrWrite 0 0 4096 0 0, .ruleClrWrite 0 0 0 (2 ^ 32) 0, .selfCheckFail 0 4096, .cellRemap 0 4096,
     .strandParityError 0 128, .strandRestartDone 0 128, .strandMove 0 128, .heatLevelLeave 0 4, .clockLevelLeave 0 4,
     .regionStopWindowEnd 0 4, .regionPowerOff 0 4] : List Instr).all (fun i => !i.wellFormed) = true := by decide +kernel

/-- Each command has one operand just outside its range. -/
theorem test_ill_formed_5 : ([.regionPowerOn 0 4, .rehomeWrite 0 38 0, .rehomeWrite 0 0 (2 ^ 32), .quotaWrite 0 38 0 0, .quotaWrite 0 0 0 (2 ^ 32),
     .budgetWrite 0 38 0, .budgetWrite 0 0 (2 ^ 32), .periodStart 0 2, .periodGuard 0 2, .inputSegmentRx 0 2 false 0 0 0 0 0 0 0 [],
     .inputSegmentRx 0 0 false 128 0 0 0 0 0 0 [], .inputSegmentRx 0 0 false 0 0 0 (2 ^ 16) 0 0 0 [], .identRx 0 2 false 0 0 0 0 0 0 0,
     .identRx 0 0 false 128 0 0 0 0 0 0, .cycleRx 0 2 false 0 0 0 0 0 0, .moduleFrameReturn 0 2 0 false, .path2HeartbeatRx 0 256 0 0 0,
     .path2HeartbeatRx 0 0 256 0 0, .path2HeartbeatRx 0 0 0 256 0, .path2HeartbeatRx 0 0 0 0 256] : List Instr).all (fun i => !i.wellFormed) = true := by decide +kernel

/-- Each command has one operand just outside its range. -/
theorem test_ill_formed_6 : ([.pathLoss 0 3, .hbRecord 0 256 0 0 0 0 0 none, .hbRecord 0 0 0 0 0 0 256 none, .commitRecord 0 default 256 0 0 0,
     .commitRecord 0 default 0 16 0 0, .slotRecord 0 default (2 ^ 17) default, .grantRecord 0 default (2 ^ 32),
     .forceRecord 0 default (2 ^ 17) false 0 0, .forceRecord 0 default 0 false (2 ^ 64) 0, .forceRecord 0 default 0 false 0 4,
     .taskstRecord 0 default 256 0 0 0 0, .regwRecord 0 default 0 (2 ^ 32), .cellwRecord 0 default 4096 0 0, .cellwRecord 0 default 0 32 0,
     .cellwRecord 0 default 0 0 (2 ^ 32), .stepRecord 0 default 0 (2 ^ 64) 0 0, .resignRecord 0 default 0 (2 ^ 32), .unknownRecord 0 256,
     .shadowFault 0 64, .pairCmdResign 0 38] : List Instr).all (fun i => !i.wellFormed) = true := by decide +kernel

/-- Each command has one operand just outside its range. -/
theorem test_ill_formed_7 : ([.olcCmdCommit 0 38, .olcCmdAbort 0 38, .guardedAccess 0 38 0 0 0 0 0 0 0 0 0, .guardedAccess 0 0 0 4 0 0 0 0 0 0 0,
     .guardedAccess 0 0 0 0 0 0 (2 ^ 32) 0 0 0 0, .tagReload 0 38 0 false, .pageRetireCopy 0 256, .romGateCall 0 16 false,
     .leafLastaddrLoRead 0 38, .guardLastAddrLoRead 0 38, .probeAddrHiWrite 0 38 0, .probeAddrHiWrite 0 0 (2 ^ 32), .probe 0 32,
     .park 0 32, .unpark 0 32, .parkTimeout 0 32, .trip 0 32, .thermalTrip 0 32, .thermalRetry 0 32, .hartResponse 0 32 0 0 0 []] : List Instr).all (fun i => !i.wellFormed) = true := by decide +kernel

/-- Each command has one operand just outside its range. -/
theorem test_ill_formed_8 : ([.hartResponse 0 0 5 0 0 [], .hartTimeout 0 32 0, .hartTimeout 0 0 5, .pinShort 0 64, .pinShortRetry 0 64, .preEnergiseTest 0 4 false,
     .testPulse 0 4 false false, .outputOvercurrent 0 4, .safeMboxRestart 0 38 0 0, .safeMboxRestart 0 0 4 0, .safeMboxRestart 0 0 0 4,
     .safeMboxClear 0 38 0 0, .safeMboxClear 0 0 4 0, .safeMboxClear 0 0 0 4, .safeMboxConfirm 0 38 0 0, .safeMboxConfirm 0 0 4 0,
     .safeMboxConfirm 0 0 0 4, .canFrameRx 0 4 0 0 0 false [], .canFrameRx 0 0 0 (2 ^ 32) 0 false [], .canFrameRx 0 0 0 0 16 false []] : List Instr).all (fun i => !i.wellFormed) = true := by decide +kernel

/-- Each command has one operand just outside its range. -/
theorem test_ill_formed_9 : ([.canFrameRx 0 0 0 0 0 false [256], .ctsReferenceRx 0 4 0 0 0 0 0 0, .ctsReferenceRx 0 0 0 (2 ^ 16) 0 0 0 0, .ctsHoldover 0 4,
     .ctsReferenceSend 0 4, .txreqWrite 0 16 0 0 0 0 [], .txreqWrite 0 0 4 0 0 0 [], .txreqWrite 0 0 0 (2 ^ 32) 0 0 [],
     .txqPush 0 16 0 0 0 none, .txqPush 0 0 4 0 0 none, .txcancelWrite 0 38 0 0, .txcancelWrite 0 0 4 0, .txcancelWrite 0 0 0 (2 ^ 32),
     .txSuccess 0 4 0 0, .txError 0 4 default false, .txError 0 0 ⟨8, none⟩ false, .noPartnerPauseEnd 0 4, .busOff 0 4,
     .busOffDelayEnd 0 4, .recover 0 38 0] : List Instr).all (fun i => !i.wellFormed) = true := by decide +kernel

/-- Each command has one operand just outside its range. -/
theorem test_ill_formed_10 : ([.recover 0 0 4, .recoveryDone 0 4, .announceRx 0 4 0 0 default, .announceRx 0 0 0 256 default, .announceTimeout 0 4,
     .syncRx 0 4 0 0 0 0 0 false 0 0 0 0, .syncRx 0 0 0 256 0 0 0 false 0 0 0 0, .syncRx 0 0 0 0 0 (2 ^ 16) 0 false 0 0 0 0,
     .syncTimeout 0 4, .domainHoldoverTimeout 0 4, .delayReqSend 0 4, .delayRespRx 0 4 0 0 0 0 0 0 0, .delayRespRx 0 0 0 256 0 0 0 0 0,
     .pdelayReqRx 0 4 0 0 0, .pdelayReqRx 0 0 0 256 0, .pdelayReqRx 0 0 0 0 (2 ^ 16), .plantSetHiWrite 0 38 0, .ptpGmidLoRead 0 38 0,
     .ptpGmidLoRead 0 0 4, .readSig 0 4 0 0 0 []] : List Instr).all (fun i => !i.wellFormed) = true := by decide +kernel

/-- Each command has one operand just outside its range. -/
theorem test_ill_formed_11 : ([.readSig 0 0 (2 ^ 32) 0 0 [], .readSig 0 0 0 (2 ^ 32) 0 [], .readSig 0 0 0 0 (2 ^ 32) [], .readStat 0 4 0 0 0 [],
     .readStat 0 0 (2 ^ 32) 0 0 [], .readStat 0 0 0 (2 ^ 32) 0 [], .readStat 0 0 0 0 (2 ^ 32) [], .readRec 0 4 0 0 0 [],
     .readRec 0 0 (2 ^ 32) 0 0 [], .readRec 0 0 0 (2 ^ 32) 0 [], .readRec 0 0 0 0 (2 ^ 32) [], .attest 0 4 0 0 0 [],
     .attest 0 0 (2 ^ 32) 0 0 [], .attest 0 0 0 (2 ^ 32) 0 [], .attest 0 0 0 0 (2 ^ 32) [], .readIdkey 0 4 0 0 0 [],
     .readIdkey 0 0 (2 ^ 32) 0 0 [], .readIdkey 0 0 0 (2 ^ 32) 0 [], .readIdkey 0 0 0 0 (2 ^ 32) [], .writeSig 0 4 0 0 0 []] : List Instr).all (fun i => !i.wellFormed) = true := by decide +kernel

/-- Each command has one operand just outside its range. -/
theorem test_ill_formed_12 : ([.writeSig 0 0 (2 ^ 32) 0 0 [], .writeSig 0 0 0 (2 ^ 32) 0 [], .writeSig 0 0 0 0 (2 ^ 32) [], .ackAlarm 0 4 0 0 0 [],
     .ackAlarm 0 0 (2 ^ 32) 0 0 [], .ackAlarm 0 0 0 (2 ^ 32) 0 [], .ackAlarm 0 0 0 0 (2 ^ 32) [], .safeRestart 0 4 0 0 0 [],
     .safeRestart 0 0 (2 ^ 32) 0 0 [], .safeRestart 0 0 0 (2 ^ 32) 0 [], .safeRestart 0 0 0 0 (2 ^ 32) [], .forceSet 0 4 0 0 0 [],
     .forceSet 0 0 (2 ^ 32) 0 0 [], .forceSet 0 0 0 (2 ^ 32) 0 [], .forceSet 0 0 0 0 (2 ^ 32) [], .forceClear 0 4 0 0 0 [],
     .forceClear 0 0 (2 ^ 32) 0 0 [], .forceClear 0 0 0 (2 ^ 32) 0 [], .forceClear 0 0 0 0 (2 ^ 32) [], .writeRt 0 4 0 0 0 []] : List Instr).all (fun i => !i.wellFormed) = true := by decide +kernel

/-- Each command has one operand just outside its range. -/
theorem test_ill_formed_13 : ([.writeRt 0 0 (2 ^ 32) 0 0 [], .writeRt 0 0 0 (2 ^ 32) 0 [], .writeRt 0 0 0 0 (2 ^ 32) [], .safeClear 0 4 0 0 0 [],
     .safeClear 0 0 (2 ^ 32) 0 0 [], .safeClear 0 0 0 (2 ^ 32) 0 [], .safeClear 0 0 0 0 (2 ^ 32) [], .hartPass 0 4 0 0 0 [],
     .hartPass 0 0 (2 ^ 32) 0 0 [], .hartPass 0 0 0 (2 ^ 32) 0 [], .hartPass 0 0 0 0 (2 ^ 32) [], .olcOpen 0 4 0 0 0 [],
     .olcOpen 0 0 (2 ^ 32) 0 0 [], .olcOpen 0 0 0 (2 ^ 32) 0 [], .olcOpen 0 0 0 0 (2 ^ 32) [], .olcCommit 0 4 0 0 0 [],
     .olcCommit 0 0 (2 ^ 32) 0 0 [], .olcCommit 0 0 0 (2 ^ 32) 0 [], .olcCommit 0 0 0 0 (2 ^ 32) [], .olcAbort 0 4 0 0 0 []] : List Instr).all (fun i => !i.wellFormed) = true := by decide +kernel

/-- Each command has one operand just outside its range. -/
theorem test_ill_formed_14 : ([.olcAbort 0 0 (2 ^ 32) 0 0 [], .olcAbort 0 0 0 (2 ^ 32) 0 [], .olcAbort 0 0 0 0 (2 ^ 32) [], .resign 0 4 0 0 0 [],
     .resign 0 0 (2 ^ 32) 0 0 [], .resign 0 0 0 (2 ^ 32) 0 [], .resign 0 0 0 0 (2 ^ 32) [], .structOpen 0 4 0 0 0 [],
     .structOpen 0 0 (2 ^ 32) 0 0 [], .structOpen 0 0 0 (2 ^ 32) 0 [], .structOpen 0 0 0 0 (2 ^ 32) [], .fwOpen 0 4 0 0 0 [],
     .fwOpen 0 0 (2 ^ 32) 0 0 [], .fwOpen 0 0 0 (2 ^ 32) 0 [], .fwOpen 0 0 0 0 (2 ^ 32) [], .keyOpen 0 4 0 0 0 [],
     .keyOpen 0 0 (2 ^ 32) 0 0 [], .keyOpen 0 0 0 (2 ^ 32) 0 [], .keyOpen 0 0 0 0 (2 ^ 32) [], .xfer 0 4 0 0 0 []] : List Instr).all (fun i => !i.wellFormed) = true := by decide +kernel

/-- Each command has one operand just outside its range. -/
theorem test_ill_formed_15 : ([.xfer 0 0 (2 ^ 32) 0 0 [], .xfer 0 0 0 (2 ^ 32) 0 [], .xfer 0 0 0 0 (2 ^ 32) [], .xferEnd 0 4 0 0 0 [] default none,
     .xferEnd 0 0 (2 ^ 32) 0 0 [] default none, .xferEnd 0 0 0 (2 ^ 32) 0 [] default none, .xferEnd 0 0 0 0 (2 ^ 32) [] default none,
     .regwin 0 4 0 0 0 [], .regwin 0 0 (2 ^ 32) 0 0 [], .regwin 0 0 0 (2 ^ 32) 0 [], .regwin 0 0 0 0 (2 ^ 32) [],
     .safeConfirm 0 4 0 0 0 [], .safeConfirm 0 0 (2 ^ 32) 0 0 [], .safeConfirm 0 0 0 (2 ^ 32) 0 [], .safeConfirm 0 0 0 0 (2 ^ 32) [],
     .keyRemove 0 4 0 0 0 [], .keyRemove 0 0 (2 ^ 32) 0 0 [], .keyRemove 0 0 0 (2 ^ 32) 0 [], .keyRemove 0 0 0 0 (2 ^ 32) [],
     .recClear 0 4 0 0 0 []] : List Instr).all (fun i => !i.wellFormed) = true := by decide +kernel

/-- Each command has one operand just outside its range. -/
theorem test_ill_formed_16 : ([.recClear 0 0 (2 ^ 32) 0 0 [], .recClear 0 0 0 (2 ^ 32) 0 [], .recClear 0 0 0 0 (2 ^ 32) [], .retireClear 0 4 0 0 0 [],
     .retireClear 0 0 (2 ^ 32) 0 0 [], .retireClear 0 0 0 (2 ^ 32) 0 [], .retireClear 0 0 0 0 (2 ^ 32) [], .modeRun 0 4 0 0 0 [],
     .modeRun 0 0 (2 ^ 32) 0 0 [], .modeRun 0 0 0 (2 ^ 32) 0 [], .modeRun 0 0 0 0 (2 ^ 32) [], .modeHold 0 4 0 0 0 [],
     .modeHold 0 0 (2 ^ 32) 0 0 [], .modeHold 0 0 0 (2 ^ 32) 0 [], .modeHold 0 0 0 0 (2 ^ 32) [], .modeService 0 4 0 0 0 [],
     .modeService 0 0 (2 ^ 32) 0 0 [], .modeService 0 0 0 (2 ^ 32) 0 [], .modeService 0 0 0 0 (2 ^ 32) [], .modeHalt 0 4 0 0 0 []] : List Instr).all (fun i => !i.wellFormed) = true := by decide +kernel

/-- Each command has one operand just outside its range. -/
theorem test_ill_formed_17 : ([.modeHalt 0 0 (2 ^ 32) 0 0 [], .modeHalt 0 0 0 (2 ^ 32) 0 [], .modeHalt 0 0 0 0 (2 ^ 32) [], .modeReset 0 4 0 0 0 [],
     .modeReset 0 0 (2 ^ 32) 0 0 [], .modeReset 0 0 0 (2 ^ 32) 0 [], .modeReset 0 0 0 0 (2 ^ 32) [], .debug 0 4 0 0 0 [],
     .debug 0 0 (2 ^ 32) 0 0 [], .debug 0 0 0 (2 ^ 32) 0 [], .debug 0 0 0 0 (2 ^ 32) [], .keySwitchChange 0 3, .arpRequest 0 4 0,
     .icmpEcho 0 4 0 [], .icmpEcho 0 0 0 [256], .updStart 0 38, .updAbandon 0 38, .flush 0 38, .cursorWrite 0 38 0,
     .cursorWrite 0 0 (2 ^ 32)] : List Instr).all (fun i => !i.wellFormed) = true := by decide +kernel

/-- Each command has one operand just outside its range. -/
theorem test_ill_formed_18 : ([.win7Read 0 38, .optimeLoRead 0 38, .lifeSelectWrite 0 38 0 0, .lifeSelectWrite 0 0 3 0, .lifeSelectWrite 0 0 0 (2 ^ 32),
     .rcRead 0 38 0 0 0, .registerWrite 0 38 0 0 0 0, .registerWrite 0 0 0 0 (2 ^ 32) 0, .hotswapTrip 0 0 (2 ^ 16),
     .absentUnitAccess 0 38 0 false, .taskFloorElapsed 0 256, .blockRestartDone 0 16, .phasewinChange 0 4096, .inputFilterElapsed 0 64,
     .periodEarlyGuard 0 2, .ringFrameInvalid 0 4 false 0, .stationPortLinkDown 0 4, .stationPortLinkUp 0 4, .hartBurstRx 0 32,
     .acOvervoltage 0 2 false] : List Instr).all (fun i => !i.wellFormed) = true := by decide +kernel

/-- Each command has one operand just outside its range. -/
theorem test_ill_formed_19 : ([.canRxError 0 4 0 false, .canRxError 0 0 8 false, .followUpRx 0 4 0 0 0 0 0 0 0, .followUpRx 0 0 0 256 0 0 0 0 0,
     .followUpRx 0 0 0 0 0 (2 ^ 16) 0 0 0, .portLinkDown 0 4, .portLinkUp 0 4, .commandFrameError 0 4, .unknownOp 0 4 0 0 0 0 0,
     .unknownOp 0 0 (2 ^ 32) 0 0 0 0, .unknownOp 0 0 0 (2 ^ 32) 0 0 0, .unknownOp 0 0 0 0 (2 ^ 32) 0 0, .unknownOp 0 0 0 0 0 (2 ^ 16) 0,
     .foreignTraffic 0 4, .cellRegistration 0 4 0 0 false, .cellRegistration 0 0 2 0 false, .cellRegistration 0 0 0 256 false] : List Instr).all (fun i => !i.wellFormed) = true := by decide +kernel

/-- One operand of each kind at the top of its range. -/
theorem test_well_formed_1 : ([.baseValLoRead 0 (38 - 1) 0, .baseValLoRead 0 0 (16 - 1), .mainsLock 0 (2 - 1) 0 0 0 0, .encoderEdge 0 (4 - 1) false false false false,
     .virtOffHiWrite 0 0 (3 - 1) 0, .virtOffHiWrite 0 0 0 (2 ^ 32 - 1), .virtSettingWrite 0 0 0 (3 - 1) 0, .staleMark 0 (2 ^ 17 - 1),
     .dispatch 0 (16 - 1), .inputReadDone 0 (256 - 1), .pwait 0 0 0 (2 ^ 32 - 1) 0 0 0, .pwait 0 0 0 0 (2 ^ 64 - 1) 0 0,
     .pwait 0 0 0 0 0 (2 ^ 64 - 1) 0, .seqread 0 0 0 (2 ^ 32 - 1) 0 0, .compareFire 0 (4096 - 1), .fastPinEdge 0 (64 - 1) false,
     .cellStageWrite 0 0 0 (32 - 1) 0 0, .strandParityError 0 (128 - 1), .heatLevelLeave 0 (4 - 1), .periodStart 0 (2 - 1)] : List Instr).all (fun i => i.wellFormed) = true := by decide +kernel

/-- One operand of each kind at the top of its range. -/
theorem test_well_formed_2 : ([.inputSegmentRx 0 0 false (128 - 1) 0 0 0 0 0 0 [], .inputSegmentRx 0 0 false 0 0 0 (2 ^ 16 - 1) 0 0 0 [],
     .path2HeartbeatRx 0 (256 - 1) 0 0 0, .path2HeartbeatRx 0 0 (256 - 1) 0 0, .path2HeartbeatRx 0 0 0 (256 - 1) 0,
     .path2HeartbeatRx 0 0 0 0 (256 - 1), .pathLoss 0 (3 - 1), .hbRecord 0 0 0 0 0 0 (256 - 1) none, .grantRecord 0 default (2 ^ 32 - 1),
     .forceRecord 0 default 0 false (2 ^ 64 - 1) 0, .forceRecord 0 default 0 false 0 (4 - 1), .unknownRecord 0 (256 - 1),
     .guardedAccess 0 0 0 (4 - 1) 0 0 0 0 0 0 0, .pageRetireCopy 0 (256 - 1), .probe 0 (32 - 1), .hartResponse 0 0 (5 - 1) 0 0 [],
     .preEnergiseTest 0 (4 - 1) false, .safeMboxRestart 0 0 (4 - 1) 0, .canFrameRx 0 0 0 (2 ^ 32 - 1) 0 false [],
     .canFrameRx 0 0 0 0 (16 - 1) false []] : List Instr).all (fun i => i.wellFormed) = true := by decide +kernel

/-- One operand of each kind at the top of its range. -/
theorem test_well_formed_3 : ([.canFrameRx 0 0 0 0 0 false [255], .ctsReferenceRx 0 0 0 (2 ^ 16 - 1) 0 0 0 0, .txreqWrite 0 0 0 (2 ^ 32 - 1) 0 0 [],
     .txError 0 0 ⟨7, none⟩ false, .announceRx 0 0 0 (256 - 1) default, .announceTimeout 0 (4 - 1), .readSig 0 0 (2 ^ 32 - 1) 0 0 [],
     .readSig 0 0 0 (2 ^ 32 - 1) 0 [], .readSig 0 0 0 0 (2 ^ 32 - 1) [], .keySwitchChange 0 (3 - 1), .hotswapTrip 0 0 (2 ^ 16 - 1),
     .canRxError 0 0 (8 - 1) false, .unknownOp 0 0 0 0 0 (2 ^ 16 - 1) 0, .cellRegistration 0 (4 - 1) 0 0 false,
     .cellRegistration 0 0 (2 - 1) 0 false, .cellRegistration 0 0 0 (256 - 1) false] : List Instr).all (fun i => i.wellFormed) = true := by decide +kernel

/-! ### States -/

/-- A state with some register fields changed. -/
def wSet (s : State) (l : List (Fld × Nat × Nat)) : State := l.foldl (fun s x => s.setReg x.1 x.2.1 x.2.2) s

/-- The unit after reset in a mode of its own. -/
def wMode (m : Mode) : State := { State.reset with mode := m }

/-- An ACTIVE unit with the line. -/
def wAct : State := wSet (wMode .active) [(PAIR.STAT.AUTH, 0, 1)]

/-- A directory entry: INT32, owned by source 0x4001, stale after 5 ms. -/
def wEnt : DirEntry := { (default : DirEntry) with type := 1, owner := 0x4001, staleMs := 5 }

/-- An ACTIVE unit with one signal, 7. -/
def wImg : State := { wAct with img := { wAct.img with dir := [(7, some wEnt)] } }

/-- The same with a force on it. -/
def wForced : State := { wImg with img := { wImg.img with forces := [(7, some default)] } }

/-- A base in some state. -/
def wBase (n st : Nat) : State := wSet wAct [(PHASE.BASEn_STATUS.STATE, n, st)]

/-- A base that has locked once. -/
def wLocked (n st : Nat) : State :=
  let s := wBase n st
  { s with phase := { s.phase with base := [(n, { (default : BaseSt) with lockedOnce := true })] } }

/-- Encoder 1 with 1,000 counts per turn and a Z mode. -/
def wEnc (z : Nat) : State := wSet wAct [(PHASE.ENCe_CFG.CPT, 1, 1000), (PHASE.ENCe_CFG.ZMODE, 1, z), (PHASE.ENCe_CFG.SLIP, 1, 100)]

/-- Task 5, CYCLIC, on block 2, in some state and phase. -/
def wTask (st : Nat) (d : TaskDyn) : State :=
  let s := wSet wAct [(TASK.TASKt_CFG.KIND, 5, 1), (TASK.TASKt_STATE.CURBLK, 5, 2), (TASK.TASKt_STATE.STATE, 5, st),
    (KETTLE.BLKb_ACCT.ACCT, 2, 1000), (KETTLE.BLKb_QUOTA.QUOTA, 2, 1000)]
  { s with tasks := { s.tasks with task := [(5, d)] } }

/-- The same with the task on the core of its block. -/
def wCore (ph : CyclePhase) : State :=
  wSet (wTask TaskState.running { (default : TaskDyn) with phase := ph })
    [(BLK.STATUS.CURVALID, 2, 1), (BLK.STATUS.CURTASK, 2, 5), (BLK.STATUS.STATE, 2, BlockState.run)]

/-- A STANDBY partner that is heard over the link. -/
def wPartner (s : State) : State :=
  let s := wSet s [(PAIR.PARTNER.VALID, 0, 1), (PAIR.PARTNER.MODE, 0, Mode.standby.code)]
  { s with pair := { s.pair with linkUp := true } }

/-- A mirrored commit of task 5 finds the ASYNC share full. -/
def wFull : State :=
  let c := wTask TaskState.running { (default : TaskDyn) with phase := .committing, written := [7] }
  let s := wPartner { c with tasks := { c.tasks with cfg := [(5, { (default : TaskCfg) with mirrored := true })] } }
  s.updPair (fun p => { p with mq := [⟨1, Share.async.size, .async, 0, none⟩] })

/-- Cell 9 on base 0 in some mode, armed, with some state of its own. -/
def wCell (m : Nat) (d : CellDyn) (l : List (Fld × Nat × Nat)) : State :=
  let s := wSet (wSet wAct [(CELL.CELLc_CTRL.MODE, 9, m), (CELL.CELLc_CTRL.ARM, 9, 1)]) l
  { s with cells := { s.cells with cell := [(9, d)] } }

/-- The core of block 2 runs task 5, which owns cell 9. -/
def wOwner : State :=
  let s := wSet (wCore .running) [(CELL.CELLc_STAT.RTW, 9, 1)]
  { s with cells := { s.cells with cfg := [(9, { (default : CellCfg) with owner := some 5 })] } }

/-- Some instants of the Kettle. -/
def wKettle (l : List (Fld × Nat × Nat)) (k : KettleSt) : State := { wSet wAct l with kettle := k }

/-- Ring 1 enabled, with a station 3 of one input and no output. -/
def wRing (d : RingDyn) (l : List (Fld × Nat × Nat)) : State :=
  let s := wSet (wSet wAct [(STN.RINGr_CFG.EN, 1, 1), (STN.RINGr_STAa_CFG.PRESENT, 131, 1), (STN.RINGr_PLEN_LO.PLEN, 1, 1000000)]) l
  { s with rings := { s.rings with ring := [(1, d)], cfg := [(131, { (default : StationCfg) with inputs := [1] })] } }

/-- A STANDBY unit that hears the stream. -/
def wStandby : State := { wMode .standby with pair := { (wMode .standby).pair with linkUp := true } }

/-- A unit in some mode with some pair state. -/
def wPair (m : Mode) (p : PairSt) (l : List (Fld × Nat × Nat)) : State := { wSet (wMode m) l with pair := p }

/-- A record head. -/
def wHead (sync last : Bool) : RecHead := ⟨5, 9, sync, last, false, 0⟩

/-- A container of some kind. -/
def wCont (k : Nat) : Container := { (default : Container) with kind := k }

/-- A container of a change that passes all checks of a unit with no project key but its own. -/
def wGood : Container :=
  { (default : Container) with kind := 2, keyId := 1, signer := some 1, image := { (default : Image) with mproto := 0, key := some 1 } }

/-- A unit with some structure state. -/
def wStruct (m : Mode) (x : StructSt) (l : List (Fld × Nat × Nat)) : State := { wSet (wMode m) l with struct := x }

/-- Word address 0 of DRAM is a word of DRAM. -/
theorem test_locate : locate (Config.memBase 0 * 8 / 8) = some (0, 0) := by
  rw [Nat.mul_div_cancel _ (by decide)]
  have h : ((List.range 38).find? (fun m => decide (Config.memBase m ≤ Config.memBase 0 ∧ Config.memBase 0 < Config.memBase m + openWords m)))
      = some 0 := by
    rw [show List.range 38 = 0 :: (List.range 37).map (· + 1) from by decide]
    exact List.find?_cons_of_pos (by simp [openWords, memWords])
  unfold locate
  rw [h, Option.map_some, Nat.sub_self]

/-- A word address of 37 bits is none. -/
theorem test_locate_none : locate (2 ^ 40 / 8) = none := by
  have h : ((List.range 38).find? (fun m => decide (Config.memBase m ≤ 2 ^ 37 ∧ 2 ^ 37 < Config.memBase m + openWords m))) = none := by
    rw [List.find?_eq_none]
    intro m _ hm
    have h1 := of_decide_eq_true hm
    have h2 : Config.memBase m < 2 ^ 36 - 2 ^ 29 + 1 := Nat.mod_lt _ (by decide)
    have h3 : openWords m ≤ 2 ^ 29 := by unfold openWords memWords; (repeat' split) <;> decide
    omega
  unfold locate
  rw [show (2 : Nat) ^ 40 / 8 = 2 ^ 37 from by decide, h]
  rfl

/-- The scrubber's range is one word of DRAM. -/
def wScrub (b : Nat) : State :=
  ((((wAct.setReg LEAF.SCRUB_LEN.WORDS 0 1).setReg LEAF.SCRUB_STAT.STATE 0 b).setReg LEAF.SCRUB_START_LO.ADDR 0 (wrap 32 (Config.memBase 0))).setReg
    LEAF.SCRUB_START_HI.ADDR 0 (Config.memBase 0 / 2 ^ 32))

/-- The scrubber's fields read as they were set. -/
theorem test_scrub (b : Nat) (hb : b < 2) :
    (wScrub b).reg LEAF.SCRUB_LEN.WORDS = 1 ∧ (wScrub b).reg LEAF.SCRUB_MEM.MEM = 0 ∧ (wScrub b).reg LEAF.SCRUB_STAT.STATE = b ∧
    (wScrub b).scrubRange 0 = true ∧ (wScrub b).memOff 0 = false := by
  have hl : (wScrub b).reg LEAF.SCRUB_LEN.WORDS = 1 := by
    unfold wScrub
    simp (disch := decide) only [State.reg_setReg, State.reg_setReg_other]
    decide
  have h0 : (wScrub b).reg LEAF.SCRUB_MEM.MEM = 0 := by
    unfold wScrub
    simp (disch := decide) only [State.reg_setReg_other]
    decide +kernel
  have hs : (wScrub b).reg LEAF.SCRUB_STAT.STATE = b := by
    unfold wScrub
    simp (disch := decide) only [State.reg_setReg, State.reg_setReg_other]
    exact Nat.mod_eq_of_lt (Nat.lt_of_lt_of_le hb (by decide))
  have h1 : (wScrub b).reg LEAF.SCRUB_START_LO.ADDR = wrap 32 (Config.memBase 0) := by
    unfold wScrub
    simp (disch := decide) only [State.reg_setReg, State.reg_setReg_other]
    exact Nat.mod_mod _ _
  have h2 : (wScrub b).reg LEAF.SCRUB_START_HI.ADDR = Config.memBase 0 / 2 ^ 32 := by
    unfold wScrub
    simp (disch := decide) only [State.reg_setReg]
    have h : Config.memBase 0 < 2 ^ 36 - 2 ^ 29 + 1 := Nat.mod_lt _ (by decide)
    exact Nat.mod_eq_of_lt (show Config.memBase 0 / 2 ^ 32 < 2 ^ 4 by omega)
  refine ⟨hl, h0, hs, ?_, rfl⟩
  unfold State.scrubRange
  rw [hl, h1, h2]
  have h : wrap 32 (Config.memBase 0) + Config.memBase 0 / 2 ^ 32 * 2 ^ 32 = Config.memBase 0 := by
    exact Nat.mod_add_div' _ _
  rw [h]
  exact decide_eq_true ⟨Nat.le_refl _, Nat.add_le_add_left (by decide) _⟩

/-- An ACTIVE unit whose LOOP front end runs, with channel 5 in some state. -/
def wLoop (st : Nat) (x : LoopSt) (l : List (Fld × Nat × Nat)) : State :=
  { wSet (wSet wAct [(LOOP.STAT.FE_OK, 0, 1), (LOOP.CHc_CFG.MODE, 5, 1), (LOOP.CHc_STAT.STATE, 5, st)]) l with loops := x }

/-- What the model keeps of channel 5. -/
def wChan (d : LoopDyn) : LoopSt := { (default : LoopSt) with chan := [(5, d)] }

/-- The modem of group 0 is in a transaction with device 1 of channel 5. -/
def wTurn (d : HartDyn) (p : Option HartPass) : LoopSt :=
  { (default : LoopSt) with turn := [(0, 42)], dev := [(26, d)], passing := [(0, p)] }

/-- All channels supplied at some voltage step with some current. -/
def wPower (v x : Nat) : LoopSt :=
  { (default : LoopSt) with chan := (List.range 32).map (fun c => (c, { (default : LoopDyn) with vsup := v, x := x })) }

/-- Pin 7 commands its output. -/
def wPin (l : List (Fld × Nat × Nat)) : State :=
  let s := wSet (wSet wAct [(FPIN.PINp_CFG.DIR, 7, 2)]) l
  { s with cells := { s.cells with latch := [(7, true)] } }

/-- An ACTIVE unit whose safety unit is in some state. -/
def wSafe (st : Nat) (x : SafeSt) (l : List (Fld × Nat × Nat)) : State := { wSet (wSet wAct [(SAFE.STAT.STATE, 0, st)]) l with safe := x }

/-- Output 2 in some state, used. -/
def wOut (o : OutDyn) : SafeSt :=
  { (default : SafeSt) with out := [(2, o)], params := { (default : SafeParams) with outs := [(2, { (default : SafeOut) with use := 1, restart := 1 })] } }

/-- Input pair 1 in some state, used. -/
def wInPair (st : Nat) : SafeSt :=
  { (default : SafeSt) with pair := [(1, { (default : PairDyn) with st := st })]
                            params := { (default : SafeParams) with pairs := [(1, { (default : SafePair) with use := 1 })] } }

/-- CAN port 2 of an ACTIVE unit in normal mode. -/
def wCan (p : CanPort) (l : List (Fld × Nat × Nat)) : State := { wSet (wSet wAct [(CAN.CFG.MODE, 2, 1), (CAN.STAT.STATE, 2, 1)]) l with can := [(2, p)] }

/-- The same with task 5 on the core of block 2. -/
def wCanTask (l : List (Fld × Nat × Nat)) : State := wSet (wCore .running) ([(CAN.CFG.MODE, 2, 1), (CAN.STAT.STATE, 2, 1)] ++ l)

/-- Track 1 follows sender 77 on plant port 0, domain 4. -/
def wTrack (d : TrackSt) (l : List (Fld × Nat × Nat)) : State :=
  { wSet (wSet wAct [(PTP.DOMk_CFG.EN, 1, 1), (PTP.DOMk_CFG.NUM, 1, 4), (PTP.DOMk_CFG.PORTS, 1, 1), (PTP.PLANT_CFG.SRC, 0, 1)]) l with
    ptp := { (default : PtpSt) with track := [(1, { d with chosen := some (0, 77) })] } }

/-- A request goes on where each condition holds. -/
theorem test_goes {s : State} {r : Req}
    (h : s.listens r.port = true ∧ wrap 32 r.client ≠ 0 ∧ (r.port = 3 → max s.now s.port.cellFull + msec 50 ≤ s.now + sec 2) ∧
      s.outranked Config.refTick r.port (fun _ x => x.client == r.client && x.seq == r.seq && s.listens x.port) = false ∧
      (s.judgeClient r).1 = .fresh) : s.goesOn r := h

/-- A request is admitted where each condition holds. -/
theorem test_admits {s : State} {r : Req} {row : CmdRow} {narrow n : Nat}
    (h : (s.listens r.port = true ∧ wrap 32 r.client ≠ 0 ∧ (r.port = 3 → max s.now s.port.cellFull + msec 50 ≤ s.now + sec 2) ∧
      s.outranked Config.refTick r.port (fun _ x => x.client == r.client && x.seq == r.seq && s.listens x.port) = false ∧
      (s.judgeClient r).1 = .fresh) ∧ s.admitsClass r.port row.cls = true ∧ (s.mode = .recovery → romOps.contains row.op = true) ∧
      narrow = Status.ok ∧ (1 ≤ row.cls → row.cls ≤ 3 → s.isActive = true) ∧ 0 < n ∧ n ≤ row.max) : s.admitsRequest r row narrow n := h

/-- A unit in some mode whose key switch stands at SERVICE, with some register fields. -/
def wEng (m : Mode) (l : List (Fld × Nat × Nat)) : State := wSet (wMode m) ([(PAIR.STAT.AUTH, 0, 1), (PORT.STAT.KEY, 0, 2)] ++ l)

/-- The same with an open session of client 7 on ENG. -/
def wSession (m : Mode) (k total : Nat) (got : Tab Nat) : State :=
  let s := wEng m []
  { s with port := { s.port with session := some { kind := k, port := 0, client := 7, id := 9, total := total, arg := 1, got := got, lastAt := 0 } } }

/-- The open session of a state. -/
def wOpen (k total : Nat) (got : Tab Nat) : Session := { kind := k, port := 0, client := 7, id := 9, total := total, arg := 1, got := got, lastAt := 0 }

/-- An ACTIVE unit with a prepared change, of IMAGE_ID 0. -/
def wPrepared : State :=
  wStruct .active { (default : StructSt) with prepared := some (wCont 2) }
    [(STRUCT.STAT.STATE, 0, StructState.prepared), (PAIR.STAT.AUTH, 0, 1), (PORT.STAT.KEY, 0, 2)]

/-- A unit in some mode, with some supply state and register fields. -/
def wPow (m : Mode) (p : PowerSt) (l : List (Fld × Nat × Nat)) : State := { wSet (wMode m) l with power := p }

/-- A unit with some state of its firmware. -/
def wUpd (m : Mode) (u : UpdSt) (l : List (Fld × Nat × Nat)) : State := { wSet (wMode m) l with upd := { u with slots := State.reset.upd.slots } }

/-! ### Single steps and figures of the manual -/

/-- 19_register_index.md, worked example: the addresses of three registers at Eastbank. -/
theorem test_register_addresses : LOOP.CHc_STAT.STATE.addrOf 21 = 0x40140560 ∧ STN.RINGr_STAa_STAT.STATE.addrOf (128 + 7) = 0x400E0C78 ∧
    CELL.CELLc_CTRL.MODE.addrOf 2405 = 0x40412CA0 := by decide +kernel

/-- R275, R276, and the worked example of 09_leaf_code_and_guards.md: the columns of D37 and A20 (bit 17 of a word address), and of D0 and D1 together. -/
theorem test_leaf_columns : leafEncode (2 ^ 37) 0 = 0x86 ∧ leafEncode 0 (2 ^ 17) = 0x9E ∧ leafEncode 3 0 = 0x0C := by decide +kernel

/-- Worked example of 10_loops_and_fast_pins.md: V_set of channel 5 is 13.50 V at 12.000 mA and 14.60 V at 20.5 mA, and V_term of a trunk channel
at 20 mA and 28 V is 8.6 V. -/
theorem test_loop_supply :
    let s := wSet wAct [(LOOP.CHc_CFG.VMIN, 5, 105), (LOOP.CHc_LINE.RDEF, 5, 800), (LOOP.CHc_LINE.RDEF, 21, 9000)]
    s.vset 5 120000 = 270 ∧ s.vset 5 205000 = 292 ∧ s.vterm 21 560 200000 = 860000000 := by decide +kernel

/-- Worked example of 02_signal_image.md: the difference of two SEQ fields under R66. -/
theorem test_sequence_difference : diffMod 32 0x7A2001CA 0x7A200011 = 0x1B9 := by decide +kernel

/-- R420: the next sequence of a client is new, and a copy of it is a duplicate. -/
theorem test_duplicate : ((⟨0xC01, 0x122EF, 0, []⟩ : Client).judge 0x122F0).1 = .fresh ∧
    (((⟨0xC01, 0x122EF, 0, []⟩ : Client).judge 0x122F0).2.judge 0x122F0).1 = .duplicate := by decide +kernel

/-- The set-point of 14_ports_and_authority.md: REAL32, owned by commands, remote-operable from 80.0 to 95.0 by steps of at most 2.0, at
92.5. -/
def wSetPoint : State :=
  { wAct with
    img := { wAct.img with dir := [(0x8C10, some { wEnt with type := 3, owner := 0x7000, remoteOp := true })]
                           slots := [(0x8C10, { (default : Slot) with value := 0x42B90000 })] }
    struct := { (default : StructSt) with image := some { (default : Image) with
      remote := [⟨0x8C10, 0x4054000000000000, 0x4057C00000000000, 0x4000000000000000⟩] } } }

/-- R427 and that example: over CELL 97.0 exceeds HI and returns LIMIT, 94.0 is taken, and a signal that is not remote-operable is refused. -/
theorem test_cell_limits : (State.writeSig 3 wSetPoint (0x8C10, 0x42C20000)).1 = (Status.limit, []) ∧
    (State.writeSig 3 wSetPoint (0x8C10, 0x42BC0000)).1 = (Status.ok, []) ∧
    (State.writeSig 3 wSetPoint (0x8C11, 0)).1 = (Status.authority, []) := by decide +kernel

/-- Worked example of 11_safety_unit.md: SLS at 20,480 counts per second with a window of 4 ms is violated by 82 counts and not by 81. -/
theorem test_safe_speed :
    let x := fun (n : Int) => { (default : SafeSt) with
      params := { (default : SafeParams) with funs := [(0, { (default : SafeFun) with type := 1, win := 4, lim1 := 20480 })] }
      hist := [(0, [n, 0, 0, 0, 0, 0, 0, 0, 0, 0])], total := [(0, n)] }
    (wSafe SafeState.run (x 82) []).violates 0 = true ∧ (wSafe SafeState.run (x 81) []).violates 0 = false := by decide +kernel

/-- Worked example of 16_recorder_and_lifetime.md: the record of a bus-off holds code 0xB01, the source of CAN0 and ERR.LEC. -/
theorem test_bus_off_record :
    ((execBusOff 0 0 (wSet wAct [(CAN.CFG.MODE, 0, 1), (CAN.STAT.STATE, 0, 1), (CAN.ERR.LEC, 0, 5), (CAN.ERR.TEC, 0, 256)])).state State.reset).recorder.lastRec.map
      (fun r => (r.code, r.source, r.sev, r.param, r.repeats)) = some (0xB01, 0xB000, .warning, 5, 1) := by decide +kernel

/-- R122: SEQREAD with SEL 3 is illegal, and the task faults with the instruction word SEQREAD a0 would have: 0x0030_350B. -/
theorem test_seqread_illegal :
    let s := (execSeqread 0 2 0x1000 0x350B 3 0 (wCore .running)).state State.reset
    s.reg BLK.CAUSE.MCAUSE 2 = 2 ∧ s.reg BLK.TVAL_LO.TVAL 2 = 0x0030350B ∧ s.reg BLK.EPC_LO.EPC 2 = 0x1000 := by decide +kernel

/-- R520 and the worked example of 19_register_index.md: a read of a register of a unit that is absent answers 0 and sets ABSENT_HIT. -/
theorem test_absent_unit :
    let s := (execRcRead 0 36 0x40140560 4 0 (wSet wAct [(SYS.UNITS.LOOP, 0, 0)])).state State.reset
    s.reg SYS.ABSENT_HIT.HIT = 1 ∧ s.reg SYS.ABSENT_ADDR.ADDR = 0x40140560 ∧ s.out.head? = some (.readData 36 0x40140560 0) := by decide +kernel

/-- R482, R486: the first power-up counts a power cycle and begins BOOT; an empty queue leaves the state alone. -/
theorem test_power_up :
    (match step { wPow .off { (default : PowerSt) with earlyMade := true } [] with pending := [.powerUp 0, .powerUp 1] } with
      | .next s => decide (s.mode = .boot) && decide (s.reg REC.PCYC.COUNT = 2) && decide (s.pending = [.powerUp 1])
      | _ => false) = true ∧ step State.reset = .next State.reset := ⟨by decide +kernel, rfl⟩

/-- R426: the module without a structure image answers ARP for 192.168.90.10 on ENG. -/
theorem test_arp : ((execArpRequest 0 0 0xC0A85A0A (wMode .service)).state State.reset).out.head? = some (.arpReply 0 0xC0A85A0A) := by
  decide +kernel

/-- The examples of R118: the words of PWAIT a0, a1, a2, SCOMMIT a0, BYIELD a0, a1 and SEQREAD a0 with SEL 1. -/
theorem test_vendor_words : vendorOf 0x00C5850B = some (.pwait 10 11 12) ∧ vendorOf 0x0005100B = some (.scommit 10) ∧
    vendorOf 0x0005A50B = some (.byield 10 11) ∧ vendorOf 0x0010350B = some (.seqread 1 10) := by decide +kernel

/-- R118: a field shown as zero that is not zero, and a funct3 that is no vendor instruction, are illegal. -/
theorem test_reserved_words : vendorOf 0x02C5850B = none ∧ vendorOf 0x0015100B = none ∧ vendorOf 0x0005C50B = none := by decide +kernel

/-- R118: a vendor instruction and its word say the same. -/
theorem test_vendor_word : (Vendor.pwait 10 11 12).word = 0x00C5850B ∧ (Vendor.scommit 10).word = 0x0005100B := by decide +kernel

/-- R3: a unit of variant X is the machine after reset; one of variant P has no safety unit and no modem. -/
theorem test_variants : State.resetOf 0 = State.reset ∧ (State.resetOf 2).reg SYS.UNITS.SAFE = 0 ∧ (State.resetOf 2).reg SYS.UNITS.MODEM = 0 ∧
    (State.resetOf 2).reg SYS.UNITS.ACS = 1 := by decide +kernel


/-! ### The premises of the statements are met, clause by clause -/

theorem test_meets_LostSourcesMoveTheirBases :
    (∃ (s : State) (t : Nat) (m : Nat) (f : Bool), (m < 2) ∧ ((s.advance t).baseState (6 + m) = BaseState.locked)) ∧
    (∃ (s : State) (t : Nat) (m : Nat), (m < 2) ∧ ((s.advance t).baseState (6 + m) = BaseState.holdover) ∧ ((s.phase.base.get (6 + m)).holdAt +
      sec 2 ≤ max s.now t)) ∧
    (∃ (s : State) (t : Nat) (e : Nat), (e < 4) ∧ (Tab.wf s.phase.enc = true) ∧ ((s.phase.enc.get e).edgeT + s.reg PHASE.ENCe_STALL.STALL e * us
      100 < max s.now t)) ∧
    (∃ (s : State) (t : Nat) (e : Nat), (e < 4) ∧ ((s.advance t).baseState (8 + e) ≠ BaseState.unused) ∧ ((s.advance t).baseState (8 + e) ≠
      BaseState.fault)) :=
  ⟨⟨wBase 7 BaseState.locked, 0, 1, false, by decide +kernel⟩,
    ⟨wBase 7 BaseState.holdover, sec 2, 1, by decide +kernel⟩,
    ⟨wAct, 1, 3, by decide +kernel⟩,
    ⟨wAct, 0, 3, by decide +kernel⟩⟩

theorem test_meets_MeasurementsMoveBases :
    (∃ (s : State) (t : Nat) (m : Nat) (angle : Nat) (freq : Nat) (rms : Nat) (perr : Nat), (m < 2) ∧ (s.mainsValid m freq rms = true) ∧
      (s.baseFires (6 + m) = true) ∧ ((s.phase.base.get (6 + m)).lockedOnce = true) ∧ (((s.advance t).mainsError m angle).natAbs * 3600 ≤
      s.reg PHASE.MAINSm_CFG.STEP_THR m * 2 ^ 32)) ∧
    (∃ (s : State) (t : Nat) (m : Nat) (angle : Nat) (freq : Nat) (rms : Nat) (perr : Nat) (a : State), (a = ((s.advance t).noteMains m freq rms
      perr)) ∧ (m < 2) ∧ (s.mainsValid m freq rms = true) ∧ (s.baseState (6 + m) ≠ BaseState.notFitted) ∧ (s.baseState (6 + m) ≠
      BaseState.unused) ∧ (((s.phase.base.get (6 + m)).lockedOnce = false ∨ s.baseState (6 + m) = BaseState.invalid ∨ s.baseState (6 + m) =
      BaseState.acquiring))) ∧
    (∃ (s : State) (t : Nat) (m : Nat) (angle : Nat) (freq : Nat) (rms : Nat) (perr : Nat) (a : State), (a = ((s.advance t).noteMains m freq rms
      perr)) ∧ (m < 2) ∧ (s.mainsValid m freq rms = true) ∧ (s.baseState (6 + m) ≠ BaseState.notFitted) ∧ (s.baseState (6 + m) ≠
      BaseState.unused) ∧ ((s.phase.base.get (6 + m)).lockedOnce = true) ∧ (s.baseState (6 + m) ≠ BaseState.invalid) ∧ (s.baseState (6 + m)
      ≠ BaseState.acquiring) ∧ (a.reg PHASE.MAINSm_CFG.STEP_THR m * 2 ^ 32 < (a.mainsError m angle).natAbs * 3600)) ∧
    (∃ (s : State) (t : Nat) (e : Nat) (f : Bool) (i : Bool) (a : Bool) (b : Bool), (e < 4) ∧ (s.reg PHASE.ENCe_CFG.CPT e ≠ 0) ∧ ((i ||
      (s.advance t).quickLines e a b) = true)) ∧
    (∃ (s : State) (t : Nat) (e : Nat) (f : Bool) (a : Bool) (b : Bool), (e < 4) ∧ (s.reg PHASE.ENCe_CFG.CPT e ≠ 0) ∧ ((s.advance t).quickLines
      e a b = false) ∧ ((s.baseState (8 + e) ≠ BaseState.acquiring ∨ s.reg PHASE.ENCe_CFG.ZMODE e ≠ 0))) ∧
    (∃ (s : State) (t : Nat) (e : Nat) (f : Bool), (e < 4) ∧ (s.reg PHASE.ENCe_CFG.CPT e ≠ 0) ∧ ((s.advance t).tooQuick (s.phase.enc.get e).zAt
      = true)) ∧
    (∃ (s : State) (t : Nat) (e : Nat) (f : Bool), (e < 4) ∧ (s.reg PHASE.ENCe_CFG.CPT e ≠ 0) ∧ ((s.advance t).tooQuick (s.phase.enc.get e).zAt
      = false) ∧ (s.reg PHASE.ENCe_CFG.ZMODE e = 0)) ∧
    (∃ (s : State) (t : Nat) (e : Nat) (f : Bool) (a : State), (a = ((s.advance t).seeZ e)) ∧ (e < 4) ∧ (s.reg PHASE.ENCe_CFG.CPT e ≠ 0) ∧ ((s.advance t).tooQuick (s.phase.enc.get e).zAt = false) ∧ (s.reg PHASE.ENCe_CFG.ZMODE e = 2) ∧ ((f != s.flag PHASE.ENCe_CFG.INVERT e) = true) ∧ ((a.phase.enc.get e).aligned = true) ∧ (s.baseState (8 + e) ≠ BaseState.fault) ∧ ((toSigned 32 (diffMod 32 (s.reg PHASE.ENCe_ZOFF.ZOFF e) (a.baseVal (8 + e)))).natAbs * s.reg PHASE.ENCe_CFG.CPT e / 2 ^ 32 ≠ 0) ∧ ((toSigned 32 (diffMod 32 (s.reg PHASE.ENCe_ZOFF.ZOFF e) (a.baseVal (8 + e)))).natAbs * s.reg PHASE.ENCe_CFG.CPT e / 2 ^ 32 ≤
      s.reg PHASE.ENCe_CFG.SLIP e)) ∧
    (∃ (s : State) (t : Nat) (e : Nat), (e < 4) ∧ ((s.baseState (8 + e) ≠ BaseState.fault ∨ s.reg PHASE.ENCe_CFG.ZMODE e ≠ 0))) ∧
    (∃ (s : State) (t : Nat) (e : Nat) (f : Bool) (a : State), (a = ((s.advance t).seeZ e)) ∧ (e < 4) ∧ (s.reg PHASE.ENCe_CFG.CPT e ≠ 0) ∧
      ((s.advance t).tooQuick (s.phase.enc.get e).zAt = false) ∧ (s.reg PHASE.ENCe_CFG.ZMODE e ≠ 0) ∧ (s.baseState (8 + e) ≠
      BaseState.fault) ∧ ((a.phase.enc.get e).aligned = false)) ∧
    (∃ (s : State) (t : Nat) (e : Nat) (f : Bool) (a : State), (a = ((s.advance t).seeZ e)) ∧ (e < 4) ∧ (s.reg PHASE.ENCe_CFG.CPT e ≠ 0) ∧
      ((s.advance t).tooQuick (s.phase.enc.get e).zAt = false) ∧ (s.reg PHASE.ENCe_CFG.ZMODE e ≠ 0) ∧ (s.baseState (8 + e) =
      BaseState.fault) ∧ (s.sensed FPIN.ENCe_STAT.SIGOK e = true)) ∧
    (∃ (s : State) (t : Nat) (e : Nat) (a : State), (a = ((s.advance t).sense FPIN.ENCe_STAT.SIGOK e 1)) ∧ (e < 4) ∧ (s.baseState (8 + e) =
      BaseState.fault) ∧ (s.reg PHASE.ENCe_CFG.ZMODE e = 0)) :=
  ⟨⟨wLocked 7 BaseState.holdover, 0, 1, 0, 45000, 0, 0, by decide +kernel⟩,
    ⟨wAct, 0, 1, 0, 65000, 0, 0, _, rfl, by decide +kernel⟩,
    ⟨wLocked 7 BaseState.holdover, 0, 1, 2 ^ 31, 50000, 0, 0, _, rfl, by decide +kernel⟩,
    ⟨wEnc 2, 0, 1, false, true, false, false, by decide +kernel⟩,
    ⟨wEnc 2, 0, 1, false, false, false, by decide +kernel⟩,
    ⟨{ wEnc 2 with phase := { wAct.phase with enc := [(1, { (default : EncSt) with zAt := 1 })] } }, 0, 1, false, by decide +kernel⟩,
    ⟨wEnc 0, 0, 1, false, by decide +kernel⟩,
    
      ⟨{ wSet (wEnc 2) [(PHASE.ENCe_ZOFF.ZOFF, 1, 2 ^ 27)] with phase := { wAct.phase with enc := [(1, { (default : EncSt) with aligned := true })] } },
      0, 1, true, _, rfl, by decide +kernel⟩,
    ⟨wEnc 2, 0, 1, by decide +kernel⟩,
    ⟨wEnc 2, 0, 1, false, _, rfl, by decide +kernel⟩,
    ⟨(wSet (wEnc 2) [(PHASE.BASEn_STATUS.STATE, 9, BaseState.fault)]).sense FPIN.ENCe_STAT.SIGOK 1 1, 0, 1, false, _, rfl, by decide +kernel⟩,
    ⟨wSet (wEnc 0) [(PHASE.BASEn_STATUS.STATE, 9, BaseState.fault)], 0, 1, _, rfl, by decide +kernel⟩⟩

theorem test_meets_BaseSettingsAreGuarded :
    (∃ (s : State) (t : Nat) (m : Nat) (v : Nat) (x : Nat) (a : State), (a = ((s.advance t).setReg PHASE.VIRTv_OFF_HI.OFF v x)) ∧ (v < 3)) ∧
    (∃ (s : State) (v : Nat), (s.stagedOffset v = s.phase.virtOff.get v)) ∧
    (∃ (s : State) (v : Nat), (s.stagedOffset v ≠ s.phase.virtOff.get v)) ∧
    (∃ (s : State) (t : Nat) (m : Nat) (v : Nat) (w : Nat) (x : Nat), (v < 3) ∧ (w < 3) ∧ (s.rwlOpen = true) ∧ (virtValid v w x = true)) ∧
    (∃ (s : State) (v : Nat) (f : State → State), (s.acquires (13 + v) (f s) = true)) ∧
    (∃ (s : State) (v : Nat) (f : State → State), (s.acquires (13 + v) (f s) = false) ∧ ((f s).baseVal (13 + v) = s.baseVal (13 + v))) ∧
    (∃ (s : State) (v : Nat) (f : State → State), (s.acquires (13 + v) (f s) = false) ∧ ((f s).baseVal (13 + v) ≠ s.baseVal (13 + v))) ∧
    (∃ (s : State) (t : Nat) (m : Nat) (v : Nat) (w : Nat) (x : Nat), (v < 3) ∧ (w < 3) ∧ (s.rwlOpen = false)) ∧
    (∃ (s : State) (t : Nat) (m : Nat) (v : Nat) (w : Nat) (x : Nat), (v < 3) ∧ (w < 3) ∧ (s.rwlOpen = true) ∧ (virtValid v w x = false)) ∧
    (∃ (s : State) (t : Nat) (m : Nat) (n : Nat) (x : Nat), (m < 2) ∧ (s.rwlOpen = false)) ∧
    (∃ (s : State) (t : Nat) (m : Nat) (n : Nat) (x : Nat) (a : State) (d : Int), (a = ((s.advance t).advance (tickAfter t))) ∧ (d = (toSigned
      32 (diffMod 32 x (s.reg PHASE.MAINSm_OFFSET.OFFSET m)))) ∧ (m < 2) ∧ (s.rwlOpen = true) ∧ ((s.baseFires (6 + m) = false ∨ d = 0))) ∧
    (∃ (s : State) (t : Nat) (m : Nat) (n : Nat) (x : Nat) (a : State) (d : Int), (a = ((s.advance t).advance (tickAfter t))) ∧ (d = (toSigned
      32 (diffMod 32 x (s.reg PHASE.MAINSm_OFFSET.OFFSET m)))) ∧ (m < 2) ∧ (s.rwlOpen = true) ∧ (s.baseFires (6 + m) = true) ∧ (d ≠ 0)) :=
  ⟨⟨State.reset, 0, 0, 0, 0, _, rfl, by decide +kernel⟩,
    ⟨State.reset, 0, by decide +kernel⟩,
    ⟨wSet wAct [(PHASE.VIRTv_OFF_LO.OFF, 0, 5)], 0, by decide +kernel⟩,
    ⟨wSet (wMode .commission) [(PHASE.VIRTv_NUM.NUM, 0, 1), (PHASE.VIRTv_DEN.DEN, 0, 1)], sec 1, 0, 0, 2, 2, by decide +kernel⟩,
    ⟨wSet wAct [(PHASE.VIRTv_SRC.SRC, 0, 0)], 0, fun s => s.setReg PHASE.VIRTv_DEN.DEN 0 1, by decide +kernel⟩,
    ⟨wAct, 0, id, by decide +kernel⟩,
    ⟨{ wSet wAct [(PHASE.VIRTv_NUM.NUM, 0, 1), (PHASE.VIRTv_DEN.DEN, 0, 1)] with now := sec 1 }, 0, fun s => s.setReg PHASE.VIRTv_NUM.NUM 0 7,
      by decide +kernel⟩,
    ⟨wAct, 0, 0, 0, 0, 0, by decide +kernel⟩,
    ⟨wMode .service, 0, 0, 0, 2, 0, by decide +kernel⟩,
    ⟨State.reset, 0, 0, 0, 0, by decide +kernel⟩,
    ⟨wMode .service, 0, 0, 0, 0, _, _, rfl, rfl, by decide +kernel⟩,
    ⟨wSet (wMode .service) [(PHASE.BASEn_STATUS.STATE, 6, BaseState.locked)], 0, 0, 0, 5, _, _, rfl, rfl, by decide +kernel⟩⟩

theorem test_meets_ValuesAndQualitiesAreNormalised :
    (∃ (s : State) (sig : Nat) (src : Nat) (v : Nat) (q : Nat) (d : Nat) (n : Nat) (t : Nat) (e : DirEntry), (s.owns sig src = true) ∧
      (s.img.dir.get sig = some e) ∧ (s.img.forces.get sig = none) ∧ (s.img.forceDropped.get sig = false) ∧ (e.stampBase = none) ∧ (s.flag
      LEAF.FLIPm_CTRL.ARM 1 = false)) ∧
    (∃ (s : State) (sig : Nat) (src : Nat) (v : Nat) (q : Nat) (d : Nat) (n : Nat) (t : Nat) (e : DirEntry) (f : Force), (s.owns sig src = true)
      ∧ (s.img.dir.get sig = some e) ∧ (s.img.forces.get sig = some f)) ∧
    (∃ (s : State) (sig : Nat) (v : Nat) (p : Nat) (n : Nat) (e : DirEntry), (s.img.dir.get sig = some e) ∧ (e.stampBase = none) ∧ (s.flag
      LEAF.FLIPm_CTRL.ARM 1 = false)) ∧
    (∃ (q : Nat) (d : Nat), (7 ≤ q)) ∧
    (∃ (q : Nat) (d : Nat), (q < 7)) :=
  ⟨⟨wImg, 7, 0x4001, 0, 0, 0, 0, 0, wEnt, by decide +kernel⟩,
    ⟨wForced, 7, 0x4001, 0, 0, 0, 0, 0, wEnt, default, by decide +kernel⟩,
    ⟨wImg, 7, 0, 0, 0, wEnt, by decide +kernel⟩,
    ⟨7, 0, by decide +kernel⟩,
    ⟨0, 0, by decide +kernel⟩⟩

theorem test_meets_QualitiesCombineToTheWorse :
    (∃ (a : Nat × Nat) (b : Nat × Nat), (Quality.rank a.1 < Quality.rank b.1)) ∧
    (∃ (q : Nat) (d : Nat) (e : Nat), (d ≠ 0) ∧ (e ≠ 0)) ∧
    (∃ (a : Nat × Nat) (b : Nat × Nat), (a.1 < 7) ∧ (b.1 < 7)) ∧
    (∃ (a : Nat × Nat) (b : Nat × Nat) (c : Nat × Nat), (a.1 < 7) ∧ (b.1 < 7) ∧ (c.1 < 7)) :=
  ⟨⟨(5, 0), (0, 0), by decide +kernel⟩,
    ⟨0, 1, 15, by decide +kernel⟩,
    ⟨default, default, by decide +kernel⟩,
    ⟨default, default, default, by decide +kernel⟩⟩

theorem test_meets_OwnerWritesReachTheSlot :
    (∃ (s : State) (sig : Nat) (src : Nat) (v : Nat) (q : Nat) (d : Nat) (n : Nat) (t : Nat), (s.owns sig src = false)) ∧
    (∃ (s : State) (sig : Nat) (src : Nat) (v : Nat) (q : Nat) (d : Nat) (n : Nat) (t : Nat) (f : Force) (e : DirEntry), (s.owns sig src = true)
      ∧ (s.img.dir.get sig = some e) ∧ (s.img.forces.get sig = some f)) ∧
    (∃ (s : State) (sig : Nat) (src : Nat) (v : Nat) (q : Nat) (d : Nat) (n : Nat) (t : Nat) (e : DirEntry) (g : Nat), (s.owns sig src = true) ∧
      (s.img.dir.get sig = some e) ∧ (s.img.forces.get sig = none) ∧ (s.img.forceDropped.get sig = false) ∧ (e.stampBase = none) ∧ (s.flag
      LEAF.FLIPm_CTRL.ARM 1 = false) ∧ (g ≠ sig)) ∧
    (∃ (s : State) (sig : Nat) (src : Nat) (v : Nat) (q : Nat) (d : Nat) (n : Nat) (t : Nat) (e : DirEntry), (s.owns sig src = true) ∧
      (s.img.dir.get sig = some e) ∧ (s.img.forces.get sig = none) ∧ (s.img.forceDropped.get sig = false) ∧ (e.stampBase = none) ∧ (s.flag
      LEAF.FLIPm_CTRL.ARM 1 = false)) :=
  ⟨⟨State.reset, 0, 0, 0, 0, 0, 0, 0, by decide +kernel⟩,
    ⟨wForced, 7, 0x4001, 0, 0, 0, 0, 0, default, wEnt, by decide +kernel⟩,
    ⟨wImg, 7, 0x4001, 0, 0, 0, 0, 0, wEnt, 0, by decide +kernel⟩,
    ⟨wImg, 7, 0x4001, 0, 0, 0, 0, 0, wEnt, by decide +kernel⟩⟩

theorem test_meets_SourceSequencesAreJudged :
    (∃ (w : Nat) (n : Nat) (k : Nat), (0 < w) ∧ (k + 1 < 2 ^ (w - 1))) ∧
    (∃ (w : Nat) (n : Nat), (0 < w)) ∧
    (∃ (w : Nat) (l : Nat) (r : Nat), (0 < w) ∧ (2 ^ (w - 1) ≤ diffMod w (r + 1) l)) :=
  ⟨⟨16, 0, 2 ^ 15 - 2, by decide +kernel⟩,
    ⟨8, 0, by decide +kernel⟩,
    ⟨16, 0, 2 ^ 15 - 1, by decide +kernel⟩⟩

theorem test_meets_ImageUpkeep :
    (∃ (s : State) (t : Nat), (s.isActive = true)) ∧
    (∃ (s : State) (t : Nat), (s.isActive = false)) ∧
    (∃ (s : State) (t : Nat) (sig : Nat) (d : DirEntry) (a : State) (due : Prop), (a = (s.advance t)) ∧ (due = (d.staleMs ≠ 0 ∧ a.ingressOn =
      true ∧ s.img.lastWrite.get sig + msec d.staleMs < a.now ∧ a.ownerQuality sig ≠ (Quality.stale, 0xB))) ∧ (s.img.dir.get sig = some d) ∧
      (due)) ∧
    (∃ (s : State) (t : Nat) (sig : Nat) (d : DirEntry) (a : State) (due : Prop), (a = (s.advance t)) ∧ (due = (d.staleMs ≠ 0 ∧ a.ingressOn =
      true ∧ s.img.lastWrite.get sig + msec d.staleMs < a.now ∧ a.ownerQuality sig ≠ (Quality.stale, 0xB))) ∧ (s.img.dir.get sig = some d) ∧
      (¬ due)) ∧
    (∃ (s : State) (t : Nat) (m : Nat) (sig : Nat) (a : State) (p : Bool × Bool), (a = (((s.advance t).setReg IMAGE.PROBE_ID.SIGNAL 0
      sig).setReg IMAGE.PROBE_ID.RAW 0 0)) ∧ (p = (a.slotPoison sig)) ∧ (sig < 2 ^ 17) ∧ ((s.img.dir.get sig).isSome = true)) ∧
    (∃ (s : State) (t : Nat) (m : Nat) (sig : Nat) (a : State) (p : Bool × Bool), (a = (((s.advance t).setReg IMAGE.PROBE_ID.SIGNAL 0
      sig).setReg IMAGE.PROBE_ID.RAW 0 0)) ∧ (p = (a.slotPoison sig)) ∧ (sig < 2 ^ 17) ∧ ((s.img.dir.get sig).isSome = false)) ∧
    (∃ (s : State) (t : Nat) (m : Nat) (sig : Nat) (f : Force) (a : State), (a = (((s.advance t).setReg IMAGE.PROBE_ID.SIGNAL 0 sig).setReg
      IMAGE.PROBE_ID.RAW 0 1)) ∧ (sig < 2 ^ 17) ∧ (s.img.forces.get sig = some f)) ∧
    (∃ (s : State) (t : Nat) (m : Nat) (sig : Nat) (a : State), (a = (((s.advance t).setReg IMAGE.PROBE_ID.SIGNAL 0 sig).setReg
      IMAGE.PROBE_ID.RAW 0 1)) ∧ (sig < 2 ^ 17) ∧ (s.img.forces.get sig = none)) ∧
    (∃ (s : State) (t : Nat) (a : State) (took : Nat) (b : State), (a = (s.advance t)) ∧ (took = (a.now - s.img.sweepMark)) ∧ (b = (((a.sweep.setReg IMAGE.SWEEP.LAST 0 (min (took / us 1) 65535)).bumpReg IMAGE.SWEEP.PASSES 0).setFlag IMAGE.STATUS.SWEEP_OK 0
      (decide (took ≤ msec 10))))) ∧
    (∃ (s : State) (g : Nat), (Tab.wf s.img.slots = true) ∧ ((s.img.dir.get g).isSome = true) ∧ (s.farBehind (s.img.slots.get g) = true)) :=
  ⟨⟨wAct, 0, by decide +kernel⟩,
    ⟨State.reset, 0, by decide +kernel⟩,
    ⟨wImg, msec 5 + 1, 7, wEnt, _, _, rfl, rfl, by decide +kernel⟩,
    ⟨wImg, 0, 7, wEnt, _, _, rfl, rfl, by decide +kernel⟩,
    ⟨wImg, 0, 0, 7, _, _, rfl, rfl, by decide +kernel⟩,
    ⟨State.reset, 0, 0, 0, _, _, rfl, rfl, by decide +kernel⟩,
    ⟨wForced, 0, 0, 7, default, _, rfl, by decide +kernel⟩,
    ⟨State.reset, 0, 0, 0, _, rfl, by decide +kernel⟩,
    ⟨State.reset, 0, _, _, _, rfl, rfl, rfl⟩,
    ⟨{ wImg with img := { wImg.img with seq := 2 ^ 30 } }, 7, by decide +kernel⟩⟩

theorem test_meets_DispatchStartsACycle :
    (∃ (s : State) (t : Nat) (b : Nat) (c : Nat) (u : Nat) (a : State), (a = (((s.advance t).promote b).markResumable b)) ∧ (b < 16) ∧ (s.blockServes b = true) ∧ (a.current b = none) ∧ ((a.tasksOn b).filter a.canResume = []) ∧ (a.topClass ((a.tasksOn b).filter (fun x => a.tState x == TaskState.ready)) = some c) ∧ (firstBy (fun x => (a.task x).readySince)
      (((a.tasksOn b).filter (fun x => a.tState x == TaskState.ready)).filter (fun x => a.tClass x == c)) = some u) ∧ ((a.tasks.preempted.get b).find? (fun x => a.tClass x == c) = none) ∧ ((a.noteAboveQuota u).covers u = true) ∧ (u < 256)) ∧
    (∃ (s : State) (t : Nat) (b : Nat), (s.blockServes b = false) ∧ (s.reg BLK.STATUS.STATE b ≠ BlockState.movingOut)) :=
  ⟨⟨wTask TaskState.ready default, 0, 2, 0, 5, _, rfl, by decide +kernel⟩,
    ⟨wSet wAct [(BLK.STATUS.STATE, 2, BlockState.stopped)], 0, 2, by decide +kernel⟩⟩

theorem test_meets_CycleInstructions :
    (∃ (s : State) (t : Nat) (x : Nat) (a : State) (cfg : TaskCfg) (q : List (CapEntry × Nat) × Nat) (m : Nat) (seen : List (CapEntry × Nat)) (l : List CapEntry) (u : State) (words : List (Nat × Bool)) (v : State), (a = (s.advance t)) ∧ (cfg = (s.tasks.cfg.get x)) ∧ (q = (if s.reg TASK.TASKt_CQ.CQMAX x = 0 then ([], (s.task x).readPos) else a.dueEntries x)) ∧ (m = (16 + s.tBlock x)) ∧ (seen = (q.1.map (a.captureSeen m x))) ∧ (l = (markLoss (s.task x).cqLoss (seen.map Prod.fst))) ∧ (u = (a.updTask x (fun d => { d with
      phase := .running, snapshot := s.img.seq, view := cfg.inputs.map (a.viewOf m x), capDelivered := l, readPos := q.2
      cqLoss := d.cqLoss && decide (l = []) }))) ∧ (words = ((cfg.inputs.map (u.viewWords m x)).flatten ++ ((l.zip seen).map (fun y => entryWords y.1 y.2.2)).flatten ++
      ((u.canDue x).flatMap (fun w => u.dmaWords m x 1 w 12)).map (fun w => (wrap 64 w, bitOf 64 w)))) ∧ (v = (((u.each cfg.inputs (fun r g => r.noteDmaSlot m x g)).each q.1 (fun r y => r.noteDma m x 1 (captureWord y.2) 4)).writeView m x
      false (cfg.viewAddr / 8) words)) ∧ ((s.task x).phase = .reading) ∧ (s.current (s.tBlock x) = some x) ∧ (s.tKind x ≠ TaskKind.error)) ∧
    (∃ (s : State) (t : Nat) (x : Nat) (a : State) (cfg : TaskCfg) (q : List (CapEntry × Nat) × Nat) (m : Nat) (seen : List (CapEntry × Nat)) (l : List CapEntry) (u : State) (words : List (Nat × Bool)) (v : State) (i : Invocation) (r : List Invocation), (a = (s.advance t)) ∧ (cfg = (s.tasks.cfg.get x)) ∧ (q = (if s.reg TASK.TASKt_CQ.CQMAX x = 0 then ([], (s.task x).readPos) else a.dueEntries x)) ∧ (m = (16 + s.tBlock x)) ∧ (seen = (q.1.map (a.captureSeen m x))) ∧ (l = (markLoss (s.task x).cqLoss (seen.map Prod.fst))) ∧ (u = (a.updTask x (fun d => { d with
      phase := .running, snapshot := s.img.seq, view := cfg.inputs.map (a.viewOf m x), capDelivered := l, readPos := q.2
      cqLoss := d.cqLoss && decide (l = []) }))) ∧ (words = ((cfg.inputs.map (u.viewWords m x)).flatten ++ ((l.zip seen).map (fun y => entryWords y.1 y.2.2)).flatten ++
      ((u.canDue x).flatMap (fun w => u.dmaWords m x 1 w 12)).map (fun w => (wrap 64 w, bitOf 64 w)))) ∧ (v = (((u.each cfg.inputs (fun r g => r.noteDmaSlot m x g)).each q.1 (fun r y => r.noteDma m x 1 (captureWord y.2) 4)).writeView m x
      false (cfg.viewAddr / 8) words)) ∧ ((s.task x).phase = .reading) ∧ (s.current (s.tBlock x) = some x) ∧ (s.tKind x = TaskKind.error) ∧ ((s.task x).invocations = i :: r)) ∧
    (∃ (s : State) (t : Nat) (b : Nat) (pc : Nat) (w : Nat) (r1 : Nat) (r2 : Nat) (e : Nat) (x : Nat) (st : Nat), (isPwait w = true) ∧
      (s.cycleTask b = some x) ∧ ((s.advance t).pwaitNow (wrap 64 r1) r2 = some st) ∧ (st ≠ 1)) ∧
    (∃ (s : State) (t : Nat) (b : Nat) (pc : Nat) (w : Nat) (r1 : Nat) (r2 : Nat) (e : Nat) (x : Nat) (st : Nat), (isPwait w = true) ∧
      (s.cycleTask b = some x) ∧ ((s.advance t).pwaitNow (wrap 64 r1) r2 = some st) ∧ (st = 1)) ∧
    (∃ (s : State) (t : Nat) (b : Nat) (pc : Nat) (w : Nat) (r1 : Nat) (r2 : Nat) (e : Nat) (x : Nat), (isPwait w = true) ∧ (s.cycleTask b =
      some x) ∧ (x < 256) ∧ ((s.advance t).pwaitNow (wrap 64 r1) r2 = none)) ∧
    (∃ (s : State) (t : Nat) (b : Nat) (pc : Nat) (w : Nat) (r1 : Nat) (r2 : Nat) (e : Nat), (isPwait w = false ∨ s.cycleTask b = none)) ∧
    (∃ (s : State) (t : Nat) (b : Nat) (pc : Nat) (w : Nat) (est : Nat) (e : Nat) (x : Nat), (isByield w = true) ∧ (s.cycleTask b = some x) ∧ (x
      < 256)) ∧
    (∃ (s : State) (t : Nat) (b : Nat) (pc : Nat) (w : Nat) (est : Nat) (e : Nat), (isByield w = false ∨ s.cycleTask b = none)) ∧
    (∃ (s : State) (t : Nat) (x : Nat) (w : PWaitSt), ((s.task x).wait = some w) ∧ ((s.advance t).waitReached w (min (max s.now t) w.deadline) =
      true)) ∧
    (∃ (s : State) (t : Nat) (x : Nat) (w : PWaitSt), ((s.task x).wait = some w) ∧ ((s.advance t).waitReached w (min (max s.now t) w.deadline) =
      false) ∧ (w.deadline ≤ max s.now t)) :=
  ⟨⟨wCore .reading, 0, 5, _, _, _, _, _, _, _, _, _, rfl, rfl, rfl, rfl, rfl, rfl, rfl, rfl, rfl, by decide +kernel⟩,
    ⟨(let s := wSet (wCore .reading) [(TASK.TASKt_CFG.KIND, 5, TaskKind.error)]; s.updTask 5 (fun d =>
      { d with invocations := [⟨some 5, 1, 2⟩] })), 0, 5, _, _, _, _, _, _, _, _, _, ⟨some 5, 1, 2⟩, [], rfl, rfl, rfl, rfl, rfl, rfl, rfl,
      rfl, rfl, by decide +kernel⟩,
    ⟨wCore .running, 0, 2, 0, 0x00C5850B, 1000, 0, 0, 5, 2, by decide +kernel⟩,
    ⟨wCore .running, 0, 2, 0, 0x00C5850B, 0, 0, 0, 5, 1, by decide +kernel⟩,
    ⟨wCore .running, 0, 2, 0, 0x00C5850B, 1000, 2 ^ 32, 0, 5, by decide +kernel⟩,
    ⟨wCore .running, 0, 2, 0, 0x02C5850B, 0, 0, 0, Or.inl (by decide +kernel)⟩,
    ⟨wCore .running, 0, 2, 0, 0x0005A50B, 0, 0, 5, by decide +kernel⟩,
    ⟨wCore .running, 0, 3, 0, 0x0005A50B, 0, 0, Or.inr (by decide +kernel)⟩,
    ⟨wTask TaskState.waiting { (default : TaskDyn) with wait := some ⟨0, 0, none, 10⟩ }, 0, 5, ⟨0, 0, none, 10⟩, by decide +kernel⟩,
    ⟨wTask TaskState.waiting { (default : TaskDyn) with wait := some ⟨0, 1000, none, 10⟩ }, 10, 5, ⟨0, 1000, none, 10⟩, by decide +kernel⟩⟩

theorem test_meets_SequencesAreReadInACycle :
    (∃ (s : State) (a : State) (t : Nat) (b : Nat) (pc : Nat) (w : Nat) (e : Nat), (a = s.advance t) ∧ (isSeqread (putField 20 5 w 0) = true)) ∧
    (∃ (s : State) (a : State) (t : Nat) (b : Nat) (pc : Nat) (w : Nat) (e : Nat) (x : Nat), (a = s.advance t) ∧ (s.cycleTask b = some x) ∧
      (isSeqread (putField 20 5 w 1) = true)) ∧
    (∃ (s : State) (a : State) (t : Nat) (b : Nat) (pc : Nat) (w : Nat) (e : Nat) (x : Nat), (a = s.advance t) ∧ (s.cycleTask b = some x) ∧
      (isSeqread (putField 20 5 w 2) = true)) ∧
    (∃ (s : State) (a : State) (t : Nat) (b : Nat) (pc : Nat) (w : Nat) (e : Nat) (x : Nat) (n : Nat), (a = s.advance t) ∧ (s.cycleTask b = some
      x) ∧ ((3 ≤ n ∨ isSeqread (putField 20 5 w n) = false))) ∧
    (∃ (s : State) (a : State) (t : Nat) (b : Nat) (pc : Nat) (w : Nat) (e : Nat) (n : Nat), (a = s.advance t) ∧ (s.cycleTask b = none) ∧ ((n ≠
      0 ∨ isSeqread (putField 20 5 w n) = false))) :=
  ⟨⟨wCore .running, _, 0, 2, 0, 0x300B, 0, rfl, by decide +kernel⟩,
    ⟨wCore .running, _, 0, 2, 0, 0x300B, 0, 5, rfl, by decide +kernel⟩,
    ⟨wCore .running, _, 0, 2, 0, 0x300B, 0, 5, rfl, by decide +kernel⟩,
    ⟨wCore .running, _, 0, 2, 0, 0, 0, 5, 0, rfl, by decide +kernel⟩,
    ⟨wAct, _, 0, 0, 0, 0, 0, 0, rfl, by decide +kernel⟩⟩

theorem test_meets_CyclesCommit :
    (∃ (s : State) (t : Nat) (b : Nat) (pc : Nat) (r : Nat) (f : Nat) (e : Nat) (x : Nat) (a : State), (a = ((((s.advance t).consumeInvocation x f).updTask x (fun d => { d with
      phase := .committing, scFlags := f, pendEnergy := e, meterBlock := b })).leaveCore x)) ∧ (isScommit r = true) ∧ (s.cycleTask b = some x) ∧ (wrap 64 f < 4) ∧ (a.syncWaits x = false)) ∧
    (∃ (s : State) (t : Nat) (b : Nat) (pc : Nat) (r : Nat) (f : Nat) (e : Nat) (x : Nat) (a : State), (a = ((((s.advance t).consumeInvocation x f).updTask x (fun d => { d with
      phase := .committing, scFlags := f, pendEnergy := e, meterBlock := b })).leaveCore x)) ∧ (isScommit r = true) ∧ (s.cycleTask b = some x) ∧ (wrap 64 f < 4) ∧ (a.syncWaits x = true)) ∧
    (∃ (s : State) (t : Nat) (b : Nat) (pc : Nat) (r : Nat) (f : Nat) (e : Nat), ((isScommit r = false ∨ s.cycleTask b = none ∨ 4 ≤ wrap 64 f))) ∧
    (∃ (s : State) (t : Nat) (b : Nat) (pc : Nat) (r : Nat) (f : Nat) (e : Nat) (x : Nat), (isScommit r = true) ∧ (s.cycleTask b = some x) ∧
      (wrap 64 f < 4) ∧ (s.tKind x ≠ TaskKind.error) ∧ (s.flag TASK.TASKt_CFG.ASYNC x = true)) ∧
    (∃ (s : State) (t : Nat) (x : Nat) (a : State), (a = (s.advance t)) ∧ ((s.task x).waitAck = true) ∧ ((s.task x).commitSentAt + us 20 ≤
      a.now)) ∧
    (∃ (s : State) (t : Nat) (x : Nat) (b : State), (b = (if (s.task x).isEmpty then (s.advance t).publishNone x else (s.advance t).publishAll
      x)) ∧ ((s.task x).phase = .committing) ∧ ((s.task x).waitAck = false) ∧ (((s.task x).isEmpty = true ∨ (s.advance t).commitFits x =
      true))) ∧
    (∃ (s : State) (t : Nat) (x : Nat), ((s.task x).phase = .committing) ∧ ((s.task x).waitAck = false) ∧ ((s.task x).isEmpty = false) ∧
      ((s.advance t).commitFits x = false)) :=
  ⟨⟨wCore .running, 0, 2, 0, 0x100B, 3, 0, 5, _, rfl, by decide +kernel⟩,
    ⟨wPartner
      { wCore .running with tasks := { (wCore .running).tasks with task := [(5, { (default : TaskDyn) with phase := .running, written := [7] })], cfg := [(5, { (default : TaskCfg) with mirrored := true })] } },
      0, 2, 0, 0x100B, 0, 0, 5, _, rfl, by decide +kernel⟩,
    ⟨State.reset, 0, 0, 0, 0, 0, 0, Or.inl (by decide +kernel)⟩,
    ⟨wSet (wCore .running) [(TASK.TASKt_CFG.ASYNC, 5, 1)], 0, 2, 0, 0x100B, 0, 0, 5, by decide +kernel⟩,
    ⟨wTask TaskState.running { (default : TaskDyn) with waitAck := true }, us 20, 5, _, rfl, by decide +kernel⟩,
    ⟨wCore .committing, 0, 5, _, rfl, by decide +kernel⟩,
    ⟨wFull, 0, 5, by decide +kernel⟩⟩

theorem test_meets_CycleTimeCostAndNumber :
    (∃ (s : State) (x : Nat) (ct : Nat), (x < 256) ∧ (s.reg TASK.TASKt_MAX.TIME x < 2 ^ 32)) ∧
    (∃ (s : State) (x : Nat) (ct : Nat), (x < 256)) ∧
    (∃ (s : State) (x : Nat) (ct : Nat), (x < 256) ∧ (ct ≤ us (s.task x).ceilAt)) ∧
    (∃ (s : State) (x : Nat) (ct : Nat), (x < 256) ∧ (us (s.task x).ceilAt < ct) ∧ (s.tState x = TaskState.idle) ∧ (satAdd
      TASK.TASKt_STATE.OVRRUN.width (s.reg TASK.TASKt_STATE.OVRRUN x) 1 < s.reg TASK.TASKt_CFG.FAULT_LIM x)) ∧
    (∃ (cost : Nat) (m : Nat) (shift : Nat), (1 ≤ cost) ∧ (cost ≤ m)) ∧
    (∃ (cost : Nat) (m : Nat) (shift : Nat), (1 ≤ m) ∧ (m ≤ cost)) ∧
    (∃ (s : State) (x : Nat), (x < 256)) :=
  ⟨⟨State.reset, 0, 0, by decide +kernel⟩,
    ⟨State.reset, 0, 0, by decide +kernel⟩,
    ⟨State.reset, 0, 0, by decide +kernel⟩,
    ⟨wSet wAct [(TASK.TASKt_CFG.FAULT_LIM, 5, 3), (TASK.TASKt_STATE.STATE, 5, TaskState.idle)], 5, 1, by decide +kernel⟩,
    ⟨1, 9, 0, by decide +kernel⟩,
    ⟨9, 1, 0, by decide +kernel⟩,
    ⟨State.reset, 0, by decide +kernel⟩⟩

theorem test_meets_TaskFaultsAndRestarts :
    (∃ (s : State) (t : Nat) (x : Nat) (a : State), (a = (s.advance t)) ∧ (s.tState x = TaskState.skip) ∧ ((s.task x).skipUntil ≤ a.now)) ∧
    (∃ (s : State) (t : Nat) (x : Nat) (e : Nat) (a : State) (b : State), (a = (s.advance t)) ∧ (b = (((a.addReg TASK.TASKt_OVRTOT.COUNT x
      1).lifeAdd 0x144 1).histAdd 13 30)) ∧ (a.inCycle x = true) ∧ (4 * us (s.task x).ceilAt ≤ a.cycleTime x)) ∧
    (∃ (s : State) (t : Nat) (b : Nat) (c : Nat) (mc : Nat) (pc : Nat) (tv : Nat) (e : Nat) (x : Nat) (a : State), (a = (s.advance t)) ∧
      (s.cycleTask b = some x)) ∧
    (∃ (s : State) (t : Nat) (b : Nat) (c : Nat) (mc : Nat) (pc : Nat) (tv : Nat) (e : Nat), (s.cycleTask b = none)) ∧
    (∃ (s : State) (t : Nat) (m : Nat) (v : Nat), (s.tState (wrap 8 v) = TaskState.faulted)) ∧
    (∃ (s : State) (t : Nat) (m : Nat) (v : Nat), (s.tState (wrap 8 v) ≠ TaskState.faulted)) ∧
    (∃ (s : State) (t : Nat) (m : Nat) (x : Nat) (v : Nat) (a : State), (a = (s.advance t)) ∧ (x < 256) ∧ (wrap 32 v ≤ 10000000)) ∧
    (∃ (s : State) (t : Nat) (m : Nat) (x : Nat) (v : Nat) (a : State), (a = (s.advance t)) ∧ (x < 256) ∧ (wrap 32 v ≤ 10000000) ∧ (50 ≤ wrap 32
      v)) ∧
    (∃ (s : State) (t : Nat) (m : Nat) (x : Nat) (v : Nat), (x < 256) ∧ (wrap 32 v < 50 ∨ 10000000 < wrap 32 v)) ∧
    (∃ (s : State) (t : Nat) (b : Nat) (a : State), (a = (s.advance t)) ∧ (b < 16)) ∧
    (∃ (s : State) (t : Nat) (b : Nat) (c : Nat) (mc : Nat) (e : Nat) (a : State), (a = (s.advance t)) ∧ (b < 16)) ∧
    (∃ (s : State) (t : Nat) (b : Nat) (a : State), (a = (s.advance t)) ∧ (s.reg BLK.STATUS.STATE b = BlockState.restarting) ∧ ((a.tasksOn
      b).any (fun x => (a.task x).phase == .committing) = false)) ∧
    (∃ (s : State) (t : Nat) (x : Nat) (a : State), (a = (((s.advance t).setTState x ((s.advance t).restState x)).mirrorTask x)) ∧ (s.tState x =
      TaskState.moving)) :=
  ⟨⟨wTask TaskState.skip default, 0, 5, _, rfl, by decide +kernel⟩,
    ⟨wCore .running, 0, 5, 0, _, _, rfl, rfl, by decide +kernel⟩,
    ⟨wCore .running, 0, 2, 0, 0, 0, 0, 0, 5, _, rfl, by decide +kernel⟩,
    ⟨State.reset, 0, 0, 0, 0, 0, 0, 0, by decide +kernel⟩,
    ⟨wTask TaskState.faulted default, 0, 0, 5, by decide +kernel⟩,
    ⟨State.reset, 0, 0, 0, by decide +kernel⟩,
    ⟨State.reset, 0, 0, 0, 10000000, _, rfl, by decide +kernel⟩,
    ⟨State.reset, 0, 0, 0, 50, _, rfl, by decide +kernel⟩,
    ⟨State.reset, 0, 0, 0, 49, by decide +kernel⟩,
    ⟨State.reset, 0, 0, _, rfl, by decide +kernel⟩,
    ⟨State.reset, 0, 0, 0, 0, 0, _, rfl, by decide +kernel⟩,
    ⟨wSet wAct [(BLK.STATUS.STATE, 2, BlockState.restarting)], 0, 2, _, rfl, by decide +kernel⟩,
    ⟨wTask TaskState.moving default, 0, 5, _, rfl, by decide +kernel⟩⟩

theorem test_meets_ReflexLayerFollowsEvents :
    (∃ (s : State) (t : Nat) (c : Nat) (a : State), (a = (s.advance t)) ∧ (c < 4096) ∧ ((s.reg CELL.CELLc_CTRL.MODE c = CellMode.once ∨ s.reg
      CELL.CELLc_CTRL.MODE c = CellMode.periodic)) ∧ (a.cellDue c = true)) ∧
    (∃ (s : State) (t : Nat) (c : Nat) (a : State), (a = ((s.advance t).releaseHeld)) ∧ (c < 4096) ∧ (a.reg CELL.CELLc_CTRL.MODE c =
      CellMode.move) ∧ (a.cellDue c = true)) ∧
    (∃ (s : State) (t : Nat) (p : Nat) (l : Bool) (a : State), (a = (s.advance t)) ∧ (p < 64) ∧ (s.reg FPIN.PINp_CFG.DIR p = 0)) ∧
    (∃ (s : State) (t : Nat) (p : Nat) (l : Bool) (a : State), (a = (s.advance t)) ∧ (p < 64) ∧ (s.reg FPIN.PINp_CFG.DIR p = 1) ∧ (s.reg
      FPIN.PINp_FILT.FILT p ≠ 0)) ∧
    (∃ (s : State) (t : Nat) (p : Nat) (l : Bool) (a : State), (a = (s.advance t)) ∧ (p < 64) ∧ (s.reg FPIN.PINp_CFG.DIR p ≠ 0) ∧ ((s.reg
      FPIN.PINp_CFG.DIR p ≠ 1 ∨ s.reg FPIN.PINp_FILT.FILT p = 0))) ∧
    (∃ (s : State) (t : Nat) (p : Nat) (a : State), (a = (s.advance t)) ∧ (p < 64) ∧ (s.cells.rawSince.get p ≠ 0) ∧ (s.cells.rawSince.get p - 1
      + us (s.reg FPIN.PINp_FILT.FILT p) ≤ a.now)) ∧
    (∃ (s : State) (t : Nat) (l : Nat) (a : State), (a = (s.advance t)) ∧ ((s.cells.pulseEnd.get l).any a.pulseOver = true)) ∧
    (∃ (s : State) (l : Nat), ((s.cells.pulseEnd.get l).any s.pulseOver = true)) ∧
    (∃ (s : State) (t : Nat) (c : Nat) (a : State), (a = (s.advance t)) ∧ (s.reg CELL.CELLc_CTRL.MODE c = CellMode.reflex)) ∧
    (∃ (s : State) (t : Nat) (c : Nat) (a : State), (a = (s.advance t)) ∧ (s.reg CELL.CELLc_CTRL.MODE c = CellMode.reflex) ∧ ((s.cells.cell.get
      c).holdUntil ≤ a.now)) :=
  ⟨⟨wCell CellMode.periodic default [], 0, 9, _, rfl, by decide +kernel⟩,
    ⟨wCell CellMode.move default [], 0, 9, _, rfl, by decide +kernel⟩,
    ⟨State.reset, 0, 0, false, _, rfl, by decide +kernel⟩,
    ⟨wSet wAct [(FPIN.PINp_CFG.DIR, 63, 1), (FPIN.PINp_FILT.FILT, 63, 1)], 0, 63, false, _, rfl, by decide +kernel⟩,
    ⟨wSet wAct [(FPIN.PINp_CFG.DIR, 63, 2)], 0, 63, false, _, rfl, by decide +kernel, by decide +kernel, Or.inl (by decide +kernel)⟩,
    ⟨{ wAct with cells := { wAct.cells with rawSince := [(3, 1)] } }, 0, 3, _, rfl, by decide +kernel⟩,
    ⟨{ wAct with cells := { wAct.cells with pulseEnd := [(3, [(1, 9)])] } }, 1, 3, _, rfl, by decide +kernel⟩,
    ⟨{ wAct with now := 9, cells := { wAct.cells with pulseEnd := [(1, [(9, 0)])] } }, 1, by decide +kernel⟩,
    ⟨wCell CellMode.reflex default [], 0, 9, _, rfl, by decide +kernel⟩,
    ⟨wCell CellMode.reflex default [], 0, 9, _, rfl, by decide +kernel⟩⟩

theorem test_meets_ReflexRulesAndLatches :
    (∃ (s : State) (c : Nat), (s.reg CELL.CELLc_RULE.STORE c = 1) ∧ ((s.cells.cell.get c).q = true) ∧ ((s.cells.cell.get c).clrReq = false)) ∧
    (∃ (s : State) (c : Nat), (s.reg CELL.CELLc_RULE.STORE c = 2) ∧ (s.inputLevel c (s.selector c 3) = some true)) ∧
    (∃ (s : State) (c : Nat), ((s.reflexEval c).1 = true) ∧ ((s.cells.cell.get c).q = false)) ∧
    (∃ (s : State) (l : Nat), (64 ≤ l) ∧ (s.cells.actT.get l ≠ s.clockAt + 1)) ∧
    (∃ (s : State) (l : Nat) (k : Nat), (64 ≤ l) ∧ (k ≠ l)) ∧
    (∃ (s : State) (l : Nat), (64 ≤ l)) :=
  ⟨⟨wCell CellMode.reflex { (default : CellDyn) with q := true } [(CELL.CELLc_RULE.STORE, 9, 1)], 9, by decide +kernel⟩,
    ⟨wCell CellMode.reflex default [(CELL.CELLc_RULE.STORE, 9, 2), (CELL.CELLc_IN23.IN3, 9, 0x5000)], 9, by decide +kernel⟩,
    ⟨wCell CellMode.reflex default [(CELL.CELLc_IN01.IN0, 9, 0x5000)], 9, by decide +kernel⟩,
    ⟨State.reset, 64, by decide +kernel⟩,
    ⟨State.reset, 64, 1, by decide +kernel⟩,
    ⟨State.reset, 64, by decide +kernel⟩⟩

theorem test_meets_CaptureAndWindowStamps :
    (∃ (s : State) (t : Nat) (c : Nat) (at_ : Nat) (r : Bool) (w : Bool), ((s.advance t).records c CellMode.capture = true) ∧ ((s.reg CELL.CELLc_RULE.EDGE c = 2 ∨ (s.reg CELL.CELLc_RULE.EDGE c = 0 ∧ s.edgeRises c r = true) ∨
      (s.reg CELL.CELLc_RULE.EDGE c = 1 ∧ s.edgeRises c r = false))) ∧ ((s.cells.cell.get c).lastFrame = frameOf (s.seenAt c at_))) ∧
    (∃ (s : State) (t : Nat) (c : Nat) (at_ : Nat) (r : Bool) (w : Bool) (u : State) (p : State), ((s.advance t).records c CellMode.capture = true) ∧ ((s.reg CELL.CELLc_RULE.EDGE c = 2 ∨ (s.reg CELL.CELLc_RULE.EDGE c = 0 ∧ s.edgeRises c r = true) ∨
      (s.reg CELL.CELLc_RULE.EDGE c = 1 ∧ s.edgeRises c r = false))) ∧ ((s.cells.cell.get c).lastFrame ≠ frameOf (s.seenAt c at_)) ∧ (u = ((s.advance t).updCell c (fun d => { d with lastFrame := frameOf (s.seenAt c at_) }))) ∧ (p = (u.asOf (u.edgeInstant c at_)))) ∧
    (∃ (s : State) (t : Nat) (c : Nat) (at_ : Nat) (r : Bool) (w : Bool) (u : State) (p : State) (b : Nat) (d : CellDyn), ((s.advance t).records
      c CellMode.window = true) ∧ ((s.cells.cell.get c).lastFrame ≠ frameOf (s.seenAt c at_)) ∧ (u = ((s.advance t).updCell c (fun d =>
      { d with lastFrame := frameOf (s.seenAt c at_) }))) ∧ (p = (u.asOf (u.edgeInstant c at_))) ∧ (b = (s.reg CELL.CELLc_CTRL.BASE c)) ∧ (d
      = (s.cells.cell.get c)) ∧ (d.winActive = false) ∧ (startsWindow (s.reg CELL.CELLc_RULE.EDGE c) (s.edgeRises c r) = true)) ∧
    (∃ (s : State) (t : Nat) (c : Nat) (at_ : Nat) (r : Bool) (w : Bool) (u : State) (p : State) (b : Nat) (d : CellDyn), ((s.advance t).records
      c CellMode.window = true) ∧ ((s.cells.cell.get c).lastFrame ≠ frameOf (s.seenAt c at_)) ∧ (u = ((s.advance t).updCell c (fun d =>
      { d with lastFrame := frameOf (s.seenAt c at_) }))) ∧ (p = (u.asOf (u.edgeInstant c at_))) ∧ (b = (s.reg CELL.CELLc_CTRL.BASE c)) ∧ (d
      = (s.cells.cell.get c)) ∧ (d.winActive = true) ∧ (endsWindow (s.reg CELL.CELLc_RULE.EDGE c) (s.edgeRises c r) = true) ∧ (startsWindow
      (s.reg CELL.CELLc_RULE.EDGE c) (s.edgeRises c r) = false) ∧ (d.winEpoch ≠ p.baseEpoch b)) ∧
    (∃ (s : State) (t : Nat) (c : Nat) (at_ : Nat) (r : Bool) (w : Bool) (u : State) (p : State) (b : Nat) (d : CellDyn), ((s.advance t).records
      c CellMode.window = true) ∧ ((s.cells.cell.get c).lastFrame ≠ frameOf (s.seenAt c at_)) ∧ (u = ((s.advance t).updCell c (fun d =>
      { d with lastFrame := frameOf (s.seenAt c at_) }))) ∧ (p = (u.asOf (u.edgeInstant c at_))) ∧ (b = (s.reg CELL.CELLc_CTRL.BASE c)) ∧ (d
      = (s.cells.cell.get c)) ∧ (d.winActive = true) ∧ (endsWindow (s.reg CELL.CELLc_RULE.EDGE c) (s.edgeRises c r) = true) ∧ (startsWindow
      (s.reg CELL.CELLc_RULE.EDGE c) (s.edgeRises c r) = false) ∧ (d.winEpoch = p.baseEpoch b)) ∧
    (∃ (s : State) (t : Nat) (c : Nat) (at_ : Nat) (r : Bool) (w : Bool), ((s.advance t).records c CellMode.window = true) ∧ ((if (s.cells.cell.get c).winActive then endsWindow (s.reg CELL.CELLc_RULE.EDGE c) (s.edgeRises c r)
      else startsWindow (s.reg CELL.CELLc_RULE.EDGE c) (s.edgeRises c r)) = true) ∧ ((s.cells.cell.get c).lastFrame = frameOf (s.seenAt c at_))) ∧
    (∃ (s : State) (t : Nat) (c : Nat) (w : Bool), ((s.advance t).records c CellMode.window = true) ∧ ((s.cells.cell.get c).winActive = true) ∧
      (s.cellPeriod c ≤ diffMod 64 ((s.advance t).baseVal (s.reg CELL.CELLc_CTRL.BASE c)) (s.cells.cell.get c).winStart)) ∧
    (∃ (s : State) (t : Nat) (c : Nat) (at_ : Nat) (r : Bool) (w : Bool), ((s.advance t).keepsEdge c CellMode.capture = true)) ∧
    (∃ (s : State) (t : Nat) (c : Nat) (at_ : Nat) (r : Bool) (w : Bool), ((s.advance t).keepsEdge c CellMode.window = true)) :=
  ⟨⟨wCell CellMode.capture { (default : CellDyn) with lastFrame := 1 } [(CELL.CELLc_RULE.EDGE, 9, 2)], 0, 9, 0, false, false,
      by decide +kernel⟩,
    ⟨wCell CellMode.capture default [(CELL.CELLc_RULE.EDGE, 9, 2)], 0, 9, 1000, false, false, _, _, by decide +kernel, by decide +kernel,
      (by decide +kernel), rfl, rfl⟩,
    ⟨wCell CellMode.window default [(CELL.CELLc_RULE.EDGE, 9, 0)], 0, 9, 1000, true, false, _, _, _, _, by decide +kernel, by decide +kernel,
      rfl, rfl, rfl, rfl, by decide +kernel⟩,
    ⟨wCell CellMode.window { (default : CellDyn) with winActive := true, winEpoch := 7 } [(CELL.CELLc_RULE.EDGE, 9, 0)], 0, 9, 1000, false,
      false, _, _, _, _, by decide +kernel, by decide +kernel, rfl, rfl, rfl, rfl, by decide +kernel⟩,
    ⟨wCell CellMode.window { (default : CellDyn) with winActive := true, winEpoch := 1 } [(CELL.CELLc_RULE.EDGE, 9, 0)], 0, 9, 1000, false,
      false, _, _, _, _, by decide +kernel, by decide +kernel, rfl, rfl, rfl, rfl, by decide +kernel⟩,
    ⟨wCell CellMode.window { (default : CellDyn) with lastFrame := 1 } [(CELL.CELLc_RULE.EDGE, 9, 0)], 0, 9, 0, true, false, by decide +kernel⟩,
    ⟨wCell CellMode.window { (default : CellDyn) with winActive := true } [(CELL.CELLc_PERIOD.PERIOD, 9, 1)], 4, 9, false, by decide +kernel⟩,
    ⟨(let s := wCell CellMode.capture default [(CELL.CELLc_RULE.EDGE, 9, 2)]; { s with cells := { s.cells with strandRestart := [(0, 1)] } }),
      0, 9, 0, false, false, by decide +kernel⟩,
    ⟨(let s := wCell CellMode.window default [(CELL.CELLc_RULE.EDGE, 9, 2)]; { s with cells := { s.cells with strandRestart := [(0, 1)] } }), 0,
      9, 0, false, false, by decide +kernel⟩⟩

theorem test_meets_ResultsArePublished :
    (∃ (s : State) (c : Nat) (v : Nat) (e : Nat) (sub : Nat) (m : Bool) (w : Bool), (c < 4096) ∧ (v < 2 ^ 64) ∧ ((s.flag CELL.CELLc_STAT.CQ c =
      false ∨ s.ingressOn = false))) ∧
    (∃ (s : State) (c : Nat) (v : Nat) (e : Nat) (sub : Nat) (m : Bool) (w : Bool), (c < 4096) ∧ (v < 2 ^ 64) ∧ (s.flag CELL.CELLc_STAT.CQ c =
      true) ∧ (s.ingressOn = true) ∧ ((s.rateFree = false ∨ w = true)) ∧ (Config.strandFifo ≤ (s.cells.fifo.get (s.hostOf (strandOf
      c))).length)) ∧
    (∃ (s : State) (c : Nat) (v : Nat) (e : Nat) (sub : Nat) (m : Bool) (w : Bool), (c < 4096) ∧ (v < 2 ^ 64) ∧ (s.flag CELL.CELLc_STAT.CQ c =
      true) ∧ (s.ingressOn = true) ∧ (s.cells.fifo = []) ∧ (s.rateFree = true) ∧ (w = false)) ∧
    (∃ (s : State) (c : Nat) (v : Nat) (e : Nat) (sub : Nat) (m : Bool) (w : Bool), (c < 4096) ∧ (v < 2 ^ 64) ∧ (s.flag CELL.CELLc_STAT.CQ c =
      true) ∧ (s.ingressOn = true) ∧ (s.cells.fifo = []) ∧ ((s.rateFree = false ∨ w = true))) :=
  ⟨⟨State.reset, 4095, 2 ^ 64 - 1, 0, 0, false, false, by decide +kernel⟩,
    ⟨(let s := wSet wAct [(CELL.CELLc_STAT.CQ, 9, 1)];
      { s with img := { s.img with issued := [(0, 5000)] }, cells := { s.cells with fifo := [(0, List.replicate 16 default)] } }), 9, 0, 0,
      0, false, false, by decide +kernel⟩,
    ⟨wSet wAct [(CELL.CELLc_STAT.CQ, 9, 1)], 9, 0, 0, 0, false, _, by decide +kernel, by decide +kernel, (by decide +kernel), by decide +kernel,
      by decide +kernel, (by decide +kernel), rfl⟩,
    ⟨(let s := wSet wAct [(CELL.CELLc_STAT.CQ, 9, 1)]; { s with img := { s.img with issued := [(0, 5000)] } }), 9, 0, 0, 0, false, false,
      by decide +kernel⟩⟩

theorem test_meets_CellWritesAreGuarded :
    (∃ (s : State) (t : Nat) (m : Nat) (c : Nat) (off : Nat) (v : Nat) (pc : Nat) (a : State) (x : Nat), (a = (s.advance t)) ∧ (c < 4096) ∧ (m <
      16) ∧ (s.cycleTask m = some x) ∧ ((s.cells.cfg.get c).owner = some x) ∧ (s.flag CELL.CELLc_STAT.RTW c = true)) ∧
    (∃ (s : State) (t : Nat) (m : Nat) (c : Nat) (off : Nat) (v : Nat) (pc : Nat) (a : State) (x : Nat), (a = (s.advance t)) ∧ (c < 4096) ∧ (m <
      16) ∧ (s.cycleTask m = some x) ∧ ((s.cells.cfg.get c).owner = some x) ∧ (s.flag CELL.CELLc_STAT.RTW c = true) ∧ (bitOf 5 v = true)) ∧
    (∃ (s : State) (t : Nat) (m : Nat) (c : Nat) (off : Nat) (v : Nat) (pc : Nat) (a : State) (x : Nat), (a = (s.advance t)) ∧ (c < 4096) ∧ (m <
      16) ∧ (s.cycleTask m = some x) ∧ ((s.cells.cfg.get c).owner ≠ some x) ∧ (s.flag CELL.CELLc_STAT.RTW c = true)) ∧
    (∃ (s : State) (t : Nat) (m : Nat) (c : Nat) (off : Nat) (v : Nat) (pc : Nat) (a : State), (a = (s.advance t)) ∧ (c < 4096) ∧ (m = 36) ∧
      (s.flag CELL.CELLc_STAT.RTW c = true)) ∧
    (∃ (s : State) (t : Nat) (m : Nat) (c : Nat) (off : Nat) (v : Nat) (pc : Nat) (a : State), (a = (s.advance t)) ∧ (c < 4096) ∧ (s.flag
      CELL.CELLc_STAT.RTW c = false ∨ (16 ≤ m ∧ m ≠ 36))) ∧
    (∃ (s : State) (m : Nat) (c : Nat) (v : Nat), (s.sameShape c v = false)) ∧
    (∃ (s : State) (m : Nat) (c : Nat) (v : Nat), (s.sameShape c v = true) ∧ (s.periodOk c = false)) ∧
    (∃ (s : State) (m : Nat) (c : Nat) (v : Nat), (s.sameShape c v = true) ∧ (s.periodOk c = true)) :=
  ⟨⟨wOwner, 0, 2, 9, 0, 32, 0, _, 5, rfl, by decide +kernel⟩,
    ⟨wOwner, 0, 2, 9, 0, 32, 0, _, 5, rfl, by decide +kernel⟩,
    ⟨wSet wOwner [(CELL.CELLc_STAT.RTW, 8, 1)], 0, 2, 8, 0, 0, 0, _, 5, rfl, by decide +kernel⟩,
    ⟨wOwner, 0, _, 9, 0, 0, 0, _, rfl, by decide +kernel, rfl, by decide +kernel⟩,
    ⟨State.reset, 0, 16, 4095, 0, 0, 0, _, rfl, by decide +kernel⟩,
    ⟨State.reset, 0, 0, 1, by decide +kernel⟩,
    ⟨wCell CellMode.periodic default [], 0, 9, 3, by decide +kernel⟩,
    ⟨State.reset, 0, 0, 0, by decide +kernel⟩⟩

theorem test_meets_CellsAndStrandsAreReplaced :
    (∃ (s : State) (t : Nat) (c : Nat) (a : State) (next : Nat) (k : State) (u : State) (b : State), (c < 4096) ∧ (s.flag CELL.CELLc_STAT.DEAD c
      = false) ∧ (a = ((s.advance t).addReg CELL.CHKCNT.COUNT 0 1)) ∧ (next = ((a.now / Config.frame + 1) * Config.frame)) ∧ (k = (a.updCell
      c (fun d => { d with keepUntil := next }))) ∧ (u = (({ k with cells := { k.cells with moved := max k.cells.moved next } }).occur 1 c
      (0x0C0 + c / 256))) ∧ (b = ((u.setReg CELL.CELLc_STAT.CHKFAIL c (min 15 (u.life.occ.get (itemKey 1 c)).length)).note 3 c []))) ∧
    (∃ (s : State) (t : Nat) (c : Nat), ((s.cells.cell.get c).retired = true) ∧ (s.flag CELL.CELLc_STAT.DEAD c = false) ∧ (s.reg
      CELL.STRANDs_STAT.SPARES (s.hostOf (strandOf c)) < 4) ∧ ((s.advance t).safePoint c = true ∨ (s.cells.cell.get c).remapAt + msec 1 ≤
      max s.now t)) ∧
    (∃ (s : State) (t : Nat) (n : Nat) (a : State) (b : State), (n < 128) ∧ (s.reg CELL.STRANDs_STAT.STATE n ≠ 2) ∧ (a = (((s.advance t).setReg CELL.STRANDs_STAT.STATE n 1).addReg CELL.STRANDs_STAT.RESTARTS n 1)) ∧ (b = (({ a with cells := { a.cells with strandRestart := a.cells.strandRestart.set n (a.now + 1) } }.occur 2 n (0x0B0 + n / 8)).note
      4 n []))) ∧
    (∃ (s : State) (t : Nat) (n : Nat) (a : State), (n < 128) ∧ (s.reg CELL.STRANDs_STAT.STATE n = 1) ∧ (a = (s.advance t))) ∧
    (∃ (s : State) (t : Nat) (n : Nat) (a : State), (n < 128) ∧ (s.cells.strandMoving.get n = true) ∧ (a =
      ({ s.advance t with cells := { s.cells with strandMoving := s.cells.strandMoving.set n false } }))) ∧
    (∃ (s : State) (c : Nat), (4 ≤ s.reg CELL.STRANDs_STAT.SPARES (s.hostOf (strandOf c)))) :=
  ⟨⟨State.reset, 0, 4095, _, _, _, _, _, by decide +kernel, by decide +kernel, rfl, rfl, rfl, rfl, rfl⟩,
    ⟨wCell 0 { (default : CellDyn) with retired := true } [], 0, 9, by decide +kernel, by decide +kernel, (by decide +kernel), Or.inl
      (by decide +kernel)⟩,
    ⟨State.reset, 0, 127, _, _, by decide +kernel, by decide +kernel, rfl, rfl⟩,
    ⟨wSet wAct [(CELL.STRANDs_STAT.STATE, 127, 1)], 0, 127, _, by decide +kernel, by decide +kernel, rfl⟩,
    ⟨{ wAct with cells := { wAct.cells with strandMoving := [(127, true)] } }, 0, 127, _, by decide +kernel, by decide +kernel, rfl⟩,
    ⟨wSet wAct [(CELL.STRANDs_STAT.SPARES, 0, 4)], 9, by decide +kernel⟩⟩

theorem test_meets_EnergyIsDistributedFairly :
    (∃ (d : Nat) (needs : List (Nat × Nat × Nat)) (x : (Nat × Nat) × (Nat × Nat × Nat)), (x ∈ (distribute d needs).zip (needs.filter (fun x =>
      x.2.1 != 0)))) ∧
    (∃ (d : Nat) (needs : List (Nat × Nat × Nat)), ((needs.map (fun x => x.2.1)).sum ≤ d)) ∧
    (∃ (d : Nat) (needs : List (Nat × Nat × Nat)), (d ≤ (needs.map (fun x => x.2.1)).sum)) ∧
    (∃ (s : State) (n : Nat) (b : Nat), (b < 16)) ∧
    (∃ (s : State) (b : Nat) (e : Nat) (c : Nat), (b < 16) ∧ (-(2 : Int) ^ 31 ≤ s.account b - e) ∧ (c < 16) ∧ (c ≠ b)) ∧
    (∃ (s : State) (b : Nat) (e : Nat), (b < 16) ∧ (-(2 : Int) ^ 31 ≤ s.account b - e)) :=
  ⟨⟨1, [(0, 1, 1)], ((0, 1), (0, 1, 1)), by decide +kernel⟩,
    ⟨1, [(0, 1, 1)], by decide +kernel⟩,
    ⟨1, [(0, 1, 1)], by decide +kernel⟩,
    ⟨State.reset, 0, 15, by decide +kernel⟩,
    ⟨State.reset, 15, 2 ^ 31, 0, by decide +kernel⟩,
    ⟨State.reset, 15, 2 ^ 31, by decide +kernel⟩⟩

theorem test_meets_RefillAndPoolLimits :
    (∃ (s : State) (t : Nat) (n : Nat) (u : Nat) (p : List Nat) (b : List Nat) (a : State), (a = (((s.advance t).each (p.zip (List.range 16)) (fun s x => s.setReg KETTLE.BLKb_POWER.MW x.2 (min x.1 65535))).each
       (b.zip (List.range 16)) (fun s x => s.setReg BLK.LOAD.BUSY x.2 (min x.1 10000))))) ∧
    (∃ (s : State) (t : Nat) (total : Nat) (safe : Nat), (total ≤ 750) ∧ (safe < 720)) ∧
    (∃ (s : State) (t : Nat) (total : Nat) (safe : Nat) (a : State), (a = (((((s.advance t).setReg KETTLE.POOL_I.TOTAL 0 (min total 4095)).setReg KETTLE.POOL_I.SAFE 0 (min safe 4095)).setFlag
      KETTLE.POOL_STAT.SAFE_HIGH 0 false).startLimiting total safe)) ∧ (750 < total) ∧ (safe < 720)) ∧
    (∃ (s : State) (t : Nat), (s.flag KETTLE.POOL_STAT.LIMITING = true) ∧ (s.flag KETTLE.POOL_STAT.SAFE_HIGH = false) ∧ (s.kettle.limitSince +
      msec 100 ≤ max s.now t) ∧ ((s.kettle.lastRise = 0 ∨ s.kettle.lastRise - 1 + msec 10 ≤ max s.now t)) ∧ (s.reg KETTLE.POOL_STAT.LIMIT <
      45)) ∧
    (∃ (s : State) (t : Nat), (s.flag KETTLE.POOL_STAT.LIMITING = true) ∧ (s.flag KETTLE.POOL_STAT.SAFE_HIGH = false) ∧ (s.kettle.limitSince +
      msec 100 ≤ max s.now t) ∧ ((s.kettle.lastRise = 0 ∨ s.kettle.lastRise - 1 + msec 10 ≤ max s.now t)) ∧ (45 ≤ s.reg
      KETTLE.POOL_STAT.LIMIT)) :=
  ⟨⟨State.reset, 0, 0, 0, [1, 2], [3], _, rfl⟩,
    ⟨State.reset, 0, 750, 719, by decide +kernel⟩,
    ⟨State.reset, 0, 751, 0, _, rfl, by decide +kernel⟩,
    ⟨wSet wAct [(KETTLE.POOL_STAT.LIMITING, 0, 1), (KETTLE.POOL_STAT.LIMIT, 0, 44)], msec 100, by decide +kernel, by decide +kernel,
      (by decide +kernel), Or.inl (by decide +kernel), by decide +kernel⟩,
    ⟨wSet wAct [(KETTLE.POOL_STAT.LIMITING, 0, 1), (KETTLE.POOL_STAT.LIMIT, 0, 45)], msec 100, by decide +kernel, by decide +kernel,
      (by decide +kernel), Or.inl (by decide +kernel), by decide +kernel⟩⟩

theorem test_meets_HeatAndRegions :
    (∃ (s : State) (t : Nat) (x : List Int) (y : List Int) (i : Int) (a : State), (a = ((s.advance t).each ((List.range 4).zip (x.zip y)) (fun s
      z => (s.readRegion z.1 z.2.1 z.2.2).regionHeat z.1)))) ∧
    (∃ (s : State) (t : Nat) (r : Nat) (a : State), (a = (s.advance t)) ∧ (r < 4) ∧ (s.heat r ≠ 0) ∧ (s.heat r < 4) ∧ (a.secondPast
      s.kettle.heatBelow (4 * r + s.heat r) = true)) ∧
    (∃ (s : State) (t : Nat) (r : Nat) (a : State), (a = (s.advance t)) ∧ (r < 4) ∧ (s.reg KETTLE.RGNr_FCAP.FMAX r < s.reg
      KETTLE.RGNr_STATE.FLEVEL r) ∧ (s.reg KETTLE.RGNr_STATE.FLEVEL r < 4) ∧ ((s.regionTemp r).isSome = true) ∧ (a.secondPast
      s.kettle.clockBelow (4 * r + s.reg KETTLE.RGNr_STATE.FLEVEL r) = true) ∧ ((s.kettle.clockStepAt.get r = 0 ∨ s.kettle.clockStepAt.get r
      - 1 + sec 1 ≤ a.now))) ∧
    (∃ (s : State) (t : Nat) (a : State), (a = (s.advance t)) ∧ (s.reg KETTLE.BUDGET_EFF.DERATE ≠ 0) ∧ (a.secondPast s.kettle.derateBelow (s.reg
      KETTLE.BUDGET_EFF.DERATE) = true)) ∧
    (∃ (s : State) (t : Nat) (r : Nat) (a : State), (a = (s.advance t)) ∧ (r < 4) ∧ (s.regionPower r = 1) ∧ (s.kettle.stopAt.get r ≠ 0) ∧
      (s.kettle.stopAt.get r - 1 + msec 1 ≤ a.now)) ∧
    (∃ (s : State) (t : Nat) (r : Nat) (a : State), (a = (s.advance t)) ∧ (r < 4) ∧ (s.regionPower r = 1) ∧ (((regionBlocks r).all (fun b =>
      (s.tasksOn b).isEmpty) = true ∨ s.kettle.stopAt.get r - 1 + msec 50 ≤ a.now))) ∧
    (∃ (s : State) (t : Nat) (r : Nat) (a : State) (b : State), (a = (((((s.advance t).setReg KETTLE.RGNr_STATE.POWER r 0).setReg KETTLE.RGNr_STATE.HEAT r 0).clearRegionMemory r).setReg
      KETTLE.RGNr_STATE.FLEVEL r (s.reg KETTLE.RGNr_FCAP.FMAX r))) ∧ (b = ({ a with kettle := { a.kettle with coolSince := a.kettle.coolSince.set r 0 } }.each (regionBlocks r) (fun s b =>
      if s.reg BLK.STATUS.STATE b = BlockState.stopped then s.setReg BLK.STATUS.STATE b BlockState.idle else s))) ∧ (r < 4) ∧ (s.regionPower r = 2) ∧ (s.kettle.coolSince.get r ≠ 0) ∧ (s.kettle.coolSince.get r - 1 + sec 60 ≤ max s.now t)) :=
  ⟨⟨State.reset, 0, [], [], 0, _, rfl⟩,
    ⟨wKettle [(KETTLE.RGNr_STATE.HEAT, 3, 1)] { (default : KettleSt) with heatBelow := [(13, 1)] }, sec 1, 3, _, rfl, by decide +kernel⟩,
    ⟨wKettle [(KETTLE.RGNr_STATE.FLEVEL, 3, 1)] { (default : KettleSt) with clockBelow := [(13, 1)] }, sec 1, 3, _, rfl, by decide +kernel,
      by decide +kernel, (by decide +kernel), by decide +kernel, by decide +kernel, Or.inl (by decide +kernel)⟩,
    ⟨wKettle [(KETTLE.BUDGET_EFF.DERATE, 0, 1)] { (default : KettleSt) with derateBelow := [(1, 1)] }, sec 1, _, rfl, by decide +kernel⟩,
    ⟨wKettle [(KETTLE.RGNr_STATE.POWER, 3, 1)] { (default : KettleSt) with stopAt := [(3, 1)] }, msec 1, 3, _, rfl, by decide +kernel⟩,
    ⟨wKettle [(KETTLE.RGNr_STATE.POWER, 3, 1)] { (default : KettleSt) with stopAt := [(3, 1)] }, msec 1, 3, _, rfl, by decide +kernel,
      by decide +kernel, Or.inl (by decide +kernel)⟩,
    ⟨wKettle [(KETTLE.RGNr_STATE.POWER, 3, 2)] { (default : KettleSt) with coolSince := [(3, 1)] }, sec 60, 3, _, _, rfl, rfl,
      by decide +kernel⟩⟩

theorem test_meets_PoweredOffRegionLosesItsOwn :
    (∃ (s : State) (r : Nat) (q : Nat), (r < 4) ∧ (q < 4)) ∧
    (∃ (s : State) (r : Nat) (b : Nat), (r < 4) ∧ (b ∈ regionBlocks r)) ∧
    (∃ (s : State) (r : Nat) (q : Nat), (r < 4) ∧ (q < 4) ∧ (q ≠ r)) ∧
    (∃ (s : State) (r : Nat) (k : Nat), (r < 4) ∧ (k / 2 ^ 36 ≤ 1)) ∧
    (∃ (s : State) (r : Nat), (r < 4)) :=
  ⟨⟨State.reset, 0, 0, by decide +kernel⟩,
    ⟨State.reset, 3, 15, by decide +kernel⟩,
    ⟨State.reset, 3, 0, by decide +kernel⟩,
    ⟨State.reset, 3, 2 ^ 36, by decide +kernel⟩,
    ⟨State.reset, 3, by decide +kernel⟩⟩

theorem test_meets_KettleWrites :
    (∃ (s : State) (t : Nat) (m : Nat) (v : Nat) (a : State), (a = (s.advance t))) ∧
    (∃ (s : State) (t : Nat) (m : Nat) (k : Nat) (v : Nat) (a : State) (b : State), (a = (((s.advance t).setReg KETTLE.BLKb_QUOTA.QUOTA k (wrap
      32 v)).mirrorReg (KETTLE.BLKb_QUOTA.QUOTA.addrOf k) (wrap 32 v))) ∧ (b = ((a.setAccount k (min (a.account k) (wrap 32 v))).each
      ((a.setAccount k (min (a.account k) (wrap 32 v))).tasksOn k) State.feed)) ∧ (k < 16) ∧ (s.reg KETTLE.BLKb_RA.RA k ≤ wrap 32 v) ∧ (wrap
      32 v ≤ 0x7FFFFFFF)) ∧
    (∃ (s : State) (t : Nat) (m : Nat) (k : Nat) (v : Nat), (k < 16) ∧ ((wrap 32 v < s.reg KETTLE.BLKb_RA.RA k ∨ 0x7FFFFFFF < wrap 32 v))) ∧
    (∃ (s : State) (t : Nat) (m : Nat) (v : Nat), (bitField 0 10 v ≤ s.reg KETTLE.BUDGET.IMAGE) ∧ (100 ≤ bitField 0 10 v) ∧ (2 * s.classATotal ≤
      bitField 0 10 v * 100)) ∧
    (∃ (s : State) (t : Nat) (m : Nat) (v : Nat), ((s.reg KETTLE.BUDGET.IMAGE < bitField 0 10 v ∨ bitField 0 10 v < 100))) :=
  ⟨⟨State.reset, 0, 0, 0, _, rfl⟩,
    ⟨State.reset, 0, 0, 15, 0x7FFFFFFF, _, _, rfl, rfl, by decide +kernel⟩,
    ⟨State.reset, 0, 0, 0, 0x80000000, by decide +kernel, Or.inr (by decide +kernel)⟩,
    ⟨wSet wAct [(KETTLE.BUDGET.IMAGE, 0, 100)], 0, 0, 100, by decide +kernel⟩,
    ⟨State.reset, 0, 0, 99, Or.inl (by decide +kernel)⟩⟩

theorem test_meets_RingEvents :
    (∃ (s : State) (t : Nat) (r : Nat) (a : State), (a = (s.advance t)) ∧ (r < 2) ∧ (a.originates r = true) ∧ (a.periodReached r = true) ∧
      (a.pastEarly r = true)) ∧
    (∃ (s : State) (t : Nat) (r : Nat) (a : State), (a = (s.advance t)) ∧ (r < 2) ∧ (a.originates r = true) ∧ (a.periodReached r = true) ∧
      (a.pastEarly r = false)) ∧
    (∃ (s : State) (t : Nat) (r : Nat) (a : State), (a = (s.advance t)) ∧ (r < 2) ∧ (a.originates r = true) ∧ ((s.ring r).startAt ≠ 0) ∧
      ((s.ring r).startAt - 1 + 3 * a.periodTime r / 2 ≤ a.now)) ∧
    (∃ (s : State) (t : Nat) (r : Nat) (st : Nat) (ep : Nat) (pe : Nat) (seq : Nat) (seg : Nat) (first : Nat) (h : Nat) (rev : Bool) (vals :
      List (Nat × Nat)) (a : State), (a = (((s.advance t).forward r rev h).seeRing ep)) ∧ (r < 2) ∧ (s.takesFrame r rev = true) ∧
      (s.mode.runtimeRuns = true) ∧ (st < 128) ∧ (seg < 64) ∧ (seg % 8 < bitField 3 3 seg + 1) ∧ (s.flag STN.RINGr_STAa_CFG.PRESENT (staKey
      r st) = true) ∧ (first + vals.length ≤ (s.rings.cfg.get (staKey r st)).inputs.length) ∧ (vals.length ≤ 512) ∧ (wrap 32 ep ≠
      a.ringEpoch r)) ∧
    (∃ (s : State) (t : Nat) (r : Nat) (st : Nat) (ep : Nat) (pe : Nat) (seq : Nat) (seg : Nat) (first : Nat) (h : Nat) (rev : Bool) (vals :
      List (Nat × Nat)) (a : State), (a = (((s.advance t).forward r rev h).seeRing ep)) ∧ (r < 2) ∧ (s.takesFrame r rev = true) ∧
      (s.mode.runtimeRuns = true) ∧ (st < 128) ∧ (seg < 64) ∧ (seg % 8 < bitField 3 3 seg + 1) ∧ (s.flag STN.RINGr_STAa_CFG.PRESENT (staKey
      r st) = true) ∧ (first + vals.length ≤ (s.rings.cfg.get (staKey r st)).inputs.length) ∧ (vals.length ≤ 512) ∧ (wrap 32 ep =
      a.ringEpoch r) ∧ (((s.ring r).counted = false ∨ wrap 32 pe ≠ s.reg STN.RINGr_PERIOD.NUM r))) ∧
    (∃ (s : State) (t : Nat) (r : Nat) (st : Nat) (ep : Nat) (pe : Nat) (seq : Nat) (seg : Nat) (first : Nat) (h : Nat) (rev : Bool) (vals :
      List (Nat × Nat)) (a : State), (a = (((s.advance t).forward r rev h).seeRing ep)) ∧ (r < 2) ∧ (s.takesFrame r rev = true) ∧
      (s.mode.runtimeRuns = true) ∧ (st < 128) ∧ (seg < 64) ∧ (seg % 8 < bitField 3 3 seg + 1) ∧ (s.flag STN.RINGr_STAa_CFG.PRESENT (staKey
      r st) = true) ∧ (first + vals.length ≤ (s.rings.cfg.get (staKey r st)).inputs.length) ∧ (vals.length ≤ 512) ∧ (wrap 32 ep =
      a.ringEpoch r) ∧ ((s.ring r).counted = true) ∧ (wrap 32 pe = s.reg STN.RINGr_PERIOD.NUM r)) ∧
    (∃ (s : State) (t : Nat) (r : Nat) (st : Nat) (pe : Nat) (nin : Nat) (nout : Nat) (lay : Nat) (ver : Nat) (h : Nat) (rev : Bool) (a : State)
      (b : State), (a = ((s.advance t).forward r rev h)) ∧ (b = (a.updSta (staKey r st) (fun d => { d with ident := wrap 32 pe + 1 }))) ∧ (r
      < 2) ∧ (s.takesFrame r rev = true) ∧ (st < 128) ∧ (s.mode.runtimeRuns = true) ∧ (s.flag STN.RINGr_STAa_CFG.PRESENT (staKey r st) =
      true) ∧ ((s.rings.sta.get (staKey r st)).ident ≠ wrap 32 pe + 1) ∧ (nin = (s.rings.cfg.get (staKey r st)).inputs.length) ∧ (nout =
      (s.rings.cfg.get (staKey r st)).outputs.length) ∧ (wrap 32 lay = s.reg STN.RINGr_STAa_LAYOUT.LAYOUT (staKey r st)) ∧ (s.staState
      (staKey r st) = StaState.absent)) ∧
    (∃ (s : State) (t : Nat) (r : Nat) (st : Nat) (pe : Nat) (nin : Nat) (nout : Nat) (lay : Nat) (ver : Nat) (h : Nat) (rev : Bool) (a : State)
      (b : State), (a = ((s.advance t).forward r rev h)) ∧ (b = (a.updSta (staKey r st) (fun d => { d with ident := wrap 32 pe + 1 }))) ∧ (r
      < 2) ∧ (s.takesFrame r rev = true) ∧ (st < 128) ∧ (s.mode.runtimeRuns = true) ∧ (s.flag STN.RINGr_STAa_CFG.PRESENT (staKey r st) =
      true) ∧ ((s.rings.sta.get (staKey r st)).ident ≠ wrap 32 pe + 1) ∧ (nin ≠ (s.rings.cfg.get (staKey r st)).inputs.length) ∧ (s.staState
      (staKey r st) ≠ StaState.good)) ∧
    (∃ (s : State) (t : Nat) (r : Nat) (ep : Nat) (pe : Nat) (ps : Nat) (be : Nat) (bs : Nat) (h : Nat) (rev : Bool) (a : State), (a =
      (((s.advance t).forward r rev h).seeRing (wrap 32 ep))) ∧ (r < 2) ∧ (s.takesFrame r rev = true) ∧ (s.mode.runtimeRuns = true) ∧
      (a.originates r = true) ∧ (laterMod 32 (wrap 32 ep) (s.reg PAIR.EPOCH.EPOCH) = true)) ∧
    (∃ (s : State) (t : Nat) (r : Nat) (ep : Nat) (pe : Nat) (ps : Nat) (be : Nat) (bs : Nat) (h : Nat) (rev : Bool) (a : State), (a =
      (((s.advance t).forward r rev h).seeRing (wrap 32 ep))) ∧ (r < 2) ∧ (s.takesFrame r rev = true) ∧ (s.mode.runtimeRuns = true) ∧
      (a.originates r = false) ∧ (s.mode = .standby) ∧ ((s.ring r).heard = false)) ∧
    (∃ (s : State) (t : Nat) (r : Nat) (st : Nat) (ep : Nat) (pe : Nat) (x : Nat) (y : Nat) (z : Nat) (w : Nat) (h : Nat) (rev : Bool) (vals :
      List (Nat × Nat)), (s.takesFrame r rev = false)) ∧
    (∃ (s : State) (t : Nat) (r : Nat) (pe : Nat) (l : Bool) (a : State), (a = ((s.advance t).updRing r (fun d =>
      { d with returned := d.returned || l }))) ∧ (r < 2) ∧ ((s.ring r).counted = true) ∧ (wrap 32 pe = s.reg STN.RINGr_PERIOD.NUM r) ∧
      ((s.ring r).inRing = false)) ∧
    (∃ (s : State) (t : Nat) (r : Nat) (pe : Nat) (l : Bool) (a : State), (a = ((s.advance t).updRing r (fun d =>
      { d with returned := d.returned || l }))) ∧ (r < 2) ∧ ((s.ring r).counted = true) ∧ (wrap 32 pe = s.reg STN.RINGr_PERIOD.NUM r) ∧
      ((s.ring r).inRing = true)) ∧
    (∃ (s : State) (t : Nat), (s.mode.runtimeRuns = true)) ∧
    (∃ (s : State) (t : Nat) (p : Nat) (h : Nat), (p < 4) ∧ (s.mode.runtimeRuns = true) ∧ (s.flag STN.PORTp_STAT.RETIRED p = false)) ∧
    (∃ (s : State) (t : Nat) (p : Nat) (h : Nat) (f : Bool), (s.flag STN.PORTp_STAT.RETIRED p = true)) ∧
    (∃ (s : State) (r : Nat) (h : Nat) (rev : Bool), (s.mode ≠ .off) ∧ (2 ≤ h) ∧ (s.portSends (leavePort r rev) = true)) ∧
    (∃ (s : State) (r : Nat) (h : Nat) (rev : Bool), (s.mode ≠ .off) ∧ (2 ≤ h) ∧ (s.portSends (leavePort r rev) = false)) ∧
    (∃ (s : State) (t : Nat) (p : Nat) (a : State), (a = ((((s.advance t).sense STN.PORTp_STAT.LINK p 0).note 8 (0x100 + p) []).occur 7 p (0x130
      + p))) ∧ (p < 4) ∧ (s.sensed STN.PORTp_STAT.LINK p = true) ∧ (a.permanent 7 p = false)) ∧
    (∃ (s : State) (t : Nat) (p : Nat) (a : State), (a = ((((s.advance t).sense STN.PORTp_STAT.LINK p 0).note 8 (0x100 + p) []).occur 7 p (0x130
      + p))) ∧ (p < 4) ∧ (s.sensed STN.PORTp_STAT.LINK p = true) ∧ (a.permanent 7 p = true) ∧ (a.flag STN.PORTp_STAT.RETIRED p = false)) ∧
    (∃ (s : State) (t : Nat) (p : Nat), (p < 4) ∧ (s.flag STN.PORTp_STAT.RETIRED p = false)) :=
  ⟨⟨wRing default [], msec 1, 1, _, rfl, by decide +kernel⟩,
    ⟨wRing { (default : RingDyn) with startAt := 1000, next := some 0 } [(PHASE.BASEn_STATUS.STATE, 1, BaseState.locked)], 0, 1, _, rfl,
      by decide +kernel⟩,
    ⟨wRing { (default : RingDyn) with startAt := 1 } [], sec 1, 1, _, rfl, by decide +kernel⟩,
    ⟨wRing default [], 0, 1, 3, 1, 0, 0, 0, 0, 0, false, [(1, 0)], _, rfl, by decide +kernel⟩,
    ⟨wRing default [], 0, 1, 3, 0, 0, 0, 0, 0, 0, false, [], _, rfl, by decide +kernel, by decide +kernel, (by decide +kernel),
      by decide +kernel, by decide +kernel, (by decide +kernel), by decide +kernel, by decide +kernel, (by decide +kernel),
      by decide +kernel, Or.inl (by decide +kernel)⟩,
    ⟨wRing { (default : RingDyn) with counted := true } [], 0, 1, 3, 0, 0, 0, 0, 0, 0, false, [(1, 0)], _, rfl, by decide +kernel⟩,
    ⟨wRing default [(STN.RINGr_STAa_STAT.STATE, 131, 1)], 0, 1, 3, 0, _, _, 0, 0, 0, false, _, _, rfl, rfl, by decide +kernel,
      by decide +kernel, (by decide +kernel), by decide +kernel, by decide +kernel, (by decide +kernel), rfl, rfl, by decide +kernel⟩,
    ⟨wRing default [(STN.RINGr_STAa_STAT.STATE, 131, 1)], 0, 1, 3, 0, 2, 0, 0, 0, 0, false, _, _, rfl, rfl, by decide +kernel⟩,
    ⟨wRing default [], 0, 1, 1, 0, 0, 0, 0, 0, false, _, rfl, by decide +kernel⟩,
    ⟨{ wRing default [] with mode := .standby }, 0, 1, 0, 0, 0, 0, 0, 0, false, _, rfl, by decide +kernel⟩,
    ⟨wSet wAct [(STN.PORTp_STAT.RETIRED, 0, 1), (STN.PORTp_STAT.RETIRED, 1, 1)], 0, 0, 0, 0, 0, 0, 0, 0, 0, 0, false, [], by decide +kernel⟩,
    ⟨wRing { (default : RingDyn) with counted := true } [], 0, 1, 0, false, _, rfl, by decide +kernel⟩,
    ⟨wRing { (default : RingDyn) with counted := true, inRing := true } [], 0, 1, 0, false, _, rfl, by decide +kernel⟩,
    ⟨wAct, 0, by decide +kernel⟩,
    ⟨wAct, 0, 3, 2, by decide +kernel⟩,
    ⟨wSet wAct [(STN.PORTp_STAT.RETIRED, 3, 1)], 0, 3, 2, false, by decide +kernel⟩,
    ⟨(wAct.sense STN.PORTp_STAT.LINK 0 1).sense STN.PORTp_STAT.LINK 1 1, 0, 2, false, by decide +kernel⟩,
    ⟨wAct, 0, 2, false, by decide +kernel⟩,
    ⟨wAct.sense STN.PORTp_STAT.LINK 3 1, 0, 3, _, rfl, by decide +kernel⟩,
    ⟨wSet (wAct.sense STN.PORTp_STAT.LINK 3 1) [(LIFE.BUDGETk.N, 6, 1)], 0, 3, _, rfl, by decide +kernel⟩,
    ⟨State.reset, 0, 3, by decide +kernel⟩⟩

theorem test_meets_StationsAreAdmitted :
    (∃ (s : State) (r : Nat) (k : Nat) (seq : Nat) (sl : List (Nat × Nat × Nat)), (s.staState k ≠ StaState.good) ∧ (s.staState k ≠
      StaState.admitting)) ∧
    (∃ (s : State) (r : Nat) (k : Nat) (seq : Nat) (sl : List (Nat × Nat × Nat)), (r < 2) ∧ (k < 256) ∧ (s.staState k = StaState.admitting) ∧
      ((s.rings.sta.get k).admitK ≠ s.reg STN.RINGr_PERIOD.NUM r + 1) ∧ ((judgeSeq 16 (s.img.src.get k) seq).1 = true) ∧ ((s.rings.sta.get
      k).valid = false) ∧ (s.reg STN.RINGr_STAa_STAT.ADMIT k + 1 < 8)) :=
  ⟨⟨State.reset, 0, 0, 0, default, by decide +kernel⟩,
    ⟨wSet wAct [(STN.RINGr_STAa_STAT.STATE, 131, 2)], 1, 131, 0, default, by decide +kernel⟩⟩

theorem test_meets_StreamRecordsApplyInSets :
    (∃ (c : Instr) (s : State) (t : Nat) (h : RecHead) (b : MBody), (recordOf c = some (t, h, b)) ∧ (s.follows = true) ∧ (h.last = false)) ∧
    (∃ (c : Instr) (s : State) (t : Nat) (h : RecHead) (b : MBody), (recordOf c = some (t, h, b)) ∧ (s.follows = true) ∧ (h.last = true) ∧
      ((s.pair.rxSet ++ [h.record b]).any (·.sync) = false)) ∧
    (∃ (c : Instr) (s : State) (t : Nat) (h : RecHead) (b : MBody), (recordOf c = some (t, h, b)) ∧ (s.follows = true) ∧ (h.last = true) ∧
      ((s.pair.rxSet ++ [h.record b]).any (·.sync) = true)) ∧
    (∃ (c : Instr) (s : State) (t : Nat) (h : RecHead) (b : MBody), (recordOf c = some (t, h, b)) ∧ (s.follows = false)) ∧
    (∃ (s : State) (m : Nat) (l : List MRec), (s.pair.prepared.length < 64) ∧ (changeId l = none)) ∧
    (∃ (s : State) (m : Nat) (l : List MRec), (64 ≤ s.pair.prepared.length)) ∧
    (∃ (s : State) (t : Nat) (m : Nat) (h : RecHead) (p : Machine.PSet), (s.follows = true) ∧ (s.pair.prepared.find? (fun p => p.mseq == wrap 32
      m) = some p)) ∧
    (∃ (s : State) (t : Nat) (m : Nat) (h : RecHead), (s.follows = true) ∧ (s.pair.prepared.find? (fun p => p.mseq == wrap 32 m) = none)) ∧
    (∃ (s : State) (t : Nat) (h : RecHead) (task : Nat) (block : Nat) (slots : Nat) (lines : Nat), (s.follows = true) ∧ (h.last = true) ∧
      (h.sync = false) ∧ (s.pair.rxSet = [])) ∧
    (∃ (s : State) (x : Nat) (n : Nat), (x < 256) ∧ (n ≠ 0)) ∧
    (∃ (s : State) (t : Nat) (h : RecHead) (sig : Nat) (sl : Slot), (s.follows = true) ∧ (h.last = true) ∧ (h.sync = false) ∧ (s.pair.rxSet =
      [])) ∧
    (∃ (s : State) (t : Nat) (h : RecHead) (addr : Nat) (data : List Nat), (s.follows = true) ∧ (h.last = true) ∧ (h.sync = false) ∧
      (s.pair.rxSet = [])) ∧
    (∃ (s : State) (t : Nat) (h : RecHead) (source : Nat) (slots : List (Nat × Nat × Nat)), (s.follows = true) ∧ (h.last = true) ∧ (h.sync =
      false) ∧ (s.pair.rxSet = [])) ∧
    (∃ (s : State) (t : Nat) (h : RecHead) (e : CapEntry), (s.follows = true) ∧ (h.last = true) ∧ (h.sync = false) ∧ (s.pair.rxSet = [])) ∧
    (∃ (s : State) (t : Nat) (h : RecHead) (sig : Nat) (set : Bool) (value : Nat) (port : Nat), (s.follows = true) ∧ (h.last = true) ∧ (h.sync =
      false) ∧ (s.pair.rxSet = [])) ∧
    (∃ (s : State) (t : Nat) (h : RecHead) (task : Nat) (state : Nat) (cause : Nat) (ovrrun : Nat) (readPos : Nat), (s.follows = true) ∧ (h.last
      = true) ∧ (h.sync = false) ∧ (s.pair.rxSet = [])) ∧
    (∃ (s : State) (t : Nat) (h : RecHead) (addr : Nat) (value : Nat), (s.follows = true) ∧ (h.last = true) ∧ (h.sync = false) ∧ (s.pair.rxSet =
      [])) ∧
    (∃ (s : State) (t : Nat) (h : RecHead) (cell : Nat) (off : Nat) (value : Nat), (s.follows = true) ∧ (h.last = true) ∧ (h.sync = false) ∧
      (s.pair.rxSet = [])) ∧
    (∃ (s : State) (t : Nat) (h : RecHead) (bytes : List Nat), (s.follows = true) ∧ (h.last = true) ∧ (h.sync = false) ∧ (s.pair.rxSet = [])) ∧
    (∃ (s : State) (t : Nat) (h : RecHead) (pb1 : Nat) (epoch1 : Nat) (pb12 : Nat) (epoch12 : Nat) (age : Nat), (s.follows = true) ∧ (h.last =
      true) ∧ (h.sync = false) ∧ (s.pair.rxSet = [])) ∧
    (∃ (s : State) (t : Nat) (h : RecHead) (base : Nat) (value : Nat) (epoch : Nat) (cause : Nat), (s.follows = true) ∧ (h.last = true) ∧
      (h.sync = false) ∧ (s.pair.rxSet = [])) :=
  ⟨⟨.slotRecord 0 (wHead false false) 7 default, wStandby, 0, wHead false false, .slot 7 default 0, by decide +kernel⟩,
    ⟨.slotRecord 0 (wHead false true) 7 default, wStandby, 0, wHead false true, .slot 7 default 0, by decide +kernel⟩,
    ⟨.slotRecord 0 (wHead true true) 7 default, wStandby, 0, wHead true true, .slot 7 default 0, by decide +kernel⟩,
    ⟨.slotRecord 0 (wHead true true) 7 default, wAct, 0, wHead true true, .slot 7 default 0, by decide +kernel⟩,
    ⟨State.reset, 0, [], by decide +kernel⟩,
    ⟨wPair .standby { (default : PairSt) with prepared := List.replicate 64 default } [], 0, [], by decide +kernel⟩,
    ⟨wPair .standby { (default : PairSt) with linkUp := true, prepared := [⟨5, []⟩] } [], 0, 5, wHead true true, ⟨5, []⟩, by decide +kernel⟩,
    ⟨wStandby, 0, 5, wHead true true, by decide +kernel⟩,
    ⟨wStandby, 0, wHead false true, 0, 0, 0, 0, by decide +kernel⟩,
    ⟨wStandby, 5, 2 ^ 32, by decide +kernel⟩,
    ⟨wStandby, 0, wHead false true, 0, default, by decide +kernel⟩,
    ⟨wStandby, 0, wHead false true, 0, [], by decide +kernel⟩,
    ⟨wStandby, 0, wHead false true, 0, default, by decide +kernel⟩,
    ⟨wStandby, 0, wHead false true, default, by decide +kernel⟩,
    ⟨wStandby, 0, wHead false true, 0, false, 0, 0, by decide +kernel⟩,
    ⟨wStandby, 0, wHead false true, 0, 0, 0, 0, 0, by decide +kernel⟩,
    ⟨wStandby, 0, wHead false true, 0, 0, by decide +kernel⟩,
    ⟨wStandby, 0, wHead false true, 0, 0, 0, by decide +kernel⟩,
    ⟨wStandby, 0, wHead false true, [], by decide +kernel⟩,
    ⟨wStandby, 0, wHead false true, 0, 0, 0, 0, 0, by decide +kernel⟩,
    ⟨wStandby, 0, wHead false true, 0, 0, 0, 0, by decide +kernel⟩⟩

theorem test_meets_SlotRecordsReachTheImage :
    (∃ (s : State) (g : Nat) (sl : Slot) (n : Nat) (m : Nat), (s.isMirrored g = false)) ∧
    (∃ (s : State) (g : Nat) (sl : Slot) (n : Nat) (m : Nat), (s.isMirrored g = true) ∧ (s.mayWrite g sl.source = false)) ∧
    (∃ (s : State) (g : Nat) (sl : Slot) (n : Nat) (m : Nat) (d : DirEntry) (f : Force), (s.img.dir.get g = some d) ∧ (d.mirrored = true) ∧
      (s.mayWrite g sl.source = true) ∧ (s.img.forces.get g = some f)) ∧
    (∃ (s : State) (g : Nat) (sl : Slot) (n : Nat) (m : Nat), (s.isMirrored g = true) ∧ (s.mayWrite g sl.source = true) ∧ (s.img.forces.get g =
      none)) ∧
    (∃ (s : State) (g : Nat) (src : Nat) (v : Nat) (q : Nat) (e : Nat) (n : Nat) (i : Nat) (m : Nat) (d : DirEntry) (a : State) (k : Nat),
      (s.img.dir.get g = some d) ∧ (s.img.forces.get g = none) ∧ (s.img.forceDropped.get g = false) ∧ (d.stampBase = none) ∧ (s.flag
      LEAF.FLIPm_CTRL.ARM 1 = false) ∧ (a = (s.acceptWrite g src v q e n i (marks := m))) ∧ (k ≠ g)) ∧
    (∃ (s : State) (g : Nat) (src : Nat) (v : Nat) (q : Nat) (e : Nat) (n : Nat) (i : Nat) (m : Nat) (d : DirEntry) (a : State), (s.img.dir.get
      g = some d) ∧ (s.img.forces.get g = none) ∧ (s.img.forceDropped.get g = false) ∧ (d.stampBase = none) ∧ (s.flag LEAF.FLIPm_CTRL.ARM 1
      = false) ∧ (a = (s.acceptWrite g src v q e n i (marks := m)))) :=
  ⟨⟨State.reset, 7, default, 0, 0, by decide +kernel⟩,
    ⟨{ wAct with img := { wAct.img with dir := [(7, some { wEnt with mirrored := true })] } }, 7, default, 0, 0, by decide +kernel⟩,
    ⟨{ wAct with img := { wAct.img with dir := [(7, some { wEnt with mirrored := true })], forces := [(7, some default)] } }, 7,
      { (default : Slot) with source := 0x4001 }, 0, 0, { wEnt with mirrored := true }, default, by decide +kernel⟩,
    ⟨{ wAct with img := { wAct.img with dir := [(7, some { wEnt with mirrored := true })] } }, 7, { (default : Slot) with source := 0x4001 }, 0,
      0, by decide +kernel⟩,
    ⟨{ wAct with img := { wAct.img with dir := [(7, some { wEnt with mirrored := true })] } }, 7, 0, 0, 0, 0, 0, 0, 0,
      { wEnt with mirrored := true }, _, 8, by decide +kernel, by decide +kernel, (by decide +kernel), by decide +kernel, by decide +kernel,
      rfl, by decide +kernel⟩,
    ⟨{ wAct with img := { wAct.img with dir := [(7, some { wEnt with mirrored := true })] } }, 7, 0, 0, 0, 0, 0, 0, 0,
      { wEnt with mirrored := true }, _, by decide +kernel, by decide +kernel, (by decide +kernel), by decide +kernel, by decide +kernel,
      rfl⟩⟩

theorem test_meets_PartnerIsHeardAndLost :
    (∃ (s : State) (t : Nat), (s.mode.beats = true)) ∧
    (∃ (s : State) (a : State), (a = (s.updPair (fun p => { p with hbCount := wrap 8 (s.pair.hbCount + 1), beatMode := s.mode.code })))) ∧
    (∃ (s : State) (t : Nat) (k : Bool), (k = false ∨ s.mode.beats = false)) ∧
    (∃ (s : State) (t : Nat) (b0 : Nat) (b1 : Nat) (b2 : Nat) (b3 : Nat), (s.mode ≠ .off) ∧ (hbCrc (wrap 8 b0) (wrap 8 b1) (wrap 8 b2) = wrap 8
      b3) ∧ (s.pair.p2Ctr ≠ some (wrap 8 b1))) ∧
    (∃ (s : State) (t : Nat) (b0 : Nat) (b1 : Nat) (b2 : Nat) (b3 : Nat), (hbCrc (wrap 8 b0) (wrap 8 b1) (wrap 8 b2) ≠ wrap 8 b3 ∨ s.pair.p2Ctr
      = some (wrap 8 b1))) ∧
    (∃ (s : State) (t : Nat) (b0 : Nat) (c : Nat) (e : Nat) (v : Nat) (pr : Nat) (b13 : Nat) (peer : Option FwImage) (a : State), (a = ((s.advance t).updPair (fun p => { p with
      p1Ctr := some (wrap 8 c), partnerBumpless := bitOf 0 b13, hiPartner := seenEpoch p.hiPartner (wrap 32 e), peer := peer }))) ∧ (s.mode ≠ .off) ∧ (s.pair.linkUp = true) ∧ (s.pair.p1Ctr ≠ some (wrap 8 c))) ∧
    (∃ (s : State) (t : Nat) (a : State), (a = ((s.advance t).losePath 1)) ∧ (s.mode ≠ .off) ∧ (s.flag PAIR.STAT.PATH1_LOST = false) ∧
      (s.pair.p1At + us 200 ≤ max s.now t)) ∧
    (∃ (s : State) (t : Nat) (a : State), (a = ((s.advance t).losePath 2)) ∧ (s.mode ≠ .off) ∧ (s.flag PAIR.STAT.PATH2_LOST = false) ∧
      (s.pair.p2At + us 200 ≤ max s.now t)) ∧
    (∃ (s : State) (t : Nat), (s.flag PAIR.STAT.LANE_DOWN = false)) ∧
    (∃ (s : State) (t : Nat) (a : State), (a = ((s.advance t).updPair (fun p =>
      { p with linkUp := false, linkDownAt := max s.now t, feeding := false }))) ∧ (s.flag PAIR.STAT.PATH2_LOST = true)) ∧
    (∃ (s : State) (t : Nat) (a : State), (a = ((s.advance t).updPair (fun p =>
      { p with linkUp := false, linkDownAt := max s.now t, feeding := false }))) ∧ (s.flag PAIR.STAT.PATH2_LOST = false) ∧ (s.mode =
      .standby)) ∧
    (∃ (s : State) (t : Nat) (a : State), (a = ((s.advance t).updPair (fun p =>
      { p with linkUp := false, linkDownAt := max s.now t, feeding := false }))) ∧ (s.flag PAIR.STAT.PATH2_LOST = false) ∧ (s.mode =
      .active)) ∧
    (∃ (s : State) (t : Nat) (a : State), (a = (((s.advance t).updPair (fun p => { p with linkUp := true })).setReg PAIR.STAT.LANE_DOWN 0 0)) ∧
      (s.mode = .sync) ∧ (s.reg PAIR.STAT.SYNCWHY = 8)) ∧
    (∃ (s : State) (t : Nat) (a : State), (a = (((s.advance t).updPair (fun p => { p with linkUp := true })).setReg PAIR.STAT.LANE_DOWN 0 0)) ∧
      (s.mode = .standby)) ∧
    (∃ (s : State) (t : Nat) (ty : Nat), (s.pair.linkUp = true)) :=
  ⟨⟨wAct, 0, by decide +kernel⟩,
    ⟨State.reset, _, rfl⟩,
    ⟨State.reset, 0, false, Or.inl rfl⟩,
    ⟨State.reset, 0, 0, 0, 0, hbCrc 0 0 0, by decide +kernel⟩,
    ⟨State.reset, 0, 0, 0, 0, hbCrc 0 0 0 + 1, Or.inl (by decide +kernel)⟩,
    ⟨wStandby, 0, 0, 0, 0, 0, 0, 0, none, _, rfl, by decide +kernel⟩,
    ⟨State.reset, us 200, _, rfl, by decide +kernel⟩,
    ⟨State.reset, us 200, _, rfl, by decide +kernel⟩,
    ⟨State.reset, 0, by decide +kernel⟩,
    ⟨wSet wAct [(PAIR.STAT.PATH2_LOST, 0, 1)], 0, _, rfl, by decide +kernel⟩,
    ⟨wStandby, 0, _, rfl, by decide +kernel⟩,
    ⟨wAct, 0, _, rfl, by decide +kernel⟩,
    ⟨wSet (wMode .sync) [(PAIR.STAT.SYNCWHY, 0, 8)], 0, _, rfl, by decide +kernel⟩,
    ⟨wStandby, 0, _, rfl, by decide +kernel⟩,
    ⟨wStandby, 0, 0, by decide +kernel⟩⟩

theorem test_meets_LatchGivesTheLine :
    (∃ (s : State) (t : Nat), (s.flag PAIR.STAT.AUTH = true)) ∧
    (∃ (s : State) (t : Nat), (s.flag PAIR.STAT.AUTH = false)) ∧
    (∃ (s : State) (t : Nat) (e : Nat) (a : State), (a = ((((s.advance t).updPair (fun p => { p with claimFor := 0, lastRefresh := max s.now t })).setReg PAIR.EPOCH.EPOCH 0 (wrap 32 e)).setReg
      PAIR.STAT.AUTH 0 1)) ∧ (s.pair.claimFor ≠ 0) ∧ (s.pair.claimFor = Claim.takeover)) ∧
    (∃ (s : State) (t : Nat) (e : Nat) (a : State), (a = ((((s.advance t).updPair (fun p => { p with claimFor := 0, lastRefresh := max s.now t })).setReg PAIR.EPOCH.EPOCH 0 (wrap 32 e)).setReg
      PAIR.STAT.AUTH 0 1)) ∧ (s.pair.claimFor ≠ 0) ∧ (s.pair.claimFor = Claim.resignation)) ∧
    (∃ (s : State) (t : Nat) (e : Nat) (a : State), (a = ((((s.advance t).updPair (fun p => { p with claimFor := 0, lastRefresh := max s.now t })).setReg PAIR.EPOCH.EPOCH 0 (wrap 32 e)).setReg
      PAIR.STAT.AUTH 0 1)) ∧ (s.pair.claimFor ≠ 0) ∧ (s.pair.claimFor = Claim.load)) ∧
    (∃ (s : State) (t : Nat) (e : Nat) (a : State), (a = ((((s.advance t).updPair (fun p => { p with claimFor := 0, lastRefresh := max s.now t })).setReg PAIR.EPOCH.EPOCH 0 (wrap 32 e)).setReg
      PAIR.STAT.AUTH 0 1)) ∧ (s.pair.claimFor ≠ 0) ∧ (s.pair.claimFor ≠ Claim.takeover) ∧ (s.pair.claimFor ≠ Claim.resignation) ∧ (s.pair.claimFor ≠ Claim.load)) ∧
    (∃ (s : State) (t : Nat) (e : Nat) (a : State), (a = ((s.advance t).record 0x90B 0 .fault [(4, s.pair.claimCand)])) ∧ (s.pair.claimFor ≠ 0)) ∧
    (∃ (s : State) (t : Nat) (e : Nat), (s.flag PAIR.STAT.AUTH = true) ∧ (s.pair.hiRing = some e) ∧ (laterMod 32 e (s.reg PAIR.EPOCH.EPOCH) =
      true)) ∧
    (∃ (s : State) (t : Nat), (s.flag PAIR.STAT.AUTH = true) ∧ (s.pair.hiRing.any (fun e => laterMod 32 e (s.reg PAIR.EPOCH.EPOCH)) = false)) ∧
    (∃ (s : State) (t : Nat) (r : Bool), (s.flag PAIR.STAT.AUTH = false)) :=
  ⟨⟨wAct, 0, by decide +kernel⟩,
    ⟨State.reset, 0, by decide +kernel⟩,
    ⟨wPair .standby { (default : PairSt) with claimFor := Claim.takeover } [], 0, 0, _, rfl, by decide +kernel⟩,
    ⟨wPair .standby { (default : PairSt) with claimFor := Claim.resignation } [], 0, 0, _, rfl, by decide +kernel⟩,
    ⟨wPair .load { (default : PairSt) with claimFor := Claim.load } [], 0, 0, _, rfl, by decide +kernel⟩,
    ⟨wPair .standby { (default : PairSt) with claimFor := Claim.start } [], 0, 0, _, rfl, by decide +kernel⟩,
    ⟨wPair .standby { (default : PairSt) with claimFor := Claim.start } [], 0, 0, _, rfl, by decide +kernel⟩,
    ⟨wPair .active { (default : PairSt) with hiRing := some 2 } [(PAIR.STAT.AUTH, 0, 1), (PAIR.EPOCH.EPOCH, 0, 1)], 0, 2, by decide +kernel⟩,
    ⟨wPair .active { (default : PairSt) with hiRing := some 1 } [(PAIR.STAT.AUTH, 0, 1), (PAIR.EPOCH.EPOCH, 0, 2)], 0, by decide +kernel⟩,
    ⟨State.reset, 0, false, by decide +kernel⟩⟩

theorem test_meets_DemotionHalts :
    (∃ (s : State) (c : Nat) (b : Nat), (b < 16)) :=
  ⟨State.reset, 0, 15, by decide +kernel⟩

theorem test_meets_StreamIsKeptUp :
    (∃ (s : State) (t : Nat) (ap : Nat) (st : Nat), ((s.isActive = false ∨ s.pair.linkUp = false))) ∧
    (∃ (s : State) (t : Nat) (ap : Nat) (st : Nat) (a : State) (b : State), (a = ((((s.advance t).showLag.setReg PAIR.MSEQ_APPLIED.MSEQ 0 (wrap 32 ap)).updPair (fun p => { p with
      mq := p.mq.filter (fun e => !(upTo (wrap 32 ap) e.mseq || upTo (wrap 32 st) e.mseq)) })).showFill)) ∧ (b = ((a.each ((a.tasks.task.filter (fun e => e.2.waitAck)).map Prod.fst) (fun s t => s.ackTask (wrap 32 st) t)).answerForces
      (upTo (wrap 32 ap)))) ∧ (s.isActive = true) ∧ (s.pair.linkUp = true)) ∧
    (∃ (s : State) (t : Nat), ((s.mode = .standby ∨ s.mode = .sync)) ∧ (s.pair.linkUp = true)) ∧
    (∃ (s : State) (t : Nat) (a : State), (a = (s.advance t)) ∧ (s.streaming = true)) ∧
    (∃ (s : State) (t : Nat) (a : State), (a = ((s.advance t).judgePair)) ∧ (a.isActive = true) ∧ (a.reg PAIR.STAT.NBWHY = 5) ∧ (a.pair.okSince
      + Config.bumplessSettle ≤ a.now)) :=
  ⟨⟨State.reset, 0, 0, 0, Or.inl (by decide +kernel)⟩,
    ⟨wPartner wAct, 0, 0, 0, _, _, rfl, rfl, by decide +kernel⟩,
    ⟨wStandby, 0, Or.inl (by decide +kernel), by decide +kernel⟩,
    ⟨wPartner wAct, 0, _, rfl, by decide +kernel⟩,
    ⟨wSet (wPartner wAct) [(PAIR.STAT.NBWHY, 0, 5)], Config.bumplessSettle, _, rfl, by decide +kernel⟩⟩

theorem test_meets_ResignationAndRemoval :
    (∃ (s : State) (t : Nat) (a : State), (a = (s.advance t)) ∧ (s.pair.resign = .window) ∧ (s.pair.resignAt + (if s.pair.resignShort then
      Config.resignWindowShort else Config.resignWindow) ≤ a.now)) ∧
    (∃ (s : State) (t : Nat) (a : State), (a = (s.advance t)) ∧ (s.isActive = true) ∧ (s.pair.resign = .drain) ∧ (s.drained = true) ∧ ((s.flag
      PAIR.STAT.BUMPLESS = true ∨ (s.pair.resignShort = true ∧ s.pair.leavingSince + Config.leavingBumplessWait ≤ a.now)))) ∧
    (∃ (s : State) (t : Nat) (e : Nat) (m : Nat) (h : RecHead), (s.pair.linkUp = true) ∧ (s.mode = .standby) ∧ (s.pair.claimFor = 0)) ∧
    (∃ (s : State) (t : Nat) (a : State), (a = ({ s.advance t with power := { s.power with earlyBroke := true, earlyMade := false } }.setReg
      PAIR.STAT.LEAVING 0 1)) ∧ (s.power.earlyMade = true) ∧ (s.mode ≠ .off) ∧ (s.isActive = false)) ∧
    (∃ (s : State) (t : Nat) (a : State), (a = ({ s.advance t with power := { s.power with earlyBroke := true, earlyMade := false } }.setReg
      PAIR.STAT.LEAVING 0 1)) ∧ (s.power.earlyMade = true) ∧ (s.mode ≠ .off) ∧ (s.isActive = true) ∧ (s.power.warned = false) ∧
      (a.partnerStandby = true)) ∧
    (∃ (s : State) (t : Nat) (a : State), (a = (s.advance t)) ∧ (s.isActive = true) ∧ (s.pair.resignShort = true) ∧ (s.pair.resign ≠ .none) ∧
      (s.pair.leavingSince + Config.leavingBumplessWait ≤ a.now) ∧ (s.flag PAIR.STAT.BUMPLESS = false)) ∧
    (∃ (s : State) (t : Nat) (a : State), (a = (s.advance t)) ∧ (s.pair.waitLeaving = true) ∧ (s.mode = .standby) ∧ (s.pair.claimFor = 0) ∧
      (s.pair.leavingSince + Config.leavingResignWait ≤ a.now)) ∧
    (∃ (s : State) (t : Nat) (a : State), (a = (s.advance t)) ∧ (s.mode = .sync) ∧ (s.reg PAIR.BULK.PHASE = 5) ∧ (s.pair.linkUp = true) ∧
      (s.partnerPresent = true)) ∧
    (∃ (s : State) (t : Nat) (p : Nat) (a : State), (a = (((((s.advance t).setReg PAIR.STAT.SHADOW_FAULT 0 1).setReg PAIR.SHADOW.PIN 0 p).setReg
      PAIR.SHADOW.VALID 0 1).record 0x909 0 .fault [(1, p)])) ∧ (p < 64) ∧ (s.reg FPIN.PINp_CFG.DIR p = 2) ∧ (s.pinCommand p = false) ∧
      (s.mode.drivesPins = true) ∧ (s.mode = .standby)) ∧
    (∃ (s : State) (t : Nat) (p : Nat) (a : State), (a = (((((s.advance t).setReg PAIR.STAT.SHADOW_FAULT 0 1).setReg PAIR.SHADOW.PIN 0 p).setReg
      PAIR.SHADOW.VALID 0 1).record 0x909 0 .fault [(1, p)])) ∧ (p < 64) ∧ (s.reg FPIN.PINp_CFG.DIR p = 2) ∧ (s.pinCommand p = false) ∧
      (s.mode.drivesPins = true) ∧ (s.mode ≠ .standby)) :=
  ⟨⟨wPair .active { (default : PairSt) with resign := .window } [], msec 1, _, rfl, by decide +kernel⟩,
    ⟨wPair .active { (default : PairSt) with resign := .drain } [(PAIR.STAT.BUMPLESS, 0, 1)], 0, _, rfl, by decide +kernel, by decide +kernel,
      (by decide +kernel), Or.inl (by decide +kernel)⟩,
    ⟨wStandby, 0, 0, 0, default, by decide +kernel⟩,
    ⟨State.reset, 0, _, rfl, by decide +kernel⟩,
    ⟨wPartner wAct, 0, _, rfl, by decide +kernel⟩,
    ⟨wPair .active { (default : PairSt) with resign := .drain, resignShort := true } [], msec 2, _, rfl, by decide +kernel⟩,
    ⟨wPair .standby { (default : PairSt) with waitLeaving := true } [], msec 5, _, rfl, by decide +kernel⟩,
    ⟨wPair .sync { (default : PairSt) with linkUp := true } [(PAIR.BULK.PHASE, 0, 5), (PAIR.PARTNER.VALID, 0, 1)], 0, _, rfl, by decide +kernel⟩,
    ⟨wSet (wMode .standby) [(FPIN.PINp_CFG.DIR, 63, 2)], 0, 63, _, rfl, by decide +kernel⟩,
    ⟨wSet wAct [(FPIN.PINp_CFG.DIR, 63, 2)], 0, 63, _, rfl, by decide +kernel⟩⟩

theorem test_meets_StreamedStructures :
    (∃ (s : State) (t : Nat) (h : RecHead) (c : Container), (s.pair.linkUp = true) ∧ (h.last = true) ∧ (s.mode = .standby) ∧ (c.kind = 2)) ∧
    (∃ (s : State) (t : Nat) (h : RecHead) (c : Container) (a : State), (a = ((s.advance t).checkPartner)) ∧ (s.pair.linkUp = true) ∧ (h.last =
      true) ∧ ((s.mode ≠ .standby ∨ c.kind ≠ 2)) ∧ (a.mode = .sync) ∧ (2 ≤ a.reg PAIR.BULK.PHASE)) ∧
    (∃ (s : State) (t : Nat) (h : RecHead) (c : Container) (a : State), (a = ((s.advance t).checkPartner)) ∧ (s.pair.linkUp = true) ∧ (h.last =
      true) ∧ ((s.mode ≠ .standby ∨ c.kind ≠ 2)) ∧ (a.mode ≠ .sync ∨ a.reg PAIR.BULK.PHASE < 2)) ∧
    (∃ (s : State) (t : Nat) (h : RecHead) (c : Container), ((h.last = false ∨ s.pair.linkUp = false))) :=
  ⟨⟨wStandby, 0, wHead false true, wCont 2, by decide +kernel⟩,
    ⟨wPair .sync { (default : PairSt) with linkUp := true } [(PAIR.BULK.PHASE, 0, 2)], 0, wHead false true, wCont 1, _, rfl, by decide +kernel⟩,
    ⟨wPair .sync { (default : PairSt) with linkUp := true } [(PAIR.BULK.PHASE, 0, 1)], 0, wHead false true, wCont 1, _, rfl, by decide +kernel,
      by decide +kernel, Or.inl (by decide +kernel), Or.inr (by decide +kernel)⟩,
    ⟨State.reset, 0, wHead false false, wCont 1, by decide +kernel⟩⟩

theorem test_meets_StructureChanges :
    (∃ (s : State) (t : Nat) (c : Container) (b : State), (b = (((((s.advance t).setReg STRUCT.STAT.STATE 0 StructState.loading).applyFull
      c).addReg STRUCT.COUNTS.LOADS 0 1).lifeAdd 0x153 1)) ∧ (s.struct.loading = some c) ∧ (c.kind = 1) ∧ ((s.mode = .commission ∨ s.mode =
      .hold ∨ s.mode = .service))) ∧
    (∃ (s : State) (t : Nat) (c : Container) (a : State), (a = (((s.advance t).storeSpare { c with kind := 1 }).updStruct (fun x => { x with
      loading := none, prepared := some c, traffic := max s.now t }))) ∧ (s.struct.loading = some c) ∧ (c.kind = 2)) ∧
    (∃ (s : State) (t : Nat) (m : Nat), (s.isActive = true)) ∧
    (∃ (s : State) (t : Nat) (m : Nat), (s.isActive = false)) ∧
    (∃ (s : State) (t : Nat), (s.isActive = false)) ∧
    (∃ (s : State) (t : Nat), (s.isActive = true)) ∧
    (∃ (s : State) (b : State) (t : Nat) (a : State), (a = (s.advance t)) ∧ (s.reg STRUCT.STAT.STATE = StructState.holding) ∧
      (s.struct.commitMseq = none) ∧ (s.allHeld = true) ∧ (s.partnerStandby = false)) ∧
    (∃ (s : State) (b : State) (t : Nat) (a : State), (a = (s.advance t)) ∧ (s.reg STRUCT.STAT.STATE = StructState.holding) ∧
      (s.struct.commitMseq = none) ∧ (s.allHeld = true) ∧ (s.partnerStandby = true) ∧ (s.streaming = true) ∧ (a.sendMirror .sync (.regw
      (STRUCT.OLC_COMMIT.ID.addrOf 0) ((s.struct.prepared.map (·.image.id)).getD 0)) true = b)) ∧
    (∃ (s : State) (t : Nat) (a : State), (a = (s.advance t)) ∧ (s.reg STRUCT.STAT.STATE = StructState.holding) ∧ (s.struct.commitMseq = none) ∧
      (s.allHeld = false) ∧ (s.struct.holdAt + msec (s.reg STRUCT.OLC_CFG.HOLDMAX) ≤ a.now)) ∧
    (∃ (s : State) (t : Nat) (m : Nat) (a : State), (a = (s.advance t)) ∧ (s.struct.commitMseq = some m) ∧ (s.struct.commitAt + us 20 ≤ a.now)) ∧
    (∃ (s : State) (t : Nat) (a : State), (a = (s.advance t)) ∧ (s.structSession = false) ∧ (s.isActive = true) ∧ (s.struct.prepared.isSome =
      true) ∧ (s.reg STRUCT.STAT.STATE = StructState.prepared) ∧ (s.struct.traffic + sec 600 ≤ a.now)) ∧
    (∃ (s : State) (t : Nat) (a : State), (s.tState t = TaskState.held) ∧ (t < 256) ∧ (a = (s.updTask t (fun d => { d with heldBy := false })))) ∧
    (∃ (s : State) (r : Nat) (c : Container), (s.struct.prepared = some c)) :=
  ⟨⟨wStruct .service { (default : StructSt) with loading := some (wCont 1) } [], 0, wCont 1, _, rfl, by decide +kernel⟩,
    ⟨wStruct .active
      { (default : StructSt) with loading := some wGood, image := some { (default : Image) with key := some 1 }, keys := [(0, some 1)] } [],
      0, wGood, _, rfl, by decide +kernel⟩,
    ⟨wAct, 0, 0, by decide +kernel⟩,
    ⟨State.reset, 0, 0, by decide +kernel⟩,
    ⟨State.reset, 0, by decide +kernel⟩,
    ⟨wAct, 0, by decide +kernel⟩,
    ⟨wSet wAct [(STRUCT.STAT.STATE, 0, StructState.holding)], State.reset, 0, _, rfl, by decide +kernel⟩,
    ⟨wSet (wPartner wAct) [(STRUCT.STAT.STATE, 0, StructState.holding)], _, 0, _, rfl, by decide +kernel, by decide +kernel,
      (by decide +kernel), by decide +kernel, by decide +kernel, rfl⟩,
    ⟨wSet { wCore .running with struct := { (default : StructSt) with affected := [5] } } [(STRUCT.STAT.STATE, 0, StructState.holding)], msec
      100, _, rfl, by decide +kernel⟩,
    ⟨wStruct .active { (default : StructSt) with commitMseq := some 4 } [], us 20, 4, _, rfl, by decide +kernel⟩,
    ⟨wStruct .active { (default : StructSt) with prepared := some (wCont 2) } [(STRUCT.STAT.STATE, 0, StructState.prepared)], sec 600, _, rfl,
      by decide +kernel⟩,
    ⟨wTask TaskState.held default, 5, _, by decide +kernel, by decide +kernel, rfl⟩,
    ⟨wStruct .active { (default : StructSt) with prepared := some (wCont 2) } [], 0, wCont 2, by decide +kernel⟩⟩

theorem test_meets_LeafCodeCorrectsOneBit :
    (∃ (syn : Nat), (syn < 256) ∧ (syn = 0)) ∧
    (∃ (syn : Nat) (i : Nat) (c : Nat), (syn < 256) ∧ (dataColumns[i]? = some c) ∧ (syn = c)) ∧
    (∃ (syn : Nat) (i : Nat), (syn < 256) ∧ (i < 8) ∧ (syn = 2 ^ i)) ∧
    (∃ (syn : Nat), (syn < 256) ∧ (syn ∈ addrColumns)) ∧
    (∃ (syn : Nat), (syn < 256) ∧ (syn = 0xFE)) ∧
    (∃ (syn : Nat), (syn < 256) ∧ (syn ≠ 0) ∧ (syn ≠ 0xFE) ∧ (syn ∉ dataColumns) ∧ ((∀ i, i < 8 → syn ≠ 2 ^ i)) ∧ (syn ∉ addrColumns)) ∧
    (∃ (c : Nat) (d : Nat), (c ∈ dataColumns ++ (List.range 8).map (2 ^ ·) ++ addrColumns) ∧ (d ∈ dataColumns ++ (List.range 8).map (2 ^ ·) ++
      addrColumns) ∧ (c ≠ d)) ∧
    (∃ (s : State) (m : Nat) (w : Nat) (f : Nat), (leafDecode (s.synAt m w) = .corrected f)) ∧
    (∃ (s : State) (m : Nat) (w : Nat), (leafDecode (s.synAt m w) = .clean)) ∧
    (∃ (s : State) (m : Nat) (w : Nat), ((leafDecode (s.synAt m w) = .addressFault ∨ leafDecode (s.synAt m w) = .poisoned ∨ leafDecode (s.synAt
      m w) = .uncorrectable))) ∧
    (∃ (s : State) (m : Nat) (w : Nat) (i : Nat), ((m ≠ 1 ∨ 2 * trayImageWords ≤ w)) ∧ (s.synAt m w = 0) ∧ (s.dataAt m w < 2 ^ 64) ∧ (i < 64)) ∧
    (∃ (s : State) (m : Nat) (w : Nat) (i : Nat), ((m ≠ 1 ∨ 2 * trayImageWords ≤ w)) ∧ (s.synAt m w = 0) ∧ (s.dataAt m w < 2 ^ 64) ∧ (i < 8)) ∧
    (∃ (s : State) (m : Nat) (w : Nat) (i : Nat) (j : Nat), ((m ≠ 1 ∨ 2 * trayImageWords ≤ w)) ∧ (s.synAt m w = 0) ∧ (s.dataAt m w < 2 ^ 64) ∧
      (i < 64) ∧ (j < 64) ∧ (i ≠ j)) ∧
    (∃ (s : State) (m : Nat) (w : Nat) (i : Nat), ((m ≠ 1 ∨ 2 * trayImageWords ≤ w)) ∧ (s.synAt m w = 0) ∧ (s.dataAt m w < 2 ^ 64) ∧ (i < 36)) :=
  ⟨⟨_, by decide +kernel, rfl⟩,
    ⟨0x57, 63, 0x57, by decide +kernel⟩,
    ⟨128, 7, by decide +kernel⟩,
    ⟨0xD9, by decide +kernel⟩,
    ⟨_, by decide +kernel, rfl⟩,
    ⟨0xFD, by decide +kernel⟩,
    ⟨0x57, 0xD9, by decide +kernel⟩,
    ⟨{ wAct with leaf := { wAct.leaf with syn := [(0, 0x57)] } }, 0, 0, 2 ^ 63, by decide +kernel⟩,
    ⟨State.reset, 0, 0, by decide +kernel⟩,
    ⟨{ wAct with leaf := { wAct.leaf with syn := [(0, 0xFE)] } }, 0, 0, Or.inr (Or.inl (by decide +kernel))⟩,
    ⟨wAct, 0, 0, 63, Or.inl (by decide), by decide +kernel⟩,
    ⟨wAct, 0, 0, 7, Or.inl (by decide), by decide +kernel⟩,
    ⟨wAct, 0, 0, 63, 0, Or.inl (by decide), by decide +kernel⟩,
    ⟨wAct, 0, 0, 35, Or.inl (by decide), by decide +kernel⟩⟩

theorem test_meets_WordsReadBack :
    (∃ (s : State) (m : Nat) (w : Nat) (v : Nat) (q : Nat), ((m ≠ 1 ∨ 2 * trayImageWords ≤ w)) ∧ (w < 2 ^ 36) ∧ (s.flag LEAF.FLIPm_CTRL.ARM m =
      false)) ∧
    (∃ (s : State) (m : Nat) (w : Nat) (v : Nat) (x : Nat), ((m ≠ 1 ∨ 2 * trayImageWords ≤ w)) ∧ (w < 2 ^ 36) ∧ (s.flag LEAF.FLIPm_CTRL.ARM m =
      false) ∧ (x < 2 ^ 36) ∧ (x ≠ w)) ∧
    (∃ (s : State) (m : Nat) (w : Nat) (v : Nat), ((m ≠ 1 ∨ 2 * trayImageWords ≤ w)) ∧ (w < 2 ^ 36) ∧ (s.flag LEAF.FLIPm_CTRL.ARM m = false)) :=
  ⟨⟨wAct, 37, 0, 0, 0, Or.inl (by decide), by decide +kernel⟩,
    ⟨wAct, 37, 0, 0, 1, Or.inl (by decide), by decide +kernel⟩,
    ⟨wAct, 37, 0, 0, Or.inl (by decide), by decide +kernel⟩⟩

theorem test_meets_AccessesAreGuarded :
    (∃ (s : State) (t : Nat) (b : Nat) (sv : Nat) (k : Nat) (addr : Nat) (len : Nat) (v : Nat) (pc : Nat) (e : Nat), (b < 16) ∧ (([1, 2, 4,
      8].contains len = false ∨ addr % len ≠ 0))) ∧
    (∃ (s : State) (t : Nat) (b : Nat) (sv : Nat) (k : Nat) (addr : Nat) (len : Nat) (v : Nat) (pc : Nat) (e : Nat), (b < 16) ∧ ([1, 2, 4,
      8].contains len = true) ∧ (addr % len = 0) ∧ (locate (addr / 8) = none)) ∧
    (∃ (s : State) (t : Nat) (b : Nat) (sv : Nat) (k : Nat) (addr : Nat) (len : Nat) (v : Nat) (pc : Nat) (e : Nat) (m : Nat) (w : Nat) (a :
      State), (a = (if m = 0 then (s.advance t).finishCopy (w / pageWords) else s.advance t)) ∧ (b < 16) ∧ ([1, 2, 4, 8].contains len =
      true) ∧ (addr % len = 0) ∧ (locate (addr / 8) = some (m, w)) ∧ ((a.keyOf b 256).admits k (a.colourAt m w) = true)) ∧
    (∃ (s : State) (t : Nat) (b : Nat) (sv : Nat) (k : Nat) (addr : Nat) (len : Nat) (v : Nat) (pc : Nat) (e : Nat) (m : Nat) (w : Nat) (a :
      State), (a = (if m = 0 then (s.advance t).finishCopy (w / pageWords) else s.advance t)) ∧ (b < 16) ∧ ([1, 2, 4, 8].contains len =
      true) ∧ (addr % len = 0) ∧ (locate (addr / 8) = some (m, w)) ∧ ((a.keyOf b 256).admits k (a.colourAt m w) = false)) ∧
    (∃ (s : State) (b : Nat) (m : Nat) (w : Nat) (off : Nat) (size : Nat) (v : Nat) (pc : Nat) (e : Nat), (s.cycleTask b = none) ∧ (s.synAt m w
      = 0)) ∧
    (∃ (s : State) (t : Nat) (m : Nat) (sv : Nat) (k : Nat) (addr : Nat) (len : Nat) (v : Nat) (pc : Nat) (e : Nat) (a : State), (a = (s.advance
      t)) ∧ (16 ≤ m) ∧ (m < 38)) ∧
    (∃ (s : State) (m : Nat) (k : Nat) (c : Nat) (addr : Nat) (p : Bool), (m < 64) ∧ (k < 4) ∧ (c < 16)) :=
  ⟨⟨State.reset, 0, 15, 0, 0, 0, 3, 0, 0, 0, by decide +kernel, Or.inl (by decide)⟩,
    ⟨State.reset, 0, 15, 0, 0, 2 ^ 40, 8, 0, 0, 0, by decide +kernel, by decide +kernel, (by decide +kernel), test_locate_none⟩,
    ⟨{ wSet wAct [(GUARD.RKEY_RW.READ, 0, 1)] with leaf := { wAct.leaf with colour := [] } }, 0, 15, 0, 0, Config.memBase 0 * 8, 8, 0, 0, 0, 0,
      0, _, rfl, by decide +kernel, by decide +kernel, Nat.mul_mod_left _ _, test_locate, by decide +kernel⟩,
    ⟨wAct, 0, 15, 0, 0, Config.memBase 0 * 8, 8, 0, 0, 0, 0, 0, _, rfl, by decide +kernel, by decide +kernel, Nat.mul_mod_left _ _, test_locate,
      by decide +kernel⟩,
    ⟨wAct, 0, 0, 0, 0, 0, 0, 0, 0, by decide +kernel⟩,
    ⟨State.reset, 0, 37, 0, 0, 0, 0, 0, 0, 0, _, rfl, by decide +kernel⟩,
    ⟨State.reset, 63, 3, 15, 0, false, by decide +kernel⟩⟩

theorem test_meets_MemoryIsKeptUp :
    (∃ (s : State) (t : Nat) (m : Nat) (addr : Nat), ((locate (addr / 8)).isSome = true)) ∧
    (∃ (s : State) (t : Nat) (m : Nat) (addr : Nat) (k : Nat) (w : Nat) (a : State), (a = (((((s.advance t).setReg GUARD.STAT.TAGERR 0 1).addReg
      GUARD.TAGERR.COUNT 0 1).lifeAdd 0x158 1).note 6 m [])) ∧ (locate (addr / 8) = some (k, w))) ∧
    (∃ (s : State) (t : Nat) (n : Nat) (a : State), (a = ((s.advance t).mirrorScrub 2))) ∧
    (∃ (s : State) (t : Nat), (s.scrubbing = true) ∧ (0 < toSigned 32 (s.reg KETTLE.SYSD_ACCT.ACCT))) ∧
    (∃ (s : State) (t : Nat) (m : Nat) (v : Nat) (a : State), (a = ((s.advance t).setReg GUARD.PROBE_ADDR_HI.ADDR 0 v))) ∧
    (∃ (s : State) (t : Nat) (b : Nat) (im : Image) (a : State), (a = (s.advance t)) ∧ (b < 16) ∧ (s.leaf.gate = 0) ∧ (s.cycleTask b = none) ∧
      (s.mode = .load) ∧ (s.struct.image = some im)) ∧
    (∃ (s : State) (t : Nat) (b : Nat) (im : Image) (a : State), (a = (s.advance t)) ∧ (b < 16) ∧ (s.leaf.gate = 0) ∧ (s.cycleTask b = none) ∧
      (s.mode.runtimeRuns = true) ∧ (s.port.attest ≠ [])) ∧
    (∃ (s : State) (b : Bool), (s.reg LEAF.SCRUB_LEN.WORDS = 0)) ∧
    (∃ (s : State) (b : Bool), (s.reg LEAF.SCRUB_LEN.WORDS ≠ 0) ∧ (38 ≤ s.reg LEAF.SCRUB_MEM.MEM)) ∧
    (∃ (s : State) (b : Bool), (s.reg LEAF.SCRUB_LEN.WORDS ≠ 0) ∧ (s.reg LEAF.SCRUB_MEM.MEM < 38) ∧ (s.scrubRange (s.reg LEAF.SCRUB_MEM.MEM) =
      true) ∧ (s.memOff (s.reg LEAF.SCRUB_MEM.MEM) = false) ∧ (s.scrubbing = true)) ∧
    (∃ (s : State) (b : Bool), (s.reg LEAF.SCRUB_LEN.WORDS ≠ 0) ∧ (s.reg LEAF.SCRUB_MEM.MEM < 38) ∧ (s.scrubRange (s.reg LEAF.SCRUB_MEM.MEM) =
      true) ∧ (s.memOff (s.reg LEAF.SCRUB_MEM.MEM) = false) ∧ (s.scrubbing = false)) ∧
    (∃ (s : State) (n : Nat) (r : Nat), (r < 8) ∧ (s.leaf.scrubLen < 2 ^ 30)) :=
  ⟨⟨State.reset, 0, 0, Config.memBase 0 * 8, by rw [test_locate]; rfl⟩,
    ⟨State.reset, 0, 0, Config.memBase 0 * 8, 0, 0, _, rfl, test_locate⟩,
    ⟨State.reset, 0, 0, _, rfl⟩,
    ⟨wSet wAct [(LEAF.SCRUB_STAT.STATE, 0, 1), (KETTLE.SYSD_ACCT.ACCT, 0, 1)], 0, by decide +kernel⟩,
    ⟨State.reset, 0, 0, 0, _, rfl⟩,
    ⟨wStruct .load { (default : StructSt) with image := some default } [], 0, 15, default, _, rfl, by decide +kernel⟩,
    ⟨{ wAct with port := { wAct.port with attest := [(⟨0, 1, 0, 0⟩, 0)] } }, 0, 15, default, _, rfl, by decide +kernel⟩,
    ⟨State.reset, false, by decide +kernel⟩,
    ⟨wSet wAct [(LEAF.SCRUB_LEN.WORDS, 0, 1), (LEAF.SCRUB_MEM.MEM, 0, 38)], false, by decide +kernel⟩,
    ⟨wScrub 1, false, by rw [(test_scrub 1 (by decide)).1]; decide, by rw [(test_scrub 1 (by decide)).2.1]; decide, by rw [(test_scrub 1 (by decide)).2.1]; exact (test_scrub 1 (by decide)).2.2.2.1, by rw [(test_scrub 1 (by decide)).2.1]; exact (test_scrub 1 (by decide)).2.2.2.2, by unfold State.scrubbing State.flag; rw [(test_scrub 1 (by decide)).2.2.1]; rfl⟩,
    ⟨wScrub 0, false, by rw [(test_scrub 0 (by decide)).1]; decide, by rw [(test_scrub 0 (by decide)).2.1]; decide, by rw [(test_scrub 0 (by decide)).2.1]; exact (test_scrub 0 (by decide)).2.2.2.1, by rw [(test_scrub 0 (by decide)).2.1]; exact (test_scrub 0 (by decide)).2.2.2.2, by unfold State.scrubbing State.flag; rw [(test_scrub 0 (by decide)).2.2.1]; rfl⟩,
    ⟨State.reset, 0, 7, by decide +kernel⟩⟩

theorem test_meets_LoopChannelsAndPins :
    (∃ (s : State) (t : Nat) (input : Nat) (xs : List Nat) (temps : List Nat) (a : State) (b : State) (d : State) (e : State), (a = (s.advance t)) ∧ (b = ((a.when (a.loops.sampleAt == 0) (fun s => s.restartDwell 2)).takeChannels.each (List.range 32)
      (fun s c => s.sampleChannel c ((xs[c]?).getD 0) ((temps[c]?).getD 0)))) ∧ (d = ({ b with loops := { b.loops with
      sampleAt := b.now + 1, next := nextSample (b.baseVal (a.reg LOOP.CFG.BASE)), epoch := b.baseEpoch (a.reg LOOP.CFG.BASE) } })) ∧ (e = ((d.setReg LOOP.POWER.OUT 0 (min d.loopPower 65535)).setReg LOOP.POWER.IN 0 (min input 65535))) ∧ (a.loopsRun = true) ∧ (a.sampleDue = true)) ∧
    (∃ (s : State) (t : Nat) (a : State), (a = (s.advance t)) ∧ (a.loopsRun = true) ∧ (10800 < a.loopPower) ∧ (a.loops.capAt + msec 100 ≤ a.now)
      ∧ (supplyMin < a.reg LOOP.CEIL.CEIL)) ∧
    (∃ (s : State) (t : Nat) (a : State), (a = (s.advance t)) ∧ (a.loopsRun = true) ∧ (a.loopPower < 10000) ∧ (a.loops.capAt + sec 1 ≤ a.now) ∧
      (a.reg LOOP.CEIL.CEIL < supplyMax)) ∧
    (∃ (s : State) (t : Nat) (c : Nat) (a : State), (a = (s.advance t)) ∧ (c < 32) ∧ (a.isActive = true) ∧ (a.loopsRun = true) ∧ (a.reg
      LOOP.CHc_CFG.MODE c ≠ 0) ∧ (a.reg LOOP.CHc_CFG.MODE c ≠ LoopMode.multidrop) ∧ (a.loopState c = LoopState.run) ∧ (a.hartBusy c = true)) ∧
    (∃ (s : State) (t : Nat) (c : Nat) (a : State), (a = (s.advance t)) ∧ (c < 32) ∧ (a.isActive = true) ∧ (a.loopsRun = true) ∧ (a.reg
      LOOP.CHc_CFG.MODE c ≠ 0) ∧ (a.reg LOOP.CHc_CFG.MODE c ≠ LoopMode.multidrop) ∧ (a.loopState c = LoopState.run) ∧ (a.hartBusy c =
      false)) ∧
    (∃ (s : State) (t : Nat) (c : Nat), (c < 32) ∧ (s.isActive = false) ∧ (s.loopsRun = true) ∧ (s.loopState c = LoopState.run)) ∧
    (∃ (s : State) (t : Nat) (c : Nat) (a : State), (a = ((s.advance t).updChan c (fun d => { d with parkedAt := 0 }))) ∧ (c < 32) ∧
      (s.loopState c = LoopState.parked) ∧ (s.flag LOOP.STAT.FE_OK = true)) ∧
    (∃ (s : State) (t : Nat) (c : Nat) (a : State), (a = ((s.advance t).updChan c (fun d => { d with parkedAt := 0 }))) ∧ (c < 32) ∧
      (s.loopState c = LoopState.parked) ∧ (s.flag LOOP.STAT.FE_OK = false)) ∧
    (∃ (s : State) (t : Nat) (c : Nat), (s.loopState c ≠ LoopState.parked)) ∧
    (∃ (s : State) (t : Nat) (c : Nat) (a : State), (a = (s.advance t)) ∧ ((s.chan c).parkedAt ≠ 0) ∧ ((s.chan c).parkedAt - 1 + msec 1500 ≤
      a.now)) ∧
    (∃ (s : State) (t : Nat) (c : Nat) (a : State), (a = (s.advance t)) ∧ (a.now < (s.chan c).parkedAt - 1 + msec 1500)) ∧
    (∃ (s : State) (t : Nat) (c : Nat), (c < 32) ∧ (s.isActive = false) ∧ (s.loopState c = LoopState.run ∨ s.loopState c = LoopState.parked)) ∧
    (∃ (s : State) (t : Nat) (c : Nat) (a : State) (b : State) (d : State) (e : State), (a = (s.advance t)) ∧ (b = ((((a.openElement c).noteLoop
      c).addReg LOOP.CHc_STAT.TRIPTOT c 1).occur 5 c (0x0D0 + c))) ∧ (d = (b.setReg LOOP.CHc_STAT.TRIPS c (min 31 (b.occWithin 5
      c).length))) ∧ (e = (if d.isActive then d.mirrorReg (LOOP.CHc_CMD.OP.addrOf c) 4 else d)) ∧ (c < 32) ∧ (a.flag SYS.UNITS.LOOP = true)
      ∧ ((a.loopState c = LoopState.run ∨ a.loopState c = LoopState.probing ∨ a.loopState c = LoopState.parked))) ∧
    (∃ (s : State) (t : Nat) (c : Nat) (a : State), (a = (s.advance t)) ∧ (s.loopState c = LoopState.thermalOff) ∧ ((s.chan c).openAt ≠ 0) ∧
      ((s.chan c).openAt - 1 + sec 2 ≤ a.now)) ∧
    (∃ (s : State) (t : Nat) (c : Nat) (k : Nat) (uid : Nat) (st : Nat) (vars : List Nat) (a : State) (p : HartPass), (a = ((s.advance t).addReg
      LOOP.CHc_HCNT.OK c 1)) ∧ (s.isActive = true) ∧ (s.loopsRun = true) ∧ (s.loops.turn.get (c / 8) = c * 8 + k + 1) ∧ (s.loops.passing.get
      (c / 8) = some p)) ∧
    (∃ (s : State) (t : Nat) (c : Nat) (k : Nat) (uid : Nat) (st : Nat) (vars : List Nat) (a : State), (a = ((s.advance t).addReg
      LOOP.CHc_HCNT.OK c 1)) ∧ (s.isActive = true) ∧ (s.loopsRun = true) ∧ (s.loops.turn.get (c / 8) = c * 8 + k + 1) ∧ (s.loops.passing.get
      (c / 8) = none) ∧ ((s.loops.dev.get (5 * c + k)).known = true)) ∧
    (∃ (s : State) (t : Nat) (c : Nat) (k : Nat) (uid : Nat) (st : Nat) (vars : List Nat) (a : State), (a = ((s.advance t).addReg
      LOOP.CHc_HCNT.OK c 1)) ∧ (s.isActive = true) ∧ (s.loopsRun = true) ∧ (s.loops.turn.get (c / 8) = c * 8 + k + 1) ∧ (s.loops.passing.get
      (c / 8) = none) ∧ ((s.loops.dev.get (5 * c + k)).known = false)) ∧
    (∃ (s : State) (t : Nat) (c : Nat) (k : Nat) (uid : Nat) (st : Nat) (vars : List Nat), (s.isActive = false)) ∧
    (∃ (s : State) (c : Nat) (k : Nat) (uid : Nat) (st : Nat) (vars : List Nat), ((s.mode = .standby ∨ s.mode = .sync)) ∧ (s.loopsRun = true) ∧
      ((s.hartDevices c).contains k = true)) ∧
    (∃ (s : State) (t : Nat) (c : Nat) (k : Nat) (a : State), (a = ((s.advance t).addReg LOOP.CHc_HCNT.FAIL c 1)) ∧ (s.isActive = true) ∧
      (s.loopsRun = true) ∧ (s.loops.turn.get (c / 8) = c * 8 + k + 1) ∧ ((s.loops.dev.get (5 * c + k)).fails < 2)) ∧
    (∃ (s : State) (t : Nat) (c : Nat) (k : Nat) (a : State) (p : HartPass), (a = ((s.advance t).addReg LOOP.CHc_HCNT.FAIL c 1)) ∧ (s.isActive =
      true) ∧ (s.loopsRun = true) ∧ (s.loops.turn.get (c / 8) = c * 8 + k + 1) ∧ (2 ≤ (s.loops.dev.get (5 * c + k)).fails) ∧
      (s.loops.passing.get (c / 8) = some p)) ∧
    (∃ (s : State) (t : Nat) (c : Nat) (k : Nat) (a : State), (a = ((s.advance t).addReg LOOP.CHc_HCNT.FAIL c 1)) ∧ (s.isActive = true) ∧
      (s.loopsRun = true) ∧ (s.loops.turn.get (c / 8) = c * 8 + k + 1) ∧ (2 ≤ (s.loops.dev.get (5 * c + k)).fails) ∧ (s.loops.passing.get (c
      / 8) = none)) ∧
    (∃ (s : State) (t : Nat) (c : Nat), (c < 32) ∧ (s.loopsRun = true)) ∧
    (∃ (s : State) (t : Nat), (s.loopsRun = true)) ∧
    (∃ (s : State) (t : Nat) (a : State), (s.flag SYS.UNITS.LOOP = true) ∧ (s.mode.runtimeRuns = true) ∧ (s.flag UPD.PARTp_STAT.STOPPED 2 =
      false) ∧ (a = (if s.loops.restarting then ((s.advance t).addReg LOOP.FERST.COUNT 0 1).noteLoop 0 else s.advance t))) ∧
    (∃ (s : State) (t : Nat) (p : Nat) (a : State) (b : State), (a = ((((s.advance t).setReg FPIN.PINp_STAT.SHORT p 1).addReg FPIN.PINp_STAT.SHORTS p 1).addReg FPIN.SHORTCNT.COUNT 0 1)) ∧ (b = ((({ a with loops := { a.loops with shortAt := a.loops.shortAt.set p (a.now + 1) } }.note 0xA (pinInstance p) []).occur 6 p
      (0x0F0 + p)).showPin p)) ∧ (p < 64) ∧ ((s.advance t).pinCommand p = true) ∧ (b.permanent 6 p = false)) ∧
    (∃ (s : State) (t : Nat) (p : Nat) (a : State) (b : State), (a = ((((s.advance t).setReg FPIN.PINp_STAT.SHORT p 1).addReg FPIN.PINp_STAT.SHORTS p 1).addReg FPIN.SHORTCNT.COUNT 0 1)) ∧ (b = ((({ a with loops := { a.loops with shortAt := a.loops.shortAt.set p (a.now + 1) } }.note 0xA (pinInstance p) []).occur 6 p
      (0x0F0 + p)).showPin p)) ∧ (p < 64) ∧ ((s.advance t).pinCommand p = true) ∧ (b.permanent 6 p = true)) ∧
    (∃ (s : State) (t : Nat) (p : Nat) (a : State), (a = (s.advance t)) ∧ (p < 64) ∧ (s.loops.shortAt.get p ≠ 0) ∧ (s.loops.shortAt.get p - 1 +
      msec 100 ≤ a.now)) ∧
    (∃ (s : State) (t : Nat) (m : Nat) (b : Bool), (m < FPIN.ACm_STAT.OVERV.count) ∧ (s.flag SYS.UNITS.ACS = true)) :=
  ⟨⟨wLoop LoopState.run default [], msec 10, 3, [1], [2], _, _, _, _, rfl, rfl, rfl, rfl, by decide +kernel⟩,
    ⟨wLoop LoopState.run (wPower 560 140000) [(LOOP.CEIL.CEIL, 0, 560)], msec 100, _, rfl, by decide +kernel⟩,
    ⟨wLoop LoopState.run (wPower 160 40) [(LOOP.CEIL.CEIL, 0, 300)], sec 1, _, rfl, by decide +kernel⟩,
    ⟨wLoop LoopState.run (wTurn default none) [], 0, 5, _, rfl, by decide +kernel⟩,
    ⟨wLoop LoopState.run default [], 0, 5, _, rfl, by decide +kernel⟩,
    ⟨wSet (wMode .standby) [(LOOP.STAT.FE_OK, 0, 1), (LOOP.CHc_STAT.STATE, 31, LoopState.run)], 0, 31, by decide +kernel⟩,
    ⟨wLoop LoopState.parked default [(LOOP.CHc_STAT.STATE, 31, LoopState.parked)], 0, 31, _, rfl, by decide +kernel⟩,
    ⟨wLoop LoopState.parked default [(LOOP.STAT.FE_OK, 0, 0)], 0, 5, _, rfl, by decide +kernel⟩,
    ⟨State.reset, 0, 0, by decide +kernel⟩,
    ⟨wLoop LoopState.parked (wChan { (default : LoopDyn) with parkedAt := 1 }) [], msec 1500, 5, _, rfl, by decide +kernel⟩,
    ⟨wLoop LoopState.parked (wChan { (default : LoopDyn) with parkedAt := 1 }) [], msec 1500 - 1, 5, _, rfl, by decide +kernel⟩,
    ⟨wSet (wMode .standby) [(LOOP.CHc_STAT.STATE, 31, LoopState.parked)], 0, 31, by decide +kernel, by decide +kernel, Or.inr
      (by decide +kernel)⟩,
    ⟨wLoop LoopState.probing default [], 0, 5, _, _, _, _, rfl, rfl, rfl, rfl, by decide +kernel, by decide +kernel, Or.inr (Or.inl
      (by decide +kernel))⟩,
    ⟨wLoop LoopState.thermalOff (wChan { (default : LoopDyn) with openAt := 1 }) [], sec 2, 5, _, rfl, by decide +kernel⟩,
    ⟨wLoop LoopState.run (wTurn default (some { (default : HartPass) with channel := 5 })) [], 0, 5, 1, 0, 0, [], _,
      { (default : HartPass) with channel := 5 }, rfl, by decide +kernel⟩,
    ⟨wLoop LoopState.run (wTurn { (default : HartDyn) with known := true } none) [], 0, 5, 1, 0, 0, [], _, rfl, by decide +kernel⟩,
    ⟨wLoop LoopState.run (wTurn default none) [], 0, 5, 1, 9, 0, [], _, rfl, by decide +kernel⟩,
    ⟨State.reset, 0, 0, 0, 0, 0, [], by decide +kernel⟩,
    ⟨{ wLoop LoopState.run default [(LOOP.CHc_CFG.MODE, 5, LoopMode.analogHart)] with mode := .standby }, 5, 0, 0, 0, [], Or.inl rfl,
      by decide +kernel⟩,
    ⟨wLoop LoopState.run (wTurn { (default : HartDyn) with fails := 1 } none) [], 0, 5, 1, _, rfl, by decide +kernel⟩,
    ⟨wLoop LoopState.run (wTurn { (default : HartDyn) with fails := 2 } (some default)) [], 0, 5, 1, _, default, rfl, by decide +kernel⟩,
    ⟨wLoop LoopState.run (wTurn { (default : HartDyn) with fails := 2 } none) [], 0, 5, 1, _, rfl, by decide +kernel⟩,
    ⟨wLoop LoopState.run default [], 0, 31, by decide +kernel⟩,
    ⟨wLoop LoopState.run default [], 0, by decide +kernel⟩,
    ⟨wAct, 0, _, by decide +kernel, by decide +kernel, (by decide +kernel), rfl⟩,
    ⟨wPin [], 0, 7, _, _, rfl, rfl, by decide +kernel⟩,
    ⟨wPin [(LIFE.BUDGETk.N, 5, 0)], 0, 7, _, _, rfl, rfl, by decide +kernel⟩,
    ⟨{ wPin [] with loops := { (default : LoopSt) with shortAt := [(7, 1)] } }, msec 100, 7, _, rfl, by decide +kernel⟩,
    ⟨State.reset, 0, FPIN.ACm_STAT.OVERV.count - 1, true, by decide +kernel⟩⟩

theorem test_meets_SafetyUnitActs :
    (∃ (s : State) (t : Nat) (reaction : Nat) (off : List Bool) (on : List Bool) (deltas : List Int) (zs : List (Option Int)) (losses : List Bool) (exts : List Bool) (a : State) (b : State) (d : State), (a = (((s.advance t).setReg SAFE.STAT.STATE 0 (if (s.advance t).isActive then SafeState.run else SafeState.watch)).each [0, 1, 2, 3] (fun s e =>
      s.cycleEnc e ((deltas[e]?).getD 0) ((zs[e]?).getD none) ((losses[e]?).getD false)))) ∧ (b = (a.each [0, 1, 2, 3] (fun s k => s.cyclePair k (s.channelDemands k off on false) (s.channelDemands k off on true)))) ∧ (d = (((b.setFlag SAFE.STAT.STARTUP_DONE 0 ([0, 1, 2, 3].all (fun k =>
      (b.safe.params.pairs.get k).use != 1 || bitOf k (b.reg SAFE.STARTUP.TESTED)))).each (List.range 8) State.cycleFun).endRequest)) ∧ ((s.advance t).flag SYS.UNITS.SAFE = true) ∧ (s.safeState = SafeState.run ∨ s.safeState = SafeState.watch)) ∧
    (∃ (s : State) (t : Nat) (reaction : Nat) (off : List Bool) (on : List Bool) (deltas : List Int) (zs : List (Option Int)) (losses : List
      Bool) (exts : List Bool), (s.flag SYS.UNITS.SAFE = true) ∧ (s.safeState = SafeState.starting ∨ s.safeState = SafeState.failsafe)) ∧
    (∃ (s : State) (t : Nat) (ok : Bool) (a : State), (a = ((s.advance t).updSafe (fun x => { x with diagAt := (s.advance t).now + 1 }))) ∧
      (s.flag SYS.UNITS.SAFE = true) ∧ (s.safeState ≠ SafeState.failsafe) ∧ (ok = true) ∧ ((s.safe.diagAt = 0 ∨ s.safe.diagAt - 1 + sec 3600
      < (s.advance t).now))) ∧
    (∃ (s : State) (t : Nat) (ok : Bool) (a : State), (a = ((s.advance t).updSafe (fun x => { x with diagAt := (s.advance t).now + 1 }))) ∧
      (s.flag SYS.UNITS.SAFE = true) ∧ (s.safeState ≠ SafeState.failsafe) ∧ (ok = true) ∧ (s.safe.diagAt ≠ 0) ∧ ((s.advance t).now ≤
      s.safe.diagAt - 1 + sec 3600)) ∧
    (∃ (s : State) (t : Nat) (ok : Bool) (a : State), (a = ((s.advance t).updSafe (fun x => { x with diagAt := (s.advance t).now + 1 }))) ∧
      (s.flag SYS.UNITS.SAFE = true) ∧ (s.safeState ≠ SafeState.failsafe) ∧ (ok = false)) ∧
    (∃ (s : State) (t : Nat), (s.flag SYS.UNITS.SAFE = true) ∧ (s.safeState ≠ SafeState.failsafe)) ∧
    (∃ (s : State) (t : Nat), (s.flag SYS.UNITS.SAFE = true) ∧ (s.safeState = SafeState.starting) ∧ (s.flag UPD.PARTp_STAT.STOPPED 1 = false)) ∧
    (∃ (s : State) (t : Nat), (s.flag SYS.UNITS.SAFE = true) ∧ (s.safeState ≠ SafeState.failsafe) ∧ (s.safeState ≠ SafeState.starting)) ∧
    (∃ (s : State) (t : Nat) (j : Nat) (ok : Bool) (a : State), (a = (s.advance t)) ∧ (j < 4) ∧ (s.flag SYS.UNITS.SAFE = true) ∧
      ((s.safe.out.get j).testAt ≠ 0) ∧ (s.outMayRun j = true) ∧ (ok = true) ∧ ((s.safe.out.get j).testAt - 1 + us (2 *
      (s.safe.params.outs.get j).tpw) ≤ a.now)) ∧
    (∃ (s : State) (t : Nat) (j : Nat) (ok : Bool) (a : State), (a = (s.advance t)) ∧ (j < 4) ∧ (s.flag SYS.UNITS.SAFE = true) ∧
      ((s.safe.out.get j).testAt ≠ 0) ∧ (s.outMayRun j = true) ∧ (ok = true) ∧ (a.now < (s.safe.out.get j).testAt - 1 + us (2 *
      (s.safe.params.outs.get j).tpw))) ∧
    (∃ (s : State) (t : Nat) (j : Nat) (ok : Bool) (a : State), (a = (s.advance t)) ∧ (j < 4) ∧ (s.flag SYS.UNITS.SAFE = true) ∧
      ((s.safe.out.get j).testAt ≠ 0) ∧ (s.outMayRun j = true) ∧ (ok = false)) ∧
    (∃ (s : State) (t : Nat) (j : Nat) (ok : Bool), ((s.safe.out.get j).testAt = 0 ∨ s.outMayRun j = false)) ∧
    (∃ (s : State) (t : Nat) (j : Nat) (fell : Bool) (rose : Bool) (a : State) (o : OutDyn) (fin : Nat), (a = (s.advance t)) ∧ (o =
      (s.safe.out.get j)) ∧ (fin = (o.pulseAt + us (s.safe.params.outs.get j).tpw)) ∧ (j < 4) ∧ (o.on = true) ∧ (o.pulseAt ≤ a.now) ∧ (fell
      = false) ∧ (o.pulseAt + us 80 ≤ a.now)) ∧
    (∃ (s : State) (t : Nat) (j : Nat) (fell : Bool) (rose : Bool) (a : State) (o : OutDyn) (fin : Nat), (a = (s.advance t)) ∧ (o =
      (s.safe.out.get j)) ∧ (fin = (o.pulseAt + us (s.safe.params.outs.get j).tpw)) ∧ (j < 4) ∧ (o.on = true) ∧ (o.pulseAt ≤ a.now) ∧ (fell
      = true) ∧ (rose = false) ∧ (fin + us 200 ≤ a.now)) ∧
    (∃ (s : State) (t : Nat) (j : Nat) (fell : Bool) (rose : Bool) (a : State) (o : OutDyn) (fin : Nat), (a = (s.advance t)) ∧ (o =
      (s.safe.out.get j)) ∧ (fin = (o.pulseAt + us (s.safe.params.outs.get j).tpw)) ∧ (j < 4) ∧ (o.on = true) ∧ (o.pulseAt ≤ a.now) ∧ (fell
      = true) ∧ (rose = true) ∧ (fin ≤ a.now)) ∧
    (∃ (s : State) (t : Nat) (j : Nat) (fell : Bool) (rose : Bool) (a : State) (o : OutDyn) (fin : Nat), (a = (s.advance t)) ∧ (o = (s.safe.out.get j)) ∧ (fin = (o.pulseAt + us (s.safe.params.outs.get j).tpw)) ∧ (j < 4) ∧ (o.on = true) ∧ (o.pulseAt ≤ a.now) ∧ ((fell = false ∧ a.now < o.pulseAt + us 80) ∨ (fell = true ∧ rose = false ∧ a.now < fin + us 200) ∨
      (fell = true ∧ rose = true ∧ a.now < fin))) ∧
    (∃ (s : State) (t : Nat) (j : Nat), (j < 4) ∧ ((s.safe.out.get j).on = true)) ∧
    (∃ (s : State) (t : Nat) (a : State), (a = ((s.advance t).updSafe (fun x => { x with due := false, shownAt := (s.advance t).now }))) ∧
      (s.flag SYS.UNITS.SAFE = true) ∧ (s.safe.params.statusEn = true) ∧ (s.ingressOn = true) ∧ ((s.safe.due = true ∨ s.safe.shownAt + msec
      100 ≤ (s.advance t).now))) :=
  ⟨⟨wSafe SafeState.run default [], 0, 0, [true], [true], [1], [none], [false], [false], _, _, _, rfl, rfl, rfl, by decide +kernel, Or.inl
      (by decide +kernel)⟩,
    ⟨wSafe SafeState.starting default [], 0, 0, [], [], [], default, [], [], by decide +kernel, Or.inl (by decide +kernel)⟩,
    ⟨wSafe SafeState.run default [], 0, true, _, rfl, by decide +kernel, by decide +kernel, (by decide +kernel), Or.inl (by decide +kernel)⟩,
    ⟨wSafe SafeState.run { (default : SafeSt) with diagAt := 1 } [], sec 3600, true, _, rfl, by decide +kernel⟩,
    ⟨wSafe SafeState.run default [], 0, _, _, rfl, by decide +kernel, by decide +kernel, rfl⟩,
    ⟨wSafe SafeState.starting default [], 0, by decide +kernel⟩,
    ⟨wSafe SafeState.starting default [], 0, by decide +kernel⟩,
    ⟨wSafe SafeState.run default [], 0, by decide +kernel⟩,
    ⟨wSafe SafeState.run (wOut { (default : OutDyn) with st := OutState.armed, released := true, req := true, testAt := 1 }) [], us 1, 2, true,
      _, rfl, by decide +kernel⟩,
    ⟨(let s := wSafe SafeState.run (wOut { (default : OutDyn) with st := OutState.armed, released := true, req := true, testAt := 1 }) [];
      s.updSafe (fun x => { x with params := { x.params with outs := [(2, { (default : SafeOut) with use := 1, tpw := 500 })] } })), 0, 2,
      true, _, rfl, by decide +kernel⟩,
    ⟨wSafe SafeState.run (wOut { (default : OutDyn) with st := OutState.armed, released := true, req := true, testAt := 1 }) [], 0, 2, false, _,
      rfl, by decide +kernel⟩,
    ⟨State.reset, 0, 0, false, Or.inl (by decide +kernel)⟩,
    ⟨wSafe SafeState.run (wOut { (default : OutDyn) with st := OutState.armed, released := true, req := true, on := true }) [], us 80, 2, false,
      true, _, _, _, rfl, rfl, rfl, by decide +kernel⟩,
    ⟨wSafe SafeState.run (wOut { (default : OutDyn) with st := OutState.armed, released := true, req := true, on := true }) [], us 200, 2, true,
      false, _, _, _, rfl, rfl, rfl, by decide +kernel⟩,
    ⟨wSafe SafeState.run (wOut { (default : OutDyn) with st := OutState.armed, released := true, req := true, on := true }) [], 0, 2, true,
      true, _, _, _, rfl, rfl, rfl, by decide +kernel⟩,
    ⟨wSafe SafeState.run (wOut { (default : OutDyn) with st := OutState.armed, released := true, req := true, on := true }) [], us 79, 2, false,
      false, _, _, _, rfl, rfl, rfl, by decide +kernel⟩,
    ⟨wSafe SafeState.run (wOut { (default : OutDyn) with st := OutState.armed, released := true, req := true, on := true }) [], 0, 2,
      by decide +kernel⟩,
    ⟨wSafe SafeState.run { (default : SafeSt) with params := { (default : SafeParams) with statusEn := true } } [], msec 100, _, rfl,
      by decide +kernel, by decide +kernel, (by decide +kernel), Or.inr (by decide +kernel)⟩⟩

theorem test_meets_SafetyRequestsAreJudged :
    (∃ (s : State) (op : Nat) (r : Option (Req × Nat)), (s.flag SYS.UNITS.SAFE = true) ∧ (s.safe.request.isSome = true)) ∧
    (∃ (s : State) (op : Nat) (r : Option (Req × Nat)), (s.flag SYS.UNITS.SAFE = true) ∧ (s.safe.request = none)) ∧
    (∃ (s : State) (op : Nat) (r : Option (Req × Nat)), (s.flag SYS.UNITS.SAFE = true)) ∧
    (∃ (s : State) (op : Nat) (b : Bool) (r : Option (Req × Nat)), (s.flag SYS.UNITS.SAFE = false)) ∧
    (∃ (s : State) (q : MboxReq) (x : Nat × State), (s.safe.request = some q) ∧ (q.reply = none) ∧ (x = (if q.op = 1 then s.safeRestart q.arg
      else if q.op = 2 then s.safeClear q.arg else s.safeConfirm q.arg))) ∧
    (∃ (s : State) (q : MboxReq) (r : Req) (op : Nat) (x : Nat × State), (s.safe.request = some q) ∧ (q.reply = some (r, op)) ∧ (x = (if q.op =
      1 then s.safeRestart q.arg else if q.op = 2 then s.safeClear q.arg else s.safeConfirm q.arg))) ∧
    (∃ (s : State) (mask : Nat) (named : List Nat) (waits : Nat → Bool), (named = ([0, 1, 2, 3].filter (fun j => bitOf j mask))) ∧ (waits = (fun
      j => (s.safe.out.get j).st == OutState.waitRestart && s.outJudge j == OutState.waitRestart)) ∧ (named.all waits = false)) ∧
    (∃ (s : State) (mask : Nat) (named : List Nat) (waits : Nat → Bool), (named = ([0, 1, 2, 3].filter (fun j => bitOf j mask))) ∧ (waits = (fun
      j => (s.safe.out.get j).st == OutState.waitRestart && s.outJudge j == OutState.waitRestart)) ∧ (named.all waits = true)) ∧
    (∃ (s : State) (mask : Nat) (named : List Nat) (waits : Nat → Bool) (j : Nat), (named = ([0, 1, 2, 3].filter (fun j => bitOf j mask))) ∧
      (waits = (fun j => (s.safe.out.get j).st == OutState.waitRestart && s.outJudge j == OutState.waitRestart)) ∧ (j ∈ named) ∧ (waits j =
      true)) ∧
    (∃ (s : State) (mask : Nat) (named : List Nat) (waits : Nat → Bool) (j : Nat), (named = ([0, 1, 2, 3].filter (fun j => bitOf j mask))) ∧
      (waits = (fun j => (s.safe.out.get j).st == OutState.waitRestart && s.outJudge j == OutState.waitRestart)) ∧ (j ∉ named ∨ waits j =
      false)) ∧
    (∃ (s : State) (v : Nat), (s.flag SAFE.STAT.LOCKED = false) ∧ (wrap 32 v = s.reg SAFE.CHECK.VALUE)) ∧
    (∃ (s : State) (v : Nat), (s.flag SAFE.STAT.LOCKED = true)) ∧
    (∃ (s : State) (t : Nat), (s.flag SAFE.STAT.LOCKED = true) ∧ (s.safe.lockedAt + sec 600 ≤ (s.advance t).now)) :=
  ⟨⟨wSafe SafeState.run { (default : SafeSt) with request := some ⟨1, 4, none⟩ } [], 1, default, by decide +kernel⟩,
    ⟨wSafe SafeState.run default [], 1, default, by decide +kernel⟩,
    ⟨wSafe SafeState.run default [], 1, default, by decide +kernel⟩,
    ⟨wSet wAct [(SYS.UNITS.SAFE, 0, 0)], 1, false, default, by decide +kernel⟩,
    ⟨wSafe SafeState.run { (default : SafeSt) with request := some ⟨1, 4, none⟩ } [], ⟨1, 4, none⟩, _, by decide +kernel, by decide +kernel,
      rfl⟩,
    ⟨wSafe SafeState.run { (default : SafeSt) with request := some ⟨1, 4, (some (⟨0, 7, 1, 1⟩, 0x103))⟩ } [], ⟨1, 4, some (⟨0, 7, 1, 1⟩,
      0x103)⟩, ⟨0, 7, 1, 1⟩, 0x103, _, by decide +kernel, by decide +kernel, rfl⟩,
    ⟨wSafe SafeState.run default [], 1, _, _, rfl, rfl, by decide +kernel⟩,
    ⟨wSafe SafeState.run (wOut { (default : OutDyn) with st := OutState.waitRestart, wait := true }) [(SAFE.STAT.CONFIRMED, 0, 1)], 4, _, _,
      rfl, rfl, by decide +kernel⟩,
    ⟨wSafe SafeState.run (wOut { (default : OutDyn) with st := OutState.waitRestart, wait := true }) [(SAFE.STAT.CONFIRMED, 0, 1)], 4, _, _, 2,
      rfl, rfl, by decide +kernel⟩,
    ⟨wSafe SafeState.run (wOut { (default : OutDyn) with st := OutState.waitRestart, wait := true }) [(SAFE.STAT.CONFIRMED, 0, 1)], 4, _, _, 3,
      rfl, rfl, Or.inl (by decide +kernel)⟩,
    ⟨State.reset, 0, by decide +kernel⟩,
    ⟨wSet wAct [(SAFE.STAT.LOCKED, 0, 1)], 0, by decide +kernel⟩,
    ⟨wSet wAct [(SAFE.STAT.LOCKED, 0, 1)], sec 600, by decide +kernel⟩⟩

theorem test_meets_OutputsStayOffOutsideArmed :
    (∃ (s : State) (j : Nat), (s.outMayRun j = true)) ∧
    (∃ (s : State) (j : Nat), ((s.safe.params.outs.get j).use ≠ 0) ∧ ((s.safe.out.get j).fault ≠ 0 ∨ s.safeState = SafeState.failsafe)) ∧
    (∃ (s : State) (j : Nat), ((s.safe.params.outs.get j).use ≠ 0) ∧ (s.outJudge j = OutState.armed) ∧ ((s.safe.params.outs.get j).restart = 1)) ∧
    (∃ (s : State) (j : Nat), ((s.safe.params.outs.get j).use ≠ 0) ∧ (s.outJudge j = OutState.armed)) ∧
    (∃ (s : State) (j : Nat) (code : Nat) (k : Nat), (j < 4) ∧ (k ≠ j)) ∧
    (∃ (s : State) (j : Nat) (code : Nat), (j < 4)) ∧
    (∃ (s : State) (k : Nat) (a : Bool) (b : Bool), ((s.safe.params.pairs.get k).use ≠ 0) ∧ ((s.safe.pair.get k).st = PairState.released) ∧ (b =
      a)) ∧
    (∃ (s : State) (k : Nat) (a : Bool) (b : Bool), ((s.safe.params.pairs.get k).use ≠ 0) ∧ ((s.safe.pair.get k).st = PairState.faultHeld) ∧ ((a
      || b) = true)) :=
  ⟨⟨wSafe SafeState.run (wOut { (default : OutDyn) with st := OutState.armed, released := true, req := true, on := true }) [], 2,
      by decide +kernel⟩,
    ⟨wSafe SafeState.failsafe (wOut default) [], 2, by decide +kernel, Or.inr (by decide +kernel)⟩,
    ⟨wSafe SafeState.run (wOut { (default : OutDyn) with st := OutState.armed, released := true, req := true, on := true })
      [(SAFE.STAT.CONFIRMED, 0, 1)], 2, by decide +kernel⟩,
    ⟨wSafe SafeState.run (wOut { (default : OutDyn) with st := OutState.armed, released := true, req := true, on := true })
      [(SAFE.STAT.CONFIRMED, 0, 1)], 2, by decide +kernel⟩,
    ⟨wSafe SafeState.run (wOut { (default : OutDyn) with st := OutState.armed, released := true, req := true, on := true })
      [(SAFE.STAT.CONFIRMED, 0, 1)], 2, 5, 3, by decide +kernel⟩,
    ⟨wSafe SafeState.run (wOut { (default : OutDyn) with st := OutState.armed, released := true, req := true, on := true })
      [(SAFE.STAT.CONFIRMED, 0, 1)], 3, 2, by decide +kernel⟩,
    ⟨wSafe SafeState.run (wInPair PairState.released) [], 1, true, true, by decide +kernel⟩,
    ⟨wSafe SafeState.run (wInPair PairState.faultHeld) [], 1, true, false, by decide +kernel⟩⟩

theorem test_meets_CanFramesAndErrors :
    (∃ (s : State) (t : Nat) (n : Nat) (sof : Nat) (idw : Nat) (dlc : Nat) (data : List Nat) (a : State), (a = (((s.advance t).goodRx
      n).judgeCan n)) ∧ (n < 4) ∧ (s.canOn n = true) ∧ (s.reg CAN.STAT.STATE n ≠ 3)) ∧
    (∃ (s : State) (t : Nat) (n : Nat) (sof : Nat) (idw : Nat) (dlc : Nat) (data : List Nat) (a : State), (a = (((s.advance t).goodRx
      n).judgeCan n)) ∧ (n < 4) ∧ (s.canOn n = true) ∧ (s.reg CAN.STAT.STATE n ≠ 3) ∧ ((a.elements sof).strain n idw = none)) ∧
    (∃ (s : State) (t : Nat) (n : Nat) (sof : Nat) (idw : Nat) (dlc : Nat) (data : List Nat) (a : State) (e : Nat) (x : Nat × Bool × Nat), (a =
      (((s.advance t).goodRx n).judgeCan n)) ∧ (n < 4) ∧ (s.canOn n = true) ∧ (s.reg CAN.STAT.STATE n ≠ 3) ∧ ((a.elements sof).strain n idw
      = some e) ∧ (x = ((a.elements sof).elemAction n e)) ∧ (x.2.1 = false)) ∧
    (∃ (s : State) (t : Nat) (n : Nat) (sof : Nat) (idw : Nat) (dlc : Nat) (data : List Nat) (a : State) (e : Nat) (x : Nat × Bool × Nat), (a =
      (((s.advance t).goodRx n).judgeCan n)) ∧ (n < 4) ∧ (s.canOn n = true) ∧ (s.reg CAN.STAT.STATE n ≠ 3) ∧ ((a.elements sof).strain n idw
      = some e) ∧ (x = ((a.elements sof).elemAction n e)) ∧ (x.2.1 = true)) ∧
    (∃ (s : State) (t : Nat) (n : Nat) (lec : Nat) (p : Bool) (a : State), (a = (((s.advance t).setReg CAN.ERR.LEC n (min lec 6)).raiseRec n (if
      p then 8 else 1))) ∧ (n < 4) ∧ (s.canOn n = true) ∧ (s.reg CAN.STAT.STATE n ≠ 3)) ∧
    (∃ (s : State) (t : Nat) (b : Nat) (n : Nat) (mask : Nat) (pc : Nat) (e : Nat) (x : Nat) (areas : List (Option CanFrame)) (a : State), (a =
      (s.advance t)) ∧ (s.cycleTask b = some x) ∧ (n < 4) ∧ (s.canOn n = true) ∧ (((List.range 32).filter (fun i => bitOf i mask)).any (fun
      i => s.reg CAN.TXBb_CFG.OWNER (txKey n i) != x) = true)) ∧
    (∃ (s : State) (t : Nat) (b : Nat) (n : Nat) (mask : Nat) (pc : Nat) (e : Nat) (x : Nat) (areas : List (Option CanFrame)) (a : State) (bits
      : List Nat) (l : List Nat) (w : State), (a = (s.advance t)) ∧ (s.cycleTask b = some x) ∧ (n < 4) ∧ (s.canOn n = true) ∧ (((List.range
      32).filter (fun i => bitOf i mask)).any (fun i => s.reg CAN.TXBb_CFG.OWNER (txKey n i) != x) = false) ∧ (bits = ((List.range
      32).filter (fun i => bitOf i mask))) ∧ (l = (bits.filter (fun i => !s.flag CAN.TXBb_CFG.MAPPED (txKey n i)))) ∧ (w = (a.each
      ((bits.zip areas).filter (fun y => l.contains y.1)) (fun s y => s.writeArea (canWord n (txPlace y.1)) y.2)))) ∧
    (∃ (s : State) (t : Nat) (b : Nat) (n : Nat) (pc : Nat) (e : Nat) (x : Nat) (area : Option CanFrame) (a : State), (a = (s.advance t)) ∧
      (s.cycleTask b = some x) ∧ (n < 4) ∧ (s.canOn n = true) ∧ (s.reg CAN.CFG.TXQTASK n = x)) ∧
    (∃ (s : State) (t : Nat) (b : Nat) (n : Nat) (pc : Nat) (e : Nat) (x : Nat) (area : Option CanFrame) (a : State), (a = (s.advance t)) ∧
      (s.cycleTask b = some x) ∧ (n < 4) ∧ (s.canOn n = true) ∧ (s.reg CAN.CFG.TXQTASK n ≠ x)) ∧
    (∃ (s : State) (t : Nat) (m : Nat) (n : Nat) (mask : Nat), (n < 4) ∧ (s.absentAt (CAN.TXCANCEL.CAN.addrOf n) = false)) ∧
    (∃ (s : State) (t : Nat) (n : Nat) (sof : Nat) (tdcv : Nat) (i : Nat) (a : State) (b : State), (a = ((((((s.advance t).addReg CAN.TXCNT.COUNT n 1).setReg CAN.ERR.LEC n 0).dropReg CAN.ERR.TEC n).setReg CAN.STAT.NO_PARTNER n 0).updCan n
      (fun p => { p with ackErrs := 0 }))) ∧ (b = ((a.noteTdcv n (s.txFrame n i).idw tdcv).judgeCan n)) ∧ ((s.canPort n).active = some i) ∧ (i < 31)) ∧
    (∃ (s : State) (t : Nat) (n : Nat) (i : Nat) (f : TxFault) (p : Bool) (a : State) (b : State) (c : State) (d : State), (a = (f.tdcv.elim
      (s.advance t) (fun v => (s.advance t).noteTdcv n (s.txFrame n i).idw v))) ∧ (b = ((a.setReg CAN.ERR.LEC n (min f.lec 6)).addReg
      CAN.ERRCNT.FRAMES n 1)) ∧ (c = (if p = true ∧ f.lec = 3 ∧ b.reg CAN.STAT.STATE n = 2 then b else b.setReg CAN.ERR.TEC n (min (b.reg
      CAN.ERR.TEC n + 8) 511))) ∧ (d = ((if f.lec = 3 then c.ackError n else c.updCan n (fun q => { q with ackErrs := 0 })).judgeCan n)) ∧
      ((s.canPort n).active = some i) ∧ (i < 32) ∧ (f.lec = 0)) ∧
    (∃ (s : State) (t : Nat) (n : Nat) (i : Nat) (f : TxFault) (p : Bool) (a : State) (b : State) (c : State) (d : State), (a = (f.tdcv.elim
      (s.advance t) (fun v => (s.advance t).noteTdcv n (s.txFrame n i).idw v))) ∧ (b = ((a.setReg CAN.ERR.LEC n (min f.lec 6)).addReg
      CAN.ERRCNT.FRAMES n 1)) ∧ (c = (if p = true ∧ f.lec = 3 ∧ b.reg CAN.STAT.STATE n = 2 then b else b.setReg CAN.ERR.TEC n (min (b.reg
      CAN.ERR.TEC n + 8) 511))) ∧ (d = ((if f.lec = 3 then c.ackError n else c.updCan n (fun q => { q with ackErrs := 0 })).judgeCan n)) ∧
      ((s.canPort n).active = some i) ∧ (i < 32) ∧ (f.lec ≠ 0)) ∧
    (∃ (s : State) (t : Nat) (n : Nat) (f : TxFault) (p : Bool), ((s.canPort n).active = none)) ∧
    (∃ (s : State) (t : Nat) (n : Nat) (a : State), (a = ((s.advance t).setReg CAN.STAT.PAUSED n 0)) ∧ (s.flag CAN.STAT.PAUSED n = true) ∧
      ((s.canPort n).pauseAt - 1 + msec (s.reg CAN.NPCFG.PAUSE n) ≤ (s.advance t).now)) ∧
    (∃ (s : State) (t : Nat) (n : Nat) (a : State) (b : State), (a = ((((s.advance t).record 0xB01 n .warning [(1, s.reg CAN.ERR.LEC n)]).addReg
      CAN.ERRCNT.BUSOFF n 1).occur 8 n (0x134 + n))) ∧ (b = ((a.setReg CAN.STAT.STATE n 3).updCan n (fun p =>
      { p with busOffAt := a.now + 1, prevOk := false }))) ∧ (n < 4) ∧ (s.canOn n = true) ∧ (s.isActive = true) ∧ (s.reg CAN.STAT.STATE n ≠
      3) ∧ ((s.canPort n).active = none) ∧ (255 < s.reg CAN.ERR.TEC n)) ∧
    (∃ (s : State) (t : Nat) (m : Nat) (n : Nat), (n < 4) ∧ (s.busOffHere n = true)) ∧
    (∃ (s : State) (t : Nat) (m : Nat) (n : Nat), (n < 4) ∧ (s.busOffHere n = true) ∧ (s.flag CAN.BOCFG.AUTO n = true) ∧ ((s.canPort n).busOffAt
      - 1 + msec (s.reg CAN.BOCFG.DELAY n) ≤ (s.advance t).now)) ∧
    (∃ (s : State) (t : Nat) (n : Nat), (s.canOn n = true) ∧ (s.reg CAN.STAT.STATE n = 3) ∧ (s.flag CAN.STAT.RECOVERING n = true)) :=
  ⟨⟨wCan default [], 0, 2, 0, 0, 0, [], _, rfl, by decide +kernel⟩,
    ⟨wCan default [], 0, 2, 0, 5, 0, [], _, rfl, by decide +kernel⟩,
    ⟨wCan default [(CAN.SFk_W1.MAPEN, 256, 0)], 0, 2, 0, 0, 0, [], _, 0, _, rfl, by decide +kernel, by decide +kernel, (by decide +kernel),
      by decide +kernel, rfl, by decide +kernel⟩,
    ⟨wCan default [(CAN.SFk_W1.MAPEN, 256, 1)], 0, 2, 0, 0, 0, [], _, 0, _, rfl, by decide +kernel, by decide +kernel, (by decide +kernel),
      by decide +kernel, rfl, by decide +kernel⟩,
    ⟨wCan default [], 0, 2, 1, false, _, rfl, by decide +kernel⟩,
    ⟨wCanTask [], 0, 2, 2, 2 ^ 31, 0, 0, 5, default, _, rfl, by decide +kernel⟩,
    ⟨wCanTask [(CAN.TXBb_CFG.OWNER, 2 * 32 + 31, 5)], 0, 2, 2, 2 ^ 31, 0, 0, 5, [none], _, _, _, _, rfl, by decide +kernel, by decide +kernel,
      (by decide +kernel), by decide +kernel, rfl, rfl, rfl⟩,
    ⟨wCanTask [(CAN.CFG.TXQTASK, 2, 5)], 0, 2, 2, 0, 0, 5, default, _, rfl, by decide +kernel⟩,
    ⟨wCanTask [], 0, 2, 2, 0, 0, 5, default, _, rfl, by decide +kernel⟩,
    ⟨State.reset, 0, 0, 3, 1, by decide +kernel⟩,
    ⟨wCan { (default : CanPort) with active := some 30 } [], 0, 2, 0, 0, 30, _, _, rfl, rfl, by decide +kernel⟩,
    ⟨wCan { (default : CanPort) with active := some 31 } [], 0, 2, 31, default, false, _, _, _, _, rfl, rfl, rfl, rfl, by decide +kernel⟩,
    ⟨wCan { (default : CanPort) with active := some 31 } [], 0, 2, 31, ⟨3, some 2⟩, false, _, _, _, _, rfl, rfl, rfl, rfl, by decide +kernel⟩,
    ⟨wCan default [], 0, 2, default, false, by decide +kernel⟩,
    ⟨wCan default [(CAN.STAT.PAUSED, 2, 1)], 0, 2, _, rfl, by decide +kernel⟩,
    ⟨wCan default [(CAN.ERR.TEC, 2, 256)], 0, 2, _, _, rfl, rfl, by decide +kernel⟩,
    ⟨wCan default [(CAN.STAT.STATE, 2, 3)], 0, 0, 2, by decide +kernel⟩,
    ⟨wCan default [(CAN.STAT.STATE, 2, 3), (CAN.BOCFG.AUTO, 2, 1)], 0, 0, 2, by decide +kernel⟩,
    ⟨wCan default [(CAN.STAT.STATE, 2, 3), (CAN.STAT.RECOVERING, 2, 1)], 0, 2, by decide +kernel⟩⟩

theorem test_meets_CanTimeService :
    (∃ (s : State) (t : Nat) (n : Nat) (m : Nat) (b : State) (a : State), (m = (wrap 16 (s.reg CAN.CTS_STAT.MSEQ n + 1))) ∧ (b = (if (s.canPort n).prevOk then s.advance t else (s.advance t).nextFree)) ∧ (a = (b.updCan n (fun p => { p with
      prevOk := false, sending := s.canSends n, sentAt := b.now, sentVal := b.baseVal (min 5 (s.reg CAN.CTS_CFG.BASE n))
      sentEpoch := b.baseEpoch (min 5 (s.reg CAN.CTS_CFG.BASE n)) }))) ∧ (n < 4) ∧ (s.canOn n = true) ∧ (s.isActive = true) ∧ (s.reg CAN.CTS_CFG.ROLE n = 1) ∧ ((s.advance t).referenceDue n = true) ∧ (s.canSends n = true)) ∧
    (∃ (s : State) (t : Nat) (n : Nat) (m : Nat) (b : State) (a : State), (m = (wrap 16 (s.reg CAN.CTS_STAT.MSEQ n + 1))) ∧ (b = (if (s.canPort n).prevOk then s.advance t else (s.advance t).nextFree)) ∧ (a = (b.updCan n (fun p => { p with
      prevOk := false, sending := s.canSends n, sentAt := b.now, sentVal := b.baseVal (min 5 (s.reg CAN.CTS_CFG.BASE n))
      sentEpoch := b.baseEpoch (min 5 (s.reg CAN.CTS_CFG.BASE n)) }))) ∧ (n < 4) ∧ (s.canOn n = true) ∧ (s.isActive = true) ∧ (s.reg CAN.CTS_CFG.ROLE n = 1) ∧ ((s.advance t).referenceDue n = true) ∧ (s.canSends n = false)) ∧
    (∃ (s : State) (t : Nat) (n : Nat) (sof : Nat) (mseq : Nat) (v : Nat) (e : Nat) (b : Nat) (f : Nat) (a : State), (a = (((s.advance t).updCan n (fun p => { p with
      captures := ((wrap 16 mseq, sof) :: (s.canPort n).captures.filter (fun x => x.1 != wrap 16 mseq)).take 4 })).setReg
        CAN.CTS_STAT.MSEQ n (wrap 16 mseq))) ∧ (n < 4) ∧ (s.canOn n = true) ∧ (s.reg CAN.STAT.STATE n ≠ 3) ∧ (s.reg CAN.CTS_CFG.ROLE n = 2) ∧ (bitOf 0 f = true)) ∧
    (∃ (s : State) (t : Nat) (n : Nat) (sof : Nat) (mseq : Nat) (v : Nat) (e : Nat) (b : Nat) (f : Nat) (a : State) (c : Nat × Nat), (a = (((s.advance t).updCan n (fun p => { p with
      captures := ((wrap 16 mseq, sof) :: (s.canPort n).captures.filter (fun x => x.1 != wrap 16 mseq)).take 4 })).setReg
        CAN.CTS_STAT.MSEQ n (wrap 16 mseq))) ∧ (n < 4) ∧ (s.canOn n = true) ∧ (s.reg CAN.STAT.STATE n ≠ 3) ∧ (s.reg CAN.CTS_CFG.ROLE n = 2) ∧ (bitOf 0 f = false) ∧ ((s.canPort n).captures.find? (fun x => x.1 == diffMod 16 (wrap 16 mseq) 1) = some c) ∧ (s.mode ≠ .standby) ∧ (s.mode ≠ .sync)) ∧
    (∃ (s : State) (t : Nat) (n : Nat), (n < 4) ∧ (s.reg CAN.CTS_CFG.ROLE n = 2) ∧ (s.mode ≠ .standby) ∧ (s.mode ≠ .sync) ∧ (s.reg
      PHASE.BASEn_STATUS.STATE 12 = BaseState.locked) ∧ ((s.canPort n).pairAt - 1 + 12 * s.ctsPeriod n ≤ (s.advance t).now)) ∧
    (∃ (s : State) (t : Nat) (n : Nat), (n < 4) ∧ (s.reg CAN.CTS_CFG.ROLE n = 2) ∧ (s.mode ≠ .standby) ∧ (s.mode ≠ .sync) ∧ (s.reg
      PHASE.BASEn_STATUS.STATE 12 = BaseState.holdover) ∧ ((s.phase.base.get 12).holdAt + sec (s.reg CAN.CTS_CFG.HOLDTO n) ≤ (s.advance
      t).now)) :=
  ⟨⟨wCan { (default : CanPort) with sentAt := 1 } [(CAN.CTS_CFG.ROLE, 2, 1)], sec 100, 2, _, _, _, rfl, rfl, rfl, by decide +kernel⟩,
    ⟨wCan { (default : CanPort) with sentAt := 1 } [(CAN.CTS_CFG.ROLE, 2, 1), (CAN.STAT.PAUSED, 2, 1)], sec 100, 2, _, _, _, rfl, rfl, rfl,
      by decide +kernel⟩,
    ⟨wCan default [(CAN.CTS_CFG.ROLE, 2, 2)], 0, 2, 0, 0, 0, 0, 0, 1, _, rfl, by decide +kernel⟩,
    ⟨wCan { (default : CanPort) with captures := [(7, 1000)] } [(CAN.CTS_CFG.ROLE, 2, 2)], 0, 2, 0, 8, 0, 0, 0, 0, _, (7, 1000), rfl,
      by decide +kernel⟩,
    ⟨wCan default [(CAN.CTS_CFG.ROLE, 2, 2), (PHASE.BASEn_STATUS.STATE, 12, BaseState.locked)], sec 60, 2, by decide +kernel⟩,
    ⟨wCan default [(CAN.CTS_CFG.ROLE, 2, 2), (PHASE.BASEn_STATUS.STATE, 12, BaseState.holdover)], sec 60, 2, by decide +kernel⟩⟩

theorem test_meets_CanBoundsAndStates :
    (∃ (s : State) (n : Nat) (k : Nat) (e : CanEntry), (k < 2) ∧ ((s.canPort n).fifo0.length ≤ 64) ∧ ((s.canPort n).fifo1.length ≤ 64)) ∧
    (∃ (s : State) (n : Nat) (f : CanFrame), (16 ≤ (s.canPort n).queue.length) ∧ (s.mayNotSend n f = false)) ∧
    (∃ (s : State) (n : Nat), (n < 4) ∧ (s.reg CAN.STAT.STATE n ≠ 3) ∧ ((s.judgeCan n).reg CAN.STAT.STATE n ≠ 2)) ∧
    (∃ (s : State) (n : Nat), (n < 4) ∧ (s.reg CAN.STAT.STATE n ≠ 3)) ∧
    (∃ (s : State) (n : Nat), (s.reg CAN.STAT.STATE n = 3)) ∧
    (∃ (s : State) (n : Nat) (b : Nat) (f : CanFrame), (s.mayNotSend n f = false) ∧ (s.txStatus n b = TxStatus.active)) :=
  ⟨⟨State.reset, 0, 1, default, by decide +kernel⟩,
    ⟨wCan { (default : CanPort) with queue := List.replicate 16 default } [], 2, default, by decide +kernel⟩,
    ⟨State.reset, 3, by decide +kernel⟩,
    ⟨State.reset, 3, by decide +kernel⟩,
    ⟨wCan default [(CAN.STAT.STATE, 2, 3)], 2, by decide +kernel⟩,
    ⟨wCan default [(CAN.TXBb_CFG.STATUS, 2 * 32 + 31, TxStatus.active)], 2, 31, default, by decide +kernel⟩⟩

theorem test_meets_DomainTracksFollowTheirMasters :
    (∃ (s : State) (t : Nat) (port : Nat) (tr : Nat) (dom : Nat) (k : Nat) (x : Ann) (a : State), (a = (s.advance t)) ∧ (s.ptpOn port = true) ∧
      (x.steps < 255) ∧ (s.trackFor port tr dom = some k)) ∧
    (∃ (s : State) (t : Nat) (k : Nat) (a : State), (a = (s.advance t)) ∧ (k < 4) ∧ (s.flag PTP.DOMk_CFG.EN k = true) ∧ ((s.trk k).chosen ≠
      none) ∧ ((s.trk k).anns.filter (a.annFresh k) = [])) ∧
    (∃ (s : State) (t : Nat) (port : Nat) (tr : Nat) (dom : Nat) (snd : Nat) (seq : Nat) (rx : Nat) (origin : Nat) (k : Nat) (corr : Int) (li :
      Int) (acq : Int) (a : State), (a = (((s.advance t).updTrk k (fun d => { d with logSync := li })).setReg PTP.DOMk_STAT.LOGSYNC k
      (ofSigned 4 li))) ∧ (li ≤ 1) ∧ (-7 ≤ li) ∧ (s.trackOfMaster port tr dom snd = some k)) ∧
    (∃ (s : State) (t : Nat) (port : Nat) (tr : Nat) (dom : Nat) (snd : Nat) (seq : Nat) (rx : Nat) (origin : Nat) (k : Nat) (corr : Int) (acq :
      Int) (c : Int), (s.trackOfMaster port tr dom snd = some k) ∧ ((s.trk k).waiting = some (seq, rx, c))) ∧
    (∃ (s : State) (t : Nat) (k : Nat) (a : State), (a = (s.advance t)) ∧ (k < 4) ∧ (s.flag PTP.DOMk_CFG.EN k = true) ∧ (s.reg
      PHASE.BASEn_STATUS.STATE (2 + k) = BaseState.locked) ∧ ((s.trk k).syncAt - 1 + 3 * logSeconds (s.trk k).logSync ≤ a.now)) ∧
    (∃ (s : State) (t : Nat) (k : Nat) (a : State), (a = (s.advance t)) ∧ (k < 4) ∧ (s.reg PHASE.BASEn_STATUS.STATE (2 + k) =
      BaseState.holdover) ∧ ((s.phase.base.get (2 + k)).holdAt + sec 10 ≤ a.now)) ∧
    (∃ (s : State) (t : Nat) (k : Nat), (k < 4) ∧ (s.flag PTP.DOMk_CFG.EN k = true) ∧ (s.mode.runtimeRuns = true) ∧ ((s.trk k).chosen ≠ none) ∧
      ((s.trk k).reqAt = 0)) ∧
    (∃ (s : State) (t : Nat) (port : Nat) (tr : Nat) (dom : Nat) (snd : Nat) (rx : Nat) (stamp : Nat) (k : Nat) (corr : Int) (ml : Int),
      (s.trackOfResponder port tr dom snd = some k) ∧ (k < 4) ∧ ((s.trk k).asked = true) ∧ (s.flag PTP.DOMk_CFG.DELAY k = true)) ∧
    (∃ (s : State) (t : Nat) (port : Nat) (tr : Nat) (dom : Nat) (seq : Nat) (k : Nat), (s.ptpOn port = true) ∧ (s.trackFor port tr dom = some
      k) ∧ (s.flag PTP.DOMk_CFG.DELAY k = true)) ∧
    (∃ (s : State) (t : Nat) (p : Nat) (a : State), (a = ((s.advance t).setLink p false)) ∧ (p = 1 ∨ p = 2)) :=
  ⟨⟨wTrack default [], 0, 0, 0, 4, 1, { (default : Ann) with steps := 254 }, _, rfl, by decide +kernel⟩,
    ⟨wTrack { (default : TrackSt) with anns := [default] } [], sec 4, 1, _, rfl, by decide +kernel⟩,
    ⟨wTrack default [], 0, 0, 0, 4, 77, 0, 0, 0, 1, 0, 0, 0, _, rfl, by decide +kernel⟩,
    ⟨wTrack { (default : TrackSt) with waiting := some (9, 8, 7) } [], 0, 0, 0, 4, 77, 9, 8, 0, 1, 0, 0, 7, by decide +kernel⟩,
    ⟨wTrack default [(PHASE.BASEn_STATUS.STATE, 3, BaseState.locked)], sec 3, 1, _, rfl, by decide +kernel⟩,
    ⟨wTrack default [(PHASE.BASEn_STATUS.STATE, 3, BaseState.holdover)], sec 10, 1, _, rfl, by decide +kernel⟩,
    ⟨wTrack default [], 0, 1, by decide +kernel⟩,
    ⟨wTrack { (default : TrackSt) with asked := true } [(PTP.DOMk_CFG.DELAY, 1, 1)], 0, 0, 0, 4, 77, 0, 0, 1, 0, 0, by decide +kernel⟩,
    ⟨wTrack default [(PTP.DOMk_CFG.DELAY, 1, 1)], 0, 0, 0, 4, 0, 1, by decide +kernel⟩,
    ⟨State.reset, 0, 2, _, rfl, Or.inr rfl⟩⟩

theorem test_meets_PlantTimeFollowsItsTracks :
    (∃ (s : State) (t : Nat) (a : State), (a = ((s.advance t).judgeQual)) ∧ (a.plantOwn = true) ∧ (a.flag PTP.PLANT_STAT.SELVALID = true) ∧
      (a.flag PTP.PLANT_STAT.ONSEC = true) ∧ (a.usable (a.reg PTP.PLANT_CFG.PRIM) = true) ∧ (a.reg PTP.PLANT_CFG.REVERT ≠ 0) ∧
      (a.ptp.primSince ≠ 0) ∧ (a.ptp.primSince - 1 + sec (a.reg PTP.PLANT_CFG.REVERT) ≤ a.now)) ∧
    (∃ (s : State) (t : Nat), (s.plantOwn = true) ∧ (s.reg PHASE.BASEn_STATUS.STATE 1 = BaseState.holdover) ∧ ((s.phase.base.get 1).holdAt + sec
      (s.reg PTP.PLANT_CFG.HOLDTO) ≤ (s.advance t).now)) ∧
    (∃ (s : State) (t : Nat) (m : Nat) (hi : Nat) (v : Nat), (v = (wrap 32 hi * 2 ^ 32 + s.reg PTP.PLANT_SET_LO.VAL)) ∧ (s.reg PTP.PLANT_CFG.SRC
      ≠ 1) ∧ (s.mode ≠ .standby) ∧ (s.mode ≠ .sync)) ∧
    (∃ (s : State) (t : Nat) (m : Nat) (hi : Nat), (s.reg PTP.PLANT_CFG.SRC = 1 ∨ s.mode = .standby ∨ s.mode = .sync)) ∧
    (∃ (s : State) (k : Nat) (o : Int), (o.natAbs ≤ fracUs (s.reg PTP.PLANT_STEP.THR))) ∧
    (∃ (s : State) (k : Nat) (o : Int), (fracUs (s.reg PTP.PLANT_STEP.THR) < o.natAbs) ∧ (s.flag PTP.PLANT_CFG.STEPACT = false)) ∧
    (∃ (s : State) (k : Nat), (fracUs (s.reg PTP.PLANT_SWMAX.MAX) < (s.plantOffset k).natAbs)) :=
  ⟨⟨(let s := wTrack { (default : TrackSt) with syncAt := 1 } [(PHASE.BASEn_STATUS.STATE, 3, BaseState.locked), (PTP.PLANT_STAT.SELVALID, 0,
      1), (PTP.PLANT_STAT.ONSEC, 0, 1), (PTP.PLANT_CFG.PRIM, 0, 1), (PTP.PLANT_CFG.REVERT, 0, 1)];
      { s with ptp := { s.ptp with primSince := 1 } }), sec 1, _, rfl, by decide +kernel⟩,
    ⟨wTrack default [(PHASE.BASEn_STATUS.STATE, 1, BaseState.holdover)], 0, by decide +kernel⟩,
    ⟨State.reset, 0, 0, 0, _, rfl, by decide +kernel⟩,
    ⟨wTrack default [], 0, 0, 0, Or.inl (by decide +kernel)⟩,
    ⟨State.reset, 1, 0, by decide +kernel⟩,
    ⟨State.reset, 1, 1, by decide +kernel⟩,
    ⟨{ wTrack default [] with phase := { (default : PhaseSt) with base := [(1, { (default : BaseSt) with anchor := 1 })] } }, 1,
      by decide +kernel⟩⟩

theorem test_meets_ReadOperateAndTuneRequests :
    (∃ (s : State) (t : Nat) (p : Nat) (c : Nat) (q : Nat) (x : Nat) (l : List Nat) (b : State), (b = ((s.advance t).taken ⟨p, c, q, x⟩ ⟨1, 0,
      58⟩ l.length)) ∧ ((s.advance t).admitsRequest ⟨p, c, q, x⟩ ⟨1, 0, 58⟩ 0 l.length)) ∧
    (∃ (b : State) (sig : Nat) (a : State), (sig < 2 ^ 17) ∧ (a = (b.noteDmaSlot portBridge 256 sig)) ∧ (b.readsSlot portBridge 256 sig =
      false)) ∧
    (∃ (b : State) (sig : Nat) (a : State), (sig < 2 ^ 17) ∧ (a = (b.noteDmaSlot portBridge 256 sig)) ∧ (b.readsSlot portBridge 256 sig = true)
      ∧ ((b.img.dir.get sig).isSome = true) ∧ (b.slotPoison sig ≠ (false, false))) ∧
    (∃ (b : State) (sig : Nat) (a : State), (sig < 2 ^ 17) ∧ (a = (b.noteDmaSlot portBridge 256 sig)) ∧ (b.readsSlot portBridge 256 sig = true)
      ∧ (((b.img.dir.get sig).isSome = true → b.slotPoison sig = (false, false)))) ∧
    (∃ (s : State) (t : Nat) (p : Nat) (c : Nat) (q : Nat) (x : Nat) (b : State), (b = ((s.advance t).taken ⟨p, c, q, x⟩ ⟨2, 0, 1⟩ 1)) ∧
      ((s.advance t).admitsRequest ⟨p, c, q, x⟩ ⟨2, 0, 1⟩ 0 1)) ∧
    (∃ (s : State) (t : Nat) (p : Nat) (c : Nat) (q : Nat) (x : Nat) (first : Nat) (n : Nat) (f : Nat) (b : State), (b = ((s.advance t).taken
      ⟨p, c, q, x⟩ ⟨3, 0, 1⟩ 1)) ∧ ((s.advance t).admitsRequest ⟨p, c, q, x⟩ ⟨3, 0, 1⟩ 0 1) ∧ (n ≠ 0) ∧ (f = max first (b.reg
      REC.OLDEST.RECNO))) ∧
    (∃ (s : State) (t : Nat) (p : Nat) (c : Nat) (q : Nat) (x : Nat) (n : Nat) (b : State), (b = ((s.advance t).taken ⟨p, c, q, x⟩ ⟨4, 0, 1⟩ 1))
      ∧ ((s.advance t).admitsRequest ⟨p, c, q, x⟩ ⟨4, 0, 1⟩ 0 1) ∧ (s.port.attest.length < 4)) ∧
    (∃ (s : State) (t : Nat) (n : Nat) (r : Req) (l : List (Req × Nat)) (b : State), (b =
      ((({ s.advance t with port := { s.port with attest := l } }).bumpReg PORT.ATTCNT.COUNT 0).setGate 0)) ∧ (s.port.attest = (r, n) :: l)) ∧
    (∃ (s : State) (t : Nat) (p : Nat) (c : Nat) (q : Nat) (x : Nat) (o : Nat) (n : Nat) (b : State), (b = ((s.advance t).taken ⟨p, c, q, x⟩ ⟨5,
      0, 1⟩ 1)) ∧ ((s.advance t).admitsRequest ⟨p, c, q, x⟩ ⟨5, 0, 1⟩ 0 1) ∧ (n ≤ 1024) ∧ (o + n ≤ 1793)) ∧
    (∃ (s : State) (t : Nat) (p : Nat) (c : Nat) (q : Nat) (x : Nat) (l : List (Nat × Nat)) (b : State), (b = ((s.advance t).taken ⟨p, c, q, x⟩
      ⟨0x101, 1, 120⟩ l.length)) ∧ ((s.advance t).admitsRequest ⟨p, c, q, x⟩ ⟨0x101, 1, 120⟩ 0 l.length)) ∧
    (∃ (b : State) (p : Nat) (sig : Nat) (v : Nat) (d : DirEntry), (p ≠ 3) ∧ (b.img.dir.get sig = some d) ∧ (d.owner / 4096 = 7)) ∧
    (∃ (b : State) (p : Nat) (sig : Nat) (v : Nat) (d : DirEntry), (p ≠ 3) ∧ (b.img.dir.get sig = some d) ∧ (d.owner / 4096 ≠ 7)) ∧
    (∃ (s : State) (t : Nat) (p : Nat) (c : Nat) (q : Nat) (x : Nat) (l : List Nat) (b : State), (b = ((s.advance t).taken ⟨p, c, q, x⟩ ⟨0x102,
      1, 64⟩ l.length)) ∧ ((s.advance t).admitsRequest ⟨p, c, q, x⟩ ⟨0x102, 1, 64⟩ 0 l.length)) ∧
    (∃ (b : State) (p : Nat) (k : Nat) (sig : Nat) (im : Image), (k < 64) ∧ (b.struct.image = some im) ∧ (im.acks[k]? = some sig) ∧
      ((b.img.dir.get sig).isSome = true)) ∧
    (∃ (s : State) (t : Nat) (p : Nat) (c : Nat) (q : Nat) (x : Nat) (m : Nat) (b : State) (n : State) (d : State), (b = ((s.advance t).taken
      ⟨p, c, q, x⟩ ⟨0x103, 1, 1⟩ 1)) ∧ (n = (b.setReg SAFE.MBOX_ARG.ARG 0 m)) ∧ (d = (n.mbox (mayRestart 36 1 p) 1 (some (⟨p, c, q, x⟩,
      0x103)))) ∧ (p ≠ 3) ∧ ((s.advance t).admitsRequest ⟨p, c, q, x⟩ ⟨0x103, 1, 1⟩ 0 1) ∧ (s.flag SYS.UNITS.SAFE = true)) ∧
    (∃ (s : State) (t : Nat) (p : Nat) (c : Nat) (q : Nat) (x : Nat) (l : List (Nat × Nat)) (b : State), (b = ((s.advance t).taken ⟨p, c, q, x⟩
      ⟨0x201, 2, 60⟩ l.length)) ∧ ((s.advance t).admitsRequest ⟨p, c, q, x⟩ ⟨0x201, 2, 60⟩ 0 l.length)) ∧
    (∃ (b : State) (p : Nat) (sig : Nat) (v : Nat) (d : DirEntry), (b.img.dir.get sig = some d) ∧ (d.safety = true)) ∧
    (∃ (b : State) (p : Nat) (sig : Nat) (v : Nat) (d : DirEntry), (b.img.dir.get sig = some d) ∧ (d.safety = false) ∧ ((b.img.forces.get
      sig).isSome = true ∨ b.img.forces.length < Config.forceMax)) ∧
    (∃ (s : State) (t : Nat) (p : Nat) (c : Nat) (q : Nat) (x : Nat) (l : List Nat) (b : State), (b = ((s.advance t).taken ⟨p, c, q, x⟩ ⟨0x202,
      2, 120⟩ l.length)) ∧ ((s.advance t).admitsRequest ⟨p, c, q, x⟩ ⟨0x202, 2, 120⟩ 0 l.length)) ∧
    (∃ (b : State) (p : Nat) (sig : Nat), ((b.img.dir.get sig).isSome = true) ∧ ((b.img.forces.get sig).isSome = true)) ∧
    (∃ (s : State) (t : Nat) (p : Nat) (c : Nat) (q : Nat) (x : Nat) (a : Nat) (v : Nat) (b : State), (b = ((s.advance t).taken ⟨p, c, q, x⟩
      ⟨0x203, 2, 120⟩ 1)) ∧ ((s.advance t).admitsRequest ⟨p, c, q, x⟩ ⟨0x203, 2, 120⟩ 0 1) ∧ (s.isRunTime a = true)) ∧
    (∃ (s : State) (t : Nat) (p : Nat) (c : Nat) (q : Nat) (x : Nat) (a : Nat) (v : Nat) (b : State), (b = ((s.advance t).taken ⟨p, c, q, x⟩
      ⟨0x203, 2, 120⟩ 1)) ∧ ((s.advance t).admitsRequest ⟨p, c, q, x⟩ ⟨0x203, 2, 120⟩ 0 1) ∧ (s.isRunTime a = false)) ∧
    (∃ (s : State) (t : Nat) (p : Nat) (c : Nat) (q : Nat) (x : Nat) (m : Nat) (b : State) (n : State) (d : State), (b = ((s.advance t).taken
      ⟨p, c, q, x⟩ ⟨0x204, 2, 1⟩ 1)) ∧ (n = (b.setReg SAFE.MBOX_ARG.ARG 0 m)) ∧ (d = (n.mbox (n.mayClear 36 2 p) 2 (some (⟨p, c, q, x⟩,
      0x204)))) ∧ ((s.advance t).admitsRequest ⟨p, c, q, x⟩ ⟨0x204, 2, 1⟩ 0 1) ∧ (s.flag SYS.UNITS.SAFE = true)) ∧
    (∃ (s : State) (t : Nat) (p : Nat) (c : Nat) (q : Nat) (x : Nat) (ch : Nat) (data : List Nat) (b : State) (d : State), (b = ((s.advance
      t).taken ⟨p, c, q, x⟩ ⟨0x205, 2, 1⟩ 1)) ∧ (d =
      ({ b with loops := { b.loops with waiting := b.loops.waiting ++ [{ channel := ch, req := ⟨p, c, q, x⟩, data := data }] } })) ∧
      ((s.advance t).admitsRequest ⟨p, c, q, x⟩ ⟨0x205, 2, 1⟩ 0 1) ∧ (ch < 32) ∧ (2 ≤ data.length) ∧ (data.length ≤ 257) ∧ (s.loopsRun =
      true) ∧ (s.hartDevices ch ≠ []) ∧ (s.loopState ch = LoopState.run)) :=
  ⟨⟨wEng .active [], 0, 0, 7, 0, 0, [3], _, rfl, test_admits (by decide +kernel)⟩,
    ⟨State.reset, 0, _, by decide +kernel, rfl, by decide +kernel⟩,
    ⟨State.putSyn ({ wEng .active [(GUARD.MKEYm_RW.READ, 36, 1)] with img := { wImg.img with dir := [(7, some wEnt)], forces := [] } }) 1 14
      poisonSyn, 7, _, by decide +kernel, rfl, by decide +kernel⟩,
    ⟨{ wEng .active [(GUARD.MKEYm_RW.READ, 36, 1)] with img := { wImg.img with dir := [(7, some wEnt)], forces := [] } }, 7, _,
      by decide +kernel, rfl, by decide +kernel⟩,
    ⟨wEng .active [], 0, 0, 7, 0, 0, _, rfl, test_admits (by decide +kernel)⟩,
    ⟨wEng .active [], 0, 0, 7, 0, 0, 0, 1, _, _, rfl, test_admits (by decide +kernel), by decide +kernel, rfl⟩,
    ⟨wEng .active [], 0, 0, 7, 0, 0, 0, _, rfl, test_admits (by decide +kernel), by decide +kernel⟩,
    ⟨{ wAct with port := { wAct.port with attest := [(⟨0, 7, 0, 0⟩, 3)] } }, 0, 3, ⟨0, 7, 0, 0⟩, default, _, rfl, by decide +kernel⟩,
    ⟨wEng .active [], 0, 0, 7, 0, 0, 769, 1024, _, rfl, test_admits (by decide +kernel), by decide +kernel⟩,
    ⟨wEng .active [], 0, 0, 7, 0, 0, [(7, 1)], _, rfl, test_admits (by decide +kernel)⟩,
    ⟨{ wEng .active [] with img := { wImg.img with dir := [(7, some { wEnt with owner := 0x7000 })], forces := [] } }, 0, 7, 0,
      { wEnt with owner := 0x7000 }, by decide +kernel⟩,
    ⟨{ wEng .active [] with img := { wImg.img with dir := [(7, some wEnt)], forces := [] } }, 0, 7, 0, wEnt, by decide +kernel⟩,
    ⟨wEng .active [], 0, 0, 7, 0, 0, [63], _, rfl, test_admits (by decide +kernel)⟩,
    ⟨(let b := ({ wEng .active [] with img := { wImg.img with dir := [(7, some wEnt)], forces := [] } });
      { b with struct := { b.struct with image := some { (default : Image) with acks := List.replicate 64 7 } } }), 0, 63, 7,
      { (default : Image) with acks := List.replicate 64 7 }, by decide +kernel⟩,
    ⟨wEng .active [], 0, 0, 7, 0, 0, 0, _, _, _, rfl, rfl, rfl, by decide +kernel, test_admits (by decide +kernel), by decide +kernel⟩,
    ⟨wEng .active [], 0, 0, 7, 0, 0, [(7, 1)], _, rfl, test_admits (by decide +kernel)⟩,
    ⟨{ wEng .active [] with img := { wImg.img with dir := [(7, some { wEnt with safety := true })], forces := [] } }, 0, 7, 0,
      { wEnt with safety := true }, by decide +kernel⟩,
    ⟨{ wEng .active [] with img := { wImg.img with dir := [(7, some wEnt)], forces := [(7, some default)] } }, 0, 7, 0, wEnt, by decide +kernel,
      by decide +kernel, Or.inl (by decide +kernel)⟩,
    ⟨wEng .active [], 0, 0, 7, 0, 0, [7], _, rfl, test_admits (by decide +kernel)⟩,
    ⟨{ wEng .active [] with img := { wImg.img with dir := [(7, some wEnt)], forces := [(7, some default)] } }, 0, 7, by decide +kernel⟩,
    ⟨wEng .active [], 0, 0, 7, 0, 0, 0x4002060C, 0, _, rfl, test_admits (by decide +kernel), by decide +kernel⟩,
    ⟨wEng .active [], 0, 0, 7, 0, 0, 0, 0, _, rfl, test_admits (by decide +kernel), by decide +kernel⟩,
    ⟨wEng .active [], 0, 0, 7, 0, 0, 0, _, _, _, rfl, rfl, rfl, test_admits (by decide +kernel), by decide +kernel⟩,
    ⟨(let s := wLoop LoopState.run default [(LOOP.CHc_CFG.MODE, 5, LoopMode.analogHart), (PORT.STAT.KEY, 0, 2)]; s), 0, 0, 7, 0, 0, 5, [1, 2],
      _, _, rfl, rfl, test_admits (by decide +kernel), by decide +kernel⟩⟩

theorem test_meets_EngineerAndMaintainRequests :
    (∃ (s : State) (t : Nat) (p : Nat) (c : Nat) (q : Nat) (x : Nat) (n : Nat) (b : State), (b = ((s.advance t).taken ⟨p, c, q, x⟩ ⟨0x301, 3, 1⟩
      1)) ∧ (s.mode.runs = true) ∧ ((s.advance t).admitsRequest ⟨p, c, q, x⟩ ⟨0x301, 3, 1⟩ s.trialBlocks 1) ∧ (s.sessionBusy = false) ∧
      ((s.advance t).openOutranked p c = false) ∧ (0 < n) ∧ (n ≤ structMax)) ∧
    (∃ (s : State) (t : Nat) (p : Nat) (c : Nat) (q : Nat) (x : Nat) (n : Nat) (b : State), (b = ((s.advance t).taken ⟨p, c, q, x⟩ ⟨0x302, 3, 1⟩
      1)) ∧ ((s.advance t).admitsRequest ⟨p, c, q, x⟩ ⟨0x302, 3, 1⟩ 0 1) ∧ (s.reg STRUCT.STAT.STATE ≠ StructState.holding) ∧ (s.preparedIs n
      = true) ∧ (s.mode.runs = true)) ∧
    (∃ (s : State) (t : Nat) (p : Nat) (c : Nat) (q : Nat) (x : Nat) (n : Nat) (b : State), (b = ((s.advance t).taken ⟨p, c, q, x⟩ ⟨0x303, 3, 1⟩
      1)) ∧ ((s.advance t).admitsRequest ⟨p, c, q, x⟩ ⟨0x303, 3, 1⟩ 0 1) ∧ (s.preparedIs n = true)) ∧
    (∃ (s : State) (t : Nat) (p : Nat) (c : Nat) (q : Nat) (x : Nat) (n : Nat) (b : State), (b = ((s.advance t).taken ⟨p, c, q, x⟩ ⟨0x304, 3, 1⟩
      1)) ∧ ((s.advance t).admitsRequest ⟨p, c, q, x⟩ ⟨0x304, 3, 1⟩ 0 1)) ∧
    (∃ (s : State) (t : Nat) (p : Nat) (c : Nat) (q : Nat) (x : Nat) (n : Nat) (b : State), (b = ((s.advance t).taken ⟨p, c, q, x⟩ ⟨0x401, 4, 1⟩
      1)) ∧ (s.mode = .commission ∨ s.mode = .hold ∨ s.mode = .service) ∧ ((s.advance t).admitsRequest ⟨p, c, q, x⟩ ⟨0x401, 4, 1⟩
      s.trialBlocks 1) ∧ (s.sessionBusy = false) ∧ ((s.advance t).openOutranked p c = false) ∧ (0 < n) ∧ (n ≤ structMax)) ∧
    (∃ (s : State) (t : Nat) (p : Nat) (c : Nat) (q : Nat) (x : Nat) (w : Nat) (n : Nat) (b : State), (b = ((s.advance t).taken ⟨p, c, q, x⟩
      ⟨0x402, 4, 1⟩ 1)) ∧ (((s.onTrial && s.mode != .recovery) || (s.isActive && s.partnerStandby)) = false) ∧ ((s.advance t).admitsRequest
      ⟨p, c, q, x⟩ ⟨0x402, 4, 1⟩ 0 1) ∧ (s.sessionBusy = false) ∧ ((s.advance t).openOutranked p c = false) ∧ (w < 512) ∧ (0 < n) ∧ (n ≤
      fwSlotSize (wrap 8 w)) ∧ ((s.upd.staged = 0 ∨ s.upd.staged = wrap 8 w))) ∧
    (∃ (s : State) (t : Nat) (p : Nat) (c : Nat) (q : Nat) (x : Nat) (k : Nat) (b : State), (b = ((s.advance t).taken ⟨p, c, q, x⟩ ⟨0x403, 4, 1⟩
      1)) ∧ ((s.advance t).admitsRequest ⟨p, c, q, x⟩ ⟨0x403, 4, 1⟩ s.trialBlocks 1) ∧ (s.sessionBusy = false) ∧ ((s.advance
      t).openOutranked p c = false) ∧ (k < 4)) ∧
    (∃ (s : State) (t : Nat) (p : Nat) (c : Nat) (q : Nat) (x : Nat) (o : Nat) (data : List Nat) (z : Session) (b : State), (b = ((s.advance
      t).taken ⟨p, c, q, x⟩ (s.sessionRow 0x404) 1)) ∧ ((s.ownSession ⟨p, c, q, x⟩).isSome = true) ∧ ((s.advance t).admitsRequest ⟨p, c, q,
      x⟩ (s.sessionRow 0x404) 0 1) ∧ (s.port.session = some z) ∧ (data.length ≤ 1024) ∧ (o + data.length ≤ z.total)) ∧
    (∃ (s : State) (t : Nat) (p : Nat) (c : Nat) (q : Nat) (x : Nat) (crc : Nat) (k : Content) (peer : Option FwImage) (b : State), (b =
      ((s.advance t).taken ⟨p, c, q, x⟩ (s.sessionRow 0x405) 1)) ∧ ((s.ownSession ⟨p, c, q, x⟩).isSome = true) ∧ ((s.advance
      t).admitsRequest ⟨p, c, q, x⟩ (s.sessionRow 0x405) 0 1)) ∧
    (∃ (b : State) (r : Req) (crc : Nat) (k : Content) (peer : Option FwImage) (z : Session) (a : State) (e : Content), (a =
      ({ b with port := { b.port with session := some { z with lastAt := b.now } } })) ∧ (e = (b.readContent k (b.received z))) ∧
      (b.port.session = some z) ∧ (z.complete = true) ∧ (wrap 32 crc = crc32 (b.received z)) ∧ (z.kind = 1)) ∧
    (∃ (b : State) (r : Req) (crc : Nat) (k : Content) (peer : Option FwImage) (z : Session) (a : State) (e : Content), (a =
      ({ b with port := { b.port with session := some { z with lastAt := b.now } } })) ∧ (e = (b.readContent k (b.received z))) ∧
      (b.port.session = some z) ∧ (z.complete = true) ∧ (wrap 32 crc = crc32 (b.received z)) ∧ (z.kind = 2)) ∧
    (∃ (b : State) (r : Req) (crc : Nat) (k : Content) (peer : Option FwImage) (z : Session) (a : State) (e : Content), (a =
      ({ b with port := { b.port with session := some { z with lastAt := b.now } } })) ∧ (e = (b.readContent k (b.received z))) ∧
      (b.port.session = some z) ∧ (z.complete = true) ∧ (wrap 32 crc = crc32 (b.received z)) ∧ (z.kind = 3)) ∧
    (∃ (b : State) (r : Req) (crc : Nat) (k : Content) (peer : Option FwImage) (z : Session) (a : State) (e : Content), (a =
      ({ b with port := { b.port with session := some { z with lastAt := b.now } } })) ∧ (e = (b.readContent k (b.received z))) ∧
      (b.port.session = some z) ∧ (z.complete = true) ∧ (wrap 32 crc ≠ crc32 (b.received z)) ∧ (z.kind ≠ 2)) ∧
    (∃ (s : State) (t : Nat) (p : Nat) (c : Nat) (q : Nat) (x : Nat) (l : List (Nat × Nat × Nat × Nat)) (b : State), (b = ((s.advance t).taken
      ⟨p, c, q, x⟩ ⟨0x406, 4, 120⟩ l.length)) ∧ ((s.advance t).admitsRequest ⟨p, c, q, x⟩ ⟨0x406, 4, 120⟩ 0 l.length)) ∧
    (∃ (b : State) (a : Nat) (v : Nat), (a % 4 = 0) ∧ (inPage a = true)) ∧
    (∃ (s : State) (t : Nat) (p : Nat) (c : Nat) (q : Nat) (x : Nat) (v : Nat) (b : State) (n : State) (d : State), (b = ((s.advance t).taken
      ⟨p, c, q, x⟩ ⟨0x407, 4, 1⟩ 1)) ∧ (n = (b.setReg SAFE.MBOX_ARG.ARG 0 v)) ∧ (d = (n.mbox (n.mayConfirm 36 3 p) 3 (some (⟨p, c, q, x⟩,
      0x407)))) ∧ ((s.advance t).admitsRequest ⟨p, c, q, x⟩ ⟨0x407, 4, 1⟩ s.trialBlocks 1) ∧ (s.flag SYS.UNITS.SAFE = true)) ∧
    (∃ (s : State) (t : Nat) (p : Nat) (c : Nat) (q : Nat) (x : Nat) (k : Nat) (b : State), (b = ((s.advance t).taken ⟨p, c, q, x⟩ ⟨0x408, 4, 1⟩
      1)) ∧ ((s.advance t).admitsRequest ⟨p, c, q, x⟩ ⟨0x408, 4, 1⟩ s.trialBlocks 1) ∧ (k < 4) ∧ ((s.struct.keys.get k).isSome = true)) ∧
    (∃ (s : State) (t : Nat) (p : Nat) (c : Nat) (q : Nat) (x : Nat) (b : State), (b = ((s.advance t).taken ⟨p, c, q, x⟩ ⟨0x409, 4, 1⟩ 1)) ∧
      ((s.advance t).admitsRequest ⟨p, c, q, x⟩ ⟨0x409, 4, 1⟩ 0 1) ∧ (s.flag REC.STAT.CADDY_FAIL = false)) ∧
    (∃ (s : State) (t : Nat) (p : Nat) (c : Nat) (q : Nat) (x : Nat) (l : List (Nat × Nat)) (b : State), (b = ((s.advance t).taken ⟨p, c, q, x⟩
      ⟨0x40A, 4, 1⟩ l.length)) ∧ ((s.advance t).admitsRequest ⟨p, c, q, x⟩ ⟨0x40A, 4, 1⟩ 0 l.length)) ∧
    (∃ (b : State) (kind : Nat) (index : Nat) (e : RetEntry), (index < kindCount kind) ∧ (b.life.retired.find? (fun e => e.kind == kind &&
      e.index == index) = some e) ∧ (e.clearPending = false)) ∧
    (∃ (s : State) (t : Nat) (p : Nat) (c : Nat) (q : Nat) (x : Nat) (b : State), (b = ((s.advance t).taken ⟨p, c, q, x⟩ ⟨0x40B, 4, 1⟩ 1)) ∧
      ((s.advance t).admitsRequest ⟨p, c, q, x⟩ ⟨0x40B, 4, 1⟩ 0 1) ∧ (s.modeAccepts 7 = true)) ∧
    (∃ (s : State) (t : Nat) (p : Nat) (c : Nat) (q : Nat) (x : Nat) (b : State), (b = ((s.advance t).taken ⟨p, c, q, x⟩ ⟨0x40B, 4, 1⟩ 1)) ∧
      ((s.advance t).admitsRequest ⟨p, c, q, x⟩ ⟨0x40B, 4, 1⟩ 0 1) ∧ (s.modeAccepts 9 = true)) ∧
    (∃ (s : State) (t : Nat) (p : Nat) (c : Nat) (q : Nat) (x : Nat) (b : State), (b = ((s.advance t).taken ⟨p, c, q, x⟩ ⟨0x40B, 4, 1⟩ 1)) ∧
      ((s.advance t).admitsRequest ⟨p, c, q, x⟩ ⟨0x40B, 4, 1⟩ 0 1) ∧ (s.modeAccepts 10 = true)) ∧
    (∃ (s : State) (t : Nat) (p : Nat) (c : Nat) (q : Nat) (x : Nat) (b : State), (b = ((s.advance t).taken ⟨p, c, q, x⟩ ⟨0x40B, 4, 1⟩ 1)) ∧
      ((s.advance t).admitsRequest ⟨p, c, q, x⟩ ⟨0x40B, 4, 1⟩ 0 1) ∧ (s.modeAccepts 11 = true)) ∧
    (∃ (s : State) (t : Nat) (p : Nat) (c : Nat) (q : Nat) (x : Nat) (b : State), (b = ((s.advance t).taken ⟨p, c, q, x⟩ ⟨0x40B, 4, 1⟩ 1)) ∧
      ((s.advance t).admitsRequest ⟨p, c, q, x⟩ ⟨0x40B, 4, 1⟩ 0 1) ∧ (s.modeAccepts 16 = true)) ∧
    (∃ (s : State) (t : Nat) (c : Nat) (q : Nat) (x : Nat) (l : List (Nat × Nat × Nat)) (b : State), (b = ((s.advance t).taken ⟨0, c, q, x⟩
      ⟨0x40C, 4, 60⟩ l.length)) ∧ (s.reg PORT.STAT.KEY = 2) ∧ (s.mode = .service) ∧ ((s.advance t).admitsRequest ⟨0, c, q, x⟩ ⟨0x40C, 4, 60⟩
      0 l.length)) :=
  ⟨⟨wEng .active [], 0, 0, 7, 0, 0, structMax, _, rfl, by decide +kernel, test_admits (by decide +kernel), by decide +kernel⟩,
    ⟨wPrepared, 0, 0, 7, 0, 0, 0, _, rfl, test_admits (by decide +kernel), by decide +kernel⟩,
    ⟨wPrepared, 0, 0, 7, 0, 0, 0, _, rfl, test_admits (by decide +kernel), by decide +kernel⟩,
    ⟨wEng .active [], 0, 0, 7, 0, 0, 0, _, rfl, test_admits (by decide +kernel)⟩,
    ⟨wEng .service [], 0, 0, 7, 0, 0, structMax, _, rfl, by decide +kernel, test_admits (by decide +kernel), by decide +kernel⟩,
    ⟨wEng .service [], 0, 0, 7, 0, 0, 0x101, 16 * 2 ^ 20, _, rfl, by decide +kernel, test_admits (by decide +kernel), by decide +kernel⟩,
    ⟨wEng .service [], 0, 0, 7, 0, 0, 3, _, rfl, test_admits (by decide +kernel), by decide +kernel⟩,
    ⟨wSession .service 1 1025 [], 0, 0, 7, 0, 9, 1, List.replicate 1024 0, wOpen 1 1025 [], _, rfl, by decide +kernel, test_admits
      (by decide +kernel), by decide +kernel⟩,
    ⟨wSession .service 1 1 [(0, 1)], 0, 0, 7, 0, 9, 0, .plain, none, _, rfl, by decide +kernel, test_admits (by decide +kernel)⟩,
    ⟨wSession .service 1 1 [(0, 1)], ⟨0, 7, 0, 9⟩, 0xD202EF8D, .plain, none, wOpen 1 1 [(0, 1)], _, _, rfl, rfl, by decide +kernel⟩,
    ⟨wSession .service 2 1 [(0, 1)], ⟨0, 7, 0, 9⟩, 0xD202EF8D, .plain, none, wOpen 2 1 [(0, 1)], _, _, rfl, rfl, by decide +kernel⟩,
    ⟨wSession .service 3 1 [(0, 1)], ⟨0, 7, 0, 9⟩, 0xD202EF8D, .plain, none, wOpen 3 1 [(0, 1)], _, _, rfl, rfl, by decide +kernel⟩,
    ⟨wSession .service 1 1 [(0, 1)], ⟨0, 7, 0, 9⟩, 0, .plain, none, wOpen 1 1 [(0, 1)], _, _, rfl, rfl, by decide +kernel⟩,
    ⟨wEng .service [], 0, 0, 7, 0, 0, [(0, 0, 0, 0)], _, rfl, test_admits (by decide +kernel)⟩,
    ⟨wEng .service [], 0x40000000, 0, by decide +kernel⟩,
    ⟨wEng .commission [], 0, 0, 7, 0, 0, 0, _, _, _, rfl, rfl, rfl, test_admits (by decide +kernel), by decide +kernel⟩,
    ⟨{ wEng .service [] with struct := { (default : StructSt) with keys := [(3, some 1)] } }, 0, 0, 7, 0, 0, 3, _, rfl, test_admits
      (by decide +kernel), by decide +kernel⟩,
    ⟨wEng .service [], 0, 0, 7, 0, 0, _, rfl, test_admits (by decide +kernel), by decide +kernel⟩,
    ⟨wEng .service [], 0, 0, 7, 0, 0, [(9, 255)], _, rfl, test_admits (by decide +kernel)⟩,
    ⟨{ wEng .service [] with life := { (default : LifeSt) with retired := [⟨9, 255, 1, 1, 1, false⟩] } }, 9, 255, ⟨9, 255, 1, 1, 1, false⟩,
      by decide +kernel⟩,
    ⟨wEng .hold [], 0, 0, 7, 0, 0, _, rfl, test_admits (by decide +kernel), by decide +kernel⟩,
    ⟨wEng .active [], 0, 0, 7, 0, 0, _, rfl, test_admits (by decide +kernel), by decide +kernel⟩,
    ⟨wEng .hold [], 0, 0, 7, 0, 0, _, rfl, test_admits (by decide +kernel), by decide +kernel⟩,
    ⟨wEng .active [], 0, 0, 7, 0, 0, _, rfl, test_admits (by decide +kernel), by decide +kernel⟩,
    ⟨wEng .active [], 0, 0, 7, 0, 0, _, rfl, test_admits (by decide +kernel), by decide +kernel⟩,
    ⟨wEng .service [], 0, 7, 0, 0, [(0, 0, 0)], _, rfl, by decide +kernel, by decide +kernel, test_admits (by decide +kernel)⟩⟩

theorem test_meets_PortRequestsAndEvents :
    (∃ (s : State) (r : Req) (op : Nat) (n : Nat), (s.listens r.port = false)) ∧
    (∃ (s : State) (r : Req) (op : Nat) (n : Nat), (s.listens r.port = true) ∧ (wrap 32 r.client = 0)) ∧
    (∃ (s : State) (r : Req) (row : CmdRow) (k : Nat) (n : Nat), (s.admitsClass r.port row.cls = false)) ∧
    (∃ (s : State) (r : Req) (row : CmdRow) (k : Nat) (n : Nat), (s.admitsClass r.port row.cls = true) ∧ (s.mode ≠ .recovery) ∧ (k = 0) ∧ (1 ≤
      row.cls) ∧ (row.cls ≤ 3) ∧ (s.isActive = false)) ∧
    (∃ (s : State) (r : Req) (row : CmdRow) (k : Nat) (n : Nat), (s.admitsClass r.port row.cls = true) ∧ (s.mode ≠ .recovery) ∧ (k = 0) ∧
      (s.isActive = true) ∧ (n = 0)) ∧
    (∃ (s : State) (r : Req) (row : CmdRow) (k : Nat) (n : Nat), (s.admitsClass r.port row.cls = true) ∧ (s.mode ≠ .recovery) ∧ (k = 0) ∧
      (s.isActive = true) ∧ (row.max < n)) ∧
    (∃ (c : Client) (n : Nat), ((c.judge n).1 = .fresh)) ∧
    (∃ (c : Client) (n : Nat), ((c.judge n).1 ≠ .fresh)) ∧
    (∃ (s : State) (r : Req) (row : CmdRow) (k : Nat) (l : List Nat) (f : State → Nat → ItemResult × State) (a : State), (s.arrive r row.op
      l.length = (false, a))) ∧
    (∃ (s : State) (r : Req) (op : Nat) (st : Nat) (i : Nat), (st < 256) ∧ (op < 2 ^ 16) ∧ (r.port < 4)) ∧
    (∃ (s : State) (t : Nat) (pos : Nat) (a : State), (a = (((s.advance t).sense PORT.STAT.KEY 0 pos).showCeil)) ∧ (pos ≤ 2) ∧ (pos ≠
      s.outside.get (PORT.STAT.KEY.key 0)) ∧ (a.port.session = none) ∧ (a.mode ≠ .off)) ∧
    (∃ (s : State) (t : Nat) (pos : Nat) (x : Session) (a : State), (a = (((s.advance t).sense PORT.STAT.KEY 0 pos).showCeil)) ∧ (pos ≤ 2) ∧
      (pos ≠ s.outside.get (PORT.STAT.KEY.key 0)) ∧ (a.port.session = some x) ∧ (a.admitsClass x.port (sessionClass x.kind) = false) ∧
      (x.kind ≠ 0) ∧ (a.closeSession.mode ≠ .off)) ∧
    (∃ (s : State) (t : Nat) (x : Session), (s.port.session = some x) ∧ (x.lastAt + sec 600 ≤ (s.advance t).now)) ∧
    (∃ (s : State) (t : Nat) (p : Nat) (addr : Nat), (s.answersFor p addr = true)) ∧
    (∃ (s : State) (t : Nat) (p : Nat) (addr : Nat) (data : List Nat), (s.answersFor p addr = true)) ∧
    (∃ (s : State) (t : Nat) (p : Nat), (s.listens p = true)) ∧
    (∃ (s : State) (t : Nat) (p : Nat) (c : Nat) (q : Nat) (x : Nat) (op : Nat) (n : Nat), (knownOps.contains op = false) ∧ ((s.advance
      t).goesOn ⟨p, c, q, x⟩)) ∧
    (∃ (s : State) (t : Nat) (p : Nat), (p < 3) ∧ (s.listens p = true)) ∧
    (∃ (s : State) (t : Nat) (reg : Nat) (rat : Nat) (rsrp : Nat) (b : Bool), (s.flag SYS.UNITS.MODEM = true) ∧ (s.power.sim = true) ∧ (s.flag
      UPD.PARTp_STAT.STOPPED 3 = false) ∧ (s.mode.runtimeRuns = true) ∧ (reg < 4)) ∧
    (∃ (s : State) (r : Req) (row : CmdRow) (k : Nat) (n : Nat), (s.admitsRequest r row k n)) ∧
    (∃ (s : State) (r : Req), (s.listens r.port = true) ∧ (wrap 32 r.client ≠ 0) ∧ (r.port ≠ 3) ∧ (s.pending = []) ∧ (s.port.clients.find? (fun
      x => x.id == r.client) = none)) :=
  ⟨⟨State.reset, ⟨0, 1, 0, 0⟩, 0, 0, by decide +kernel⟩,
    ⟨wAct, ⟨0, 0, 0, 0⟩, 0, 0, by decide +kernel⟩,
    ⟨wAct, ⟨0, 1, 0, 0⟩, ⟨0x401, 4, 1⟩, 0, 0, by decide +kernel⟩,
    ⟨wEng .standby [], ⟨0, 1, 0, 0⟩, ⟨0x301, 3, 1⟩, _, 0, by decide +kernel, by decide +kernel, rfl, by decide +kernel⟩,
    ⟨wAct, ⟨0, 1, 0, 0⟩, ⟨1, 0, 58⟩, _, _, by decide +kernel, by decide +kernel, rfl, by decide +kernel, rfl⟩,
    ⟨wAct, ⟨0, 1, 0, 0⟩, ⟨1, 0, 58⟩, _, 59, by decide +kernel, by decide +kernel, rfl, by decide +kernel⟩,
    ⟨⟨7, 5, 0, []⟩, 6, by decide +kernel⟩,
    ⟨⟨7, 5, 0, []⟩, 5, by decide +kernel⟩,
    ⟨State.reset, ⟨0, 1, 0, 0⟩, ⟨1, 0, 58⟩, 0, [], State.readSig, State.reset, by decide +kernel⟩,
    ⟨State.reset, ⟨3, 1, 0, 0⟩, 65535, 255, 0, by decide +kernel⟩,
    ⟨wAct, 0, 2, _, rfl, by decide +kernel⟩,
    ⟨{ wSession .service 1 1 [] with outside := [(PORT.STAT.KEY.key 0, 2)] }, 0, 0, wOpen 1 1 [], _, rfl, by decide +kernel⟩,
    ⟨wSession .service 1 1 [], sec 600, wOpen 1 1 [], by decide +kernel⟩,
    ⟨wAct, 0, 0, 0xC0A85A0A, by decide +kernel⟩,
    ⟨wAct, 0, 0, 0xC0A85A0A, [], by decide +kernel⟩,
    ⟨wAct, 0, 0, by decide +kernel⟩,
    ⟨wAct, 0, 0, 7, 0, 0, 0x999, 0, by decide +kernel, test_goes (by decide +kernel)⟩,
    ⟨wAct, 0, 2, by decide +kernel⟩,
    ⟨wAct, 0, 3, 0, 0, false, by decide +kernel⟩,
    ⟨wEng .active [], ⟨0, 7, 0, 0⟩, ⟨1, 0, 58⟩, 0, 1, test_admits (by decide +kernel)⟩,
    ⟨wAct, ⟨0, 7, 0, 0⟩, by decide +kernel⟩⟩

theorem test_meets_LowReadsLatchForTheMaster :
    (∃ (s : State) (t : Nat) (m : Nat) (b : Nat), (b < 16)) ∧
    (∃ (s : State) (t : Nat) (m : Nat) (x : Nat), (x < 256)) ∧
    (∃ (s : State) (t : Nat) (m : Nat) (k : Nat), (k < 4)) :=
  ⟨⟨State.reset, 0, 0, 0, by decide +kernel⟩,
    ⟨State.reset, 0, 0, 0, by decide +kernel⟩,
    ⟨State.reset, 0, 0, 0, by decide +kernel⟩⟩

theorem test_meets_TrialsOfImages :
    (∃ (s : State) (t : Nat) (m : Nat), (s.upd.staged ≠ 0) ∧ (s.reg UPD.STAT.STATE = UpdState.staged) ∧ (s.trialAllowed (s.upd.staged - 1) =
      true)) ∧
    (∃ (s : State) (t : Nat) (m : Nat), (s.upd.staged ≠ 0) ∧ (s.reg UPD.STAT.STATE = UpdState.staged) ∧ (s.trialAllowed (s.upd.staged - 1) =
      false)) ∧
    (∃ (s : State) (t : Nat) (m : Nat) (p : Nat) (a : State), (a = ((s.advance t).setFwValid p (s.fwOther p) false)) ∧ (s.upd.staged ≠ 0) ∧
      (s.reg UPD.STAT.STATE = UpdState.staged) ∧ (s.reg UPD.STAT.PART = p)) ∧
    (∃ (s : State) (t : Nat) (m : Nat), (s.reg UPD.STAT.STATE = UpdState.trial) ∧ (s.flag UPD.STAT.FAILED = false)) ∧
    (∃ (s : State) (t : Nat), ((s.advance t).confirmable = true)) ∧
    (∃ (s : State) (t : Nat), ((s.advance t).confirmable = true) ∧ (s.upd.windowAt ≠ 0) ∧ ((s.advance t).windowEnd ≤ (s.advance t).now)) ∧
    (∃ (s : State) (t : Nat), ((s.advance t).confirmable = false) ∧ (s.upd.windowAt ≠ 0) ∧ ((s.advance t).windowEnd ≤ (s.advance t).now) ∧
      (s.reg UPD.STAT.STATE = UpdState.trial) ∧ (s.flag UPD.STAT.FAILED = false)) ∧
    (∃ (s : State) (t : Nat), (s.mode = .boot) ∧ (s.flag UPD.PARTp_STAT.TRIAL 0 = true) ∧ (s.upd.attempted.get 0 = true)) ∧
    (∃ (s : State) (x : FwImage) (p : Nat) (peer : Option FwImage), (s.fwReason x p peer = none)) ∧
    (∃ (s : State) (reason : Nat) (code : Nat), (reason < 256) ∧ (code < 256)) :=
  ⟨⟨wUpd .service ({ (default : UpdSt) with staged := 1 }) [(UPD.STAT.STATE, 0, UpdState.staged)], 0, 0, by decide +kernel⟩,
    ⟨wUpd .active ({ (default : UpdSt) with staged := 1 }) [(UPD.STAT.STATE, 0, UpdState.staged)], 0, 0, by decide +kernel⟩,
    ⟨wUpd .service ({ (default : UpdSt) with staged := 1 }) [(UPD.STAT.STATE, 0, UpdState.staged)], 0, 0, _, _, rfl, by decide +kernel,
      by decide +kernel, rfl⟩,
    ⟨wUpd .service default [(UPD.STAT.STATE, 0, UpdState.trial), (UPD.STAT.PART, 0, 3), (UPD.PARTp_STAT.TRIAL, 3, 1)], 0, 0, by decide +kernel⟩,
    ⟨wUpd .service ({ (default : UpdSt) with windowAt := 1, dwellAt := 1 }) [(UPD.STAT.STATE, 0, UpdState.trial), (UPD.STAT.PART, 0, 3),
      (UPD.PARTp_STAT.TRIAL, 3, 1)], sec 60, by decide +kernel⟩,
    ⟨wUpd .service ({ (default : UpdSt) with windowAt := 1, dwellAt := 1 }) [(UPD.STAT.STATE, 0, UpdState.trial), (UPD.STAT.PART, 0, 3),
      (UPD.PARTp_STAT.TRIAL, 3, 1)], sec 900, by decide +kernel⟩,
    ⟨wUpd .service ({ (default : UpdSt) with windowAt := 1, dwellAt := 1 }) [(UPD.STAT.STATE, 0, UpdState.trial), (UPD.STAT.PART, 0, 3),
      (UPD.PARTp_STAT.TRIAL, 3, 1)], sec 901, by decide +kernel⟩,
    ⟨wUpd .boot { (default : UpdSt) with attempted := [(0, true)] } [(UPD.PARTp_STAT.TRIAL, 0, 1)], 0, by decide +kernel⟩,
    ⟨State.reset, resetImage 3, 3, none, by decide +kernel⟩,
    ⟨State.reset, 255, 255, by decide +kernel⟩⟩

theorem test_meets_RecorderAndLifetime :
    (∃ (s : State) (t : Nat) (m : Nat), (s.flag REC.STAT.FLUSHING = false) ∧ (s.recorder.buffer ≠ [])) ∧
    (∃ (s : State) (t : Nat), (s.flag REC.STAT.FLUSHING = true)) ∧
    (∃ (s : State) (t : Nat) (m : Nat) (v : Nat), (wrap 5 v < 24)) ∧
    (∃ (s : State) (t : Nat) (a : State), (a = ({ s.advance t with life := { s.life with savedAt := (s.advance t).opTime } })) ∧ (s.mode ≠ .off)
      ∧ (s.life.savedAt + 600000 ≤ (s.advance t).opTime)) ∧
    (∃ (s : State) (t : Nat) (v : Nat) (i : Nat) (b : Nat) (e : Nat) (a : State), (a = (s.advance t)) ∧ (s.mode.runtimeRuns = true)) ∧
    (∃ (s : State) (t : Nat) (v : Nat) (i : Nat) (b : Nat) (e : Nat) (a : State), (a = (s.advance t)) ∧ (s.mode.runtimeRuns = true) ∧
      (s.streaming = true)) :=
  ⟨⟨State.reset, 0, 0, by decide +kernel⟩,
    ⟨wSet wAct [(REC.STAT.FLUSHING, 0, 1)], 0, by decide +kernel⟩,
    ⟨State.reset, 0, 0, 23, by decide +kernel⟩,
    ⟨wAct, sec 600, _, rfl, by decide +kernel⟩,
    ⟨wAct, 0, 0, 0, 0, 0, _, rfl, by decide +kernel⟩,
    ⟨wPartner wAct, 0, 0, 0, 0, 0, _, rfl, by decide +kernel⟩⟩

theorem test_meets_RegisterSpaceIsAccessed :
    (∃ (s : State) (t : Nat) (m : Nat) (addr : Nat) (pc : Nat) (a : State), (a = (s.advance t)) ∧ (inSpace addr = true) ∧ (addr % 4 = 0) ∧
      (inPage addr = true) ∧ (a.absentAt addr = false)) ∧
    (∃ (s : State) (t : Nat) (m : Nat) (addr : Nat) (pc : Nat) (a : State), (a = (s.advance t)) ∧ (inSpace addr = true) ∧ (addr % 4 = 0) ∧
      (inPage addr = true) ∧ (a.absentAt addr = true)) ∧
    (∃ (s : State) (t : Nat) (m : Nat) (addr : Nat) (w : Nat) (pc : Nat) (a : State), (a = (s.advance t)) ∧ (inSpace addr = true) ∧ (w ≠ 4 ∨
      addr % 4 ≠ 0 ∨ inPage addr = false) ∧ (m < 16)) ∧
    (∃ (s : State) (t : Nat) (m : Nat) (addr : Nat) (w : Nat) (pc : Nat) (a : State), (a = (s.advance t)) ∧ (inSpace addr = true) ∧ (w ≠ 4 ∨
      addr % 4 ≠ 0 ∨ inPage addr = false) ∧ (16 ≤ m)) ∧
    (∃ (s : State) (t : Nat) (m : Nat) (addr : Nat) (w : Nat) (pc : Nat) (a : State) (v : Nat), (a = (s.advance t)) ∧ (inSpace addr = true) ∧ (w
      ≠ 4 ∨ addr % 4 ≠ 0 ∨ inPage addr = false) ∧ (m < 16)) ∧
    (∃ (s : State) (t : Nat) (m : Nat) (addr : Nat) (w : Nat) (pc : Nat) (a : State) (v : Nat), (a = (s.advance t)) ∧ (inSpace addr = true) ∧ (w
      ≠ 4 ∨ addr % 4 ≠ 0 ∨ inPage addr = false) ∧ (16 ≤ m)) ∧
    (∃ (s : State) (t : Nat) (m : Nat) (addr : Nat) (v : Nat) (pc : Nat) (a : State), (a = (s.advance t)) ∧ (inSpace addr = true) ∧ (addr % 4 =
      0) ∧ (inPage addr = true)) ∧
    (∃ (s : State) (t : Nat) (m : Nat) (addr : Nat), (s.absentAt addr = true)) ∧
    (∃ (s : State) (m : Nat) (a : Nat) (v : Nat), ((fieldsAt a).any (fun x => x.1.acc == .RWL) = true) ∧ (s.rwlOpen = false)) ∧
    (∃ (s : State) (m : Nat) (a : Nat) (v : Nat), (((fieldsAt a).any (fun x => x.1.acc == .RWL) = true → s.rwlOpen = true)) ∧ (s.valuesOk a v =
      false)) ∧
    (∃ (s : State) (a : Nat) (v : Nat) (f : Fld) (i : Nat), (fieldsAt a = [(f, i)]) ∧ (f.acc = .RO)) :=
  ⟨⟨wAct, 0, 0, 0x40000034, 0, _, rfl, by decide +kernel⟩,
    ⟨wSet wAct [(SYS.UNITS.CAN, 0, 0)], 0, 0, 0x40100000, 0, _, rfl, by decide +kernel⟩,
    ⟨wAct, 0, 15, 0x40000034, 2, 0, _, rfl, by decide +kernel, Or.inl (by decide), by decide +kernel⟩,
    ⟨wAct, 0, 16, 0x40000034, 2, 0, _, rfl, by decide +kernel, Or.inl (by decide), by decide +kernel⟩,
    ⟨wAct, 0, 15, 0x40000034, 2, 0, _, 0, rfl, by decide +kernel, Or.inl (by decide), by decide +kernel⟩,
    ⟨wAct, 0, 16, 0x40000034, 2, 0, _, 0, rfl, by decide +kernel, Or.inl (by decide), by decide +kernel⟩,
    ⟨wAct, 0, 0, 0x40000034, 0, 0, _, rfl, by decide +kernel⟩,
    ⟨wSet wAct [(SYS.UNITS.CAN, 0, 0)], 0, 0, 0x4013FFFC, by decide +kernel⟩,
    ⟨wAct, 0, 0x40020400, 0, by decide +kernel⟩,
    ⟨wAct, 0, 0x40010000, 99, by decide +kernel⟩,
    ⟨State.reset, 0x40000034, 0, SYS.ABSENT_ADDR.ADDR, 0, by decide +kernel⟩⟩

theorem test_meets_PowerAndResets :
    (∃ (s : State) (t : Nat), (s.mode = .off) ∧ (s.power.swapOpen = false) ∧ (s.power.earlyMade = true)) ∧
    (∃ (s : State) (t : Nat) (a : State), (a = (s.advance t)) ∧ (s.mode = .boot) ∧ (s.power.charged = true) ∧ (s.power.bootAt + msec 2 ≤ a.now)
      ∧ (s.flag UPD.STAT.MIGFAIL = false) ∧ ((s.flag PAIR.PARTNER.VALID && s.pair.partnerAuth) = true)) ∧
    (∃ (s : State) (t : Nat) (a : State), (a = (s.advance t)) ∧ (s.mode = .boot) ∧ (s.power.charged = true) ∧ (s.power.bootAt + msec 2 ≤ a.now)
      ∧ (s.flag UPD.STAT.MIGFAIL = false) ∧ ((s.flag PAIR.PARTNER.VALID && s.pair.partnerAuth) = false)) ∧
    (∃ (s : State) (t : Nat), (s.mode ≠ .off)) ∧
    (∃ (s : State) (t : Nat) (c : Nat), (s.resettable = true) ∧ (s.mode ≠ .boot) ∧ (1 ≤ c) ∧ (c ≤ 6) ∧ ((s.mode = .halt → c =
      ResetCause.modeReset))) ∧
    (∃ (s : State) (t : Nat), (s.resettable = true) ∧ (s.mode ≠ .boot)) ∧
    (∃ (s : State) (t : Nat), (s.resettable = true) ∧ (s.mode = .boot) ∧ (s.power.bootAt + sec 10 ≤ (s.advance t).now)) ∧
    (∃ (s : State) (t : Nat), (s.resettable = true)) ∧
    (∃ (s : State) (t : Nat), (s.mode = .halt) ∧ (s.reg SYS.HALTWHY.WHY = 1) ∧ (s.power.haltBeats ≠ 0) ∧ (s.power.haltBeats - 1 + sec 60 ≤
      (s.advance t).now) ∧ (s.reg SYS.HALTWHY.SELFRST < 3) ∧ (s.power.warned = false)) ∧
    (∃ (s : State) (t : Nat), (s.mode = .halt) ∧ (3 ≤ s.reg SYS.HALTWHY.SELFRST)) ∧
    (∃ (s : State) (t : Nat), (s.mode ≠ .off) ∧ (s.power.warned = false)) ∧
    (∃ (s : State) (t : Nat), (s.power.warned = true) ∧ (s.power.swapOpen = false) ∧ (s.power.warnAt + msec 100 ≤ (s.advance t).now)) ∧
    (∃ (s : State) (t : Nat), (s.mode ≠ .off) ∧ (s.power.warned = true)) ∧
    (∃ (s : State) (t : Nat) (c : Nat) (v : Nat) (a : State), (a = ((s.advance t).openSwitch c)) ∧ (c = 1 ∨ c = 2) ∧ (s.power.swapOpen = false)
      ∧ (s.mode = .off)) ∧
    (∃ (s : State) (t : Nat) (c : Nat) (v : Nat) (a : State), (a = ((s.advance t).openSwitch c)) ∧ (c = 1 ∨ c = 2) ∧ (s.power.swapOpen = false)
      ∧ (s.mode ≠ .off) ∧ (s.power.charged = false)) ∧
    (∃ (s : State) (t : Nat) (c : Nat) (v : Nat) (a : State), (a = ((s.advance t).openSwitch c)) ∧ (c = 1 ∨ c = 2) ∧ (s.power.swapOpen = false)
      ∧ (s.mode ≠ .off) ∧ (s.power.charged = true) ∧ (s.power.warned = false)) ∧
    (∃ (s : State) (t : Nat) (low : Bool), (s.mode = .off) ∧ (s.power.swapOpen = true) ∧ (s.power.swapAt + (if s.power.swapCase = 1 then msec
      100 else sec 1) ≤ (s.advance t).wallNow) ∧ (s.power.swapHeld = false ∨ low = true)) ∧
    (∃ (s : State) (t : Nat) (low : Bool), (s.mode = .off) ∧ (s.power.swapOpen = true) ∧ (s.power.swapAt + (if s.power.swapCase = 1 then msec
      100 else sec 1) ≤ (s.advance t).wallNow) ∧ (s.power.swapHeld = true) ∧ (low = false)) ∧
    (∃ (s : State) (t : Nat), (s.power.earlyMade = false) ∧ (s.mode = .off)) ∧
    (∃ (s : State) (t : Nat), (s.power.earlyMade = false) ∧ (s.mode ≠ .off)) ∧
    (∃ (s : State) (t : Nat), (s.resettable = true) ∧ (s.mode ≠ .boot) ∧ (s.power.earlyBroke = true) ∧ (s.power.earlyMade = true) ∧
      (s.power.earlyAt ≠ 0) ∧ (s.power.earlyAt - 1 + sec 10 ≤ (s.advance t).now)) ∧
    (∃ (s : State) (t : Nat), (s.flag SYS.UNITS.MODEM = true) ∧ (s.mode ≠ .off)) :=
  ⟨⟨wPow .off ({ (default : PowerSt) with earlyMade := true }) [], 0, by decide +kernel⟩,
    
      ⟨{ wPow .boot ({ (default : PowerSt) with charged := true }) [(PAIR.PARTNER.VALID, 0, 1)] with pair := { (default : PairSt) with partnerAuth := true } },
      msec 2, _, rfl, by decide +kernel⟩,
    ⟨wPow .boot ({ (default : PowerSt) with charged := true }) [], msec 2, _, rfl, by decide +kernel⟩,
    ⟨State.reset, 0, by decide +kernel⟩,
    ⟨wAct, 0, 6, by decide +kernel⟩,
    ⟨wAct, 0, by decide +kernel⟩,
    ⟨State.reset, sec 10, by decide +kernel⟩,
    ⟨wAct, 0, by decide +kernel⟩,
    ⟨wPow .halt ({ (default : PowerSt) with haltBeats := 1 }) [(SYS.HALTWHY.WHY, 0, 1), (SYS.HALTWHY.SELFRST, 0, 2)], sec 60, by decide +kernel⟩,
    ⟨wPow .halt default [(SYS.HALTWHY.SELFRST, 0, 3)], 0, by decide +kernel⟩,
    ⟨wAct, 0, by decide +kernel⟩,
    ⟨wPow .off ({ (default : PowerSt) with warned := true }) [], msec 100, by decide +kernel⟩,
    ⟨wPow .boot ({ (default : PowerSt) with warned := true }) [], 0, by decide +kernel⟩,
    ⟨wMode .off, 0, 2, 0, _, rfl, Or.inr rfl, by decide +kernel⟩,
    ⟨State.reset, 0, 2, 0, _, rfl, Or.inr rfl, by decide +kernel⟩,
    ⟨wPow .active ({ (default : PowerSt) with charged := true }) [], 0, 2, 0, _, rfl, Or.inr rfl, by decide +kernel⟩,
    ⟨wPow .off ({ (default : PowerSt) with swapOpen := true, swapCase := 1 }) [], msec 100, false, by decide +kernel, by decide +kernel,
      (by decide +kernel), Or.inl rfl⟩,
    ⟨wPow .off ({ (default : PowerSt) with swapOpen := true, swapHeld := true }) [], sec 1, _, by decide +kernel, by decide +kernel,
      (by decide +kernel), by decide +kernel, rfl⟩,
    ⟨wPow .off default [], 0, by decide +kernel⟩,
    ⟨wPow .boot default [], 0, by decide +kernel⟩,
    ⟨wPow .active ({ (default : PowerSt) with earlyBroke := true, earlyMade := true, earlyAt := 1 }) [], sec 10, by decide +kernel⟩,
    ⟨State.reset, 0, by decide +kernel⟩⟩

theorem test_meets_StepRunsTheFrontCommand :
    (∃ (s : State), (s.pending = [])) ∧
    (∃ (s : State), (s.pending = []) ∧ (s.cells.awake = false)) :=
  ⟨⟨State.reset, by decide +kernel⟩,
    ⟨wSet State.reset [], by decide +kernel⟩⟩

theorem test_meets_EveryStepKeepsTheRegistersSound :
    (∃ (s : State) (s' : State), (s.regsSound = true) ∧ (step s = .next s')) :=
  ⟨State.reset, State.reset, by decide +kernel, rfl⟩

end Sys2Proof.Tests
end

/-! ## The scope of the manual (00_scope.md): the queue, the register space, the register table and writes of descriptors -/

namespace Sys2Proof.Machine

/-! ### A step (O58) -/

theorem step_cons (c : Instr) (l : List Instr) (s : State) : step { s with pending := c :: l } = exec c { s with pending := l } := rfl

theorem step_of_pending_nil {s : State} (h : s.pending = []) : step s = .next s.idle := by
  unfold step
  rw [h]

/-- A layer at rest has nothing to do when the block idles (R125). -/
theorem State.idle_of_asleep {s : State} (h : s.cells.awake = false) : s.idle = s := by
  simp [State.idle, h]

/-- Settles O58: the three cases of the queue and the layer. -/
theorem stepRunsTheFrontCommand : Obligations.StepRunsTheFrontCommand := by
  refine ⟨step_cons, fun s => step_of_pending_nil, fun s hp ha => ?_⟩
  rw [step_of_pending_nil hp, State.idle_of_asleep ha]

/-! ### The register table (O59)

A sound table holds no value wider than its field. The end of BOOT copies `State.outside` into the table as it stands, and a sound register
table says nothing of `outside`. -/

/-- A value other than the default is read from an entry. -/
theorem Tab.mem_of_get_ne_default {α : Type} [Inhabited α] {t : Tab α} {k : Nat} (h : t.get k ≠ default) : (k, t.get k) ∈ t := by
  induction t with
  | nil => exact absurd rfl h
  | cons x t ih =>
    obtain ⟨j, v⟩ := x
    by_cases hj : j = k
    · simp [Tab.get, hj]
    · simp only [Tab.get, hj, if_false] at h ⊢
      exact List.mem_cons_of_mem _ (ih h)

theorem regEntryOk_fits {f : Fld} {k v : Nat} (hk : fieldOfKey k = some f) (h : regEntryOk (k, v) = true) : v < 2 ^ f.width := by
  unfold regEntryOk at h
  simp only [hk] at h
  exact (of_decide_eq_true h).2

/-- In a sound register table every field reads a value that fits its bits. -/
theorem State.reg_lt_of_regsSound {s : State} (h : s.regsSound = true) {f : Fld} (hf : f.tabled) {i : Nat} (hi : i < f.count) :
    s.reg f i < 2 ^ f.width := by
  by_cases h0 : s.reg f i = 0
  · rw [h0]; positivity
  · have hmem : (f.key i, s.reg f i) ∈ s.regs := Tab.mem_of_get_ne_default h0
    unfold State.regsSound at h
    simp only [Bool.and_eq_true, List.all_eq_true] at h
    obtain ⟨_, entriesOk⟩ := h
    exact regEntryOk_fits (Fld.fieldOfKey_key hf.1 (lt_of_lt_of_le hi hf.2)) (entriesOk _ hmem)

theorem exec_bootEnd {s : State} {t : Nat} (hm : s.mode = .boot) (hc : s.power.charged = true) (ht : s.power.bootAt + msec 2 ≤ max s.now t) :
    exec (.bootEnd t) s = .next (s.advance t).bootEnd := if_pos ⟨hm, hc, ht⟩

/-- A unit in BOOT with a charged hold-up bank, outside whose fast pin 0, a contact of one bit, the level 2 is listed. -/
def State.bootWithWideLevel : State :=
  { State.reset with power := { State.reset.power with charged := true }, outside := [(FPIN.PINp_STAT.LEVEL.key 0, 2)] }

/-- The same unit at the end of BOOT, 2 ms later. -/
def State.wideLevelShown : State := (State.bootWithWideLevel.advance (msec 2)).bootEnd

theorem step_bootWithWideLevel : step { State.bootWithWideLevel with pending := [.bootEnd (msec 2)] } = .next State.wideLevelShown :=
  (step_cons _ [] State.bootWithWideLevel).trans (exec_bootEnd rfl rfl (by decide))

theorem State.bootWithWideLevel_sound : State.regsSound { State.bootWithWideLevel with pending := [.bootEnd (msec 2)] } = true := by
  decide +kernel

theorem State.wideLevelShown_level : State.wideLevelShown.reg FPIN.PINp_STAT.LEVEL 0 = 2 := by decide +kernel

theorem level_tabled : FPIN.PINp_STAT.LEVEL.tabled := by
  unfold Fld.tabled
  decide +kernel

/-- Refutes O59: with the end of BOOT the registers show what `outside` lists (R19), and nothing in a sound register table bounds that list. The unit
of `State.bootWithWideLevel` has a sound table; after the step the one-bit level of fast pin 0 reads 2. -/
theorem not_everyStepKeepsTheRegistersSound : ¬ Obligations.EveryStepKeepsTheRegistersSound := by
  intro h
  have sound : State.wideLevelShown.regsSound = true := h _ _ State.bootWithWideLevel_sound step_bootWithWideLevel
  have fits : State.wideLevelShown.reg FPIN.PINp_STAT.LEVEL 0 < 2 ^ 1 := State.reg_lt_of_regsSound sound level_tabled (by decide)
  rw [State.wideLevelShown_level] at fits
  exact absurd fits (by decide)

/-! ### Writes of a descriptor (O19)

What `cellWriter` answers, master by master (R131). -/

section CellWriter
variable {s : State} {m c off pc x : Nat}

theorem State.cellWriter_owner (hr : s.flag CELL.CELLc_STAT.RTW c = true) (hm : m < 16) (hx : s.cycleTask m = some x)
    (ho : (s.cells.cfg.get c).owner = some x) : s.cellWriter m c off pc = (true, s) := by
  simp [State.cellWriter, hr, hm, hx, ho]

theorem State.cellWriter_stranger (hr : s.flag CELL.CELLc_STAT.RTW c = true) (hm : m < 16) (hx : s.cycleTask m = some x)
    (ho : (s.cells.cfg.get c).owner ≠ some x) :
    s.cellWriter m c off pc =
      (false, s.nextFree.takeException m x 7 pc (cellAddr c off) TaskCause.access (cellAddr c off) (s.freeVal 32)) := by
  simp [State.cellWriter, hr, hm, hx, ho]

theorem State.cellWriter_bridge (hr : s.flag CELL.CELLc_STAT.RTW c = true) :
    s.cellWriter 36 c off pc = (true, s.note 3 c [(4, cellAddr c off)]) := by
  simp [State.cellWriter, hr]

theorem State.cellWriter_refused (h : s.flag CELL.CELLc_STAT.RTW c = false ∨ (16 ≤ m ∧ m ≠ 36)) :
    s.cellWriter m c off pc = (false, s.writeRefused (cellAddr c off) m 3) := by
  unfold State.cellWriter
  cases hr : s.flag CELL.CELLc_STAT.RTW c with
  | false => simp
  | true =>
    obtain ⟨hm, hb⟩ : 16 ≤ m ∧ m ≠ 36 := by simpa [hr] using h
    simp [Nat.not_lt.mpr hm, hb]

end CellWriter

/-! The three commands go on with what `cellWriter` answers. -/

section CellCommands
variable {s u : State} {t m c pc : Nat} {ok : Bool} (hc : c < 4096)
include hc

theorem exec_cellStageWrite {off : Nat} (v : Nat) (h : (s.advance t).cellWriter m c off pc = (ok, u)) :
    exec (.cellStageWrite t m c off v pc) s = .next (if ok then (u.mirrorCell c off v).stageWord c off v else u) := by
  simp [exec, execCellStageWrite, Nat.not_le.mpr hc, h]

theorem exec_cellCtrlWrite (v : Nat) (h : (s.advance t).cellWriter m c 0 pc = (ok, u)) :
    exec (.cellCtrlWrite t m c v pc) s = .next (if ok then u.writeCtrl m c v else u) := by
  simp [exec, execCellCtrlWrite, Nat.not_le.mpr hc, h]

theorem exec_ruleClrWrite (v : Nat) (h : (s.advance t).cellWriter m c 0x18 pc = (ok, u)) :
    exec (.ruleClrWrite t m c v pc) s = .next (if ok && bitOf 5 v then (u.mirrorCell c 0x18 v).clearLatch c else u) := by
  simp [exec, execRuleClrWrite, Nat.not_le.mpr hc, h]

end CellCommands

/-! A write of CTRL that `cellWriter` lets through (R131, R132, R523). -/

section WriteCtrl
variable {s : State} {m c v : Nat}

theorem State.writeCtrl_otherShape (h : s.sameShape c v = false) : s.writeCtrl m c v = s.writeRefused (cellAddr c 0) m 4 := by
  simp [State.writeCtrl, h]

theorem State.writeCtrl_badPeriod (h : s.sameShape c v = true) (hp : s.periodOk c = false) :
    s.writeCtrl m c v = s.writeRefused (cellAddr c 0) m 2 := by
  simp [State.writeCtrl, h, hp]

theorem State.writeCtrl_taken (h : s.sameShape c v = true) (hp : s.periodOk c = true) :
    s.writeCtrl m c v = ((s.mirrorCell c 0 v).endFrame [c]).applyCtrl c v := by
  simp [State.writeCtrl, h, hp]

end WriteCtrl

/-- A refused write leaves a record and changes no cell. -/
theorem State.writeRefused_kept (s : State) (t a m r : Nat) :
    ((s.advance t).writeRefused a m r).cells = s.cells ∧ s.regsKeptBut ((s.advance t).writeRefused a m r) recorderFlds := by
  have only := (s.advance t).writeRefused_only a m r
  exact ⟨by rw [only.2.2]; rfl, (s.regsKeptBut_of_regs _ rfl).trans only.1⟩

/-- Settles O19, by what `cellWriter` answers each master. -/
theorem cellWritesAreGuarded : Obligations.CellWritesAreGuarded := by
  refine ⟨fun s t m c off v pc hc => ⟨?owner, ?stranger, ?bridge, ?refused⟩, fun _ _ _ _ => State.writeCtrl_otherShape,
    fun _ _ _ _ => State.writeCtrl_badPeriod, fun _ _ _ _ => State.writeCtrl_taken⟩
  case owner =>
    intro x hm hx ho hr
    have go (off : Nat) : (s.advance t).cellWriter m c off pc = (true, s.advance t) := State.cellWriter_owner hr hm hx ho
    refine ⟨⟨_, exec_cellStageWrite hc v (go off), rfl⟩, ⟨_, exec_cellCtrlWrite hc v (go 0), rfl⟩,
      fun hv => ⟨_, exec_ruleClrWrite hc v (go 0x18), ?_⟩⟩
    simp [hv]
  case stranger =>
    intro x hm hx ho hr
    exact ⟨_, exec_cellStageWrite hc v (State.cellWriter_stranger hr hm hx ho), rfl⟩
  case bridge =>
    rintro rfl hr
    exact ⟨_, exec_cellStageWrite hc v (State.cellWriter_bridge hr), rfl⟩
  case refused =>
    intro h
    exact ⟨_, exec_cellStageWrite hc v (State.cellWriter_refused h), rfl, s.writeRefused_kept t _ _ _⟩

/-! ### The register space (O56) -/

/-- An access the control space defines, in the words of R15 and R17. -/
theorem goodAccess_eq_true {a : Nat} (ha : a % 4 = 0) (hp : inPage a = true) : goodAccess a 4 = true := by
  simp [goodAccess, ha, hp]

theorem goodAccess_eq_false {a w : Nat} (h : w ≠ 4 ∨ a % 4 ≠ 0 ∨ inPage a = false) : goodAccess a w = false := by
  rcases h with h | h | h <;> simp [goodAccess, h]

section RegisterCommands
variable {s : State} {t m a w pc : Nat} (hs : inSpace a = true)
include hs

theorem exec_rcRead_good (hg : goodAccess a w = true) :
    exec (.rcRead t m a w pc) s =
      .next (((s.advance t).readRegister m a).2.emit (.readData m a ((s.advance t).readRegister m a).1)) := by
  simp [exec, execRcRead, hs, hg]

theorem exec_rcRead_bad (hg : goodAccess a w = false) : exec (.rcRead t m a w pc) s = .next ((s.advance t).badAccess m a 0 pc) := by
  simp [exec, execRcRead, hs, hg]

theorem exec_registerWrite_good (v : Nat) (hg : goodAccess a w = true) :
    exec (.registerWrite t m a w v pc) s = .next ((s.advance t).writeRegister m a (wrap 32 v) pc).2 := by
  simp [exec, execRegisterWrite, hs, hg]

theorem exec_registerWrite_bad (v : Nat) (hg : goodAccess a w = false) :
    exec (.registerWrite t m a w v pc) s = .next ((s.advance t).badAccess m a 1 pc) := by
  simp [exec, execRegisterWrite, hs, hg]

end RegisterCommands

theorem State.readRegister_present {s : State} {a : Nat} (m : Nat) (h : s.absentAt a = false) :
    s.readRegister m a = (s.readWord m a, s.readEffect m a) := by
  simp [State.readRegister, h]

theorem State.readRegister_absent {s : State} {a : Nat} (m : Nat) (h : s.absentAt a = true) : s.readRegister m a = (0, s.absentHit a) := by
  simp [State.readRegister, h]

theorem State.badAccess_core {s : State} {m : Nat} (a kind pc : Nat) (h : m < 16) :
    s.badAccess m a kind pc = s.nextFree.coreFault m (accessCause 1 kind) TaskCause.access (wrap 32 a) pc a (s.freeVal 32) := by
  simp [State.badAccess, h]

theorem State.badAccess_other {s : State} {m : Nat} (a kind pc : Nat) (h : 16 ≤ m) : s.badAccess m a kind pc = s := by
  simp [State.badAccess, Nat.not_lt.mpr h]

/-! An access to the range of an absent unit (R5, R520). -/

theorem State.absentHit_hit (s : State) (a : Nat) : (s.absentHit a).reg SYS.ABSENT_HIT.HIT = 1 := by
  unfold State.absentHit
  rw [State.reg_setReg_other _ _ _ _ _ _ (by decide) (by decide) (by decide), State.reg_setReg _ _ (by decide)]
  rfl

theorem State.absentHit_addr (s : State) (a : Nat) : (s.absentHit a).reg SYS.ABSENT_ADDR.ADDR = wrap SYS.ABSENT_ADDR.ADDR.width a :=
  State.reg_setReg _ _ (by decide)

theorem State.absentHit_kept (s : State) (a : Nat) : s.regsKeptBut (s.absentHit a) [SYS.ABSENT_HIT.HIT, SYS.ABSENT_ADDR.ADDR] :=
  ((State.regsKeptBut_of_regs _ rfl).setReg (by simp) (by decide)).setReg (by simp) (by decide)

theorem State.absentHit_out (s : State) (a : Nat) : (s.absentHit a).out = s.out := by
  simp only [State.absentHit, State.setReg_out]

theorem exec_absentUnitAccess {s : State} {t a : Nat} (m : Nat) (w : Bool) (h : (s.advance t).absentAt a = true) :
    exec (.absentUnitAccess t m a w) s =
      .next (if w then (s.advance t).absentHit a else ((s.advance t).absentHit a).emit (.readData m a 0)) := by
  simp [exec, execAbsentUnitAccess, h]

/-! A write by the access codes of the fields (R16, R18, R523). -/

section PlainWrite
variable {s : State} {a v : Nat}

theorem State.plainWrite_locked (m : Nat) (h : (fieldsAt a).any (fun x => x.1.acc == .RWL) = true) (hl : s.rwlOpen = false) :
    s.plainWrite m a v = (0x12, (s.clearBits a v).writeRefused a m 1) := by
  simp only [State.plainWrite, h, hl, Bool.not_false, Bool.and_self, if_true]

theorem State.plainWrite_limit (m : Nat) (h : (fieldsAt a).any (fun x => x.1.acc == .RWL) = true → s.rwlOpen = true)
    (hv : s.valuesOk a v = false) : s.plainWrite m a v = (9, (s.clearBits a v).writeRefused a m 2) := by
  have hl : ((fieldsAt a).any (fun x => x.1.acc == .RWL) && !s.rwlOpen) = false := by
    cases hr : (fieldsAt a).any (fun x => x.1.acc == .RWL) with
    | false => rfl
    | true => rw [h hr]; rfl
  simp only [State.plainWrite, hl, hv, Bool.not_false, if_true, Bool.false_eq_true, if_false]

theorem State.readOnly_unwritten {f : Fld} {i : Nat} (hf : fieldsAt a = [(f, i)]) (hro : f.acc = .RO) :
    s.storeFields a v = s ∧ s.clearBits a v = s := by
  simp [State.storeFields, State.clearBits, hf, hro]

end PlainWrite

/-- Settles O56, clause by clause from the equations of the commands above. -/
theorem registerSpaceIsAccessed : Obligations.RegisterSpaceIsAccessed := by
  refine ⟨fun s t m a pc hs ha hp => ⟨?present, ?absent⟩, fun s t m a w pc hs hbad => ⟨?readCore, ?readOther, ?writeCore, ?writeOther⟩,
    fun s t m a v pc hs ha hp => ⟨_, exec_registerWrite_good hs v (goodAccess_eq_true ha hp), rfl⟩, fun s t m a habs => ⟨?hitWrite, ?hitRead⟩,
    fun _ m _ _ => State.plainWrite_locked m, fun _ m _ _ => State.plainWrite_limit m, fun _ _ _ _ _ => State.readOnly_unwritten⟩
  case present =>
    intro h
    exact ⟨_, exec_rcRead_good hs (goodAccess_eq_true ha hp), by rw [State.readRegister_present m h]⟩
  case absent =>
    intro h
    exact ⟨_, exec_rcRead_good hs (goodAccess_eq_true ha hp), by rw [State.readRegister_absent m h]⟩
  case readCore => exact fun hm => ⟨_, exec_rcRead_bad hs (goodAccess_eq_false hbad), State.badAccess_core a 0 pc hm⟩
  case readOther => exact fun hm => ⟨_, exec_rcRead_bad hs (goodAccess_eq_false hbad), State.badAccess_other a 0 pc hm⟩
  case writeCore => exact fun hm v => ⟨_, exec_registerWrite_bad hs v (goodAccess_eq_false hbad), State.badAccess_core a 1 pc hm⟩
  case writeOther => exact fun hm v => ⟨_, exec_registerWrite_bad hs v (goodAccess_eq_false hbad), State.badAccess_other a 1 pc hm⟩
  case hitWrite =>
    exact ⟨_, exec_absentUnitAccess m true habs, (s.advance t).absentHit_hit a, (s.advance t).absentHit_addr a,
      (s.advance t).absentHit_kept a, (s.advance t).absentHit_out a⟩
  case hitRead =>
    exact ⟨_, exec_absentUnitAccess m false habs, (s.advance t).absentHit_hit a, (s.advance t).absentHit_kept a,
      congrArg (List.cons _) ((s.advance t).absentHit_out a)⟩

end Sys2Proof.Machine

/-! ## Phase bases (01_phase_bases.md) -/

namespace Sys2Proof.Machine

/-! ### Reads of low words (O53) -/

/-- No word shows the latches. -/
theorem State.word_latches (s : State) (l : Latches) (a : Nat) : State.word { s with latches := l } a = s.word a := rfl

/-- Latching words changes the latches alone. -/
theorem State.latchWords_frame (s : State) (m : Nat) (l : List Nat) :
    s.latchWords m l = { s with latches := (s.latchWords m l).latches } := by
  induction l generalizing s with
  | nil => rfl
  | cons x l ih => exact ih _

@[simp] theorem State.word_latchWords (s : State) (m : Nat) (l : List Nat) (a : Nat) : (s.latchWords m l).word a = s.word a := by
  rw [s.latchWords_frame m l, State.word_latches]

theorem State.latchWords_cons (s : State) (m x : Nat) (l : List Nat) :
    s.latchWords m (x :: l) = (s.setLatch m x (s.word x)).latchWords m l := rfl

@[simp] theorem State.word_setLatch (s : State) (m x w a : Nat) : (s.setLatch m x w).word a = s.word a := s.word_latches _ a

theorem State.latched_setLatch (s : State) (m x w k a : Nat) :
    (s.setLatch m x w).latched k a = if k * 2 ^ 32 + a = m * 2 ^ 32 + x then some w else s.latched k a := by
  simp only [State.latched, State.setLatch, Tab.get_set]

/-- Each word of the list is latched for the master as it reads now. -/
theorem State.latched_latchWords (s : State) (m : Nat) (l : List Nat) (a : Nat) :
    (s.latchWords m l).latched m a = if a ∈ l then some (s.word a) else s.latched m a := by
  induction l generalizing s with
  | nil => rfl
  | cons x l ih =>
    rw [State.latchWords_cons, ih, State.word_setLatch, State.latched_setLatch]
    by_cases hl : a ∈ l <;> by_cases hx : a = x <;> simp [hl, hx]

/-- The latches of another master stay as they are. -/
theorem State.latched_latchWords_other (s : State) {m k a : Nat} {l : List Nat} (hk : k ≠ m) (ha : a < 2 ^ 32) (hl : ∀ x ∈ l, x < 2 ^ 32) :
    (s.latchWords m l).latched k a = s.latched k a := by
  induction l generalizing s with
  | nil => rfl
  | cons x l ih =>
    obtain ⟨hx, hl⟩ := List.forall_mem_cons.mp hl
    rw [State.latchWords_cons, ih _ hl, State.latched_setLatch, if_neg (by omega)]

/-- Master `m` reads the low word `a`, which latches the words `l` for it (R26). -/
def State.readLatching (s : State) (m a : Nat) (l : List Nat) : State :=
  (s.latchWords m l).emit (.readData m a ((s.latchWords m l).word a))

theorem State.readLatching_latched (s : State) (m a : Nat) {l : List Nat} {x : Nat} (hx : x ∈ l) :
    (s.readLatching m a l).latched m x = some (s.word x) :=
  (s.latched_latchWords m l x).trans (if_pos hx)

theorem State.readLatching_out (s : State) (m a : Nat) (l : List Nat) :
    (s.readLatching m a l).out = .readData m a (s.word a) :: s.out := by
  rw [State.readLatching, State.emit_out, State.word_latchWords, s.latchWords_frame m l]

theorem State.readLatching_regs (s : State) (m a : Nat) (l : List Nat) : (s.readLatching m a l).regs = s.regs := by
  rw [State.readLatching, State.emit_regs, s.latchWords_frame m l]

/-- Such a read does what R26 says, for words in the address space. -/
theorem State.readLatching_lowReadBy (s : State) (m a : Nat) {l : List Nat} (hl : ∀ x ∈ l, x < 2 ^ 32) :
    s.lowReadBy m a l (s.readLatching m a l) :=
  ⟨fun _ => s.readLatching_latched m a, fun _ _ hk _ _ hx => s.latched_latchWords_other hk hx hl, s.readLatching_out m a l,
    s.readLatching_regs m a l⟩

/-- A command that reads a low word completes as R26 says. -/
theorem completes_lowRead {c : Instr} {s : State} {t m a : Nat} {l : List Nat} (h : exec c s = .next ((s.advance t).readLatching m a l))
    (hl : ∀ x ∈ l, x < 2 ^ 32) : completes c s ((s.advance t).lowReadBy m a l) :=
  ⟨_, h, (s.advance t).readLatching_lowReadBy m a hl⟩

/-- The registers of one base follow its low word (R52). -/
theorem base_words_follow (b : Nat) :
    PHASE.BASEn_VAL_HI.VAL.addrOf b = PHASE.BASEn_VAL_LO.VAL.addrOf b + 4 ∧
      PHASE.BASEn_EPOCH.EPOCH.addrOf b = PHASE.BASEn_VAL_LO.VAL.addrOf b + 8 ∧
      PHASE.BASEn_STATUS.STATE.addrOf b = PHASE.BASEn_VAL_LO.VAL.addrOf b + 12 := by
  simp only [Fld.addrOf, PHASE.BASEn_VAL_HI.VAL, PHASE.BASEn_VAL_LO.VAL, PHASE.BASEn_EPOCH.EPOCH, PHASE.BASEn_STATUS.STATE]
  omega

theorem exec_baseValLoRead {s : State} {b : Nat} (t m : Nat) (hb : b < 16) :
    exec (.baseValLoRead t m b) s = .next ((s.advance t).readLatching m (PHASE.BASEn_VAL_LO.VAL.addrOf b)
      [PHASE.BASEn_VAL_LO.VAL.addrOf b + 4, PHASE.BASEn_VAL_LO.VAL.addrOf b + 8, PHASE.BASEn_VAL_LO.VAL.addrOf b + 12]) :=
  if_neg (Nat.not_le.mpr hb)

/-- Settles O53: every low read latches its words by `State.readLatching`. -/
theorem lowReadsLatchForTheMaster : Obligations.LowReadsLatchForTheMaster := by
  refine ⟨fun s t m b hb => ?base, fun s t m => completes_lowRead rfl (by decide),
    fun s t m x hx => completes_lowRead (if_neg (Nat.not_le.mpr hx)) ?task,
    fun s t m b hb => completes_lowRead (if_neg (Nat.not_le.mpr hb)) ?epc,
    fun s t m b hb => completes_lowRead (if_neg (Nat.not_le.mpr hb)) ?tval,
    fun s t m => completes_lowRead rfl (by decide), fun s t m => completes_lowRead rfl (by decide),
    fun s t m k hk => completes_lowRead (if_neg (Nat.not_le.mpr hk)) ?track, fun s t m => completes_lowRead rfl (by decide)⟩
  case base =>
    obtain ⟨hi, epoch, status⟩ := base_words_follow b
    rw [hi, epoch, status]
    exact ⟨_, exec_baseValLoRead t m hb, State.readLatching_out .., State.readLatching_latched _ _ _ (by simp),
      State.readLatching_latched _ _ _ (by simp), State.readLatching_latched _ _ _ (by simp), State.readLatching_regs ..⟩
  case task => simp [Fld.addrOf, TASK.TASKt_LSEQ_LO.SEQ]; omega
  case epc => simp [Fld.addrOf, BLK.EPC_LO.EPC]; omega
  case tval => simp [Fld.addrOf, BLK.TVAL_LO.TVAL]; omega
  case track => simp [Fld.addrOf, PTP.DOMk_GMID_LO.ID]; omega

/-! ### Settings of virtual and mains bases (O3) -/

/-- A command completes with what its next state is shown to be. -/
theorem completes_of_exec {c : Instr} {s s' s'' : State} {P : State → Prop} (h : exec c s = .next s') (e : s' = s'') (hp : P s'') :
    completes c s P := ⟨s'', e ▸ h, hp⟩

section GuardWrite
variable {s : State} {a m : Nat} {valid : Bool} {f : State → State}

theorem State.guardWrite_locked (h : s.rwlOpen = false) : s.guardWrite a m true valid f = s.writeRefused a m 1 := by
  simp [State.guardWrite, h]

theorem State.guardWrite_badValue (h : s.rwlOpen = true) (hv : valid = false) : s.guardWrite a m true valid f = s.writeRefused a m 2 := by
  simp [State.guardWrite, h, hv]

theorem State.guardWrite_taken (h : s.rwlOpen = true) (hv : valid = true) : s.guardWrite a m true valid f = f s := by
  simp [State.guardWrite, h, hv]

end GuardWrite

theorem exec_virtSettingWrite {s : State} {v w : Nat} (t m x : Nat) (hv : v < 3) (hw : w < 3) :
    exec (.virtSettingWrite t m v w x) s =
      .next ((s.advance t).guardWrite ((virtField w).addrOf v) m true (virtValid v w x) (fun s =>
        (s.advance (tickAfter t)).setVirtual v (fun s => s.setReg (virtField w) v x))) := if_neg (by omega)

theorem exec_virtOffHiWrite {s : State} {v : Nat} (t m x : Nat) (hv : v < 3) :
    let a := (s.advance t).setReg PHASE.VIRTv_OFF_HI.OFF v x
    exec (.virtOffHiWrite t m v x) s =
      .next (((((a.mirrorReg (PHASE.VIRTv_OFF_LO.OFF.addrOf v) (a.reg PHASE.VIRTv_OFF_LO.OFF v)).mirrorReg
        (PHASE.VIRTv_OFF_HI.OFF.addrOf v) (wrap 32 x)).advance (tickAfter t)).applyOffset v)) := if_neg (by omega)

/-- A mains base that takes another offset moves by the change of the offset (R49). -/
def State.setMainsOffset (s : State) (m x : Nat) : State :=
  let d : Int := toSigned 32 (diffMod 32 x (s.reg PHASE.MAINSm_OFFSET.OFFSET m))
  if s.baseFires (6 + m) ∧ d ≠ 0 then
    s.stepBase (6 + m) Cause.setting false (fun b => ((b.reanchor (6 + m)).setReg PHASE.MAINSm_OFFSET.OFFSET m x).updBase (6 + m)
      (fun y => { y with anchor := ofSigned 96 ((y.anchor : Int) + d * 2 ^ 32) }))
  else s.setReg PHASE.MAINSm_OFFSET.OFFSET m x

theorem exec_mainsOffsetWrite {s : State} {m : Nat} (t n x : Nat) (hm : m < 2) :
    exec (.mainsOffsetWrite t n m x) s =
      .next ((s.advance t).guardWrite (PHASE.MAINSm_OFFSET.OFFSET.addrOf m) n true true
        (fun s => (s.advance (tickAfter t)).setMainsOffset m x)) := if_neg (by omega)

/-! What a change of settings does to a base (R29, R49). -/

theorem State.applyOffset_same {s : State} {v : Nat} (h : s.stagedOffset v = s.phase.virtOff.get v) : s.applyOffset v = s := if_pos h

theorem State.applyOffset_new {s : State} {v : Nat} (h : s.stagedOffset v ≠ s.phase.virtOff.get v) :
    s.applyOffset v = s.stepBase (13 + v) Cause.setting false (fun a =>
      { a with phase := { a.phase with virtOff := a.phase.virtOff.set v (s.stagedOffset v) } }) := if_neg h

section SetVirtual
variable {s : State} {v : Nat} {f : State → State}

theorem State.setVirtual_acquires (h : s.acquires (13 + v) (f s) = true) :
    s.setVirtual v f = s.stepBase (13 + v) Cause.acquisition true f := if_pos h

theorem State.setVirtual_same (h : s.acquires (13 + v) (f s) = false) (hv : (f s).baseVal (13 + v) = s.baseVal (13 + v)) :
    s.setVirtual v f = f s := by
  simp [State.setVirtual, h, hv]

theorem State.setVirtual_steps (h : s.acquires (13 + v) (f s) = false) (hv : (f s).baseVal (13 + v) ≠ s.baseVal (13 + v)) :
    s.setVirtual v f = s.stepBase (13 + v) Cause.setting false f := by
  simp [State.setVirtual, h, hv]

end SetVirtual

theorem State.setMainsOffset_still {s : State} {m x : Nat}
    (h : s.baseFires (6 + m) = false ∨ toSigned 32 (diffMod 32 x (s.reg PHASE.MAINSm_OFFSET.OFFSET m)) = 0) :
    s.setMainsOffset m x = s.setReg PHASE.MAINSm_OFFSET.OFFSET m x := by
  rcases h with h | h <;> simp [State.setMainsOffset, h]

theorem State.setMainsOffset_steps {s : State} {m x : Nat} (hb : s.baseFires (6 + m) = true)
    (hd : toSigned 32 (diffMod 32 x (s.reg PHASE.MAINSm_OFFSET.OFFSET m)) ≠ 0) :
    s.setMainsOffset m x = s.stepBase (6 + m) Cause.setting false (fun b =>
      ((b.reanchor (6 + m)).setReg PHASE.MAINSm_OFFSET.OFFSET m x).updBase (6 + m) (fun y =>
        { y with anchor := ofSigned 96 ((y.anchor : Int) + toSigned 32 (diffMod 32 x (s.reg PHASE.MAINSm_OFFSET.OFFSET m)) * 2 ^ 32) })) :=
  if_pos ⟨hb, hd⟩

/-- A refused write leaves a record and moves no base. -/
theorem State.writeRefused_moves_no_base (s : State) (t a m r : Nat) :
    s.regsKeptBut ((s.advance t).writeRefused a m r) recorderFlds ∧ ((s.advance t).writeRefused a m r).phase = s.phase := by
  obtain ⟨kept, _, frame⟩ := (s.advance t).writeRefused_only a m r
  exact ⟨kept, by rw [frame]; rfl⟩

/-- Settles O3, by whether `guardWrite` lets the write through and by what the setting does to its base. -/
theorem baseSettingsAreGuarded : Obligations.BaseSettingsAreGuarded := by
  refine ⟨fun s t m v x hv => ⟨_, exec_virtOffHiWrite t m x hv, rfl⟩, fun s v => State.applyOffset_same, fun s v => State.applyOffset_new,
    fun s t m v w x hv hw ho hx => completes_of_exec (exec_virtSettingWrite t m x hv hw) (State.guardWrite_taken ho hx) rfl,
    fun s v f => ⟨State.setVirtual_acquires, State.setVirtual_same, State.setVirtual_steps⟩,
    fun s t m v w x hv hw hl => completes_of_exec (exec_virtSettingWrite t m x hv hw) (State.guardWrite_locked hl)
      ⟨rfl, s.writeRefused_moves_no_base t ..⟩,
    fun s t m v w x hv hw ho hx => completes_of_exec (exec_virtSettingWrite t m x hv hw) (State.guardWrite_badValue ho hx)
      ⟨rfl, s.writeRefused_moves_no_base t ..⟩,
    fun s t m n x hm hl => completes_of_exec (exec_mainsOffsetWrite t n x hm) (State.guardWrite_locked hl)
      ⟨rfl, s.writeRefused_moves_no_base t ..⟩,
    fun s t m n x hm ho => ⟨fun still => ?still, fun fires moved => ?steps⟩⟩
  case still =>
    exact completes_of_exec (exec_mainsOffsetWrite t n x hm) (State.guardWrite_taken ho rfl) (State.setMainsOffset_still still)
  case steps =>
    exact completes_of_exec (exec_mainsOffsetWrite t n x hm) (State.guardWrite_taken ho rfl) (State.setMainsOffset_steps fires moved)

/-! ### Measurements of mains and encoders (O2)

Reads through what the measurements touch: the past of the bases, what lies outside, and a base's state and value. -/

@[simp] theorem State.sense_phase (s : State) (f : Fld) (i v : Nat) : (s.sense f i v).phase = s.phase := by rw [State.sense_frame]
@[simp] theorem State.sense_now (s : State) (f : Fld) (i v : Nat) : (s.sense f i v).now = s.now := by rw [State.sense_frame]
@[simp] theorem State.sense_out (s : State) (f : Fld) (i v : Nat) : (s.sense f i v).out = s.out := by rw [State.sense_frame]
@[simp] theorem State.sense_img (s : State) (f : Fld) (i v : Nat) : (s.sense f i v).img = s.img := by rw [State.sense_frame]

/-- Keeping the past changes no more than the past. -/
theorem State.keepPast_frame (s : State) :
    s.keepPast = { s with phase := { s.phase with past := s.keepPast.phase.past } } := by
  unfold State.keepPast State.keepPastOf
  dsimp only
  split <;> rfl

@[simp] theorem State.keepPast_regs (s : State) : s.keepPast.regs = s.regs := by rw [State.keepPast_frame]
@[simp] theorem State.keepPast_now (s : State) : s.keepPast.now = s.now := by rw [State.keepPast_frame]
@[simp] theorem State.keepPast_out (s : State) : s.keepPast.out = s.out := by rw [State.keepPast_frame]
@[simp] theorem State.keepPast_img (s : State) : s.keepPast.img = s.img := by rw [State.keepPast_frame]
@[simp] theorem State.keepPast_base (s : State) : s.keepPast.phase.base = s.phase.base := by rw [State.keepPast_frame]
@[simp] theorem State.keepPast_enc (s : State) : s.keepPast.phase.enc = s.phase.enc := by rw [State.keepPast_frame]

/-- A base of the hardware has the state of its register when its unit is fitted (R21). -/
theorem State.baseState_of_lt (s : State) {n : Nat} (hn : n < 12) :
    s.baseState n = if s.baseFitted n then s.reg PHASE.BASEn_STATUS.STATE n else BaseState.notFitted := by
  have own : s.baseState n = s.ownState n := if_pos (by omega)
  have self : s.masterOf n = n := if_neg (by omega)
  rw [own, State.ownState, self]

theorem State.baseState_advance (s : State) (t n : Nat) : (s.advance t).baseState n = s.baseState n := rfl

/-- What keeps STATE and the fitted units keeps the states of the bases. -/
theorem State.baseState_of_kept {s s' : State} {fs : List Fld} (h : s.regsKeptBut s' fs)
    (hs : ∀ g ∈ fs, g.id ≠ PHASE.BASEn_STATUS.STATE.id) (ha : ∀ g ∈ fs, g.id ≠ SYS.UNITS.ACS.id) {n : Nat} (hn : n < 12) :
    s'.baseState n = s.baseState n := by
  have fitted : s'.baseFitted n = s.baseFitted n := by
    unfold State.baseFitted State.flag
    rw [h.reg _ 0 (by decide) ha, if_neg (show n ≠ 12 by omega), if_neg (show n ≠ 12 by omega)]
  rw [s'.baseState_of_lt hn, s.baseState_of_lt hn, fitted, h.reg _ n (by omega) hs]

/-- A base that fires has locked and is in use (R50). -/
theorem State.baseFires_iff (s : State) (n : Nat) : s.baseFires n = true ↔
    s.baseState n = BaseState.locked ∨ s.baseState n = BaseState.holdover ∨ s.baseState n = BaseState.unlocked ∨
      s.baseState n = BaseState.fault := by
  simp [State.baseFires, or_assoc]

/-- The value of a mains base rests on its state and on what the model keeps of it (R39, R40). -/
theorem State.baseVal_mains_congr {s s' : State} {m : Nat} (hm : m < 2) (hnow : s'.now = s.now)
    (hbase : s'.phase.base = s.phase.base)
    (hst : s'.reg PHASE.BASEn_STATUS.STATE (6 + m) = s.reg PHASE.BASEn_STATUS.STATE (6 + m)) :
    s'.baseVal (6 + m) = s.baseVal (6 + m) := by
  have plain (u : State) : u.baseVal (6 + m) = u.plainVal (6 + m) := if_pos (by omega)
  have self (u : State) : u.masterOf (6 + m) = 6 + m := if_neg (by omega)
  have time : ¬(6 + m ≤ 5 ∨ 6 + m = 12) := by omega
  have mains : 6 + m ≤ 7 := by omega
  simp only [plain, State.plainVal, self, State.mainsRaw, hst, hbase, hnow, time, mains, if_true, if_false]

/-! #### A measured mains angle (R39, R41, R42) -/

/-- The registers a measurement of the mains shows. -/
def mainsShown : List Fld :=
  [FPIN.ACm_STAT.PRESENT, FPIN.ACm_STAT.FREQ_OK, FPIN.ACm_FREQ.FREQ, PHASE.MAINSm_QUAL.RMS, PHASE.MAINSm_QUAL.PERR, PHASE.BASEn_SPEED.SPEED]

section NoteMains
variable (s : State) (m freq rms perr : Nat)

theorem State.noteMains_phase : (s.noteMains m freq rms perr).phase = s.phase := by
  simp only [State.noteMains, State.setReg_phase, State.sense_phase]

theorem State.noteMains_now : (s.noteMains m freq rms perr).now = s.now := by
  simp only [State.noteMains, State.setReg_now, State.sense_now]

theorem State.noteMains_img : (s.noteMains m freq rms perr).img = s.img := by
  simp only [State.noteMains, State.setReg_img, State.sense_img]

theorem State.noteMains_kept : s.regsKeptBut (s.noteMains m freq rms perr) mainsShown :=
  ((((((s.sense_kept _ _ _ _ (by decide) (by decide)).trans (State.sense_kept _ _ _ _ _ (by decide) (by decide))).setReg
    (by decide) (by decide)).setReg (by decide) (by decide)).setReg (by decide) (by decide)).setReg
    (by decide) (by decide))

theorem State.noteMains_present (hm : m < 2) : (s.noteMains m freq rms perr).reg FPIN.ACm_STAT.PRESENT m = 1 := by
  unfold State.noteMains
  iterate 4 rw [State.reg_setReg_other _ _ _ _ _ _ (by decide) (by decide) (by omega)]
  rw [State.reg_sense_other _ _ _ _ _ _ (by decide) (by decide) (by omega), State.reg_sense _ _ hm]
  rfl

theorem State.noteMains_freq (hm : m < 2) :
    (s.noteMains m freq rms perr).reg FPIN.ACm_FREQ.FREQ m = wrap FPIN.ACm_FREQ.FREQ.width freq := by
  unfold State.noteMains
  iterate 3 rw [State.reg_setReg_other _ _ _ _ _ _ (by decide) (by decide) (by omega)]
  exact State.reg_setReg _ _ hm

/-- What the measurement shows leaves the error of the measured angle as it is. -/
theorem State.noteMains_error (angle : Nat) (hm : m < 2) : (s.noteMains m freq rms perr).mainsError m angle = s.mainsError m angle := by
  have kept := s.noteMains_kept m freq rms perr
  unfold State.mainsError
  rw [kept.reg PHASE.MAINSm_OFFSET.OFFSET m (by omega) (by decide), State.baseVal_mains_congr hm (s.noteMains_now ..)
    (congrArg PhaseSt.base (s.noteMains_phase ..)) (kept.reg _ _ (by omega) (by decide))]

end NoteMains

theorem State.lockMains_img (s : State) (b freq : Nat) : (s.lockMains b freq).img = s.img := State.setReg_img ..

theorem State.beginSlew_regs (s : State) (b : Nat) (size : Int) (bound : Nat) : (s.beginSlew b size bound).regs = s.regs := s.keepPast_regs

theorem State.beginSlew_img (s : State) (b : Nat) (size : Int) (bound : Nat) : (s.beginSlew b size bound).img = s.img := s.keepPast_img

/-- When a lock is the first one of its base (R29, R39). -/
theorem mainsLock_first_iff (s : State) (t m freq rms perr : Nat) :
    (!(((s.advance t).noteMains m freq rms perr).phase.base.get (6 + m)).lockedOnce || (s.advance t).baseState (6 + m) == BaseState.invalid ||
        (s.advance t).baseState (6 + m) == BaseState.acquiring) = true ↔
      (s.phase.base.get (6 + m)).lockedOnce = false ∨ s.baseState (6 + m) = BaseState.invalid ∨ s.baseState (6 + m) = BaseState.acquiring := by
  simp [State.noteMains_phase, State.baseState_advance, or_assoc]

section MainsLock
variable {s : State} {t m angle freq rms perr : Nat} (hm : m < 2) (hv : s.mainsValid m freq rms = true)
  (hf : s.baseState (6 + m) ≠ BaseState.notFitted) (hu : s.baseState (6 + m) ≠ BaseState.unused)
include hm hv hf hu

theorem mainsLock_taken : ¬(2 ≤ m ∨ s.baseState (6 + m) = BaseState.notFitted ∨ s.baseState (6 + m) = BaseState.unused ∨
    (!s.mainsValid m freq rms) = true) := by
  simp [hv, hf, hu, hm]

theorem exec_mainsLock_first (h : (s.phase.base.get (6 + m)).lockedOnce = false ∨ s.baseState (6 + m) = BaseState.invalid ∨
      s.baseState (6 + m) = BaseState.acquiring) :
    let a := (s.advance t).noteMains m freq rms perr
    exec (.mainsLock t m angle freq rms perr) s = .next (a.stepBase (6 + m) Cause.acquisition true (fun s =>
      (s.anchorFrom (6 + m) (ofSigned 64 ((a.baseVal (6 + m) : Int) + a.mainsError m angle)) a.now).lockMains (6 + m) freq)) := by
  refine (if_neg (mainsLock_taken hm hv hf hu)).trans (if_pos ?_)
  exact (mainsLock_first_iff ..).mpr h

variable (ho : (s.phase.base.get (6 + m)).lockedOnce = true) (hi : s.baseState (6 + m) ≠ BaseState.invalid)
  (hq : s.baseState (6 + m) ≠ BaseState.acquiring)
include ho hi hq

theorem exec_mainsLock_slew :
    let a := (s.advance t).noteMains m freq rms perr
    (a.mainsError m angle).natAbs * 3600 ≤ a.reg PHASE.MAINSm_CFG.STEP_THR m * 2 ^ 32 →
    exec (.mainsLock t m angle freq rms perr) s = .next ((a.beginSlew (6 + m) (a.mainsError m angle * 2 ^ 32)
      (2 ^ 64 / 360 * freq / (4 * 10 ^ 12))).lockMains (6 + m) freq) := by
  intro a small
  refine (if_neg (mainsLock_taken hm hv hf hu)).trans ((if_neg ?_).trans (if_pos small))
  rw [mainsLock_first_iff]
  simp [ho, hi, hq]

theorem exec_mainsLock_relock :
    let a := (s.advance t).noteMains m freq rms perr
    a.reg PHASE.MAINSm_CFG.STEP_THR m * 2 ^ 32 < (a.mainsError m angle).natAbs * 3600 →
    exec (.mainsLock t m angle freq rms perr) s = .next (a.stepBase (6 + m) Cause.relock false (fun s =>
      (s.anchorFrom (6 + m) (ofSigned 64 ((a.baseVal (6 + m) : Int) + a.mainsError m angle)) a.now).lockMains (6 + m) freq)) := by
  intro a large
  refine (if_neg (mainsLock_taken hm hv hf hu)).trans ((if_neg ?_).trans (if_neg (Nat.not_le.mpr large)))
  rw [mainsLock_first_iff]
  simp [ho, hi, hq]

end MainsLock
/-! #### Encoder edges (R43 to R46, R309) -/

theorem State.reg_sense_one (s : State) {f : Fld} {i : Nat} (hi : i < f.count) (hw : f.width = 1) : (s.sense f i 1).reg f i = 1 := by
  rw [State.reg_sense _ _ hi, hw]
  rfl

/-- An encoder in use (R43). -/
theorem encoder_in_use {s : State} {e : Nat} (t : Nat) (he : e < 4) (hc : s.reg PHASE.ENCe_CFG.CPT e ≠ 0) :
    ¬(4 ≤ e ∨ (s.advance t).reg PHASE.ENCe_CFG.CPT e = 0) := by
  simp [hc, he]

/-- What an effect keeps it keeps under a condition. -/
theorem State.when_keeps {α : Type} (g : State → α) {f : State → State} (h : ∀ u, g (f u) = g u) (s : State) (c : Bool) :
    g (s.when c f) = g s := by
  cases c with
  | false => rfl
  | true => exact h s

theorem State.regsKeptBut.when {s s' : State} {fs : List Fld} (h : s.regsKeptBut s' fs) {f : State → State}
    (hf : s'.regsKeptBut (f s') fs) (c : Bool) : s.regsKeptBut (s'.when c f) fs := by
  cases c with
  | false => exact h
  | true => exact h.trans hf

theorem State.regsKeptBut.sense {s s' : State} {fs : List Fld} (h : s.regsKeptBut s' fs) {f : Fld} {i v : Nat} (hf : f ∈ fs)
    (hc : f.count ≤ 2 ^ 20) : s.regsKeptBut (s'.sense f i v) fs := h.trans (State.sense_kept _ _ _ _ _ hf hc)

section SeeLines
variable (s : State) (e : Nat) (a b : Bool)

/-- The registers that show the levels of an encoder's lines. -/
def linesShown : List Fld := [FPIN.ENCe_STAT.A, FPIN.ENCe_STAT.B, FPIN.ENCe_STAT.Z]

theorem State.seeLines_kept : s.regsKeptBut (s.seeLines e a b) linesShown := by
  have stamped := s.regsKeptBut_of_regs linesShown (s.updEnc_regs e (fun d => { d with
    aAt := if a != s.flag FPIN.ENCe_STAT.A e then s.now + 1 else d.aAt
    bAt := if b != s.flag FPIN.ENCe_STAT.B e then s.now + 1 else d.bAt }))
  refine ((stamped.sense (by decide) (by decide)).sense (by decide) (by decide)).when ?_ _
  exact (State.regsKeptBut_of_regs _ (State.nextFree_regs _)).sense (by decide) (by decide)

theorem State.seeLines_phase : (s.seeLines e a b).phase = (s.updEnc e (fun d => { d with
    aAt := if a != s.flag FPIN.ENCe_STAT.A e then s.now + 1 else d.aAt
    bAt := if b != s.flag FPIN.ENCe_STAT.B e then s.now + 1 else d.bAt })).phase := by
  refine (State.when_keeps State.phase (fun u => ?_) _ _).trans ?_
  · exact State.sense_phase ..
  · exact (State.sense_phase ..).trans (State.sense_phase ..)

theorem State.seeLines_now : (s.seeLines e a b).now = s.now := by
  refine (State.when_keeps State.now (fun u => ?_) _ _).trans ?_
  · exact State.sense_now ..
  · exact (State.sense_now ..).trans (State.sense_now ..)

theorem State.seeLines_base : (s.seeLines e a b).phase.base = s.phase.base := by
  rw [State.seeLines_phase]
  rfl

theorem State.seeLines_count : ((s.seeLines e a b).phase.enc.get e).count = (s.phase.enc.get e).count := by
  rw [State.seeLines_phase, State.updEnc, Tab.get_upd, if_pos rfl]

end SeeLines

/-- An edge counts: the count moves by one, the estimate takes the edge, and the direction and the speed show it (R44, R45, R52). -/
def State.countEdge (s : State) (e : Nat) (fwd : Bool) : State :=
  let d := s.phase.enc.get e
  let pos : Int := if fwd then d.count + 1 else d.count
  let dir := if fwd then 1 else 2
  let hist := (if dir = d.dir then d.hist else []) ++ [(pos, s.now)]
  ((s.keepPast.updEnc e (fun d => { d with
    hist := hist.drop (hist.length - (s.reg PHASE.ENCe_CFG.VELN e + 2)), count := if fwd then d.count + 1 else d.count - 1, edgePos := pos
    edgeT := s.keepPast.now, dir := dir, stalled := false })).setFlag PHASE.BASEn_STATUS.DIR (8 + e) (!fwd)).showSpeed e

section CountEdge
variable (s : State) (e : Nat) (fwd : Bool)

theorem State.countEdge_base : (s.countEdge e fwd).phase.base = s.phase.base := by
  simp only [State.countEdge, State.showSpeed, State.setReg_phase, State.setFlag_phase]
  exact s.keepPast_base

theorem State.countEdge_enc : ((s.countEdge e fwd).phase.enc.get e).count =
    (if fwd then (s.phase.enc.get e).count + 1 else (s.phase.enc.get e).count - 1) ∧
      ((s.countEdge e fwd).phase.enc.get e).edgeT = s.now := by
  simp only [State.countEdge, State.showSpeed, State.setReg_phase, State.setFlag_phase, State.updEnc, Tab.get_upd, if_true, State.keepPast_enc,
    State.keepPast_now, and_self]

theorem State.countEdge_kept : s.regsKeptBut (s.countEdge e fwd) [PHASE.BASEn_STATUS.DIR, PHASE.BASEn_SPEED.SPEED] :=
  ((s.regsKeptBut_of_regs _ (s' := s.keepPast.updEnc e _) s.keepPast_regs).setReg (f := PHASE.BASEn_STATUS.DIR) (by decide) (by decide)).setReg
    (f := PHASE.BASEn_SPEED.SPEED) (by decide) (by decide)

end CountEdge

section EncoderEdge
variable {s : State} {t e : Nat} {f i a b : Bool} (he : e < 4) (hc : s.reg PHASE.ENCe_CFG.CPT e ≠ 0)
include he hc

theorem exec_encoderEdge_illegal (hi : (i || (s.advance t).quickLines e a b) = true) :
    exec (.encoderEdge t e f i a b) s = .next (((s.advance t).seeLines e a b).addReg PHASE.ENCe_SLIPCNT.ILLEGAL e 1) :=
  (if_neg (encoder_in_use t he hc)).trans (if_pos hi)

/-- Outside the first edge of an acquisition a legal edge counts (R44, R45). -/
theorem exec_encoderEdge_counted (hq : (s.advance t).quickLines e a b = false)
    (hn : s.baseState (8 + e) ≠ BaseState.acquiring ∨ s.reg PHASE.ENCe_CFG.ZMODE e ≠ 0) :
    let u := (s.advance t).seeLines e a b
    let fwd := f != u.flag PHASE.ENCe_CFG.INVERT e
    let w := u.countEdge e fwd
    exec (.encoderEdge t e f false a b) s = .next (w.setReg FPIN.ENCe_COUNT.COUNT e
      (if fwd then w.reg FPIN.ENCe_COUNT.COUNT e + 1 else diffMod 32 (w.reg FPIN.ENCe_COUNT.COUNT e) 1)) := by
  have legal : ¬(false || (s.advance t).quickLines e a b) = true := by simp [hq]
  have kept := (s.advance t).seeLines_kept e a b
  have running : ¬(((s.advance t).seeLines e a b).baseState (8 + e) = BaseState.acquiring ∧
      ((s.advance t).seeLines e a b).reg PHASE.ENCe_CFG.ZMODE e = 0) := by
    rw [State.baseState_of_kept kept (by decide) (by decide) (by omega), kept.reg _ _ (by omega) (by decide), not_and_or]
    exact hn
  intro u fwd w
  calc exec (.encoderEdge t e f false a b) s = _ := (if_neg (encoder_in_use t he hc)).trans (if_neg legal)
    _ = _ := by
      dsimp only
      rw [if_neg running]
      rfl

end EncoderEdge
/-! #### Z edges and the return of the signal (R43, R44, R309) -/

/-- What is sensed outside of one field leaves what is sensed of another. -/
theorem State.sensed_sense_other (s : State) (f g : Fld) (i j v : Nat) (hk : g.key j ≠ f.key i) :
    (s.sense f i v).sensed g j = s.sensed g j := by
  unfold State.sense State.sensed
  split
  · simp only [Tab.get_set_ne _ _ hk]
  · rfl

section SeeZ
variable (s : State) (e : Nat)

theorem State.seeZ_kept : s.regsKeptBut (s.seeZ e) [FPIN.ENCe_STAT.Z] :=
  (s.regsKeptBut_of_regs _ (s.updEnc_regs e _)).sense (by decide) (by decide)

theorem State.seeZ_reg {g : Fld} {i : Nat} (hg : FPIN.ENCe_STAT.Z.id ≠ g.id) (hi : i < 2 ^ 20) : (s.seeZ e).reg g i = s.reg g i :=
  (s.seeZ_kept e).reg g i hi (by simpa using hg)

theorem State.seeZ_base : (s.seeZ e).phase.base = s.phase.base := by
  rw [State.seeZ, State.sense_phase]
  rfl

theorem State.seeZ_out : (s.seeZ e).out = s.out := State.sense_out ..

theorem State.seeZ_sigok (he : e < 4) : (s.seeZ e).sensed FPIN.ENCe_STAT.SIGOK e = s.sensed FPIN.ENCe_STAT.SIGOK e :=
  State.sensed_sense_other _ _ _ _ _ _ (Fld.key_ne (by decide) (by omega) (by omega))

end SeeZ

theorem State.regsKeptBut.addReg {s s' : State} {fs : List Fld} (h : s.regsKeptBut s' fs) {f : Fld} {i n : Nat} (hf : f ∈ fs)
    (hc : f.count ≤ 2 ^ 20) : s.regsKeptBut (s'.addReg f i n) fs := (h.same (s'.noteEvent_regs f i _)).setReg hf hc

/-- How far the running value of a shaft base lies from ZOFF, the shorter way, in 2^-32 turn. -/
def State.zOffset (s : State) (e : Nat) : Int := toSigned 32 (diffMod 32 (s.reg PHASE.ENCe_ZOFF.ZOFF e) (s.baseVal (8 + e)))

section EncoderZEdge
variable {s : State} {t e : Nat} {f : Bool} (he : e < 4) (hc : s.reg PHASE.ENCe_CFG.CPT e ≠ 0)
include he hc

theorem exec_encoderZEdge_quick (hq : (s.advance t).tooQuick (s.phase.enc.get e).zAt = true) :
    exec (.encoderZEdge t e f) s = .next (((s.advance t).seeZ e).addReg PHASE.ENCe_SLIPCNT.ILLEGAL e 1) :=
  (if_neg (encoder_in_use t he hc)).trans (if_pos hq)

variable (hq : (s.advance t).tooQuick (s.phase.enc.get e).zAt = false)
include hq

theorem exec_encoderZEdge_ignored (hz : s.reg PHASE.ENCe_CFG.ZMODE e = 0) : exec (.encoderZEdge t e f) s = .next ((s.advance t).seeZ e) :=
  (if_neg (encoder_in_use t he hc)).trans ((if_neg (Bool.eq_false_iff.mp hq)).trans (if_pos hz))

variable (hz : s.reg PHASE.ENCe_CFG.ZMODE e ≠ 0)
include hz

theorem exec_encoderZEdge_endsFault (hf : s.baseState (8 + e) = BaseState.fault) (hs : s.sensed FPIN.ENCe_STAT.SIGOK e = true) :
    let a := (s.advance t).seeZ e
    exec (.encoderZEdge t e f) s = .next ((a.stepBase (8 + e) Cause.zAlign false (fun s => (s.setBaseState (8 + e) BaseState.locked).realign e
      ((a.baseVal (8 + e) : Int) + a.zOffset e - ((a.setBaseState (8 + e) BaseState.locked).baseVal (8 + e) : Int)))).showSpeed e) := by
  have sensed : ((s.advance t).seeZ e).sensed FPIN.ENCe_STAT.SIGOK e = true := (State.seeZ_sigok _ _ he).trans hs
  have returned : ¬(s.baseState (8 + e) = BaseState.fault ∧ (!((s.advance t).seeZ e).sensed FPIN.ENCe_STAT.SIGOK e) = true) := by
    simp [sensed]
  exact (if_neg (encoder_in_use t he hc)).trans ((if_neg (Bool.eq_false_iff.mp hq)).trans ((if_neg hz).trans ((if_neg returned).trans (if_pos hf))))

variable (hf : s.baseState (8 + e) ≠ BaseState.fault)
include hf

theorem exec_encoderZEdge_aligns (ha : (((s.advance t).seeZ e).phase.enc.get e).aligned = false) :
    let a := (s.advance t).seeZ e
    let acq := s.baseState (8 + e) = BaseState.acquiring ∨ s.baseState (8 + e) = BaseState.invalid
    exec (.encoderZEdge t e f) s = .next (a.stepBase (8 + e) (if acq then Cause.acquisition else Cause.zAlign) (decide acq) (fun s =>
      (s.setBaseState (8 + e) BaseState.locked).realign e (a.zOffset e))) := by
  intro a acq
  calc exec (.encoderZEdge t e f) s = _ := (if_neg (encoder_in_use t he hc)).trans ((if_neg (Bool.eq_false_iff.mp hq)).trans ((if_neg hz).trans
          ((if_neg (fun h => hf h.1)).trans ((if_neg hf).trans (if_pos (by rw [ha]; rfl))))))
    _ = _ := by
      dsimp only
      simp only [decide_eq_true_eq]
      rfl

theorem exec_encoderZEdge_absorbs (ha : (((s.advance t).seeZ e).phase.enc.get e).aligned = true) (hm : s.reg PHASE.ENCe_CFG.ZMODE e = 2) :
    let a := (s.advance t).seeZ e
    let counts := (a.zOffset e).natAbs * a.reg PHASE.ENCe_CFG.CPT e / 2 ^ 32
    (f != a.flag PHASE.ENCe_CFG.INVERT e) = true → counts ≠ 0 → counts ≤ a.reg PHASE.ENCe_CFG.SLIP e →
    exec (.encoderZEdge t e f) s = .next (((a.keepPast.realign e 0).addReg PHASE.ENCe_SLIPCNT.SLIP e 1).updEnc e (fun d =>
      { d with slewLeft := a.zOffset e, slewPos := d.edgePos })) := by
  intro a counts forward mismatch tolerated
  exact (if_neg (encoder_in_use t he hc)).trans ((if_neg (Bool.eq_false_iff.mp hq)).trans ((if_neg hz).trans
    ((if_neg (fun h => hf h.1)).trans ((if_neg hf).trans ((if_neg (by rw [ha]; decide)).trans ((if_pos ⟨hm, forward, mismatch⟩).trans
    (if_pos tolerated)))))))

end EncoderZEdge

section SignalReturn
variable {s : State} {e : Nat} (t : Nat) (he : e < 4)
include he

theorem baseState_sense_sigok : ((s.advance t).sense FPIN.ENCe_STAT.SIGOK e 1).baseState (8 + e) = s.baseState (8 + e) :=
  State.baseState_of_kept ((s.advance t).sense_kept _ _ _ [FPIN.ENCe_STAT.SIGOK] (by decide) (by decide)) (by decide) (by decide) (by omega)

theorem zmode_sense_sigok : ((s.advance t).sense FPIN.ENCe_STAT.SIGOK e 1).reg PHASE.ENCe_CFG.ZMODE e = s.reg PHASE.ENCe_CFG.ZMODE e :=
  State.reg_sense_other _ _ _ _ _ _ (by decide) (by decide) (by omega)

theorem exec_encoderSignalReturn_waits (h : s.baseState (8 + e) ≠ BaseState.fault ∨ s.reg PHASE.ENCe_CFG.ZMODE e ≠ 0) :
    exec (.encoderSignalReturn t e) s = .next ((s.advance t).sense FPIN.ENCe_STAT.SIGOK e 1) := by
  refine (if_neg (Nat.not_le.mpr he)).trans (if_neg ?_)
  rw [baseState_sense_sigok t he, zmode_sense_sigok t he, not_and_or]
  exact h

theorem exec_encoderSignalReturn_relocks (hf : s.baseState (8 + e) = BaseState.fault) (hz : s.reg PHASE.ENCe_CFG.ZMODE e = 0) :
    let a := (s.advance t).sense FPIN.ENCe_STAT.SIGOK e 1
    exec (.encoderSignalReturn t e) s = .next ((a.stepBase (8 + e) Cause.relock false (fun s =>
      (s.setBaseState (8 + e) BaseState.locked).realign e
        ((a.baseVal (8 + e) : Int) - ((s.setBaseState (8 + e) BaseState.locked).baseVal (8 + e) : Int)))).showSpeed e) := by
  refine (if_neg (Nat.not_le.mpr he)).trans (if_pos ?_)
  rw [baseState_sense_sigok t he, zmode_sense_sigok t he]
  exact ⟨hf, hz⟩

end SignalReturn
/-! #### The clauses of O2 that name what changes and what stays -/

/-- A base that fires is in use and has left INVALID and ACQUIRING (R50). -/
theorem State.baseState_ne_of_baseFires {s : State} {n : Nat} (h : s.baseFires n = true) :
    s.baseState n ≠ BaseState.notFitted ∧ s.baseState n ≠ BaseState.unused ∧ s.baseState n ≠ BaseState.invalid ∧
      s.baseState n ≠ BaseState.acquiring := by
  rcases (s.baseFires_iff n).mp h with h | h | h | h <;> rw [h] <;> decide

section SlewLock
variable (s : State) (b freq : Nat) (size : Int) (bound : Nat)

theorem State.slewLock_kept : s.regsKeptBut ((s.beginSlew b size bound).lockMains b freq) [PHASE.BASEn_STATUS.STATE] :=
  ((s.regsKeptBut_of_regs _ (s.beginSlew_regs b size bound)).setReg (f := PHASE.BASEn_STATUS.STATE) (by decide) (by decide)).same rfl

theorem State.slewLock_state (hb : b < 16) :
    ((s.beginSlew b size bound).lockMains b freq).reg PHASE.BASEn_STATUS.STATE b = BaseState.locked :=
  State.reg_setReg _ (f := PHASE.BASEn_STATUS.STATE) _ hb

theorem State.slewLock_img : ((s.beginSlew b size bound).lockMains b freq).img = s.img :=
  (State.lockMains_img ..).trans (s.beginSlew_img ..)

end SlewLock

/-- An error within STEP_THR is slewed out with the base LOCKED (R41, R42). -/
theorem mainsLock_slews {s : State} {t m angle freq rms perr : Nat} (hm : m < 2) (hv : s.mainsValid m freq rms = true)
    (hb : s.baseFires (6 + m) = true) (ho : (s.phase.base.get (6 + m)).lockedOnce = true)
    (he : ((s.advance t).mainsError m angle).natAbs * 3600 ≤ s.reg PHASE.MAINSm_CFG.STEP_THR m * 2 ^ 32) :
    completes (.mainsLock t m angle freq rms perr) s fun s' =>
      s'.reg PHASE.BASEn_STATUS.STATE (6 + m) = BaseState.locked ∧ s'.reg FPIN.ACm_STAT.PRESENT m = 1 ∧
      s'.reg FPIN.ACm_FREQ.FREQ m = wrap FPIN.ACm_FREQ.FREQ.width freq ∧
      s.regsKeptBut s' [PHASE.BASEn_STATUS.STATE, FPIN.ACm_STAT.PRESENT, FPIN.ACm_STAT.FREQ_OK, FPIN.ACm_FREQ.FREQ, PHASE.MAINSm_QUAL.RMS,
        PHASE.MAINSm_QUAL.PERR, PHASE.BASEn_SPEED.SPEED] ∧ s'.img = s.img := by
  obtain ⟨fitted, used, valid, acquired⟩ := State.baseState_ne_of_baseFires hb
  have noted := (s.advance t).noteMains_kept m freq rms perr
  have locked := ((s.advance t).noteMains m freq rms perr).slewLock_kept (6 + m) freq
  have small : (((s.advance t).noteMains m freq rms perr).mainsError m angle).natAbs * 3600 ≤
      ((s.advance t).noteMains m freq rms perr).reg PHASE.MAINSm_CFG.STEP_THR m * 2 ^ 32 := by
    rw [State.noteMains_error _ _ _ _ _ _ hm, noted.reg _ _ (by omega) (by decide)]
    exact he
  refine ⟨_, exec_mainsLock_slew hm hv fitted used ho valid acquired small, State.slewLock_state _ _ _ _ _ (by omega), ?_, ?_, ?_, ?_⟩
  · rw [(locked _ _).reg _ _ (by omega) (by decide), State.noteMains_present _ _ _ _ _ hm]
  · rw [(locked _ _).reg _ _ (by omega) (by decide), State.noteMains_freq _ _ _ _ _ hm]
  · exact (noted.mono (by decide)).trans ((locked _ _).mono (by decide))
  · exact (State.slewLock_img ..).trans ((s.advance t).noteMains_img ..)

section EncoderClauses
variable {s : State} {t e : Nat} {f : Bool} (he : e < 4) (hc : s.reg PHASE.ENCe_CFG.CPT e ≠ 0)
include he hc

/-- An illegal edge counts in ILLEGAL alone (R309). -/
theorem encoderEdge_illegal_counts {i a b : Bool} (hi : (i || (s.advance t).quickLines e a b) = true) :
    completes (.encoderEdge t e f i a b) s fun s' =>
      s'.reg PHASE.ENCe_SLIPCNT.ILLEGAL e = satAdd PHASE.ENCe_SLIPCNT.ILLEGAL.width (s.reg PHASE.ENCe_SLIPCNT.ILLEGAL e) 1 ∧
      (Tab.wf s.phase.enc = true → (s'.phase.enc.get e).count = (s.phase.enc.get e).count) ∧ s'.phase.base = s.phase.base ∧
      s.regsKeptBut s' [FPIN.ENCe_STAT.A, FPIN.ENCe_STAT.B, FPIN.ENCe_STAT.Z, PHASE.ENCe_SLIPCNT.ILLEGAL] := by
  have seen := (s.advance t).seeLines_kept e a b
  refine ⟨_, exec_encoderEdge_illegal he hc hi, ?_, fun _ => ?_, ?_, (seen.mono (by decide)).addReg (by decide) (by decide)⟩
  · rw [State.reg_addReg _ _ he, seen.reg _ _ (by omega) (by decide), State.advance_reg]
  · rw [State.addReg_phase, State.seeLines_count, State.advance_phase]
  · rw [State.addReg_phase, State.seeLines_base, State.advance_phase]

/-- A legal edge moves the count by one in its direction (R44). -/
theorem encoderEdge_counts {a b : Bool} (hq : (s.advance t).quickLines e a b = false)
    (hn : s.baseState (8 + e) ≠ BaseState.acquiring ∨ s.reg PHASE.ENCe_CFG.ZMODE e ≠ 0) :
    completes (.encoderEdge t e f false a b) s fun s' =>
      (Tab.wf s.phase.enc = true → (s'.phase.enc.get e).count =
        (if f != s.flag PHASE.ENCe_CFG.INVERT e then (s.phase.enc.get e).count + 1 else (s.phase.enc.get e).count - 1) ∧
        (s'.phase.enc.get e).edgeT = max s.now t) ∧ s'.phase.base = s.phase.base ∧
      s'.reg FPIN.ENCe_COUNT.COUNT e = wrap 32 (if f != s.flag PHASE.ENCe_CFG.INVERT e then s.reg FPIN.ENCe_COUNT.COUNT e + 1
        else diffMod 32 (s.reg FPIN.ENCe_COUNT.COUNT e) 1) ∧
      s.regsKeptBut s' [FPIN.ENCe_STAT.A, FPIN.ENCe_STAT.B, FPIN.ENCe_STAT.Z, PHASE.BASEn_STATUS.DIR, PHASE.BASEn_SPEED.SPEED,
        FPIN.ENCe_COUNT.COUNT] := by
  have seen := (s.advance t).seeLines_kept e a b
  have counted := ((s.advance t).seeLines e a b).countEdge_kept e
  have invert : ((s.advance t).seeLines e a b).flag PHASE.ENCe_CFG.INVERT e = s.flag PHASE.ENCe_CFG.INVERT e :=
    congrArg (· != 0) (seen.reg _ _ (by omega) (by decide))
  refine ⟨_, exec_encoderEdge_counted he hc hq hn, fun _ => ?_, ?_, ?_, ?_⟩
  · rw [State.setReg_phase, invert]
    obtain ⟨count, edgeT⟩ := ((s.advance t).seeLines e a b).countEdge_enc e (f != s.flag PHASE.ENCe_CFG.INVERT e)
    rw [count, edgeT, State.seeLines_count, State.seeLines_now]
    exact ⟨rfl, rfl⟩
  · rw [State.setReg_phase, State.countEdge_base, State.seeLines_base, State.advance_phase]
  · rw [State.reg_setReg _ _ he, invert, (counted _).reg _ _ (by omega) (by decide), seen.reg _ _ (by omega) (by decide)]
    rfl
  · exact ((seen.mono (by decide)).trans ((counted _).mono (by decide))).setReg (by decide) (by decide)

/-- A mismatch that CHECK tolerates counts in SLIP and steps no base (R43). -/
theorem encoderZEdge_tolerates (hq : (s.advance t).tooQuick (s.phase.enc.get e).zAt = false) (hm : s.reg PHASE.ENCe_CFG.ZMODE e = 2)
    (hd : (f != s.flag PHASE.ENCe_CFG.INVERT e) = true) (ha : (((s.advance t).seeZ e).phase.enc.get e).aligned = true)
    (hf : s.baseState (8 + e) ≠ BaseState.fault)
    (hn : (toSigned 32 (diffMod 32 (s.reg PHASE.ENCe_ZOFF.ZOFF e) (((s.advance t).seeZ e).baseVal (8 + e)))).natAbs *
      s.reg PHASE.ENCe_CFG.CPT e / 2 ^ 32 ≠ 0)
    (hs : (toSigned 32 (diffMod 32 (s.reg PHASE.ENCe_ZOFF.ZOFF e) (((s.advance t).seeZ e).baseVal (8 + e)))).natAbs *
      s.reg PHASE.ENCe_CFG.CPT e / 2 ^ 32 ≤ s.reg PHASE.ENCe_CFG.SLIP e) :
    completes (.encoderZEdge t e f) s fun s' =>
      s'.reg PHASE.ENCe_SLIPCNT.SLIP e = satAdd PHASE.ENCe_SLIPCNT.SLIP.width (s.reg PHASE.ENCe_SLIPCNT.SLIP e) 1 ∧
      s.regsKeptBut s' [PHASE.ENCe_SLIPCNT.SLIP, FPIN.ENCe_STAT.Z] ∧ s'.phase.base = s.phase.base ∧ s'.out = s.out := by
  have seen := (s.advance t).seeZ_kept e
  have realigned : ((s.advance t).seeZ e).regsKeptBut (((s.advance t).seeZ e).keepPast.realign e 0) [FPIN.ENCe_STAT.Z] :=
    State.regsKeptBut_of_regs _ (State.keepPast_regs _)
  have reads {g : Fld} (hg : FPIN.ENCe_STAT.Z.id ≠ g.id) : ((s.advance t).seeZ e).reg g e = s.reg g e :=
    (s.advance t).seeZ_reg e hg (by omega)
  refine ⟨_, exec_encoderZEdge_absorbs he hc hq (by rw [hm]; decide) hf ha hm ?_ ?_ ?_, ?_, ?_, ?_, ?_⟩
  · exact (congrArg (fun x => f != (x != 0)) (reads (by decide))).trans hd
  · rw [State.zOffset, reads (by decide), reads (by decide)]
    exact hn
  · rw [State.zOffset, reads (by decide), reads (by decide), reads (by decide)]
    exact hs
  · rw [State.updEnc_reg, State.reg_addReg _ _ he, realigned.reg _ _ (by omega) (by decide), reads (by decide)]
  · exact (((seen.trans realigned).mono (by decide)).addReg (by decide) (by decide)).same (State.updEnc_regs ..)
  · calc _ = (((s.advance t).seeZ e).keepPast.realign e 0).phase.base := congrArg PhaseSt.base (State.addReg_phase ..)
      _ = ((s.advance t).seeZ e).phase.base := State.keepPast_base _
      _ = s.phase.base := State.seeZ_base ..
  · calc _ = (((s.advance t).seeZ e).keepPast.realign e 0).out := State.addReg_out ..
      _ = ((s.advance t).seeZ e).out := State.keepPast_out _
      _ = s.out := State.seeZ_out ..

end EncoderClauses

/-- A step applies its change to the state at its tick, with the past kept (R30, R524), and to no other. -/
theorem State.stepBase_congr {s : State} {b cause : Nat} {acq : Bool} {f g : State → State} (h : f s.toTick.keepPast = g s.toTick.keepPast) :
    s.stepBase b cause acq f = s.stepBase b cause acq g := by
  unfold State.stepBase
  dsimp only
  rw [h]

/-- Settles O2: the equations of the commands above, clause by clause. -/
theorem measurementsMoveBases : Obligations.MeasurementsMoveBases := by
  refine ⟨fun s t m angle freq rms perr hm hv hb ho he => mainsLock_slews hm hv hb ho he,
    fun s t m angle freq rms perr hm hv hf hu => ⟨fun first => ⟨_, exec_mainsLock_first hm hv hf hu first, rfl⟩,
      fun ho hi hq large => ⟨_, exec_mainsLock_relock hm hv hf hu ho hi hq large, rfl⟩⟩,
    fun s t e f i a b he hc hi => encoderEdge_illegal_counts he hc hi, fun s t e f a b he hc hq hn => encoderEdge_counts he hc hq hn,
    fun s t e f he hc hq => ⟨_, exec_encoderZEdge_quick he hc hq, rfl⟩,
    fun s t e f he hc hq hz => ⟨_, exec_encoderZEdge_ignored he hc hq hz, rfl⟩,
    fun s t e f he hc hq hm hd ha hf hn hs => encoderZEdge_tolerates he hc hq hm hd ha hf hn hs,
    fun s t e he h => ⟨_, exec_encoderSignalReturn_waits t he h, State.reg_sense_one _ he rfl,
      (s.advance t).sense_kept _ _ _ _ (by decide) (by decide), State.sense_phase ..⟩,
    fun s t e f he hc hq hz hf ha => ⟨_, exec_encoderZEdge_aligns he hc hq hz hf ha, ?aligned⟩,
    fun s t e f he hc hq hz hf hs => ⟨_, exec_encoderZEdge_endsFault he hc hq hz hf hs, rfl⟩,
    fun s t e he hf hz => ⟨_, exec_encoderSignalReturn_relocks t he hf hz, rfl⟩⟩
  case aligned =>
    have zoff : ((s.advance t).seeZ e).toTick.keepPast.reg PHASE.ENCe_ZOFF.ZOFF e = ((s.advance t).seeZ e).reg PHASE.ENCe_ZOFF.ZOFF e :=
      congrArg (Tab.get · _) (State.keepPast_regs _)
    refine State.stepBase_congr ?_
    rw [zoff]
    rfl

end Sys2Proof.Machine

/-! ## The signal image (02_signal_image.md) -/

namespace Sys2Proof.Machine

/-! ### Writes of the Tray

What a full write of a word changes beside that word (R283, R285): no committed slot and no force while the word lies outside the image copies;
nothing but check bits and the list of flips while no flip is armed. -/

theorem State.imageKept_refl (s : State) : s.imageKept s := ⟨rfl, rfl, rfl⟩

theorem State.imageKept.trans {s s' s'' : State} (h : s.imageKept s') (h' : s'.imageKept s'') : s.imageKept s'' := by
  obtain ⟨dir, slots, forces⟩ := h
  obtain ⟨dir', slots', forces'⟩ := h'
  exact ⟨dir'.trans dir, slots'.trans slots, forces'.trans forces⟩

theorem State.imageKept_of_img {s s' : State} (h : s'.img = s.img) : s.imageKept s' := by
  rw [State.imageKept, h]
  exact ⟨rfl, rfl, rfl⟩

/-- A word of the Tray lies in an image copy, in the capture queue, or in the memory table. -/
theorem State.putData_frame (s : State) (m w v : Nat) :
    s.putData m w v = { s with
      img := { s.img with
        slots := (s.putData m w v).img.slots, working := (s.putData m w v).img.working, cq := (s.putData m w v).img.cq }
      leaf := (s.putData m w v).leaf } := by
  unfold State.putData
  by_cases himg : m = 1 ∧ w < 2 * trayImageWords
  · rw [if_pos himg]
    by_cases hw : w < trayImageWords
    · simp only [hw, if_true]
    · simp only [hw, if_false]
  · rw [if_neg himg]
    split <;> rfl

theorem State.putData_seq (s : State) (m w v : Nat) : (s.putData m w v).img.seq = s.img.seq := by rw [State.putData_frame]

/-- A flip leaves the image as it is, or changes data of the word it aims at. -/
theorem State.actFlip_img (s : State) (m w : Nat) :
    (s.actFlip m w).img = s.img ∨ ∃ v, (s.actFlip m w).img = (s.putData m w v).img := by
  unfold State.actFlip
  split
  · obtain ⟨_, _, frame⟩ := State.note_only _ 5 m [(4, physical m w)]
    refine .inr ⟨s.dataAt m w ^^^ wrap 64 (s.flipData m), ?_⟩
    rw [frame]
    simp only [State.setReg_img]
    rfl
  · exact .inl rfl

theorem State.landWord_seq (s : State) (m w : Nat) (mark : Bool) : (s.landWord m w mark).img.seq = s.img.seq := by
  unfold State.landWord
  rcases State.actFlip_img _ m w with h | ⟨v, h⟩ <;> rw [h]
  · rfl
  · exact State.putData_seq ..

section OutsideImage
variable (s : State) {w : Nat} (hw : 2 * trayImageWords ≤ w)
include hw

theorem State.putData_imageKept (m v : Nat) : s.imageKept (s.putData m w v) := by
  unfold State.putData
  rw [if_neg (fun h => absurd h.2 (Nat.not_lt.mpr hw))]
  split <;> exact ⟨rfl, rfl, rfl⟩

theorem State.actFlip_imageKept (m : Nat) : s.imageKept (s.actFlip m w) := by
  rcases s.actFlip_img m w with h | ⟨v, h⟩
  · exact State.imageKept_of_img h
  · exact (s.putData_imageKept hw m v).trans (State.imageKept_of_img h)

theorem State.writeMarked_imageKept (m v : Nat) : s.imageKept (s.writeMarked m w v) :=
  (s.putData_imageKept hw m _).trans ((State.imageKept_of_img rfl).trans (State.actFlip_imageKept _ hw m))

theorem State.writeWords_imageKept (m : Nat) (l : List Nat) : s.imageKept (s.writeWords m w l) :=
  State.each_induct (P := s.imageKept) _ _ (fun _ _ _ h => h.trans (State.writeMarked_imageKept _ (by omega) m _)) s.imageKept_refl

end OutsideImage

section Unarmed
variable {s : State} {m : Nat} (ha : s.flag LEAF.FLIPm_CTRL.ARM m = false)
include ha

theorem State.actFlip_unarmed (w : Nat) : s.actFlip m w = s := by simp [State.actFlip, ha]

theorem State.landWord_unarmed (w : Nat) (mark : Bool) : s.landWord m w mark = { s with leaf := (s.landWord m w mark).leaf } := by
  unfold State.landWord
  rw [State.actFlip_unarmed (by exact ha)]
  rfl

theorem State.writeMarked_unarmed_regs (w v : Nat) : (s.writeMarked m w v).regs = s.regs := by
  have put : (s.putData m w (wrap 64 v)).regs = s.regs := by rw [State.putData_frame]
  have arm : (s.putData m w (wrap 64 v)).flag LEAF.FLIPm_CTRL.ARM m = false := by rw [State.flag, State.reg, put]; exact ha
  rw [State.writeMarked, State.landWord_unarmed arm]
  exact put

theorem State.writeWords_unarmed_regs (w : Nat) (l : List Nat) : (s.writeWords m w l).regs = s.regs := by
  refine State.each_induct (P := fun s' => s'.regs = s.regs) _ _ (fun s' x _ h => ?_) rfl
  refine (State.writeMarked_unarmed_regs ?_ _ _).trans h
  rw [State.flag, State.reg, h]
  exact ha

end Unarmed

theorem State.landSlot_unarmed {s : State} (ha : s.flag LEAF.FLIPm_CTRL.ARM 1 = false) (sig marks : Nat) :
    s.landSlot sig marks = { s with leaf := (s.landSlot sig marks).leaf } := by
  unfold State.landSlot
  have arm : (s.landWord 1 (2 * sig) (bitOf 0 marks)).flag LEAF.FLIPm_CTRL.ARM 1 = false := by rw [State.landWord_unarmed ha]; exact ha
  rw [State.landWord_unarmed arm, State.landWord_unarmed ha]

/-! ### Writes of a signal

What `putForce`, `writeSlot` and `acceptWrite` make of the image. -/

theorem forceWord_outside_image (p : Nat) : 2 * trayImageWords ≤ forceWord p := by
  unfold forceWord trayForceWord trayImageWords
  omega

/-- A force's entry enters the table, and neither the directory nor a slot changes. -/
theorem State.putForce_img (s : State) (sig : Nat) (f : Force) (marks : Nat) :
    (s.putForce sig f marks).img.dir = s.img.dir ∧ (s.putForce sig f marks).img.slots = s.img.slots ∧
      (s.putForce sig f marks).img.forces = s.img.forces.set sig (some f) :=
  State.writeWords_imageKept { s with img := { s.img with forces := s.img.forces.set sig (some f) } } (forceWord_outside_image _) 1 _

theorem State.putForce_unarmed_regs {s : State} (ha : s.flag LEAF.FLIPm_CTRL.ARM 1 = false) (sig : Nat) (f : Force) (marks : Nat) :
    (s.putForce sig f marks).regs = s.regs :=
  State.writeWords_unarmed_regs (s := { s with img := { s.img with forces := s.img.forces.set sig (some f) } }) ha _ _

/-- A write of a signal that is not time-stamped takes its slot, and nothing else of the image (R55 to R57). -/
theorem State.writeSlot_img {s : State} {sig : Nat} {d : DirEntry} (hd : s.img.dir.get sig = some d) (hb : d.stampBase = none)
    (ha : s.flag LEAF.FLIPm_CTRL.ARM 1 = false) {src v q e n t : Nat} {late : Bool} {marks : Nat} :
    (s.writeSlot sig src v q e n t late marks).img =
      { s.img with slots := s.img.slots.set sig (s.builtSlot d sig src v q e n) } := by
  have landed := State.landSlot_unarmed (s := { s with img := { s.img with slots := s.img.slots.set sig (s.builtSlot d sig src v q e n) } })
    ha sig marks
  unfold State.writeSlot
  simp only [hd, hb]
  rw [landed]
  split
  · exact State.dropReg_img ..
  · rfl

/-- The write of a signal is noted: an invalid quality counts (R76), and the time of R79 starts anew. -/
def State.noteWrite (s : State) (sig qual : Nat) : State :=
  let s := if 7 ≤ qual then s.addReg IMAGE.QUALERR.COUNT 0 1 else s
  { s with img := { s.img with lastWrite := s.img.lastWrite.set sig s.now } }

theorem State.addReg_frame (s : State) (f : Fld) (i n : Nat) :
    s.addReg f i n = { s with regs := (s.addReg f i n).regs, raced := (s.addReg f i n).raced } := by
  unfold State.addReg State.setReg State.noteEvent
  split <;> split <;> rfl

theorem State.noteWrite_frame (s : State) (sig q : Nat) :
    s.noteWrite sig q = { s with
      regs := (s.noteWrite sig q).regs, raced := (s.noteWrite sig q).raced
      img := { s.img with lastWrite := s.img.lastWrite.set sig s.now } } := by
  unfold State.noteWrite
  split
  · rw [State.addReg_frame]
  · rfl

@[simp] theorem State.noteWrite_img (s : State) (sig q : Nat) :
    (s.noteWrite sig q).img = { s.img with lastWrite := s.img.lastWrite.set sig s.now } := by rw [State.noteWrite_frame]

@[simp] theorem State.noteWrite_arm (s : State) (sig q m : Nat) (hm : m < 2 ^ 20) :
    (s.noteWrite sig q).flag LEAF.FLIPm_CTRL.ARM m = s.flag LEAF.FLIPm_CTRL.ARM m := by
  unfold State.noteWrite
  split
  · exact congrArg (· != 0) (State.reg_addReg_other _ _ _ _ _ _ (by decide) (by decide) hm)
  · rfl

/-- The slot read before a write is the one before it was noted. -/
@[simp] theorem State.noteWrite_builtSlot (s : State) (d : DirEntry) (g q sig src v c e n : Nat) :
    (s.noteWrite g q).builtSlot d sig src v c e n = s.builtSlot d sig src v c e n := by
  rw [State.noteWrite_frame]
  rfl

section AcceptWrite
variable {s : State} {sig : Nat} {d : DirEntry} {src v q e n t : Nat} {late : Bool} {marks : Nat}

/-- A write of a forced signal reaches RAW alone (R82, R84). -/
theorem State.acceptWrite_forced {f : Force} (hd : s.img.dir.get sig = some d) (hf : s.img.forces.get sig = some f) :
    s.acceptWrite sig src v q e n t late marks = (s.noteWrite sig q).putForce sig
      { f with rawValue := normalise d.type v, rawQual := (cleanQuality q e).1, rawDetail := (cleanQuality q e).2, rawSeq := n } marks := by
  by_cases hq : 7 ≤ q <;> simp [State.acceptWrite, State.noteWrite, hq, hf, hd]

/-- A write of a signal that no force holds reaches the slot (R55 to R58). -/
theorem State.acceptWrite_plain (hf : s.img.forces.get sig = none) (hk : s.img.forceDropped.get sig = false) :
    s.acceptWrite sig src v q e n t late marks =
      (s.noteWrite sig q).writeSlot sig src v (cleanQuality q e).1 (cleanQuality q e).2 n t late marks := by
  by_cases hq : 7 ≤ q <;> simp [State.acceptWrite, State.noteWrite, hq, hf, hk]

theorem State.acceptWrite_forced_img {f : Force} (hd : s.img.dir.get sig = some d) (hf : s.img.forces.get sig = some f) :
    (s.acceptWrite sig src v q e n t late marks).img.slots = s.img.slots ∧
      (s.acceptWrite sig src v q e n t late marks).img.forces.get sig = some
        { f with rawValue := normalise d.type v, rawQual := (cleanQuality q e).1, rawDetail := (cleanQuality q e).2, rawSeq := n } := by
  rw [State.acceptWrite_forced hd hf]
  obtain ⟨_, slots, forces⟩ := (s.noteWrite sig q).putForce_img sig { f with
    rawValue := normalise d.type v, rawQual := (cleanQuality q e).1, rawDetail := (cleanQuality q e).2, rawSeq := n } marks
  rw [slots, forces, State.noteWrite_img]
  exact ⟨rfl, by rw [Tab.get_set, if_pos rfl]⟩

/-- The image after a write that reaches the slot of a signal that is not time-stamped. -/
theorem State.acceptWrite_plain_img (hd : s.img.dir.get sig = some d) (hf : s.img.forces.get sig = none)
    (hk : s.img.forceDropped.get sig = false) (hb : d.stampBase = none) (ha : s.flag LEAF.FLIPm_CTRL.ARM 1 = false) :
    (s.acceptWrite sig src v q e n t late marks).img = { s.img with
      lastWrite := s.img.lastWrite.set sig s.now
      slots := s.img.slots.set sig (s.builtSlot d sig src v (cleanQuality q e).1 (cleanQuality q e).2 n) } := by
  have dir : (s.noteWrite sig q).img.dir.get sig = some d := by rw [State.noteWrite_img]; exact hd
  have arm : (s.noteWrite sig q).flag LEAF.FLIPm_CTRL.ARM 1 = false := (s.noteWrite_arm sig q 1 (by decide)).trans ha
  rw [State.acceptWrite_plain hf hk, State.writeSlot_img dir hb arm, State.noteWrite_img, State.noteWrite_builtSlot]

end AcceptWrite

section OwnerWrite
variable {s : State} {sig src v q d n t : Nat}

theorem State.ownerWrite_stranger (h : s.owns sig src = false) : s.ownerWrite sig src v q d n t = s.ownerRefused sig src := by
  simp [State.ownerWrite, h]

theorem State.ownerWrite_owner (h : s.owns sig src = true) : s.ownerWrite sig src v q d n t = s.acceptWrite sig src v q d n t := by
  simp [State.ownerWrite, h]

end OwnerWrite

/-- A refused write changes nothing of the image and counts in OWNERR (R61). -/
theorem State.ownerRefused_kept (s : State) (sig src : Nat) :
    (s.ownerRefused sig src).img = s.img ∧
      (s.ownerRefused sig src).reg IMAGE.OWNERR.COUNT = satAdd IMAGE.OWNERR.COUNT.width (s.reg IMAGE.OWNERR.COUNT) 1 ∧
      s.regsKeptBut (s.ownerRefused sig src) (IMAGE.OWNERR.COUNT :: recorderFlds) := by
  obtain ⟨regs, _, frame⟩ := (s.addReg IMAGE.OWNERR.COUNT 0 1).record_only 0xF06 0 .warning [(3, sig), (2, src)] false
  refine ⟨?_, ?_, ((s.regsKeptBut_refl _).addReg (by simp) (by decide)).trans (regs.mono (fun _ h => List.mem_cons_of_mem _ h))⟩
  · rw [State.ownerRefused, frame]
    exact State.addReg_img ..
  · exact (regs.reg _ 0 (by decide) (by decide)).trans (State.reg_addReg _ _ (by decide))

/-! ### Normalised values and qualities (O4) -/

theorem wrap_wrap (w n : Nat) : wrap w (wrap w n) = wrap w n := Nat.mod_mod _ _

/-- An INT32 keeps its low half, and its upper half repeats bit 31 (R56). -/
theorem normalise_int32 (v : Nat) :
    normalise 1 v = if v % 2 ^ 32 < 2 ^ 31 then v % 2 ^ 32 else v % 2 ^ 32 + (2 ^ 64 - 2 ^ 32) := by
  simp only [normalise, toSigned, ofSigned, wrap, Nat.reduceSub]
  split <;> omega

theorem toSigned_normalise_int32 (v : Nat) : toSigned 64 (normalise 1 v) = toSigned 32 v := by
  simp only [normalise_int32, toSigned, wrap, Nat.reduceSub]
  split <;> omega

theorem normalise_int32_lt (v : Nat) : normalise 1 v < 2 ^ 64 := by
  rw [normalise_int32]
  split <;> omega

/-- The types of R56, the two whose bits are all used as one. -/
theorem normalise_normalise (ty v : Nat) : normalise ty (normalise ty v) = normalise ty v := by
  match ty with
  | 0 =>
    change (if wrap 64 (if wrap 64 v = 0 then 0 else 1) = 0 then 0 else 1) = if wrap 64 v = 0 then 0 else 1
    split <;> rfl
  | 1 =>
    rw [normalise_int32, normalise_int32]
    split <;> split <;> omega
  | 2 | 3 | _ + 4 => exact wrap_wrap _ v

theorem cleanQuality_invalid {q : Nat} (d : Nat) (h : 7 ≤ q) : cleanQuality q d = (Quality.bad, 9) := if_pos h

theorem cleanQuality_valid {q : Nat} (d : Nat) (h : q < 7) : cleanQuality q d = (q, d) := if_neg (Nat.not_le.mpr h)

/-- A force shows its value in the slot, normalised (R82). -/
theorem State.placeForce_value {s : State} {sig : Nat} {d : DirEntry} (v p n : Nat) (hd : s.img.dir.get sig = some d)
    (hb : d.stampBase = none) (ha : s.flag LEAF.FLIPm_CTRL.ARM 1 = false) :
    ((s.placeForce sig v p n).img.slots.get sig).value = normalise d.type v := by
  have shown (f : Force) (m : Nat) (t : Nat) :
      (((s.putForce sig f m).writeSlot sig (0x6000 + p) (normalise d.type v) Quality.forced 0 n t).img.slots.get sig).value =
        normalise d.type v := by
    obtain ⟨dir, _, _⟩ := s.putForce_img sig f m
    have arm : (s.putForce sig f m).flag LEAF.FLIPm_CTRL.ARM 1 = false := by
      rw [State.flag, State.reg, State.putForce_unarmed_regs ha]
      exact ha
    rw [State.writeSlot_img (dir ▸ hd) hb arm]
    simp only [Tab.get_set, if_true]
    exact normalise_normalise d.type v
  have counted (u : State) : u.countForces.img.slots = u.img.slots := by simp [State.countForces]
  unfold State.placeForce
  simp only [hd, counted]
  split
  · exact shown _ _ _
  · exact shown _ _ _

/-- Settles O4: the types one by one, then the three writes of the image above. -/
theorem valuesAndQualitiesAreNormalised : Obligations.ValuesAndQualitiesAreNormalised := by
  refine ⟨fun v => rfl, fun v => ⟨toSigned_normalise_int32 v, normalise_int32_lt v⟩, fun v => ⟨rfl, rfl⟩, fun v => ⟨rfl, rfl⟩, ?slot, ?raw,
    fun s sig v p n e => State.placeForce_value v p n, normalise_normalise, fun q d => cleanQuality_invalid d, fun q d => cleanQuality_valid d⟩
  case slot =>
    intro s sig src v q d n t e ho hd hf hk hb ha
    rw [State.ownerWrite_owner ho, State.acceptWrite_plain_img hd hf hk hb ha]
    simp only [Tab.get_set, if_true]
    rfl
  case raw =>
    intro s sig src v q d n t e f ho hd hf
    rw [State.ownerWrite_owner ho, (State.acceptWrite_forced_img hd hf).2]
    rfl

/-! ### Owner writes (O6) -/

/-- Settles O6, by whether the source owns the signal and whether a force holds it. -/
theorem ownerWritesReachTheSlot : Obligations.OwnerWritesReachTheSlot := by
  refine ⟨fun s sig src v q d n t ho => ?refused, fun s sig src v q d n t f e ho hd hf => ?forced,
    fun s sig src v q d n t e ho hd hf hk hb ha => ?plain⟩
  case refused =>
    rw [State.ownerWrite_stranger ho]
    exact s.ownerRefused_kept sig src
  case forced =>
    rw [State.ownerWrite_owner ho]
    exact State.acceptWrite_forced_img hd hf
  case plain =>
    rw [State.ownerWrite_owner ho, State.acceptWrite_plain_img hd hf hk hb ha]
    simp only [Tab.get_set, if_true]
    exact ⟨rfl, rfl, rfl, rfl, rfl, rfl, fun g hg => if_neg hg, trivial, trivial⟩

/-! ### SLOT records of the stream (O29) -/

section TakeSlot
variable {s : State} {g n m : Nat} {sl : Slot}

theorem State.takeSlot_unmirrored (h : s.isMirrored g = false) : s.takeSlot g sl n m = s := by simp [State.takeSlot, h]

theorem State.takeSlot_stranger (h : s.isMirrored g = true) (hw : s.mayWrite g sl.source = false) :
    s.takeSlot g sl n m = s.ownerRefused g sl.source := by
  simp [State.takeSlot, h, hw]

theorem State.takeSlot_taken (h : s.isMirrored g = true) (hw : s.mayWrite g sl.source = true) :
    s.takeSlot g sl n m = s.commitSlot g sl.source sl.value sl.qual sl.detail n m := by
  simp [State.takeSlot, h, hw]

end TakeSlot

section CommitSlot
variable {s : State} {g src v q d n m : Nat}

theorem State.commitSlot_forced (h : (s.img.forces.get g).isSome = true) :
    s.commitSlot g src v q d n m = s.acceptWrite g src v q d n s.now (marks := m) := if_pos h

theorem State.commitSlot_plain (h : s.img.forces.get g = none) :
    s.commitSlot g src v q d n m = ((s.acceptWrite g src v q d n s.now (marks := m)).copyToPins g).copyToSafe g := by
  simp [State.commitSlot, h]

end CommitSlot

/-- Settles O29, by what a SLOT record meets. -/
theorem slotRecordsReachTheImage : Obligations.SlotRecordsReachTheImage := by
  refine ⟨fun s g sl n m => State.takeSlot_unmirrored, fun s g sl n m => State.takeSlot_stranger,
    fun s g sl n m d f hd hm hw hf => ?forced, fun s g sl n m hm hw hf => ?plain, fun s g src v q e n i m d hd hf hk hb ha => ?content⟩
  case forced =>
    have mirrored : s.isMirrored g = true := by simp [State.isMirrored, hd, hm]
    rw [State.takeSlot_taken mirrored hw, State.commitSlot_forced (by rw [hf]; rfl)]
    exact State.acceptWrite_forced_img hd hf
  case plain => rw [State.takeSlot_taken hm hw, State.commitSlot_plain hf]
  case content =>
    intro a
    have image : a.img = _ := State.acceptWrite_plain_img hd hf hk hb ha
    rw [image]
    simp only [Tab.get_set, if_true]
    refine ⟨?_, fun k hk => if_neg hk, trivial⟩
    simp [State.builtSlot, hb]

/-! ### Combined qualities (O5) -/

/-- The detail of a combination of two equal codes (R59). -/
def joinDetail (d e : Nat) : Nat := if d = 0 then e else if e = 0 then d else min d e

theorem joinDetail_comm (d e : Nat) : joinDetail d e = joinDetail e d := by
  unfold joinDetail
  split <;> split <;> omega

theorem joinDetail_assoc (d e f : Nat) : joinDetail (joinDetail d e) f = joinDetail d (joinDetail e f) := by
  by_cases hd : d = 0 <;> by_cases he : e = 0 <;> by_cases hf : f = 0 <;> simp [joinDetail, hd, he, hf, min_assoc]

/-- Every valid code has a rank of its own (R59). -/
theorem rank_injective {p q : Nat} (hp : p < 7) (hq : q < 7) (h : Quality.rank p = Quality.rank q) : p = q := by
  have all : ∀ p < 7, ∀ q < 7, Quality.rank p = Quality.rank q → p = q := by decide
  exact all p hp q hq h

section Combine
variable {a b : Nat × Nat}

theorem combineQuality_left (h : Quality.rank a.1 < Quality.rank b.1) : combineQuality a b = a := if_pos h

theorem combineQuality_right (h : Quality.rank b.1 < Quality.rank a.1) : combineQuality a b = b :=
  (if_neg (Nat.lt_asymm h)).trans (if_pos h)

theorem combineQuality_equal (q d e : Nat) : combineQuality (q, d) (q, e) = (q, joinDetail d e) := by
  unfold combineQuality joinDetail
  simp only [Nat.lt_irrefl, if_false]
  split
  · rfl
  · split <;> rfl

/-- Two valid qualities combine by their ranks, or have one code. -/
theorem combineQuality_cases (ha : a.1 < 7) (hb : b.1 < 7) :
    (Quality.rank a.1 < Quality.rank b.1 ∧ combineQuality a b = a) ∨ (Quality.rank b.1 < Quality.rank a.1 ∧ combineQuality a b = b) ∨
      (b.1 = a.1 ∧ combineQuality a b = (a.1, joinDetail a.2 b.2)) := by
  rcases Nat.lt_trichotomy (Quality.rank a.1) (Quality.rank b.1) with h | h | h
  · exact .inl ⟨h, combineQuality_left h⟩
  · obtain ⟨q, d⟩ := a
    obtain ⟨p, e⟩ := b
    obtain rfl : q = p := rank_injective ha hb h
    exact .inr (.inr ⟨rfl, combineQuality_equal q d e⟩)
  · exact .inr (.inl ⟨h, combineQuality_right h⟩)

theorem combineQuality_comm (ha : a.1 < 7) (hb : b.1 < 7) : combineQuality a b = combineQuality b a := by
  rcases combineQuality_cases ha hb with ⟨h, e⟩ | ⟨h, e⟩ | ⟨h, e⟩
  · rw [e, combineQuality_right h]
  · rw [e, combineQuality_left h]
  · obtain ⟨q, d⟩ := a
    obtain ⟨p, e⟩ := b
    obtain rfl : p = q := h
    rw [combineQuality_equal, combineQuality_equal, joinDetail_comm]

end Combine

/-- The worst of three qualities is found in either order; of equal codes the details combine in either order. -/
theorem combineQuality_assoc {a b c : Nat × Nat} (ha : a.1 < 7) (hb : b.1 < 7) (hc : c.1 < 7) :
    combineQuality (combineQuality a b) c = combineQuality a (combineQuality b c) := by
  rcases combineQuality_cases ha hb with ⟨hab, eab⟩ | ⟨hab, eab⟩ | ⟨hab, eab⟩
  · rcases combineQuality_cases hb hc with ⟨hbc, ebc⟩ | ⟨_, ebc⟩ | ⟨hcb, ebc⟩ <;> rw [eab, ebc]
    · rw [eab, combineQuality_left (hab.trans hbc)]
    · rw [combineQuality_left (b := c) (hcb ▸ hab)]
      exact (combineQuality_left (b := (b.1, joinDetail b.2 c.2)) hab).symm
  · rcases combineQuality_cases hb hc with ⟨_, ebc⟩ | ⟨hbc, ebc⟩ | ⟨_, ebc⟩ <;> rw [eab, ebc]
    · rw [eab]
    · rw [combineQuality_right (hbc.trans hab)]
    · exact (combineQuality_right (b := (b.1, joinDetail b.2 c.2)) hab).symm
  · have left : Quality.rank (a.1, joinDetail a.2 b.2).1 = Quality.rank b.1 := congrArg _ hab.symm
    rcases combineQuality_cases hb hc with ⟨hbc, ebc⟩ | ⟨hbc, ebc⟩ | ⟨hbc, ebc⟩ <;> rw [eab, ebc]
    · rw [eab, combineQuality_left (left.trans_lt hbc)]
    · rw [combineQuality_right (left ▸ hbc), combineQuality_right (hab ▸ hbc)]
    · obtain ⟨q, d⟩ := a
      obtain ⟨p, e⟩ := b
      obtain ⟨r, f⟩ := c
      obtain rfl : p = q := hab
      obtain rfl : r = p := hbc
      rw [combineQuality_equal, combineQuality_equal, joinDetail_assoc]

/-- Settles O5, by the ranks of the codes and, between equal ones, by `joinDetail`. -/
theorem qualitiesCombineToTheWorse : Obligations.QualitiesCombineToTheWorse := by
  refine ⟨rfl, fun a b h => ⟨combineQuality_left h, combineQuality_right h⟩, fun q d e hd he => ?both, fun q d => ⟨?right, ?left⟩,
    fun a b => combineQuality_comm, fun a b c => combineQuality_assoc⟩
  case both => simp [combineQuality_equal, joinDetail, hd, he]
  case right => rw [combineQuality_equal, joinDetail_comm]; rfl
  case left => rw [combineQuality_equal]; rfl

/-! ### Source sequences (O7) -/

theorem wrap_lt (w n : Nat) : wrap w n < 2 ^ w := Nat.mod_lt _ (by positivity)

theorem diffMod_wrap (w a b : Nat) : diffMod w (wrap w a) b = diffMod w a b := by rw [diffMod, wrap_wrap, diffMod]

/-- The distance from a number to one `d` further on. -/
theorem diffMod_add {w n d : Nat} (hd : d < 2 ^ w) : diffMod w (n + d) (wrap w n) = d := by
  have hn : n % 2 ^ w < 2 ^ w := wrap_lt w n
  have hs : (n + d) % 2 ^ w = (n % 2 ^ w + d) % 2 ^ w := by rw [Nat.mod_add_mod]
  rw [diffMod, wrap_wrap, wrap, wrap, hs]
  by_cases hlt : n % 2 ^ w + d < 2 ^ w
  · rw [Nat.mod_eq_of_lt hlt, show n % 2 ^ w + d + 2 ^ w - n % 2 ^ w = d + 2 ^ w by omega, Nat.add_mod_right, Nat.mod_eq_of_lt hd]
  · have high : (n % 2 ^ w + d) % 2 ^ w = n % 2 ^ w + d - 2 ^ w := by
      rw [Nat.mod_eq_sub_mod (Nat.not_lt.mp hlt), Nat.mod_eq_of_lt (by omega)]
    rw [high, show n % 2 ^ w + d - 2 ^ w + 2 ^ w - n % 2 ^ w = d by omega, Nat.mod_eq_of_lt hd]

/-- At one bit or more the next number is another one. -/
theorem wrap_succ_ne {w n : Nat} (hw : 0 < w) : wrap w (n + 1) ≠ n := by
  intro h
  have one : 1 < 2 ^ w := Nat.one_lt_two_pow (by omega)
  have low : n < 2 ^ w := h ▸ wrap_lt w (n + 1)
  unfold wrap at h
  rcases Nat.lt_or_eq_of_le (Nat.succ_le_of_lt low) with hlt | heq
  · rw [Nat.mod_eq_of_lt hlt] at h
    omega
  · rw [show n + 1 = 2 ^ w from heq, Nat.mod_self] at h
    omega

section JudgeSeq
variable {w n : Nat} {q : SrcSeq}

/-- The source's first delivery (R69, R71). -/
theorem judgeSeq_first (hv : q.valid = false) :
    judgeSeq w q n = (true, false, 0, { valid := true, last := wrap w n, runSeq := 0, runLen := 0 }) := by
  simp [judgeSeq, hv]

/-- A later number is accepted; what lies between counts as lost (R70). -/
theorem judgeSeq_later (hv : q.valid = true) (h0 : diffMod w n q.last ≠ 0) (hl : diffMod w n q.last < 2 ^ (w - 1)) :
    judgeSeq w q n = (true, false, diffMod w n q.last - 1, { valid := true, last := wrap w n, runSeq := 0, runLen := 0 }) := by
  simp [judgeSeq, hv, diffMod_wrap, h0, Nat.not_le.mpr hl]

/-- The number of the last delivery is a duplicate (R70). -/
theorem judgeSeq_repeat (hv : q.valid = true) (h0 : diffMod w n q.last = 0) : (judgeSeq w q n).1 = false := by
  have near : ¬ 2 ^ (w - 1) ≤ 0 := Nat.not_le.mpr (by positivity)
  simp only [judgeSeq, hv, diffMod_wrap, h0, near, Bool.not_true, Bool.false_eq_true, true_or, if_true, if_false]
  split <;> rfl

/-- The third of three consecutive older numbers is accepted again (R72). -/
theorem judgeSeq_resync (hv : q.valid = true) (ho : 2 ^ (w - 1) ≤ diffMod w n q.last) (hr : 2 ≤ q.runLen) (hs : wrap w n ≠ q.runSeq)
    (hn : wrap w n = wrap w (q.runSeq + 1)) :
    judgeSeq w q n = (true, true, 0, { valid := true, last := wrap w n, runSeq := 0, runLen := 0 }) := by
  have run : q.runLen ≠ 0 := by omega
  simp only [judgeSeq, hv, diffMod_wrap, ho, hr, run, hs, ← hn, Bool.not_true, Bool.false_eq_true, or_true, ne_eq, not_false_eq_true, and_false,
    and_self, if_true, if_false]

end JudgeSeq

/-- Settles O7, by how far the number lies from the last one. -/
theorem sourceSequencesAreJudged : Obligations.SourceSequencesAreJudged := by
  refine ⟨fun w n => ?first, fun w n k hw hk => ?later, fun w n hw => ?again, fun w l r hw ho => ?resync⟩
  case first => rw [judgeSeq_first rfl]; exact ⟨rfl, rfl⟩
  case later =>
    have below : 2 ^ (w - 1) ≤ 2 ^ w := Nat.pow_le_pow_right (by decide) (by omega)
    have dist : diffMod w (n + k + 1) (wrap w n) = k + 1 := diffMod_add (d := k + 1) (by omega)
    rw [judgeSeq_later rfl (by rw [dist]; omega) (by rw [dist]; exact hk), dist]
    rfl
  case again => exact judgeSeq_repeat rfl (diffMod_add (d := 0) (by positivity))
  case resync =>
    exact judgeSeq_resync rfl ho (Nat.le_refl 2) (wrap_succ_ne hw) rfl

/-! ### The ageing sweep (R67) -/

/-- A slot is marked AGED. -/
def State.markAged (s : State) (g : Nat) : State :=
  { s with img := { s.img with slots := s.img.slots.upd g (fun sl => { sl with aged := true }) } }

theorem State.markAged_slot (s : State) (g k : Nat) :
    (s.markAged g).img.slots.get k = if k = g then { s.img.slots.get g with aged := true } else s.img.slots.get k :=
  Tab.get_upd s.img.slots g k (fun sl => { sl with aged := true })

/-- Marking a list of slots changes the AGED of those alone. -/
theorem State.each_markAged_slot (s : State) (l : List Nat) (k : Nat) :
    (s.each l State.markAged).img.slots.get k = if k ∈ l then { s.img.slots.get k with aged := true } else s.img.slots.get k := by
  induction l generalizing s with
  | nil => rfl
  | cons g l ih =>
    rw [State.each_cons, ih, State.markAged_slot]
    by_cases hl : k ∈ l <;> by_cases hg : k = g <;> simp [hl, hg]

/-- The slots that a sweep is to mark (R67). -/
def State.dueSlots (s : State) : List Nat :=
  s.img.dir.keys.filter (fun g => !(s.img.slots.get g).aged && s.farBehind (s.img.slots.get g))

theorem State.sweep_eq (s : State) : s.sweep = (s.each s.dueSlots State.markAged).showAged := rfl

/-- An identity in use is listed in the directory. -/
theorem Tab.mem_keys_of_isSome {α : Type} {t : Tab (Option α)} {k : Nat} (h : (t.get k).isSome = true) : k ∈ t.keys :=
  List.mem_map_of_mem (f := Prod.fst) (Tab.mem_of_get_ne_default (Option.isSome_iff_ne_none.mp h))

theorem Slot.aged_again {sl : Slot} (h : sl.aged = true) : { sl with aged := true } = sl := by
  obtain ⟨⟩ := sl
  obtain rfl := h
  rfl

/-- A slot that lies 2^30 behind is AGED after the sweep, its value and number as before (R67). -/
theorem State.sweep_slot {s : State} {g : Nat} (hd : (s.img.dir.get g).isSome = true) (hf : s.farBehind (s.img.slots.get g) = true) :
    s.sweep.img.slots.get g = { s.img.slots.get g with aged := true } := by
  have shown (u : State) : u.showAged.img = u.img := State.setReg_img ..
  rw [State.sweep_eq, shown, State.each_markAged_slot]
  by_cases ha : (s.img.slots.get g).aged = true
  · rw [Slot.aged_again ha, ite_self]
  · exact if_pos (List.mem_filter.mpr ⟨Tab.mem_keys_of_isSome hd, by simp [ha, hf]⟩)

theorem State.sweep_now (s : State) : s.sweep.now = s.now :=
  (State.setReg_now ..).trans (State.each_induct (P := fun s' => s'.now = s.now) s.dueSlots State.markAged (fun _ _ _ h => h) rfl)

theorem exec_ageingSweep (t : Nat) (s : State) :
    let a := s.advance t
    let took := a.now - s.img.sweepMark
    let b := ((a.sweep.setReg IMAGE.SWEEP.LAST 0 (min (took / us 1) 65535)).bumpReg IMAGE.SWEEP.PASSES 0).setFlag IMAGE.STATUS.SWEEP_OK 0
      (decide (took ≤ msec 10))
    exec (.ageingSweep t) s = .next ({ b with img := { b.img with sweepMark := a.now } }).releaseHeld := by
  intro a took b
  have now : b.now = a.now := by rw [State.setFlag_now, State.bumpReg_now, State.setReg_now, State.sweep_now]
  rw [← now]
  rfl

/-! ### Stale signals (R79) -/

section StaleMark
variable {s : State} {t sig : Nat} {d : DirEntry} (hd : s.img.dir.get sig = some d)
include hd

theorem exec_staleMark_due (h : d.staleMs ≠ 0 ∧ (s.advance t).ingressOn = true ∧
      s.img.lastWrite.get sig + msec d.staleMs < (s.advance t).now ∧ (s.advance t).ownerQuality sig ≠ (Quality.stale, 0xB)) :
    exec (.staleMark t sig) s =
      .next (((s.advance t).deliverModule 0xF002 [(sig, (s.advance t).ownerValue sig, Quality.stale + 0xB * 16)]).copyToPins sig) := by
  simp only [exec, execStaleMark, State.advance_img, hd]
  exact if_pos h

theorem exec_staleMark_not_due (h : ¬(d.staleMs ≠ 0 ∧ (s.advance t).ingressOn = true ∧
      s.img.lastWrite.get sig + msec d.staleMs < (s.advance t).now ∧ (s.advance t).ownerQuality sig ≠ (Quality.stale, 0xB))) :
    exec (.staleMark t sig) s = .next (s.advance t) := by
  simp only [exec, execStaleMark, State.advance_img, hd]
  exact if_neg h

end StaleMark

/-! ### The probe (R87, R88) -/

/-- The probe's registers take the signal and the record asked for. -/
def State.aimProbe (s : State) (t sig raw : Nat) : State :=
  ((s.advance t).setReg IMAGE.PROBE_ID.SIGNAL 0 sig).setReg IMAGE.PROBE_ID.RAW 0 raw

theorem wrap_signal {sig : Nat} (h : sig < 2 ^ 17) : wrap 17 sig = sig := Nat.mod_eq_of_lt h

section Probe
variable {s : State} {t m sig : Nat} (hs : sig < 2 ^ 17)
include hs

theorem exec_probeIdWrite_used (hd : (s.img.dir.get sig).isSome = true) :
    let a := s.aimProbe t sig 0
    let d := s.img.slots.get sig
    exec (.probeIdWrite t m sig false) s = .next (a.loadProbe m (wrap 32 d.value) (d.value / 2 ^ 32) d.seq d.tail (a.fullSeqHi d)
      (probeStat true false ((a.slotPoison sig).1 || (a.slotPoison sig).2) false)) := by
  have used : (s.img.dir.get sig).isNone = false := by rw [← Option.not_isSome, hd]; rfl
  simp only [exec, execProbeIdWrite, wrap_signal hs, State.setFlag_img, State.setReg_img, State.advance_img, used, Bool.false_eq_true, if_false]
  rfl

theorem exec_probeIdWrite_unused (hd : (s.img.dir.get sig).isSome = false) :
    let a := s.aimProbe t sig 0
    let d := a.slotOf sig
    exec (.probeIdWrite t m sig false) s = .next (a.loadProbe m (wrap 32 d.value) (d.value / 2 ^ 32) d.seq d.tail 0
      (probeStat true true ((a.slotPoison sig).1 || (a.slotPoison sig).2) false)) := by
  have unused : (s.img.dir.get sig).isNone = true := by rw [← Option.not_isSome, hd]; rfl
  simp only [exec, execProbeIdWrite, wrap_signal hs, State.setFlag_img, State.setReg_img, State.advance_img, unused, Bool.false_eq_true, if_true,
    if_false]
  rfl

theorem exec_probeIdWrite_raw {f : Force} (hf : s.img.forces.get sig = some f) :
    let a := s.aimProbe t sig 1
    exec (.probeIdWrite t m sig true) s = .next (a.nextFree.nextFree.loadProbe m (wrap 32 f.rawValue) (f.rawValue / 2 ^ 32) (wrap 32 f.rawSeq)
      (a.freeVal 16 + (f.rawQual + f.rawDetail * 16) * 2 ^ 16 + a.nextFree.freeVal 8 * 2 ^ 24) (f.rawSeq / 2 ^ 32)
      (probeStat true (s.img.dir.get sig).isNone (a.rawMarks f != 0) false)) := by
  simp only [exec, execProbeIdWrite, wrap_signal hs, State.setFlag_img, State.setReg_img, State.advance_img, hf, if_true]
  rfl

theorem exec_probeIdWrite_noForce (hf : s.img.forces.get sig = none) :
    let a := s.aimProbe t sig 1
    exec (.probeIdWrite t m sig true) s = .next (a.nextFree.loadProbe m (a.freeVal 32) (a.freeVal 32) (a.freeVal 32) (a.freeVal 32) 0
      (probeStat false (s.img.dir.get sig).isNone false true)) := by
  simp only [exec, execProbeIdWrite, wrap_signal hs, State.setFlag_img, State.setReg_img, State.advance_img, hf, if_true]
  rfl

end Probe

/-- Settles O8, command by command. -/
theorem imageUpkeep : Obligations.ImageUpkeep := by
  refine ⟨fun s t ha => ⟨_, rfl, if_pos ha⟩, fun s t ha => ⟨_, rfl, if_neg (Bool.eq_false_iff.mp ha)⟩,
    fun s t sig d hd => ⟨fun due => ⟨_, exec_staleMark_due hd due, rfl⟩, fun due => ⟨_, exec_staleMark_not_due hd due, rfl⟩⟩,
    fun s t m => ?low,
    fun s t m sig hs => ⟨fun hd => ⟨_, exec_probeIdWrite_used hs hd, rfl⟩, fun hd => ⟨_, exec_probeIdWrite_unused hs hd, rfl⟩⟩,
    fun s t m sig f hs hf => ⟨_, exec_probeIdWrite_raw hs hf, rfl⟩, fun s t m sig hs hf => ⟨_, exec_probeIdWrite_noForce hs hf, rfl⟩,
    fun s t => ⟨_, exec_ageingSweep t s, rfl⟩, fun s g _ hd hf => ?swept⟩
  case low =>
    have latches : IMAGE.SEQ_HI.SEQ.addrOf 0 ∈ [IMAGE.SEQ_HI.SEQ.addrOf 0] := List.mem_singleton_self _
    exact ⟨(s.advance t).readLatching m (IMAGE.SEQ_LO.SEQ.addrOf 0) [IMAGE.SEQ_HI.SEQ.addrOf 0], rfl,
      State.readLatching_latched _ _ _ latches, State.readLatching_out .., State.readLatching_regs ..⟩
  case swept =>
    rw [State.sweep_slot hd hf]
    exact ⟨rfl, rfl, rfl⟩

end Sys2Proof.Machine

/-! ## Reflex cells that record (04_reflex_cells.md) -/

namespace Sys2Proof.Machine

/-! ### The mirror stream and the capture queue

Sending a record and writing a word give out no number. -/

theorem State.setReg_frame (s : State) (f : Fld) (i v : Nat) : s.setReg f i v = { s with regs := (s.setReg f i v).regs } := by
  unfold State.setReg
  split <;> rfl

theorem State.notBumpless_img (s : State) (why : Nat) : (s.notBumpless why).img = s.img := by
  unfold State.notBumpless
  split
  · obtain ⟨_, _, frame⟩ := ((s.setReg PAIR.STAT.BUMPLESS 0 0).setReg PAIR.STAT.NBWHY 0 why).record_only 0x904 0 .info [(1, 0), (1, why)] false
    rw [State.lifeAdd_img, frame]
    simp only [State.setReg_img]
  · exact State.setReg_img ..

theorem State.queueMirror_img (s : State) (h : Share) (body : MBody) (sync last bulk : Bool) (n : Nat) (task : Option Nat) :
    (s.queueMirror h body sync last bulk n task).img = s.img := by
  simp only [State.queueMirror, State.showFill, State.setReg_img, State.emit_img]

@[simp] theorem State.sendMirror_img (s : State) (h : Share) (body : MBody) (sync last : Bool) (n : Nat) (task : Option Nat) (bulk : Bool) :
    (s.sendMirror h body sync last n task bulk).img = s.img := by
  unfold State.sendMirror
  split
  · rfl
  · split
    · simp only [State.overflowMirror, State.notBumpless_img, State.setReg_img, State.queueMirror_img]
    · rw [State.queueMirror_img]
      split
      · rfl
      · exact State.setReg_img ..

/-- A capture takes the next number (R62, R63). -/
theorem State.grantCapture_seq (s : State) (e : CapEntry) : (s.grantCapture e).img.seq = wrap 64 (s.img.seq + 1) := by
  unfold State.grantCapture State.pushCapture
  rw [State.sendMirror_img]
  exact State.each_induct (P := fun s' => s'.img.seq = wrap 64 (s.img.seq + 1)) _ _ (fun _ _ _ h => (State.landWord_seq ..).trans h) rfl

theorem State.drainFifos_nil {s : State} (h : s.cells.fifo = []) : s.drainFifos = s := by
  rw [State.drainFifos, h]
  rfl

/-- Nothing leaves the FIFOs while the rate is spent (R63). -/
theorem State.drainFifos_spent {s : State} (h : s.rateFree = false) : s.drainFifos = s := by
  refine State.each_induct (P := fun s' => s' = s) _ _ (fun s' _ _ hs => ?_) rfl
  refine State.each_induct (P := fun s' => s' = s) _ _ (fun s' _ _ hs => ?_) hs
  rw [if_neg]
  · exact hs
  · rw [hs, h]
    decide

/-! ### Results of CAPTURE and WINDOW cells (O18) -/

section PassCapture
variable {s : State} {c : Nat} {e : CapEntry} {w : Bool}

theorem State.passCapture_granted (hf : s.cells.fifo.get (s.hostOf (strandOf c)) = []) (hr : s.rateFree = true) :
    s.passCapture c e false = (s.updCell c (fun d => { d with lossOwed := false })).grantCapture e := by
  simp [State.passCapture, hf, hr]

variable (hb : s.rateFree = false ∨ w = true)
include hb

theorem passes_none (q : List CapEntry) : (q.isEmpty && s.rateFree && !w) = false := by
  rcases hb with h | h <;> simp [h]

theorem State.passCapture_waits (hl : (s.cells.fifo.get (s.hostOf (strandOf c))).length < Config.strandFifo) :
    (s.passCapture c e w).img = s.img ∧
      (s.passCapture c e w).cells.fifo.get (s.hostOf (strandOf c)) = s.cells.fifo.get (s.hostOf (strandOf c)) ++ [e] := by
  simp only [State.passCapture, passes_none hb, hl, if_true, Bool.false_eq_true, if_false]
  exact ⟨rfl, by rw [Tab.get_set, if_pos rfl]⟩

theorem State.passCapture_lost (hl : Config.strandFifo ≤ (s.cells.fifo.get (s.hostOf (strandOf c))).length) :
    s.passCapture c e w =
      ((s.setReg CELL.CELLc_STAT.OVF c 1).addReg CELL.CQLOST.COUNT 0 1).updCell c (fun d => { d with lossOwed := true }) := by
  simp only [State.passCapture, passes_none hb, Nat.not_lt.mpr hl, Bool.false_eq_true, if_false]

end PassCapture

/-- The result of a cell in its descriptor (R137). -/
def State.showResult (s : State) (c v : Nat) : State :=
  ((s.setReg CELL.CELLc_TARGET_LO.RESULT c v).setReg CELL.CELLc_TARGET_HI.RESULT c (v / 2 ^ 32)).setReg CELL.CELLc_STAT.FIRED c 1

/-- The registers that show a result. -/
def resultFlds : List Fld := [CELL.CELLc_TARGET_LO.RESULT, CELL.CELLc_TARGET_HI.RESULT, CELL.CELLc_STAT.FIRED]

section ShowResult
variable (s : State) (c v : Nat)

theorem State.showResult_frame : s.showResult c v = { s with regs := (s.showResult c v).regs } := by
  unfold State.showResult
  rw [State.setReg_frame _ CELL.CELLc_STAT.FIRED, State.setReg_frame _ CELL.CELLc_TARGET_HI.RESULT,
    State.setReg_frame _ CELL.CELLc_TARGET_LO.RESULT]

theorem State.showResult_kept : s.regsKeptBut (s.showResult c v) resultFlds :=
  (((s.regsKeptBut_refl _).setReg (by decide) (by decide)).setReg (by decide) (by decide)).setReg (by decide) (by decide)

theorem State.showResult_ingressOn : (s.showResult c v).ingressOn = s.ingressOn := by
  have auth : (s.showResult c v).flag PAIR.STAT.AUTH = s.flag PAIR.STAT.AUTH :=
    congrArg (· != 0) ((s.showResult_kept c v).reg _ _ (by decide) (by decide))
  have mode : (s.showResult c v).mode = s.mode := by rw [State.showResult_frame]
  unfold State.ingressOn State.isActive
  rw [auth, mode]

theorem State.showResult_rateFree : (s.showResult c v).rateFree = s.rateFree := by
  rw [State.showResult_frame]
  rfl

theorem State.showResult_cells : (s.showResult c v).cells = s.cells := by rw [State.showResult_frame]

theorem State.showResult_img : (s.showResult c v).img = s.img := by rw [State.showResult_frame]

variable {c} (hc : c < 4096)
include hc

theorem State.showResult_host : (s.showResult c v).hostOf (strandOf c) = s.hostOf (strandOf c) :=
  (s.showResult_kept c v).reg _ _ (by unfold strandOf; omega) (by decide)

theorem State.showResult_cq : (s.showResult c v).flag CELL.CELLc_STAT.CQ c = s.flag CELL.CELLc_STAT.CQ c :=
  congrArg (· != 0) ((s.showResult_kept c v).reg _ _ (by omega) (by decide))

variable {v} (hv : v < 2 ^ 64)
include hv

theorem State.showResult_reads :
    (s.showResult c v).reg CELL.CELLc_TARGET_LO.RESULT c = wrap 32 v ∧
      (s.showResult c v).reg CELL.CELLc_TARGET_HI.RESULT c = v / 2 ^ 32 ∧ (s.showResult c v).reg CELL.CELLc_STAT.FIRED c = 1 := by
  have small : c < 2 ^ 20 := by omega
  unfold State.showResult
  refine ⟨?_, ?_, State.reg_setReg _ _ hc⟩
  · rw [State.reg_setReg_other _ _ _ _ _ _ (by decide) (by decide) small,
      State.reg_setReg_other _ _ _ _ _ _ (by decide) (by decide) small, State.reg_setReg _ _ hc]
    rfl
  · rw [State.reg_setReg_other _ _ _ _ _ _ (by decide) (by decide) small, State.reg_setReg _ _ hc]
    exact Nat.mod_eq_of_lt (by change _ < 2 ^ 32; omega)

end ShowResult

/-- The entry of a result in the capture queue, before its number is known (R73, R137). -/
def State.resultEntry (s : State) (c v e sub : Nat) (m : Bool) : CapEntry :=
  { seq64 := 0, stamp := v, signal := noSignal, epoch := e, base := s.reg CELL.CELLc_CTRL.BASE c, subNs := sub
    late := false, queueLoss := (s.cells.cell.get c).lossOwed, measure := m, source := 0x5000 + c }

section Publish
variable {s : State} {c v e sub : Nat} {m w : Bool} (hc : c < 4096)
include hc

theorem State.publish_shown (h : s.flag CELL.CELLc_STAT.CQ c = false ∨ s.ingressOn = false) :
    s.publish c v e sub m w = s.showResult c v := by
  refine if_pos ?_
  change (!(s.showResult c v).flag CELL.CELLc_STAT.CQ c || !(s.showResult c v).ingressOn) = true
  rw [s.showResult_cq v hc, s.showResult_ingressOn]
  rcases h with h | h <;> simp [h]

variable (hq : s.flag CELL.CELLc_STAT.CQ c = true) (hi : s.ingressOn = true)
include hq hi

theorem State.publish_queued :
    s.publish c v e sub m w = (if w then s.showResult c v else (s.showResult c v).drainFifos).passCapture c
      ((s.showResult c v).resultEntry c v e sub m) w := by
  refine if_neg ?_
  change ¬(!(s.showResult c v).flag CELL.CELLc_STAT.CQ c || !(s.showResult c v).ingressOn) = true
  rw [s.showResult_cq v hc, s.showResult_ingressOn, hq, hi]
  decide

/-- While nothing is passed on, the entry meets the FIFO as it is. -/
theorem State.publish_held (hb : s.rateFree = false ∨ w = true) :
    s.publish c v e sub m w = (s.showResult c v).passCapture c ((s.showResult c v).resultEntry c v e sub m) w := by
  rw [State.publish_queued hc hq hi]
  cases w with
  | true => rfl
  | false =>
    have spent : s.rateFree = false := by simpa using hb
    rw [if_neg (by decide), State.drainFifos_spent ((s.showResult_rateFree c v).trans spent)]

end Publish

/-- Settles O18, by whether the result is queued and what the FIFO does with it. -/
theorem resultsArePublished : Obligations.ResultsArePublished := by
  intro s c v e sub m w hc hv
  have cells := s.showResult_cells c v
  have host := s.showResult_host v hc
  have held (hb : s.rateFree = false ∨ w = true) : (s.showResult c v).rateFree = false ∨ w = true := by rwa [s.showResult_rateFree]
  refine ⟨fun h => ?shown, fun hq hi hb hl => ?lost, fun hq hi hf hr hw => ?granted, fun hq hi hf hb => ?waits⟩
  case shown =>
    rw [State.publish_shown hc h]
    obtain ⟨lo, hi, fired⟩ := s.showResult_reads hc hv
    exact ⟨lo, hi, fired, s.showResult_img c v, s.showResult_kept c v⟩
  case lost =>
    rw [State.publish_held hc hq hi hb, State.passCapture_lost (held hb) (by rw [cells, host]; exact hl)]
    refine ⟨?_, ?_, ?_, ?_⟩
    · exact (State.reg_addReg_other _ _ _ _ _ _ (by decide) (by decide) (by omega)).trans (State.reg_setReg _ _ hc)
    · exact ((State.addReg_img ..).trans (State.setReg_img ..)).trans (s.showResult_img c v)
    · refine (State.reg_addReg _ _ (by decide)).trans ?_
      rw [State.reg_setReg_other _ _ _ _ _ _ (by decide) (by decide) (by decide), (s.showResult_kept c v).reg _ _ (by decide) (by decide)]
    · simp [State.updCell, Tab.get_upd]
  case granted =>
    subst hw
    have empty : (s.showResult c v).cells.fifo = [] := by rw [cells]; exact hf
    rw [State.publish_queued hc hq hi, if_neg (by decide), State.drainFifos_nil empty,
      State.passCapture_granted (by rw [empty]; rfl) ((s.showResult_rateFree c v).trans hr), State.grantCapture_seq]
    exact congrArg (fun x => wrap 64 (x.seq + 1)) (s.showResult_img c v)
  case waits =>
    have empty : (s.showResult c v).cells.fifo.get ((s.showResult c v).hostOf (strandOf c)) = [] := by rw [cells, hf]; rfl
    obtain ⟨img, fifo⟩ := State.passCapture_waits (c := c) (e := (s.showResult c v).resultEntry c v e sub m) (held hb)
      (by rw [empty]; decide)
    rw [State.publish_held hc hq hi hb]
    rw [empty, host] at fifo
    exact ⟨img.trans (s.showResult_img c v), by rw [fifo]; rfl⟩

/-! ### Edges (O17) -/

/-- A cell that records keeps no edge: its strand is not restarting (R148, R526). -/
theorem State.keepsEdge_of_records {s : State} {c mode : Nat} (h : s.records c mode = true) : s.keepsEdge c mode = false := by
  simp only [State.records, State.cellLive, Bool.and_eq_true, beq_iff_eq] at h
  obtain ⟨_, _, resumed⟩ := h
  unfold State.keepsEdge State.hostOf
  simp only [resumed, bne_self_eq_false, Bool.and_false]

section CaptureEdge
variable {s : State} {t c at_ : Nat} {r w : Bool}

theorem exec_captureEdge_kept (h : (s.advance t).keepsEdge c CellMode.capture = true) :
    exec (.captureEdge t c at_ r w) s = .next ((s.advance t).keepEdge c at_ r) := if_pos h

theorem exec_captureEdge (h : (s.advance t).records c CellMode.capture = true) :
    exec (.captureEdge t c at_ r w) s = .next ((s.advance t).captureEdge c at_ r w) :=
  if_neg (by rw [State.keepsEdge_of_records h]; decide)

/-- The edge is one of those RULE.EDGE selects (R137). -/
def State.selectsEdge (s : State) (c : Nat) (r : Bool) : Prop :=
  s.reg CELL.CELLc_RULE.EDGE c = 2 ∨ (s.reg CELL.CELLc_RULE.EDGE c = 0 ∧ s.edgeRises c r = true) ∨
    (s.reg CELL.CELLc_RULE.EDGE c = 1 ∧ s.edgeRises c r = false)

variable (h : s.records c CellMode.capture = true) (hs : s.selectsEdge c r)
include h hs

theorem State.captures : ¬(!s.records c CellMode.capture ∨ !(s.reg CELL.CELLc_RULE.EDGE c == 2 ||
    (s.reg CELL.CELLc_RULE.EDGE c == 0 && s.edgeRises c r) || (s.reg CELL.CELLc_RULE.EDGE c == 1 && !s.edgeRises c r))) := by
  rcases hs with hs | ⟨hs, hr⟩ | ⟨hs, hr⟩
  · simp [h, hs]
  · simp [h, hs, hr]
  · simp [h, hs, hr]

theorem State.captureEdge_second (hf : (s.cells.cell.get c).lastFrame = frameOf (s.seenAt c at_)) :
    s.captureEdge c at_ r w = s.setReg CELL.CELLc_STAT.OVF c 1 := (if_neg (State.captures h hs)).trans (if_pos hf)

theorem State.captureEdge_stamps (hf : (s.cells.cell.get c).lastFrame ≠ frameOf (s.seenAt c at_)) :
    let u := s.updCell c (fun d => { d with lastFrame := frameOf (s.seenAt c at_) })
    let p := u.asOf (u.edgeInstant c at_)
    s.captureEdge c at_ r w = (u.publish c (p.baseVal (s.reg CELL.CELLc_CTRL.BASE c)) (p.baseEpoch (s.reg CELL.CELLc_CTRL.BASE c))
      (p.baseSub (s.reg CELL.CELLc_CTRL.BASE c)) false w).blockInterrupt c := (if_neg (State.captures h hs)).trans (if_neg hf)

end CaptureEdge

section WindowEdge
variable {s : State} {t c at_ : Nat} {r w : Bool}

theorem exec_windowEdge_kept (h : (s.advance t).keepsEdge c CellMode.window = true) :
    exec (.windowEdge t c at_ r w) s = .next ((s.advance t).keepEdge c at_ r) := if_pos h

theorem exec_windowEdge (h : (s.advance t).records c CellMode.window = true) :
    exec (.windowEdge t c at_ r w) s = .next ((s.advance t).windowEdge c at_ r w) :=
  if_neg (by rw [State.keepsEdge_of_records h]; decide)

/-- The edge is of the kind a measurement waits for: one that ends it while it is active, else one that starts it (R138). -/
def State.meetsEdge (s : State) (c : Nat) (r : Bool) : Prop :=
  (if (s.cells.cell.get c).winActive then endsWindow (s.reg CELL.CELLc_RULE.EDGE c) (s.edgeRises c r)
    else startsWindow (s.reg CELL.CELLc_RULE.EDGE c) (s.edgeRises c r)) = true

variable (h : s.records c CellMode.window = true)
include h

theorem State.measures (hm : s.meetsEdge c r) : ¬(!s.records c CellMode.window ∨
    !(if (s.cells.cell.get c).winActive then endsWindow (s.reg CELL.CELLc_RULE.EDGE c) (s.edgeRises c r)
      else startsWindow (s.reg CELL.CELLc_RULE.EDGE c) (s.edgeRises c r))) := by
  unfold State.meetsEdge at hm
  rw [h, hm]
  decide

theorem State.windowEdge_second (hm : s.meetsEdge c r) (hf : (s.cells.cell.get c).lastFrame = frameOf (s.seenAt c at_)) :
    s.windowEdge c at_ r w = s.setReg CELL.CELLc_STAT.OVF c 1 := (if_neg (State.measures h hm)).trans (if_pos hf)

variable (hf : (s.cells.cell.get c).lastFrame ≠ frameOf (s.seenAt c at_))
include hf

theorem State.windowEdge_starts (ha : (s.cells.cell.get c).winActive = false)
    (hs : startsWindow (s.reg CELL.CELLc_RULE.EDGE c) (s.edgeRises c r) = true) :
    let u := s.updCell c (fun d => { d with lastFrame := frameOf (s.seenAt c at_) })
    let p := u.asOf (u.edgeInstant c at_)
    let b := s.reg CELL.CELLc_CTRL.BASE c
    s.windowEdge c at_ r w = u.startWindow c (p.baseVal b) (p.baseSub b) (p.baseEpoch b) := by
  have meets : s.meetsEdge c r := by rw [State.meetsEdge, ha]; exact hs
  exact (if_neg (State.measures h meets)).trans ((if_neg hf).trans (if_pos (by rw [ha]; rfl)))

variable (ha : (s.cells.cell.get c).winActive = true)
  (he : endsWindow (s.reg CELL.CELLc_RULE.EDGE c) (s.edgeRises c r) = true)
  (hs : startsWindow (s.reg CELL.CELLc_RULE.EDGE c) (s.edgeRises c r) = false)
include ha he hs

/-- An edge that completes a measurement and starts none (R138). -/
theorem State.windowEdge_ends :
    let u := s.updCell c (fun d => { d with lastFrame := frameOf (s.seenAt c at_) })
    let p := u.asOf (u.edgeInstant c at_)
    let b := s.reg CELL.CELLc_CTRL.BASE c
    let d := s.cells.cell.get c
    let off := u.updCell c (fun d => { d with winActive := false })
    let diff4 := diffMod 66 (p.baseVal b * 4 + p.baseSub b) (d.winStart * 4 + d.winSub)
    s.windowEdge c at_ r w = if d.winEpoch ≠ p.baseEpoch b then off
      else off.publish c (diff4 / 4) (p.baseEpoch b) (if off.baseKind b = 0 then diff4 % 4 else 0) true w := by
  have meets : s.meetsEdge c r := by rw [State.meetsEdge, ha]; exact he
  exact (if_neg (State.measures h meets)).trans ((if_neg hf).trans ((if_neg (by rw [ha]; decide)).trans (if_neg (by rw [hs]; decide))))

end WindowEdge

theorem exec_windowTimeout {s : State} {t c : Nat} {w : Bool} (h : (s.advance t).records c CellMode.window = true)
    (ha : (s.cells.cell.get c).winActive = true)
    (hp : s.cellPeriod c ≤ diffMod 64 ((s.advance t).baseVal (s.reg CELL.CELLc_CTRL.BASE c)) (s.cells.cell.get c).winStart) :
    exec (.windowTimeout t c w) s = .next (((s.advance t).updCell c (fun d => { d with winActive := false })).publish c (2 ^ 64 - 1)
      (s.cells.cell.get c).winEpoch 0 true w) := by
  refine if_pos ?_
  rw [h, Bool.true_and, Bool.and_eq_true, decide_eq_true_eq]
  exact ⟨ha, hp⟩

/-- Settles O17, by what the edge is for the cell. -/
theorem captureAndWindowStamps : Obligations.CaptureAndWindowStamps := by
  refine ⟨fun s t c at_ r w h hs => ⟨fun hf => ?second, fun hf => ?stamps⟩, fun s t c at_ r w h hf => ⟨fun ha hs => ?starts, ?_, ?_⟩,
    fun s t c at_ r w h hm hf => ?overflow, fun s t c w h ha hp => ⟨_, exec_windowTimeout h ha hp, rfl⟩,
    fun s t c at_ r w h => ⟨_, exec_captureEdge_kept h, rfl⟩, fun s t c at_ r w h => ⟨_, exec_windowEdge_kept h, rfl⟩⟩
  case second => exact completes_of_exec (exec_captureEdge h) (State.captureEdge_second h hs hf) rfl
  case stamps => exact completes_of_exec (exec_captureEdge h) (State.captureEdge_stamps h hs hf) rfl
  case starts => exact completes_of_exec (exec_windowEdge h) (State.windowEdge_starts h hf ha hs) rfl
  case overflow => exact completes_of_exec (exec_windowEdge h) (State.windowEdge_second h hm hf) rfl
  · intro ha he hs hd
    exact completes_of_exec (exec_windowEdge h) (State.windowEdge_ends h hf ha he hs) (if_pos hd)
  · intro ha he hs hd
    exact completes_of_exec (exec_windowEdge h) (State.windowEdge_ends h hf ha he hs) (if_neg (fun n => n hd))

end Sys2Proof.Machine

/-! ## Commits of cycles (03_cycle_and_tasks.md) -/

namespace Sys2Proof.Machine

/-! ### SCOMMIT of an ASYNC task (O12)

The key of a task number of 2^20 or more is a key of a later field. CURTASK holds 8 bits in a sound register table (R124), but the statement asks
for no sound table. -/

/-- The cycle of task `x` hands over its flags and energy and leaves the core (R106, R120). -/
def State.handOver (s : State) (b x f e : Nat) : State :=
  (s.updTask x (fun d => { d with phase := .committing, scFlags := f, pendEnergy := e, meterBlock := b })).leaveCore x

theorem exec_scommit_goes_on {s : State} {t b r f x : Nat} (pc e : Nat) (hr : isScommit r = true) (hx : s.cycleTask b = some x)
    (hf : wrap 64 f < 4) (hk : s.tKind x ≠ TaskKind.error) (ha : ((s.advance t).handOver b x f e).syncWaits x = false) :
    exec (.scommit t b pc r f e) s = .next ((s.advance t).handOver b x f e) := by
  have task : (if isScommit r then (s.advance t).cycleTask b else none) = some x := (if_pos hr).trans hx
  have served : (s.advance t).consumeInvocation x f = s.advance t := if_pos hk
  have go : ((((s.advance t).consumeInvocation x f).updTask x (fun d => { d with
      phase := .committing, scFlags := f, pendEnergy := e, meterBlock := b })).leaveCore x).syncWaits x = false := by rw [served]; exact ha
  simp only [exec, execScommit, task, Nat.not_le.mpr hf, if_false, go, Bool.false_eq_true]
  rw [served]
  rfl

/-- A task number so large that its key of TASKt_STATE.STATE is the key of block 0's CURVALID. -/
def strayTask : Nat := (BLK.STATUS.CURVALID.id - TASK.TASKt_STATE.STATE.id) * 2 ^ 20

theorem State.tState_strayTask (s : State) : s.tState strayTask = s.reg BLK.STATUS.CURVALID 0 := rfl

/-- A unit on whose block 0 the cycle of that task, an ASYNC one, runs. -/
def State.runsStrayTask : State :=
  { State.reset with
    regs := ((Tab.set [] (TASK.TASKt_CFG.ASYNC.key strayTask) 1).set (BLK.STATUS.CURTASK.key 0) strayTask).set (BLK.STATUS.CURVALID.key 0) 1
    tasks := { State.reset.tasks with task := [(strayTask, { (default : TaskDyn) with phase := .running })] } }

theorem State.runsStrayTask_cycleTask : State.runsStrayTask.cycleTask 0 = some strayTask := by decide +kernel

/-- Refutes O12: with SCOMMIT the core of block 0 has no task, CURVALID reads 0, and so does the STATE of the task whose key it shares, which read 1
before. -/
theorem not_cyclesCommit : ¬ Obligations.CyclesCommit := by
  rintro ⟨_, _, async, _⟩
  obtain ⟨s', run, _, _, _, stateKept, _⟩ := async State.runsStrayTask 0 0 0 0x100B 0 0 strayTask (by decide +kernel)
    State.runsStrayTask_cycleTask (by decide) (by decide +kernel) (by decide +kernel)
  rw [exec_scommit_goes_on _ _ (by decide +kernel) State.runsStrayTask_cycleTask (by decide) (by decide +kernel) (by decide +kernel),
    Host.Outcome.next.injEq] at run
  have before : State.runsStrayTask.reg BLK.STATUS.CURVALID 0 = 1 := by decide +kernel
  have after : ((State.runsStrayTask.advance 0).handOver 0 strayTask 0 0).reg BLK.STATUS.CURVALID 0 = 0 := by decide +kernel
  rw [← run, State.tState_strayTask, State.tState_strayTask, after, before] at stateKept
  exact absurd stateKept (by decide)

end Sys2Proof.Machine

/-! ## Cycles of tasks (03_cycle_and_tasks.md) -/

namespace Sys2Proof.Machine

/-! ### Frames of the operations on tasks and cores

What an update of a task, a core that takes or leaves a task, and a mirrored record of a task leave alone. -/

theorem State.task_updTask (s : State) (x : Nat) (f : TaskDyn → TaskDyn) (y : Nat) :
    (s.updTask x f).task y = if y = x then f (s.task x) else s.task y := Tab.get_upd ..

/-- Only the register table differs. -/
def State.regsOnly (s s' : State) : Prop := s' = { s with regs := s'.regs }

theorem State.regsOnly_setReg (s : State) (f : Fld) (i v : Nat) : s.regsOnly (s.setReg f i v) := s.setReg_frame f i v

theorem State.regsOnly.trans {s s' s'' : State} (h : s.regsOnly s') (h' : s'.regsOnly s'') : s.regsOnly s'' := by
  unfold State.regsOnly at *
  rw [h', h]

/-! #### A core takes a task, or is left by it -/

theorem State.freeCore_only (s : State) (b : Nat) :
    s.regsOnly (s.freeCore b) ∧ s.regsKeptBut (s.freeCore b) [BLK.STATUS.CURVALID, BLK.STATUS.STATE] := by
  have left := (s.regsKeptBut_refl [BLK.STATUS.CURVALID, BLK.STATUS.STATE]).setReg (f := BLK.STATUS.CURVALID) (i := b) (v := 0)
    (by simp) (by decide)
  unfold State.freeCore
  dsimp only
  split
  · exact ⟨(s.regsOnly_setReg ..).trans (State.regsOnly_setReg ..), left.setReg (by simp) (by decide)⟩
  · exact ⟨s.regsOnly_setReg .., left⟩

theorem State.leaveCore_kept (s : State) (x : Nat) : s.regsKeptBut (s.leaveCore x) [BLK.STATUS.CURVALID, BLK.STATUS.STATE] := by
  unfold State.leaveCore
  dsimp only
  split
  · exact (State.freeCore_only _ _).2
  · exact State.regsKeptBut_of_regs _ rfl

theorem State.leaveCore_frame (s : State) (x : Nat) :
    s.leaveCore x = { s with
      regs := (s.leaveCore x).regs, tasks := { s.tasks with preempted := (s.leaveCore x).tasks.preempted } } := by
  unfold State.leaveCore
  dsimp only
  split
  · have free := (State.freeCore_only ({ s with tasks := { s.tasks with
      preempted := s.tasks.preempted.upd (s.tBlock x) (fun l => l.filter (fun y => y != x)) } }) (s.tBlock x)).1
    unfold State.regsOnly at free
    rw [free]
  · rfl

@[simp] theorem State.leaveCore_now (s : State) (x : Nat) : (s.leaveCore x).now = s.now := by rw [State.leaveCore_frame]
@[simp] theorem State.leaveCore_img (s : State) (x : Nat) : (s.leaveCore x).img = s.img := by rw [State.leaveCore_frame]
@[simp] theorem State.leaveCore_out (s : State) (x : Nat) : (s.leaveCore x).out = s.out := by rw [State.leaveCore_frame]
@[simp] theorem State.leaveCore_task (s : State) (x y : Nat) : (s.leaveCore x).task y = s.task y := by
  rw [State.leaveCore_frame]
  rfl

theorem State.takeCore_only (s : State) (b x : Nat) : s.regsOnly (s.takeCore b x) ∧
    s.regsKeptBut (s.takeCore b x) [BLK.STATUS.CURTASK, BLK.STATUS.CURVALID, BLK.STATUS.CURCLASS, BLK.STATUS.STATE] := by
  have shown : s.regsOnly (((s.setReg BLK.STATUS.CURTASK b x).setReg BLK.STATUS.CURVALID b 1).setReg BLK.STATUS.CURCLASS b (s.tClass x)) ∧
      s.regsKeptBut (((s.setReg BLK.STATUS.CURTASK b x).setReg BLK.STATUS.CURVALID b 1).setReg BLK.STATUS.CURCLASS b (s.tClass x))
        [BLK.STATUS.CURTASK, BLK.STATUS.CURVALID, BLK.STATUS.CURCLASS, BLK.STATUS.STATE] :=
    ⟨((s.regsOnly_setReg ..).trans (State.regsOnly_setReg ..)).trans (State.regsOnly_setReg ..),
      (((s.regsKeptBut_refl _).setReg (by simp) (by decide)).setReg (by simp) (by decide)).setReg (by simp) (by decide)⟩
  obtain ⟨only, kept⟩ := shown
  unfold State.takeCore
  dsimp only
  split
  · exact ⟨only.trans (State.regsOnly_setReg ..), kept.setReg (by simp) (by decide)⟩
  · exact ⟨only, kept⟩

/-! #### The state of a task changes -/

theorem State.tState_setTState (s : State) {x : Nat} (st : Nat) (hx : x < 256) : (s.setTState x st).tState x = wrap 4 st :=
  State.reg_setReg s st hx

theorem State.setTState_kept (s : State) (x st : Nat) : s.regsKeptBut (s.setTState x st) [TASK.TASKt_STATE.STATE] :=
  State.setReg_kept _ _ _ _ _ (by simp) (by decide)

/-- A yielded task of the block may be resumable from now on; nothing else changes (R98). -/
theorem State.markResumable_only (s : State) (b : Nat) :
    s.markResumable b = { s with tasks := (s.markResumable b).tasks } ∧
      ∀ x, ∃ r n, (s.markResumable b).task x = { s.task x with resumable := r, resumeSince := n } := by
  refine State.each_induct (P := fun s' => s' = { s with tasks := s'.tasks } ∧
    ∀ x, ∃ r n, s'.task x = { s.task x with resumable := r, resumeSince := n }) _ _ (fun s' y _ h => ?_) ⟨rfl, fun x => ⟨_, _, rfl⟩⟩
  obtain ⟨frame, tasks⟩ := h
  refine ⟨?_, fun x => ?_⟩
  · rw [frame]
    rfl
  · rw [State.task_updTask]
    split
    · next hy =>
      subst hy
      obtain ⟨_, _, hx⟩ := tasks x
      exact ⟨s'.estimatePaid x, s'.now, by rw [hx]⟩
    · exact tasks x

/-! #### Records of the mirror stream -/

/-- The registers that a mirrored record changes (R222, R226, R228). -/
def mirrorFlds : List Fld :=
  [PAIR.MSEQ_SENT.MSEQ, PAIR.MQFILL.USED, PAIR.MQFILL.FULL, PAIR.STAT.BUMPLESS, PAIR.STAT.NBWHY] ++ recorderFlds

/-- An operation that sends records changes no task, no instant, and no register but those of the stream. -/
def State.mirrorOnly (s s' : State) : Prop := s'.tasks = s.tasks ∧ s'.now = s.now ∧ s.regsKeptBut s' mirrorFlds

theorem State.mirrorOnly_refl (s : State) : s.mirrorOnly s := ⟨rfl, rfl, s.regsKeptBut_refl _⟩

theorem State.mirrorOnly.trans {s s' s'' : State} (h : s.mirrorOnly s') (h' : s'.mirrorOnly s'') : s.mirrorOnly s'' := by
  obtain ⟨tasks, now, regs⟩ := h
  obtain ⟨tasks', now', regs'⟩ := h'
  exact ⟨tasks'.trans tasks, now'.trans now, regs.trans regs'⟩

theorem State.mirrorOnly_setReg (s : State) (f : Fld) (i v : Nat) (hf : f ∈ mirrorFlds) (hc : f.count ≤ 2 ^ 20) :
    s.mirrorOnly (s.setReg f i v) := ⟨State.setReg_tasks .., State.setReg_now .., State.setReg_kept _ _ _ _ _ hf hc⟩

theorem State.mirrorOnly_record (s : State) (code inst : Nat) (sev : Severity) (ps : List (Nat × Nat)) (inj : Bool) :
    s.mirrorOnly (s.record code inst sev ps inj) := by
  obtain ⟨regs, _, frame⟩ := s.record_only code inst sev ps inj
  exact ⟨by rw [frame], by rw [frame], regs.mono (fun _ h => List.mem_append_right _ h)⟩

theorem State.notBumpless_only (s : State) (why : Nat) : s.mirrorOnly (s.notBumpless why) := by
  unfold State.notBumpless
  split
  · exact (((s.mirrorOnly_setReg PAIR.STAT.BUMPLESS 0 0 (by simp [mirrorFlds]) (by decide)).trans
      (State.mirrorOnly_setReg _ PAIR.STAT.NBWHY 0 why (by simp [mirrorFlds]) (by decide))).trans (State.mirrorOnly_record ..)).trans
      ⟨rfl, rfl, State.regsKeptBut_of_regs _ rfl⟩
  · exact s.mirrorOnly_setReg PAIR.STAT.NBWHY 0 why (by simp [mirrorFlds]) (by decide)

theorem State.queueMirror_only (s : State) (h : Share) (body : MBody) (sync last bulk : Bool) (n : Nat) (task : Option Nat) :
    s.mirrorOnly (s.queueMirror h body sync last bulk n task) := by
  have numbered := s.mirrorOnly_setReg PAIR.MSEQ_SENT.MSEQ 0 (wrap 32 (s.reg PAIR.MSEQ_SENT.MSEQ + 1)) (by simp [mirrorFlds]) (by decide)
  unfold State.queueMirror State.showFill
  refine numbered.trans (State.mirrorOnly.trans ?_ (State.mirrorOnly_setReg _ PAIR.MQFILL.USED 0 _ (by simp [mirrorFlds]) (by decide)))
  exact ⟨rfl, rfl, State.regsKeptBut_of_regs _ rfl⟩

theorem State.overflowMirror_only (s : State) : s.mirrorOnly s.overflowMirror := by
  have numbered := s.mirrorOnly_setReg PAIR.MSEQ_SENT.MSEQ 0 (wrap 32 (s.reg PAIR.MSEQ_SENT.MSEQ + 1)) (by simp [mirrorFlds]) (by decide)
  have told := numbered.trans (State.queueMirror_only _ .sync (.grant (wrap 32 (s.reg PAIR.MSEQ_SENT.MSEQ + 1))) false true false 0 none)
  have owed (u : State) (b : Bool) : u.mirrorOnly { u with pair := { u.pair with feedOwed := b } } :=
    ⟨rfl, rfl, State.regsKeptBut_of_regs _ rfl⟩
  exact ((told.trans (owed _ _)).trans (State.mirrorOnly_setReg _ PAIR.MQFILL.FULL 0 1 (by simp [mirrorFlds]) (by decide))).trans
    (State.notBumpless_only ..)

theorem State.sendMirror_only (s : State) (h : Share) (body : MBody) (sync last : Bool) (n : Nat) (task : Option Nat) (bulk : Bool) :
    s.mirrorOnly (s.sendMirror h body sync last n task bulk) := by
  unfold State.sendMirror
  split
  · exact s.mirrorOnly_refl
  · split
    · exact s.overflowMirror_only
    · dsimp only
      split
      · exact State.queueMirror_only ..
      · exact (s.mirrorOnly_setReg PAIR.MQFILL.FULL 0 1 (by simp [mirrorFlds]) (by decide)).trans (State.queueMirror_only ..)

theorem State.mirrorTask_only (s : State) (x : Nat) : s.mirrorOnly (s.mirrorTask x) := by
  unfold State.mirrorTask
  split
  · exact State.sendMirror_only ..
  · exact s.mirrorOnly_refl

/-! ### A dispatch decision (O9)

A class A task above its quota is recorded before its cycle starts (R166); the record changes neither a task nor a core. -/

theorem State.noteAboveQuota_only (s : State) (x : Nat) :
    s.regsKeptBut (s.noteAboveQuota x) recorderFlds ∧ (s.noteAboveQuota x).now = s.now := by
  unfold State.noteAboveQuota
  dsimp only
  split
  · have only := State.record_only { s with kettle := { s.kettle with aboveQuota := s.kettle.aboveQuota.set x (s.quota (s.tBlock x) + 1) } }
      0x005 x .warning [(3, min (s.cost x) 0xFFFFFF), (3, min (s.quota (s.tBlock x)) 0xFFFFFF)] false
    exact ⟨only.1, only.frame.1⟩
  · exact ⟨s.regsKeptBut_refl _, rfl⟩

theorem State.current_of_kept {s s' : State} {fs : List Fld} (h : s.regsKeptBut s' fs) (hv : ∀ g ∈ fs, g.id ≠ BLK.STATUS.CURVALID.id)
    (ht : ∀ g ∈ fs, g.id ≠ BLK.STATUS.CURTASK.id) {b : Nat} (hb : b < 16) : s'.current b = s.current b := by
  unfold State.current State.flag
  rw [h.reg _ b (by omega) hv, h.reg _ b (by omega) ht]

theorem State.preempt_idle {s : State} {b : Nat} (h : s.current b = none) : s.preempt b = s := by simp [State.preempt, h]

section Dispatch
variable {s : State} {b : Nat}

theorem State.dispatch_out_of_service (h : s.blockServes b = false) (hm : s.reg BLK.STATUS.STATE b ≠ BlockState.movingOut) :
    s.dispatch b = s := by
  simp [State.dispatch, h, hm]

theorem State.not_movingOut_of_blockServes (h : s.blockServes b = true) : (s.reg BLK.STATUS.STATE b == BlockState.movingOut) = false := by
  rw [beq_eq_false_iff_ne]
  intro moving
  rw [State.blockServes, moving] at h
  exact absurd h (by decide)

/-- The ready task of the highest class that has been ready longest starts on an idle core none of whose tasks can resume (R98). -/
theorem State.dispatch_starts {c u : Nat} (hb : b < 16) (h : s.blockServes b = true) :
    let a := (s.promote b).markResumable b
    let ready := (a.tasksOn b).filter (fun x => a.tState x == TaskState.ready)
    a.current b = none → (a.tasksOn b).filter a.canResume = [] → a.topClass ready = some c →
    firstBy (fun x => (a.task x).readySince) (ready.filter (fun x => a.tClass x == c)) = some u →
    (a.tasks.preempted.get b).find? (fun x => a.tClass x == c) = none → (a.noteAboveQuota u).covers u = true →
    s.dispatch b = (a.noteAboveQuota u).startCycle b u := by
  unfold State.dispatch
  simp only [h, State.not_movingOut_of_blockServes h, Bool.not_true, Bool.false_and, Bool.false_eq_true, if_false]
  generalize (s.promote b).markResumable b = a
  intro idle none_resumes top longest none_preempted paid
  have still : (a.noteAboveQuota u).preempt b = a.noteAboveQuota u := by
    obtain ⟨kept, _⟩ := a.noteAboveQuota_only u
    exact State.preempt_idle ((State.current_of_kept kept (by decide) (by decide) hb).trans idle)
  simp only [none_resumes, List.append_nil, top, idle, Bool.not_true, Bool.false_eq_true, if_false, List.filter_nil, none_preempted,
    Option.isSome_none, firstBy, longest, paid, if_true, still]

end Dispatch

/-! #### A cycle starts (R96, R98, R104) -/

section StartCycle
variable (s : State) (b u : Nat)

/-- The core has the task whose cycle starts, and the task's pending wake count is taken. -/
def State.takeCycle : State :=
  let s := ((s.setTState u TaskState.running).takeCore b u).endResignGap
  if s.flag TASK.TASKt_CFG.WAKE u then s.setReg TASK.TASKt_WAKE.PENDING u 0 else s

/-- The registers that `takeCycle` changes beside the state of the task. -/
def cycleFlds : List Fld :=
  [BLK.STATUS.CURTASK, BLK.STATUS.CURVALID, BLK.STATUS.CURCLASS, BLK.STATUS.STATE, PAIR.LASTGAP.TIME, TASK.TASKt_WAKE.PENDING]

theorem State.endResignGap_only : s.regsKeptBut s.endResignGap [PAIR.LASTGAP.TIME] ∧ s.endResignGap.now = s.now := by
  unfold State.endResignGap
  split
  · exact ⟨s.regsKeptBut_refl _, rfl⟩
  · exact ⟨(State.setReg_kept s PAIR.LASTGAP.TIME 0 _ _ (by simp) (by decide)).trans (State.regsKeptBut_of_regs _ rfl), State.setReg_now ..⟩

theorem State.takeCycle_only : (s.setTState u TaskState.running).regsKeptBut (s.takeCycle b u) cycleFlds ∧ (s.takeCycle b u).now = s.now := by
  obtain ⟨core, kept⟩ := (s.setTState u TaskState.running).takeCore_only b u
  obtain ⟨gap, now⟩ := ((s.setTState u TaskState.running).takeCore b u).endResignGap_only
  have begun : (s.setTState u TaskState.running).regsKeptBut ((s.setTState u TaskState.running).takeCore b u).endResignGap cycleFlds :=
    (kept.mono (by simp [cycleFlds])).trans (gap.mono (by simp [cycleFlds]))
  have start : ((s.setTState u TaskState.running).takeCore b u).endResignGap.now = s.now := by
    rw [now, core]
    exact State.setReg_now ..
  unfold State.takeCycle
  dsimp only
  split
  · exact ⟨begun.setReg (by simp [cycleFlds]) (by decide), (State.setReg_now ..).trans start⟩
  · exact ⟨begun, start⟩

variable {u}

theorem State.startCycle_tState (hu : u < 256) : (s.startCycle b u).tState u = TaskState.running := by
  obtain ⟨_, _, sent⟩ := State.mirrorTask_only ((s.takeCycle b u).updTask u _) u
  obtain ⟨kept, _⟩ := s.takeCycle_only b u
  calc (s.startCycle b u).tState u = (s.takeCycle b u).tState u := sent.reg _ u (by omega) (by decide)
    _ = (s.setTState u TaskState.running).tState u := kept.reg _ u (by omega) (by decide)
    _ = TaskState.running := s.tState_setTState _ hu

/-- What the dispatcher notes of the cycle that starts: its input read, its instant, and the ceiling in force. -/
theorem State.startCycle_task (hu : u < 256) : ((s.startCycle b u).task u).phase = .reading ∧ ((s.startCycle b u).task u).startT = s.now ∧
    ((s.startCycle b u).task u).ceilAt = s.reg TASK.TASKt_CEIL.CEIL u := by
  obtain ⟨kept, now⟩ := s.takeCycle_only b u
  have ceiling : (s.takeCycle b u).reg TASK.TASKt_CEIL.CEIL u = s.reg TASK.TASKt_CEIL.CEIL u :=
    (kept.reg _ u (by omega) (by decide)).trans ((s.setTState_kept u _).reg _ u (by omega) (by decide))
  have noted : (s.startCycle b u).task u = _ :=
    (congrArg (fun l => l.task.get u) (State.mirrorTask_only ((s.takeCycle b u).updTask u _) u).1).trans
      ((State.task_updTask _ u _ u).trans (if_pos rfl))
  rw [noted]
  exact ⟨rfl, now, ceiling⟩

end StartCycle

theorem exec_dispatch (t b : Nat) (s : State) : exec (.dispatch t b) s = .next ((s.advance t).dispatch b) := rfl

/-- Settles O9, by `State.dispatch_starts` and what the start of a cycle does. -/
theorem dispatchStartsACycle : Obligations.DispatchStartsACycle := by
  refine ⟨?starts, fun s t b h hm => completes_of_exec (exec_dispatch t b s) (State.dispatch_out_of_service h hm) rfl⟩
  case starts =>
    intro s t b c u a hb hs idle none_resumes top longest none_preempted paid hu
    have chosen := State.dispatch_starts (s := s.advance t) hb hs idle none_resumes top longest none_preempted paid
    obtain ⟨kept, now⟩ := a.noteAboveQuota_only u
    obtain ⟨phase, start, ceiling⟩ := (a.noteAboveQuota u).startCycle_task b hu
    exact completes_of_exec (exec_dispatch t b s) chosen
      ⟨rfl, State.startCycle_tState _ b hu, phase, start.trans now, ceiling.trans (kept.reg _ u (by omega) (by decide))⟩

end Sys2Proof.Machine

namespace Sys2Proof.Machine

/-! ### The instructions of a cycle (O10)

The end of the input read calls the entry of the task with arguments by the task's kind (R103). -/

/-- The arguments of a task's entry when its view holds `n` capture entries. -/
def State.entryArgs (s : State) (x n : Nat) : List Nat :=
  match s.tKind x == TaskKind.error, (s.task x).invocations with
  | true, v :: _ => [x, v.failed.getD (2 ^ 64 - 1), v.cause, v.detail, (s.tasks.cfg.get x).viewAddr, n]
  | _, _ => [x, (s.task x).prevSeq, s.img.seq, (s.tasks.cfg.get x).viewAddr, (s.task x).wakeTaken, n]

theorem State.entryArgs_other {s : State} {x : Nat} (n : Nat) (h : s.tKind x ≠ TaskKind.error) :
    s.entryArgs x n = [x, (s.task x).prevSeq, s.img.seq, (s.tasks.cfg.get x).viewAddr, (s.task x).wakeTaken, n] := by
  rw [State.entryArgs, beq_eq_false_iff_ne.mpr h]

theorem State.entryArgs_error {s : State} {x : Nat} {i : Invocation} {r : List Invocation} (n : Nat) (h : s.tKind x = TaskKind.error)
    (hi : (s.task x).invocations = i :: r) :
    s.entryArgs x n = [x, i.failed.getD (2 ^ 64 - 1), i.cause, i.detail, (s.tasks.cfg.get x).viewAddr, n] := by
  rw [State.entryArgs, beq_iff_eq.mpr h, hi]

/-! #### PWAIT (R119) -/

/-- The wait that a PWAIT at instant `now` begins. -/
def pwaitBegun (now r1 r2 : Nat) : PWaitSt :=
  { base := bitField 0 4 r2, target := wrap 64 r1, epoch := if bitOf 4 r2 then some (bitField 16 16 r2) else none
    deadline := now + us (bitField 32 32 r2) }

/-- A task leaves its core to wait. -/
def State.beginWait (s : State) (x : Nat) (p : PWaitSt) : State :=
  ((s.setTState x TaskState.waiting).leaveCore x).updTask x (fun d => { d with wait := some p, resumable := false })

section BeginWait
variable (s : State) {x : Nat} (p : PWaitSt)

theorem State.beginWait_tState (hx : x < 256) : (s.beginWait x p).tState x = TaskState.waiting :=
  ((State.leaveCore_kept _ x).reg _ x (by omega) (by decide)).trans (s.tState_setTState _ hx)

theorem State.beginWait_wait (x : Nat) : ((s.beginWait x p).task x).wait = some p := by
  rw [State.beginWait, State.task_updTask, if_pos rfl]

theorem State.beginWait_kept (x : Nat) :
    s.regsKeptBut (s.beginWait x p) [TASK.TASKt_STATE.STATE, BLK.STATUS.CURVALID, BLK.STATUS.STATE] :=
  (((s.setTState_kept x _).mono (by simp)).trans ((State.leaveCore_kept _ x).mono (by simp))).same rfl

theorem State.beginWait_img (x : Nat) : (s.beginWait x p).img = s.img := by
  simp [State.beginWait, State.setTState]

theorem State.beginWait_out (x : Nat) : (s.beginWait x p).out = s.out := by
  simp [State.beginWait, State.setTState]

end BeginWait

section Pwait
variable {s : State} {b w x : Nat} (t pc r1 r2 e : Nat)

theorem exec_pwait_illegal (h : isPwait w = false ∨ s.cycleTask b = none) :
    exec (.pwait t b pc w r1 r2 e) s = .next ((s.advance t).illegal b pc w e) := by
  have noTask : (if isPwait w then (s.advance t).cycleTask b else none) = none := by
    rcases h with h | h
    · rw [h]; rfl
    · exact (ite_eq_right_iff.mpr fun _ => h)
  simp only [exec, execPwait, noTask]

variable (hw : isPwait w = true) (hx : s.cycleTask b = some x)
include hw hx

theorem pwait_task : (if isPwait w then (s.advance t).cycleTask b else none) = some x := (if_pos hw).trans hx

theorem exec_pwait_now {st : Nat} (h : (s.advance t).pwaitNow (wrap 64 r1) r2 = some st) :
    let u := if st = 1 then (s.advance t).noteLate (bitField 0 4 r2) else s.advance t
    exec (.pwait t b pc w r1 r2 e) s = .next (u.emit (.coreResult b (st + u.baseEpoch (bitField 0 4 r2) * 2 ^ 16))) := by
  simp only [exec, execPwait, pwait_task t hw hx, h]

theorem exec_pwait_waits (h : (s.advance t).pwaitNow (wrap 64 r1) r2 = none) :
    exec (.pwait t b pc w r1 r2 e) s = .next ((s.advance t).beginWait x (pwaitBegun (max s.now t) r1 r2)) := by
  simp only [exec, execPwait, pwait_task t hw hx, h]
  rfl

end Pwait

theorem State.noteLate_baseEpoch (s : State) (b n : Nat) (hn : n < 2 ^ 20) : (s.noteLate b).baseEpoch n = s.baseEpoch n := by
  unfold State.noteLate State.baseEpoch
  rw [State.reg_addReg_other _ _ _ _ _ _ (by decide) (by decide) hn, State.reg_setReg_other _ _ _ _ _ _ (by decide) (by decide) hn]

/-! #### BYIELD (R121, R163) -/

/-- A task yields its core: it is charged, and its estimate is kept. -/
def State.yieldCore (s : State) (b x est e : Nat) : State :=
  let s := ((s.debit b e).setTState x TaskState.yielded).leaveCore x
  (s.updTask x (fun d => { d with
    estimate := wrap 64 est, charged := satAdd 64 d.charged e, yieldT := s.now, didYield := true, resumable := false
    firstPiece := if d.didYield then d.firstPiece else e })).markResumable b

section YieldCore
variable (s : State) (b est e : Nat) {x : Nat}

theorem State.yieldCore_tState (hx : x < 256) : (s.yieldCore b x est e).tState x = TaskState.yielded := by
  unfold State.yieldCore
  rw [(State.markResumable_only _ b).1]
  exact ((State.leaveCore_kept _ x).reg _ x (by omega) (by decide)).trans ((s.debit b e).tState_setTState _ hx)

theorem State.yieldCore_task (x : Nat) : ((s.yieldCore b x est e).task x).estimate = wrap 64 est ∧
    ((s.yieldCore b x est e).task x).yieldT = s.now ∧ ((s.yieldCore b x est e).task x).charged = satAdd 64 (s.task x).charged e := by
  have left : (((s.debit b e).setTState x TaskState.yielded).leaveCore x).task x = s.task x := by
    rw [State.leaveCore_task]
    simp [State.task, State.setTState, State.debit, State.setAccount]
  have instant : (((s.debit b e).setTState x TaskState.yielded).leaveCore x).now = s.now := by
    simp [State.setTState, State.debit, State.setAccount]
  unfold State.yieldCore
  obtain ⟨_, tasks⟩ := State.markResumable_only ((((s.debit b e).setTState x TaskState.yielded).leaveCore x).updTask x _) b
  obtain ⟨_, _, task⟩ := tasks x
  rw [task, State.task_updTask, if_pos rfl, left]
  exact ⟨rfl, instant, rfl⟩

theorem State.yieldCore_kept (x : Nat) : s.regsKeptBut (s.yieldCore b x est e)
    [KETTLE.BLKb_ACCT.ACCT, TASK.TASKt_STATE.STATE, BLK.STATUS.CURVALID, BLK.STATUS.STATE] := by
  unfold State.yieldCore
  rw [(State.markResumable_only _ b).1]
  exact (((State.setReg_kept s KETTLE.BLKb_ACCT.ACCT b _ _ (by simp) (by decide)).trans ((State.setTState_kept _ x _).mono (by simp))).trans
    ((State.leaveCore_kept _ x).mono (by simp))).same rfl

theorem State.yieldCore_img_out (x : Nat) : (s.yieldCore b x est e).img = s.img ∧ (s.yieldCore b x est e).out = s.out := by
  unfold State.yieldCore
  rw [(State.markResumable_only _ b).1]
  simp [State.setTState, State.debit, State.setAccount]

end YieldCore

section Byield
variable {s : State} {b w : Nat} (t pc est e : Nat)

theorem exec_byield_illegal (h : isByield w = false ∨ s.cycleTask b = none) :
    exec (.byield t b pc w est e) s = .next ((s.advance t).illegal b pc w e) := by
  have noTask : (if isByield w then (s.advance t).cycleTask b else none) = none := by
    rcases h with h | h
    · rw [h]; rfl
    · exact (ite_eq_right_iff.mpr fun _ => h)
  simp only [exec, execByield, noTask]

theorem exec_byield_yields {x : Nat} (hw : isByield w = true) (hx : s.cycleTask b = some x) :
    exec (.byield t b pc w est e) s = .next ((s.advance t).yieldCore b x est e) := by
  have task : (if isByield w then (s.advance t).cycleTask b else none) = some x := (if_pos hw).trans hx
  simp only [exec, execByield, task]
  rfl

end Byield

/-! #### The end of a wait (R119) -/

section PwaitEnd
variable {s : State} {x : Nat} {w : PWaitSt} (t : Nat) (hw : (s.task x).wait = some w)
include hw

theorem exec_pwaitEnd_reached (h : (s.advance t).waitReached w (min (max s.now t) w.deadline) = true) :
    exec (.pwaitEnd t x) s = .next ((s.advance t).endWait x 0) := by
  have wait : ((s.advance t).task x).wait = some w := hw
  simp only [exec, execPwaitEnd, wait]
  exact if_pos h

theorem exec_pwaitEnd_timeout (h : (s.advance t).waitReached w (min (max s.now t) w.deadline) = false) (hd : w.deadline ≤ max s.now t) :
    exec (.pwaitEnd t x) s = .next ((s.advance t).endWait x 2) := by
  have wait : ((s.advance t).task x).wait = some w := hw
  simp only [exec, execPwaitEnd, wait]
  exact (if_neg (Bool.eq_false_iff.mp h)).trans (if_pos hd)

end PwaitEnd

/-- Settles O10, instruction by instruction. -/
theorem cycleInstructions : Obligations.CycleInstructions := by
  refine ⟨?read, fun s t b pc w r1 r2 e x st hw hx h => ⟨fun other => ?now, fun late => ?late⟩,
    fun s t b pc w r1 r2 e x hw hx hlt h => ?waits, fun s t b pc w r1 r2 e h => ⟨_, exec_pwait_illegal t pc r1 r2 e h, rfl⟩,
    fun s t b pc w est e x hw hx hlt => ?yields, fun s t b pc w est e h => ⟨_, exec_byield_illegal t pc est e h, rfl⟩,
    fun s t x w hw h => ⟨_, exec_pwaitEnd_reached t hw h, rfl⟩, fun s t x w hw h hd => ⟨_, exec_pwaitEnd_timeout t hw h hd, rfl⟩⟩
  case read =>
    intro s t x a cfg q m seen l u words v reading onCore
    have run : exec (.inputReadDone t x) s = .next ((v.takeCan m x).emit (.entry x (s.entryArgs x l.length))) :=
      if_neg (not_or.mpr ⟨not_not.mpr reading, not_not.mpr onCore⟩)
    exact ⟨fun other => ⟨_, run, by rw [State.entryArgs_other _ other]⟩,
      fun i r error first => ⟨_, run, by rw [State.entryArgs_error _ error first]⟩⟩
  case now => exact ⟨_, exec_pwait_now t pc r1 r2 e hw hx h, by rw [if_neg other]; rfl⟩
  case late =>
    subst late
    have base : bitField 0 4 r2 < 2 ^ 20 := (Nat.mod_lt _ (by decide)).trans (by decide)
    refine ⟨_, exec_pwait_now t pc r1 r2 e hw hx h, ?_⟩
    simp only [if_true, State.noteLate_baseEpoch _ _ _ base]
    rfl
  case waits =>
    exact ⟨_, exec_pwait_waits t pc r1 r2 e hw hx h, State.beginWait_tState _ _ hlt, State.beginWait_wait _ _ x,
      State.beginWait_kept _ _ x, State.beginWait_img _ _ x, State.beginWait_out _ _ x⟩
  case yields =>
    obtain ⟨estimate, instant, charged⟩ := (s.advance t).yieldCore_task b est e x
    obtain ⟨img, out⟩ := (s.advance t).yieldCore_img_out b est e x
    exact ⟨_, exec_byield_yields t pc est e hw hx, State.yieldCore_tState _ b est e hlt, estimate, instant, charged,
      State.yieldCore_kept _ b est e x, img, out⟩

end Sys2Proof.Machine

namespace Sys2Proof.Machine

/-! ### Instructions of a core (R118)

An illegal instruction of a task faults the task, one of a core that runs no cycle restarts the block (R118). -/

section Illegal
variable {s : State} {b x : Nat} (pc w e : Nat)

theorem State.illegal_cycle (h : s.cycleTask b = some x) : s.illegal b pc w e = s.takeException b x 2 pc w TaskCause.illegal w e := by
  simp [State.illegal, h]

theorem State.illegal_noCycle (h : s.cycleTask b = none) : s.illegal b pc w e = s.blockRestart b 0 2 (some e) := by
  simp [State.illegal, h]

end Illegal

/-! ### SEQREAD (O11)

What the instruction does depends on whether the word is a SEQREAD, on SEL and on whether the core runs a cycle. The proof first
makes the test of the word a variable: left in place, the kernel would compute the fields of a symbolic word bit by bit. -/

/-- SEL 0, SEL 1 and SEL 2 of a SEQREAD, and everything R118 and R122 call illegal. -/
theorem exec_seqread_cases (t b pc w n e : Nat) (s : State) :
    (isSeqread (putField 20 5 w n) = true → n = 0 →
      exec (.seqread t b pc w n e) s = .next ((s.advance t).emit (.coreResult b s.img.seq))) ∧
    (∀ x, isSeqread (putField 20 5 w n) = true → n = 1 → s.cycleTask b = some x →
      exec (.seqread t b pc w n e) s = .next ((s.advance t).emit (.coreResult b (s.task x).snapshot))) ∧
    (∀ x, isSeqread (putField 20 5 w n) = true → n = 2 → s.cycleTask b = some x →
      exec (.seqread t b pc w n e) s = .next ((s.advance t).emit
        (.coreResult b (s.reg TASK.TASKt_LSEQ_LO.SEQ x + s.reg TASK.TASKt_LSEQ_HI.SEQ x * 2 ^ 32)))) ∧
    (isSeqread (putField 20 5 w n) = false ∨ 3 ≤ n ∨ (n ≠ 0 ∧ s.cycleTask b = none) →
      exec (.seqread t b pc w n e) s = .next ((s.advance t).illegal b pc (putField 20 5 w n) e)) := by
  have run : exec (.seqread t b pc w n e) s = execSeqread t b pc w n e s := rfl
  have cycle : (s.advance t).cycleTask b = s.cycleTask b := rfl
  rw [run]
  generalize hf : execSeqread = f
  delta execSeqread at hf
  subst hf
  generalize isSeqread = test
  dsimp only
  rw [cycle]
  generalize putField 20 5 w n = word
  refine ⟨?module, ?snapshot, ?last, ?illegal⟩
  case module =>
    rintro h rfl
    rw [h]
    rfl
  case snapshot =>
    rintro x h rfl hx
    rw [h, hx]
    rfl
  case last =>
    rintro x h rfl hx
    rw [h, hx]
    rfl
  case illegal =>
    intro h
    split
    · simp_all
    · simp_all
    · simp_all
    · rfl

/-- Settles O11, by the instruction's word and SEL and by whether the core runs a cycle. -/
theorem sequencesAreReadInACycle : Obligations.SequencesAreReadInACycle := by
  rintro s a t b pc w e rfl
  refine ⟨?module, fun x hx => ⟨?snapshot, ?last⟩, ?cycle, ?noCycle⟩
  case module =>
    obtain ⟨module, -⟩ := exec_seqread_cases t b pc w 0 e s
    exact fun h => ⟨_, module h rfl, rfl⟩
  case snapshot =>
    obtain ⟨-, snapshot, -⟩ := exec_seqread_cases t b pc w 1 e s
    exact fun h => ⟨_, snapshot x h rfl hx, rfl⟩
  case last =>
    obtain ⟨-, -, last, -⟩ := exec_seqread_cases t b pc w 2 e s
    exact fun h => ⟨_, last x h rfl hx, rfl⟩
  case cycle =>
    intro x n hx bad
    obtain ⟨-, -, -, illegal⟩ := exec_seqread_cases t b pc w n e s
    exact ⟨_, illegal (bad.symm.imp_right .inl), State.illegal_cycle _ _ _ hx⟩
  case noCycle =>
    intro n hx bad
    obtain ⟨-, -, -, illegal⟩ := exec_seqread_cases t b pc w n e s
    exact ⟨_, illegal (bad.symm.imp_right fun h => .inr ⟨h, hx⟩), State.illegal_noCycle _ _ _ hx⟩

end Sys2Proof.Machine

namespace Sys2Proof.Machine

/-! ## Faults and restarts of tasks (03_cycle_and_tasks.md) -/

/-! ### The end of a task's move (O14)

The statement bounds no task number where a move ends. A task number of 2^20 or more is a key of a later field. -/

/-- A task number so large that the key of its CURBLK is the key of the mirror stream's MSEQ_SENT, and that of its STATE the key of LASTGAP. -/
def wildTask : Nat := (PAIR.MSEQ_SENT.MSEQ.id - TASK.TASKt_STATE.CURBLK.id) * 2 ^ 20

theorem State.tBlock_wildTask (s : State) : s.tBlock wildTask = s.reg PAIR.MSEQ_SENT.MSEQ := rfl

theorem State.tState_wildTask (s : State) : s.tState wildTask = s.reg PAIR.LASTGAP.TIME := rfl

/-- An active unit that streams to a hot standby: its latest gap took 12 µs, it has sent no record yet, and on block 0 the CYCLIC task 0 is IDLE. -/
def State.movesWildTask : State :=
  { State.reset with
    mode := .active
    pair := { State.reset.pair with linkUp := true }
    regs := [(TASK.TASKt_CFG.KIND.key 0, TaskKind.cyclic), (TASK.TASKt_STATE.STATE.key 0, TaskState.idle),
      (PAIR.PARTNER.MODE.key 0, Mode.standby.code), (PAIR.PARTNER.VALID.key 0, 1), (PAIR.LASTGAP.TIME.key 0, TaskState.moving)]
    tasks := { State.reset.tasks with cfg := [(wildTask, { (default : TaskCfg) with mirrored := true })] } }

/-- The same unit when the record of the task's state has left. -/
def State.wildTaskMoved : State :=
  ((State.movesWildTask.advance 0).setTState wildTask ((State.movesWildTask.advance 0).restState wildTask)).mirrorTask wildTask

theorem State.movesWildTask_sound : State.movesWildTask.regsSound = true := by decide +kernel

theorem State.movesWildTask_moving : State.movesWildTask.tState wildTask = TaskState.moving := by decide +kernel

theorem State.movesWildTask_block : State.movesWildTask.tBlock wildTask = 0 := by decide +kernel

theorem State.wildTaskMoved_block : State.wildTaskMoved.tBlock wildTask = 1 := by decide +kernel

theorem exec_taskMoveDone {s : State} {x : Nat} (t : Nat) (h : s.tState x = TaskState.moving) :
    exec (.taskMoveDone t x) s =
      .next ((((s.advance t).setTState x ((s.advance t).restState x)).mirrorTask x).dispatch (s.tBlock x)) := if_pos h

/-- Refutes O14: the dispatch decision after a move is that of the block the task is on before its state's record leaves, and the statement names the
block after it. For `wildTask` these are block 0, where task 0 starts, and block 1. -/
theorem not_taskFaultsAndRestarts : ¬ Obligations.TaskFaultsAndRestarts := by
  rintro ⟨_, _, _, _, _, _, _, _, _, _, _, _, moveDone⟩
  obtain ⟨s', run, claimed⟩ := moveDone State.movesWildTask 0 wildTask State.movesWildTask_moving
  rw [exec_taskMoveDone 0 State.movesWildTask_moving, Host.Outcome.next.injEq, State.movesWildTask_block] at run
  have same : State.wildTaskMoved.dispatch 0 = State.wildTaskMoved.dispatch (State.wildTaskMoved.tBlock wildTask) := run.trans claimed
  rw [State.wildTaskMoved_block] at same
  have starts : (State.wildTaskMoved.dispatch 0).tState 0 = TaskState.running := by decide +kernel
  have waits : (State.wildTaskMoved.dispatch 1).tState 0 = TaskState.idle := by decide +kernel
  rw [same, waits] at starts
  exact absurd starts (by decide)

end Sys2Proof.Machine

/-! ## Writes of the Kettle (05_kettle_budget.md) -/

namespace Sys2Proof.Machine

/-! ### Rehoming, quotas and the budget (O25) -/

section QuotaWrite
variable {s : State} {k v : Nat} (t m : Nat) (hk : k < 16)
include hk

theorem exec_quotaWrite_taken (hr : s.reg KETTLE.BLKb_RA.RA k ≤ wrap 32 v) (hv : wrap 32 v ≤ 0x7FFFFFFF) :
    let a := ((s.advance t).setReg KETTLE.BLKb_QUOTA.QUOTA k (wrap 32 v)).mirrorReg (KETTLE.BLKb_QUOTA.QUOTA.addrOf k) (wrap 32 v)
    let b := (a.setAccount k (min (a.account k) (wrap 32 v))).each ((a.setAccount k (min (a.account k) (wrap 32 v))).tasksOn k) State.feed
    exec (.quotaWrite t m k v) s = .next (b.each ((b.tasksOn k).filter (fun t => (b.task t).phase == .none)) State.checkStarved) :=
  (if_neg (Nat.not_le.mpr hk)).trans (if_neg (not_or.mpr ⟨Nat.not_lt.mpr hr, Nat.not_lt.mpr hv⟩))

theorem exec_quotaWrite_refused (h : wrap 32 v < s.reg KETTLE.BLKb_RA.RA k ∨ 0x7FFFFFFF < wrap 32 v) :
    exec (.quotaWrite t m k v) s = .next ((s.advance t).writeRefused (KETTLE.BLKb_QUOTA.QUOTA.addrOf k) m 2) :=
  (if_neg (Nat.not_le.mpr hk)).trans (if_pos h)

end QuotaWrite

section BudgetWrite
variable {s : State} {v : Nat} (t m : Nat)

theorem exec_budgetWrite_taken (hi : bitField 0 10 v ≤ s.reg KETTLE.BUDGET.IMAGE) (hv : 100 ≤ bitField 0 10 v)
    (ha : 2 * s.classATotal ≤ bitField 0 10 v * 100) :
    exec (.budgetWrite t m v) s = .next (((s.advance t).setReg KETTLE.BUDGET.BUDGET 0 (bitField 0 10 v)).mirrorReg
      (KETTLE.BUDGET.BUDGET.addrOf 0) (bitField 0 10 v)) :=
  if_neg (not_or.mpr ⟨Nat.not_lt.mpr hi, not_or.mpr ⟨Nat.not_lt.mpr hv, Nat.not_lt.mpr ha⟩⟩)

theorem exec_budgetWrite_refused (h : s.reg KETTLE.BUDGET.IMAGE < bitField 0 10 v ∨ bitField 0 10 v < 100) :
    exec (.budgetWrite t m v) s = .next ((s.advance t).writeRefused (KETTLE.BUDGET.BUDGET.addrOf 0) m 2) :=
  if_pos (h.imp_right .inl)

end BudgetWrite

/-- A refused write leaves a record, and no task and nothing of the Kettle changes. -/
theorem State.writeRefused_keeps_tasks_kettle (s : State) (t a m r : Nat) :
    s.regsKeptBut ((s.advance t).writeRefused a m r) recorderFlds ∧ ((s.advance t).writeRefused a m r).tasks = s.tasks ∧
      ((s.advance t).writeRefused a m r).kettle = s.kettle := by
  obtain ⟨kept, _, frame⟩ := (s.advance t).writeRefused_only a m r
  exact ⟨kept, by rw [frame]; rfl, by rw [frame]; rfl⟩

/-- Settles O25, by whether the value lies in its range. -/
theorem kettleWrites : Obligations.KettleWrites := by
  refine ⟨fun s t m v => ⟨_, rfl, rfl⟩, fun s t m k v hk hr hv => ⟨_, exec_quotaWrite_taken t m hk hr hv, rfl⟩,
    fun s t m k v hk h => ?quota, fun s t m v hi hv ha => ⟨_, exec_budgetWrite_taken t m hi hv ha, rfl⟩, fun s t m v h => ?budget⟩
  case quota =>
    obtain ⟨kept, tasks, _⟩ := s.writeRefused_keeps_tasks_kettle t (KETTLE.BLKb_QUOTA.QUOTA.addrOf k) m 2
    exact ⟨_, exec_quotaWrite_refused t m hk h, kept, tasks⟩
  case budget =>
    obtain ⟨kept, _, kettle⟩ := s.writeRefused_keeps_tasks_kettle t (KETTLE.BUDGET.BUDGET.addrOf 0) m 2
    exact ⟨_, exec_budgetWrite_refused t m h, kept, kettle⟩

end Sys2Proof.Machine

/-! ## The mirror stream (07_pair_and_takeover.md) -/

namespace Sys2Proof.Machine

/-! ### Records and sets (O28)

A record joins the set being received; its last record ends the set (R224). -/

section Receive
variable {s : State} {r : MRec}

theorem State.receive_ignored (h : s.follows = false) : s.receive r = s := by simp [State.receive, h]

variable (hf : s.follows = true)
include hf

theorem State.receive_joins (hl : r.last = false) : s.receive r = s.updPair (fun p => { p with rxSet := p.rxSet ++ [r] }) := by
  simp [State.receive, hf, hl]

theorem State.receive_last (hl : r.last = true) :
    s.receive r = (s.updPair (fun p => { p with rxSet := p.rxSet ++ [r] })).endSet r.mseq := by
  simp [State.receive, hf, hl]

/-- The last record of a set that is not a SYNC set: all its records apply (R224). -/
theorem State.receive_applies (hl : r.last = true) (hs : (s.pair.rxSet ++ [r]).any (·.sync) = false) :
    s.receive r = ((s.updPair (fun p => { p with rxSet := [] })).applySet (s.pair.rxSet ++ [r]) none).setReg PAIR.MSEQ_APPLIED.MSEQ 0 r.mseq :=
  (State.receive_last hf hl).trans (if_neg (Bool.eq_false_iff.mp hs))

/-- The last record of a SYNC set: the set is staged (R225). -/
theorem State.receive_stages (hl : r.last = true) (hs : (s.pair.rxSet ++ [r]).any (·.sync) = true) :
    s.receive r = (s.updPair (fun p => { p with rxSet := [] })).stageSet r.mseq (s.pair.rxSet ++ [r]) :=
  (State.receive_last hf hl).trans (if_pos hs)

end Receive

theorem exec_of_recordOf {c : Instr} {t : Nat} {h : RecHead} {b : MBody} (hc : recordOf c = some (t, h, b)) (s : State) :
    exec c s = .next ((s.advance t).receive (h.record b)) := by
  unfold recordOf at hc
  split at hc <;> cases hc <;> rfl

theorem State.emptySet_kept {s : State} (h : s.pair.rxSet = []) : s.updPair (fun p => { p with rxSet := [] }) = s := by
  rw [State.updPair, ← h]

theorem State.setReg_wrap (s : State) (f : Fld) (i v : Nat) : s.setReg f i (wrap f.width v) = s.setReg f i v := by
  simp only [State.setReg, wrap_wrap]

/-- A record that is a set of its own applies at once (R224). -/
theorem completes_single {c : Instr} {s u : State} {t : Nat} {h : RecHead} {b : MBody} (hc : recordOf c = some (t, h, b))
    (hu : (s.advance t).takeBody (wrap 64 h.seq64) b = u) (hf : s.follows = true) (hl : h.last = true) (hs : h.sync = false)
    (hr : s.pair.rxSet = []) : completes c s fun s' => s' = u.setEnds h := by
  have alone : (s.advance t).pair.rxSet = [] := hr
  have plain : ((s.advance t).pair.rxSet ++ [h.record b]).any (·.sync) = false := by simp [hr, RecHead.record, hs]
  refine completes_of_exec (exec_of_recordOf hc s) (State.receive_applies hf hl plain) ?_
  rw [State.emptySet_kept alone, alone, ← hu]
  exact State.setReg_wrap _ PAIR.MSEQ_APPLIED.MSEQ 0 h.mseq

/-! #### Staged sets and grants (R225, R266) -/

theorem State.stageSet_staged {s : State} {l : List MRec} (m : Nat) (h : s.pair.prepared.length < 64) (hc : changeId l = none) :
    s.stageSet m l = (s.updPair (fun p => { p with prepared := p.prepared ++ [{ mseq := m, recs := l }], stagedMseq := m })).sendAck :=
  (if_neg (Nat.not_le.mpr h)).trans (by rw [hc])

theorem State.stageSet_overflow {s : State} (m : Nat) (l : List MRec) (h : 64 ≤ s.pair.prepared.length) : s.stageSet m l = s.catchUp 9 :=
  if_pos h

section Grant
variable {s : State} {m : Nat} (t : Nat) (h : RecHead) (hf : s.follows = true)
include hf

theorem exec_grantRecord_held {p : Machine.PSet} (hp : s.pair.prepared.find? (fun p => p.mseq == wrap 32 m) = some p) :
    exec (.grantRecord t h m) s =
      .next ((((s.advance t).updPair (fun q => { q with prepared := q.prepared.filter (fun x => x.mseq != p.mseq) })).applyPrepared p
        (wrap 64 h.seq64)).setReg PAIR.MSEQ_APPLIED.MSEQ 0 h.mseq) := by
  have follows : (s.advance t).follows = true := hf
  simp only [exec, execGrantRecord, follows, State.advance_pair, hp, Bool.not_true, Bool.false_eq_true, if_false]

theorem exec_grantRecord_unknown (hp : s.pair.prepared.find? (fun p => p.mseq == wrap 32 m) = none) :
    exec (.grantRecord t h m) s = .next ((s.advance t).catchUp 9) := by
  have follows : (s.advance t).follows = true := hf
  simp only [exec, execGrantRecord, follows, State.advance_pair, hp, Bool.not_true, Bool.false_eq_true, if_false]

end Grant

theorem State.takeCommit_taken (s : State) {x n : Nat} (hx : x < 256) (hn : n ≠ 0) :
    s.takeCommit x n = ((s.updTask x (fun d => { d with prevSeq := n })).setReg TASK.TASKt_LSEQ_LO.SEQ x n).setReg TASK.TASKt_LSEQ_HI.SEQ x
      (n / 2 ^ 32) := if_neg (by omega)

/-- Settles O28: the four ways a record can meet a set, what becomes of a SYNC set, and each kind of record by `completes_single`. -/
theorem streamRecordsApplyInSets : Obligations.StreamRecordsApplyInSets := by
  refine ⟨fun c s t h b hc => ⟨?joins, ?applies, ?stages, ?ignored⟩, fun s m l => State.stageSet_staged m, fun s m l => State.stageSet_overflow m l,
    fun s t m h p hf hp => ⟨_, exec_grantRecord_held t h hf hp, rfl⟩, fun s t m h hf hp => ⟨_, exec_grantRecord_unknown t h hf hp, rfl⟩,
    fun s t h task block slots lines => completes_single rfl rfl, fun s x n hx hn => s.takeCommit_taken hx hn,
    fun s t h sig sl => completes_single rfl rfl, fun s t h addr data => completes_single rfl rfl,
    fun s t h source slots => completes_single rfl rfl,
    fun s t h e => completes_single rfl rfl, fun s t h sig set value port => completes_single rfl rfl,
    fun s t h task state cause ovrrun readPos => completes_single rfl rfl, fun s t h addr value => completes_single rfl rfl,
    fun s t h cell off value => completes_single rfl rfl, fun s t h bytes => completes_single rfl rfl,
    fun s t h pb1 epoch1 pb12 epoch12 age => completes_single rfl rfl, fun s t h base value epoch cause => completes_single rfl rfl,
    fun s t h addr data => completes_single rfl rfl⟩
  case joins => exact fun hf hl => completes_of_exec (exec_of_recordOf hc s) (State.receive_joins hf hl) rfl
  case applies => exact fun hf hl hs => completes_of_exec (exec_of_recordOf hc s) (State.receive_applies hf hl hs) rfl
  case stages => exact fun hf hl hs => completes_of_exec (exec_of_recordOf hc s) (State.receive_stages hf hl hs) rfl
  case ignored => exact fun hf => completes_of_exec (exec_of_recordOf hc s) (State.receive_ignored hf) rfl

end Sys2Proof.Machine

/-! ## Guarded accesses (09_leaf_code_and_guards.md) -/

namespace Sys2Proof.Machine

/-! ### Accesses of cores and of the other masters (O39) -/

section GuardedAccess
variable {s : State} {m : Nat} (t sv k addr len v pc e : Nat)

/-- With no error that strikes the addressed word, a core's access is its own. -/
theorem exec_guardedAccess_core (hm : m < 16) :
    exec (.guardedAccess t m sv k addr len v pc e 0 0) s = .next ((s.advance t).coreAccess m k addr len v pc e) := by
  change execGuardedAccess t m sv k addr len v pc e 0 0 s = _
  unfold execGuardedAccess
  cases locate (addr / 8) <;> simp [hm]

theorem exec_guardedAccess_other (hm : 16 ≤ m) (hm' : m < 38) :
    let d := (s.advance t).dmaAccess m sv k addr len v
    exec (.guardedAccess t m sv k addr len v pc e 0 0) s = .next (d.2.2.2.emit (.memory m addr d.1 d.2.1 d.2.2.1)) := by
  change execGuardedAccess t m sv k addr len v pc e 0 0 s = _
  unfold execGuardedAccess
  cases locate (addr / 8) <;> simp [Nat.not_lt.mpr hm, Nat.not_le.mpr hm']

end GuardedAccess

section CoreAccess
variable {s : State} {b k addr size : Nat} (v pc e : Nat)

theorem State.coreAccess_misaligned (h : [1, 2, 4, 8].contains size = false ∨ addr % size ≠ 0) :
    s.coreAccess b k addr size v pc e = s.coreFault b (accessCause 0 k) TaskCause.misaligned (wrap 32 addr) pc addr e := by
  refine if_pos ?_
  rcases h with h | h
  · rw [h]; rfl
  · rw [decide_eq_true h, Bool.or_true]

variable (hs : [1, 2, 4, 8].contains size = true) (ha : addr % size = 0)
include hs ha

theorem coreAccess_aligned : ¬(!([1, 2, 4, 8].contains size) || decide (addr % size ≠ 0)) = true := by
  rw [hs, ha]; decide

theorem State.coreAccess_unmapped (hl : locate (addr / 8) = none) :
    s.coreAccess b k addr size v pc e = s.coreFault b (accessCause 1 k) TaskCause.access (wrap 32 addr) pc addr e := by
  rw [State.coreAccess, if_neg (coreAccess_aligned hs ha), hl]

/-- Where an access to a word of a memory goes on: the owed copy of a DRAM page has taken place (R290). -/
def State.copiedFor (s : State) (m w : Nat) : State := if m = 0 then s.finishCopy (w / pageWords) else s

variable {m w : Nat} (hl : locate (addr / 8) = some (m, w))
include hl

theorem State.coreAccess_admitted (hk : ((s.copiedFor m w).keyOf b 256).admits k ((s.copiedFor m w).colourAt m w) = true) :
    s.coreAccess b k addr size v pc e = (s.copiedFor m w).coreDo b k m w (addr % 8) size v pc e := by
  rw [State.coreAccess, if_neg (coreAccess_aligned hs ha), hl]
  exact if_pos hk

theorem State.coreAccess_refused (hk : ((s.copiedFor m w).keyOf b 256).admits k ((s.copiedFor m w).colourAt m w) = false) :
    s.coreAccess b k addr size v pc e = ((s.copiedFor m w).guardRefuse b k ((s.copiedFor m w).colourAt m w) addr false).coreFault b
      (accessCause 1 k) TaskCause.access (wrap 32 addr) pc addr e := by
  rw [State.coreAccess, if_neg (coreAccess_aligned hs ha), hl]
  exact if_neg (Bool.eq_false_iff.mp hk)

end CoreAccess

/-! A clean word is read as it stands, and the read leaves nothing behind (R276, R279). -/

section CleanWord
variable {s : State} {m w : Nat} (h : s.synAt m w = 0)
include h

theorem State.meetWord_clean (master : Nat) : s.meetWord m w master = s := by
  simp [State.meetWord, State.noteRead, State.judgeResult, h, leafDecode, LeafResult.kind]

theorem State.poisonAt_clean : s.poisonAt m w = false := by
  simp [State.poisonAt, h, leafDecode, LeafResult.poison]

/-- A load by the runtime. -/
theorem State.coreDo_load_clean {b : Nat} (hb : s.cycleTask b = none) (off size v pc e : Nat) :
    s.coreDo b 0 m w off size v pc e =
      s.emit (.memory b (physical m w * 8 + off) (bitField (8 * off) (8 * size) (s.wordAt m w)) false false) := by
  simp [State.coreDo, hb, State.meetWord_clean h, State.poisonAt_clean h]

end CleanWord

/-! What a refusal of a guard shows, and what it leaves (R295). -/

section GuardRefuse
variable (s : State) (m k c addr : Nat) (p : Bool)

theorem State.guardRefuse_counts : (s.guardRefuse m k c addr p).reg GUARD.STAT.FAULT = 1 ∧
    (s.guardRefuse m k c addr p).reg GUARD.FAULTCNT.COUNT = satAdd GUARD.FAULTCNT.COUNT.width (s.reg GUARD.FAULTCNT.COUNT) 1 := by
  constructor <;> simp (disch := decide) only [State.guardRefuse, State.record_reg, State.lifeAdd_reg, State.reg_setReg_other,
    State.reg_setFlag_other, State.reg_addReg_other, State.reg_setReg, State.reg_addReg]
  rfl

theorem State.guardRefuse_shows :
    (s.guardRefuse m k c addr p).reg GUARD.LAST_MASTER.MASTER = wrap 6 m ∧ (s.guardRefuse m k c addr p).reg GUARD.LAST_MASTER.KIND = wrap 2 k ∧
    (s.guardRefuse m k c addr p).reg GUARD.LAST_MASTER.COLOUR = wrap 4 c ∧
    (s.guardRefuse m k c addr p).reg GUARD.LAST_ADDR_LO.ADDR = wrap GUARD.LAST_ADDR_LO.ADDR.width addr := by
  refine ⟨?_, ?_, ?_, ?_⟩ <;> simp (disch := decide) only [State.guardRefuse, State.record_reg, State.lifeAdd_reg, State.reg_setReg_other,
    State.reg_setFlag_other, State.reg_setReg] <;> rfl

theorem State.guardRefuse_kept : s.memoryKept (s.guardRefuse m k c addr p) ∧ s.imageKept (s.guardRefuse m k c addr p) := by
  unfold State.guardRefuse
  obtain ⟨_, _, _, _, img, leaf, _⟩ := (State.record_only _ 0x601 m .fault
    [(6, wrap 39 addr + k * 2 ^ 39 + c * 2 ^ 41 + bn p * 2 ^ 45)] false).frame
  constructor
  · rw [State.memoryKept, leaf]
    simp
  · refine State.imageKept_of_img (img.trans ?_)
    simp

end GuardRefuse

/-- Settles O39: the cases of a core's access, a clean load, the other masters, and what a refusal leaves. -/
theorem accessesAreGuarded : Obligations.AccessesAreGuarded := by
  refine ⟨fun s t b sv k addr len v pc e hb h => ?misaligned, fun s t b sv k addr len v pc e hb hs ha hl => ?unmapped,
    fun s t b sv k addr len v pc e m w hb hs ha hl => ⟨fun hk => ?admitted, fun hk => ?refused⟩,
    fun s b m w off size v pc e hb h => State.coreDo_load_clean h hb off size v pc e,
    fun s t m sv k addr len v pc e hm hm' => ⟨_, exec_guardedAccess_other t sv k addr len v pc e hm hm', rfl⟩,
    fun s m k c addr p hm hk hc => ?refusal, fun k c => ⟨rfl, rfl, rfl, rfl⟩⟩
  case misaligned =>
    exact completes_of_exec (exec_guardedAccess_core t sv k addr len v pc e hb) (State.coreAccess_misaligned v pc e h) rfl
  case unmapped =>
    exact completes_of_exec (exec_guardedAccess_core t sv k addr len v pc e hb) (State.coreAccess_unmapped v pc e hs ha hl) rfl
  case admitted =>
    exact completes_of_exec (exec_guardedAccess_core t sv k addr len v pc e hb) (State.coreAccess_admitted v pc e hs ha hl hk) rfl
  case refused =>
    exact completes_of_exec (exec_guardedAccess_core t sv k addr len v pc e hb) (State.coreAccess_refused v pc e hs ha hl hk) rfl
  case refusal =>
    obtain ⟨fault, count⟩ := s.guardRefuse_counts m k c addr p
    obtain ⟨master, kind, colour, address⟩ := s.guardRefuse_shows m k c addr p
    obtain ⟨memory, image⟩ := s.guardRefuse_kept m k c addr p
    exact ⟨fault, count, master.trans (Nat.mod_eq_of_lt hm), kind.trans (Nat.mod_eq_of_lt hk), colour.trans (Nat.mod_eq_of_lt hc), address,
      memory, image⟩

end Sys2Proof.Machine

/-! ## Reflex cells (04_reflex_cells.md) -/

namespace Sys2Proof.Machine

/-! ### Rules and stores (O16) -/

theorem foldl_bne_eq_parity (xs : List Bool) (a : Bool) : xs.foldl (fun a b => a != b) a = (a != (xs.count true % 2 == 1)) := by
  induction xs generalizing a with
  | nil => simp
  | cons x xs ih =>
    rw [List.foldl_cons, ih]
    rcases Nat.mod_two_eq_zero_or_one (xs.count true) with h | h <;> cases x <;> simp [h, Nat.add_mod]

section ReflexEval
variable {s : State} {c : Nat}

/-- STORE = LATCH: a latch that is set stays set until RULE.CLR clears it (R136). -/
theorem State.reflexEval_latch_keeps (hs : s.reg CELL.CELLc_RULE.STORE c = 1) (hq : (s.cells.cell.get c).q = true)
    (hc : (s.cells.cell.get c).clrReq = false) : (s.reflexEval c).1 = true := by
  simp [State.reflexEval, hs, hq, hc]

/-- STORE = SR: a high input 3 resets the latch whatever the rule gives (R136). -/
theorem State.reflexEval_sr_resets (hs : s.reg CELL.CELLc_RULE.STORE c = 2) (hi : s.inputLevel c (s.selector c 3) = some true) :
    (s.reflexEval c).1 = false := by
  simp [State.reflexEval, hs, hi]

variable (s c) in
theorem State.reflexEval_hold : (s.reflexEval c).2.1 =
    if (s.reflexEval c).1 && !(s.cells.cell.get c).q then s.now + s.reg CELL.CELLc_RULE.STRETCH c * Config.frame
    else (s.cells.cell.get c).holdUntil := rfl

/-- When the latch rises, its stretch starts anew (R136). -/
theorem State.reflexEval_stretch (hr : (s.reflexEval c).1 = true) (hq : (s.cells.cell.get c).q = false) :
    (s.reflexEval c).2.1 = s.now + s.reg CELL.CELLc_RULE.STRETCH c * Config.frame := by
  rw [State.reflexEval_hold, hr, hq]
  rfl

end ReflexEval

/-! ### Actions on a latch (O16, R140)

The actions of one cell clock are collected in a word of bits; the level of the latch, of a pin as of a net, is a function of that word. -/

theorem bitOf_eq_testBit (i n : Nat) : bitOf i n = n.testBit i := (Nat.testBit_eq_decide_div_mod_eq ..).symm

theorem bitOf_or (i m n : Nat) : bitOf i (m ||| n) = (bitOf i m || bitOf i n) := by
  simp only [bitOf_eq_testBit, Nat.testBit_or]

/-- The level that the collected actions of a clock give: CLEAR over SET over TOGGLE over the level before the clock. -/
def actLevel (acts : Nat) : Bool :=
  if bitOf 1 acts then false else if bitOf 0 acts then true else if bitOf 2 acts then !bitOf 3 acts else bitOf 3 acts

theorem actLevel_of_clear {acts : Nat} (h : bitOf 1 acts = true) : actLevel acts = false := if_pos h

/-- A TOGGLE as the first action of a clock. -/
theorem actLevel_toggle (b : Bool) : actLevel (bn b * 8 ||| 4) = !b := by cases b <;> rfl

/-- A SET overrides the TOGGLE before it. -/
theorem actLevel_toggle_set (b : Bool) : actLevel (bn b * 8 ||| 4 ||| 1) = true := by cases b <;> rfl

/-- The actions collected for the next cell clock; before the first of them, the level of the latch alone. -/
def State.actsOn (s : State) (l : Nat) : Nat :=
  if s.cells.actT.get l = s.clockAt + 1 then s.cells.acts.get l else bn (s.cells.latch.get l) * 8

section PutLatch
variable (s : State) (at_ l : Nat) (b : Bool)

/-- Beside the latch, a level changes the edges on their way and the drive of the pin. -/
theorem State.putLatch_frame : s.putLatch at_ l b = { s with
    regs := (s.putLatch at_ l b).regs
    cells := { s.cells with
      latch := s.cells.latch.set l b, edges := (s.putLatch at_ l b).cells.edges, moved := (s.putLatch at_ l b).cells.moved } } := by
  unfold State.putLatch
  by_cases hl : l < 64
  · simp only [if_pos hl]
    unfold State.showPin State.setFlag
    rw [State.setReg_frame]
  · simp only [if_neg hl]
    unfold State.noteLevel
    split <;> rfl

end PutLatch

section ActLatch
variable (s : State) (l a : Nat)

theorem State.actLatch_eq : s.actLatch l a =
    ({ s with cells := { s.cells with
      actT := s.cells.actT.set l (s.clockAt + 1), acts := s.cells.acts.set l (s.actsOn l ||| a) } }).putLatch s.clockAt l
        (actLevel (s.actsOn l ||| a)) := rfl

theorem State.actLatch_latch : (s.actLatch l a).cells.latch = s.cells.latch.set l (actLevel (s.actsOn l ||| a)) := by
  rw [State.actLatch_eq, State.putLatch_frame]

@[simp] theorem State.actLatch_level : (s.actLatch l a).cells.latch.get l = actLevel (s.actsOn l ||| a) := by
  rw [State.actLatch_latch, Tab.get_set, if_pos rfl]

/-- A second action at one clock joins the first. -/
@[simp] theorem State.actLatch_actsOn : (s.actLatch l a).actsOn l = s.actsOn l ||| a := by
  rw [State.actLatch_eq, State.putLatch_frame]
  simp only [State.actsOn, State.clockAt, Tab.get_set, if_true]

theorem State.actLatch_level_other {k : Nat} (hk : k ≠ l) : (s.actLatch l a).cells.latch.get k = s.cells.latch.get k := by
  rw [State.actLatch_latch, Tab.get_set_ne _ _ hk]

end ActLatch

theorem State.actsOn_first {s : State} {l : Nat} (h : s.cells.actT.get l ≠ s.clockAt + 1) :
    s.actsOn l = bn (s.cells.latch.get l) * 8 := if_neg h

/-- Settles O16: the rule and the stores by evaluation, two actions on a latch by the word of the actions collected at its clock. -/
theorem reflexRulesAndLatches : Obligations.ReflexRulesAndLatches := by
  refine ⟨fun x xs => ⟨rfl, rfl, ?parity⟩, fun s c => State.reflexEval_latch_keeps, fun s c => State.reflexEval_sr_resets,
    fun s c => State.reflexEval_stretch, fun s c => rfl, fun s l _ => ⟨?setClear, ?clearSet, fun hf => ⟨?toggle, ?toggles, ?toggleSet⟩,
      fun k hk => s.actLatch_level_other l 1 hk⟩⟩
  case parity => exact (foldl_bne_eq_parity xs false).trans (Bool.false_bne _)
  case setClear =>
    rw [State.actLatch_level]
    exact actLevel_of_clear (by rw [bitOf_or]; exact Bool.or_true _)
  case clearSet =>
    rw [State.actLatch_level, State.actLatch_actsOn]
    exact actLevel_of_clear (by rw [bitOf_or, bitOf_or]; exact congrArg (· || false) (Bool.or_true _))
  case toggle => rw [State.actLatch_level, State.actsOn_first hf, actLevel_toggle]
  case toggles =>
    rw [State.actLatch_level, State.actLatch_actsOn, State.actsOn_first hf, Nat.or_assoc, Nat.or_self, actLevel_toggle]
  case toggleSet => rw [State.actLatch_level, State.actLatch_actsOn, State.actsOn_first hf, actLevel_toggle_set]

/-! ### Firing, pins and the layer (O15) -/

section Fire
variable {s : State} {c : Nat} (t : Nat) (hc : c < 4096)
include hc

theorem exec_compareFire (hm : s.reg CELL.CELLc_CTRL.MODE c = CellMode.once ∨ s.reg CELL.CELLc_CTRL.MODE c = CellMode.periodic)
    (hd : (s.advance t).cellDue c = true) : exec (.compareFire t c) s = .next ((s.advance t).fireCell c false) :=
  if_pos ⟨hc, hm, hd⟩

theorem exec_moveFire (hm : (s.advance t).releaseHeld.reg CELL.CELLc_CTRL.MODE c = CellMode.move)
    (hd : (s.advance t).releaseHeld.cellDue c = true) :
    exec (.moveFire t c) s = .next ((s.advance t).releaseHeld.fireCell c false) :=
  if_pos ⟨hc, hm, hd⟩

end Fire

section PinEdge
variable {s : State} {p : Nat} (t : Nat) (l : Bool)

theorem exec_fastPinEdge_unused (hd : s.reg FPIN.PINp_CFG.DIR p = 0) : exec (.fastPinEdge t p l) s = .next (s.advance t) :=
  if_pos (.inr hd)

/-- The state in which the raw level of a pin is noted. -/
def State.rawAt (s : State) (p : Nat) (l : Bool) : State := { s with cells := { s.cells with rawLevel := s.cells.rawLevel.set p l } }

variable (hp : p < 64) (hd : s.reg FPIN.PINp_CFG.DIR p ≠ 0)
include hp hd

theorem pin_in_use : ¬(64 ≤ p ∨ s.reg FPIN.PINp_CFG.DIR p = 0) := not_or.mpr ⟨Nat.not_le.mpr hp, hd⟩

/-- A filtered input waits for its filter time (R305). -/
theorem exec_fastPinEdge_filtered (hi : s.reg FPIN.PINp_CFG.DIR p = 1) (hf : s.reg FPIN.PINp_FILT.FILT p ≠ 0) :
    let u := (s.advance t).rawAt p l
    exec (.fastPinEdge t p l) s = .next { u with cells := { u.cells with rawSince := u.cells.rawSince.set p (u.now + 1) } } :=
  (if_neg (pin_in_use hp hd)).trans (if_pos ⟨hi, hf⟩)

/-- An unfiltered input and the readback of an output pass an edge at once (R305). -/
theorem exec_fastPinEdge_passed (h : s.reg FPIN.PINp_CFG.DIR p ≠ 1 ∨ s.reg FPIN.PINp_FILT.FILT p = 0) :
    exec (.fastPinEdge t p l) s = .next (((s.advance t).rawAt p l).setLevel p l) :=
  (if_neg (pin_in_use hp hd)).trans (if_neg (fun hf => h.elim (fun hn => hn hf.1) hf.2))

end PinEdge

theorem exec_inputFilterElapsed {s : State} {p : Nat} (t : Nat) (hp : p < 64) (hs : s.cells.rawSince.get p ≠ 0)
    (he : s.cells.rawSince.get p - 1 + us (s.reg FPIN.PINp_FILT.FILT p) ≤ (s.advance t).now) :
    let a := s.advance t
    exec (.inputFilterElapsed t p) s = .next (State.setLevel
      { a with cells := { a.cells with rawSince := a.cells.rawSince.set p 0 } } p (s.cells.rawLevel.get p)) :=
  if_pos ⟨hp, hs, he⟩

theorem exec_pulseEnd {s : State} {t l : Nat} (h : (s.cells.pulseEnd.get l).any (s.advance t).pulseOver = true) :
    exec (.pulseEnd t l) s = .next ((s.advance t).endPulses l).settle := if_pos h

theorem State.endPulses_over {s : State} {l : Nat} (h : (s.cells.pulseEnd.get l).any s.pulseOver = true) :
    s.endPulses l = ({ s with cells := { s.cells with pulseEnd := s.cells.pulseEnd.set l ((s.cells.pulseEnd.get l).filter (fun e =>
      !s.pulseOver e)) } }).actLatch l 2 := if_neg (by rw [h]; decide)

section ReflexLayer
variable {s : State} {c : Nat} (t : Nat) (hm : s.reg CELL.CELLc_CTRL.MODE c = CellMode.reflex)
include hm

theorem exec_phasewinChange : exec (.phasewinChange t c) s = .next (s.advance t).settle := if_pos hm

theorem exec_stretchEnd (he : (s.cells.cell.get c).holdUntil ≤ (s.advance t).now) :
    exec (.stretchEnd t c) s = .next (s.advance t).settle := if_pos ⟨hm, he⟩

end ReflexLayer

/-- Settles O15, command by command; an edge by what its pin is and whether the pin is filtered. -/
theorem reflexLayerFollowsEvents : Obligations.ReflexLayerFollowsEvents := by
  refine ⟨fun s t c hc hm hd => ⟨_, exec_compareFire t hc hm hd, rfl⟩, fun s t c hc hm hd => ⟨_, exec_moveFire t hc hm hd, rfl⟩,
    fun s t p l hp => ⟨fun hd => ⟨_, exec_fastPinEdge_unused t l hd, rfl⟩, fun hd hf => ?filtered,
      fun hd h => ⟨_, exec_fastPinEdge_passed t l hp hd h, rfl⟩⟩,
    fun s t p hp hs he => ⟨_, exec_inputFilterElapsed t hp hs he, rfl⟩, fun s t l h => ⟨_, exec_pulseEnd h, rfl⟩,
    fun s l h => State.endPulses_over h, fun s t c hm => ⟨⟨_, exec_phasewinChange t hm, rfl⟩, fun he => ⟨_, exec_stretchEnd t hm he, rfl⟩⟩⟩
  case filtered =>
    have used : s.reg FPIN.PINp_CFG.DIR p ≠ 0 := by rw [hd]; decide
    refine ⟨_, exec_fastPinEdge_filtered t l hp used hd hf, ?_, ?_, rfl, rfl⟩
    · rw [Tab.get_set, if_pos rfl]
      rfl
    · exact (Tab.get_set ..).trans (if_pos rfl)

/-! ### Cells and strands that fail (O20) -/

section SelfCheck
variable {s : State} {c : Nat} (t : Nat)

/-- A self-check failure of a cell is noted (R147, R467): the cell keeps its state until the next frame, and the failure counts against its
budget. -/
def State.noteCheckFail (s : State) (c : Nat) : State :=
  let a := s.addReg CELL.CHKCNT.COUNT 0 1
  let next := (a.now / Config.frame + 1) * Config.frame
  let k := a.updCell c (fun d => { d with keepUntil := next })
  let u := ({ k with cells := { k.cells with moved := max k.cells.moved next } }).occur 1 c (0x0C0 + c / 256)
  (u.setReg CELL.CELLc_STAT.CHKFAIL c (min 15 (u.life.occ.get (itemKey 1 c)).length)).note 3 c []

theorem exec_selfCheckFail (hc : c < 4096) (hd : s.flag CELL.CELLc_STAT.DEAD c = false) :
    let b := (s.advance t).noteCheckFail c
    exec (.selfCheckFail t c) s =
      .next (if b.permanent 1 c = true ∧ (b.cells.cell.get c).retired = false then b.retireCell c else b).settle := by
  have serves : ¬(4096 ≤ c ∨ (s.advance t).flag CELL.CELLc_STAT.DEAD c) :=
    not_or.mpr ⟨Nat.not_le.mpr hc, by rw [State.advance_flag, hd]; decide⟩
  refine (if_neg serves).trans ?_
  simp only [Bool.not_eq_true']
  rfl

end SelfCheck

section Spare
variable {s : State} {c : Nat}

/-- A spare is free: the cell runs on it from now on (R147). -/
theorem State.takeSpare_free (h : s.reg CELL.STRANDs_STAT.SPARES (s.hostOf (strandOf c)) < 4) :
    s.takeSpare c = ((((((s.updCell c (fun d => { d with retired := false })).updCell c (fun d => { d with spares := d.spares + 1 })).addReg
      CELL.STRANDs_STAT.SPARES (s.hostOf (strandOf c)) 1).showRemaps [c]).note 3 c []).settle) := if_neg (Nat.not_le.mpr h)

/-- No spare is free (R149). -/
theorem State.takeSpare_none (h : 4 ≤ s.reg CELL.STRANDs_STAT.SPARES (s.hostOf (strandOf c))) :
    s.takeSpare c = if s.flag CELL.STRANDs_CFG.BACKUP_EN (s.hostOf (strandOf c)) then
      (s.updCell c (fun d => { d with retired := false })).retireStrand (s.hostOf (strandOf c))
      else (s.updCell c (fun d => { d with retired := false })).killCell c := if_pos h

theorem exec_cellRemap {t : Nat} (hr : (s.cells.cell.get c).retired = true) (hd : s.flag CELL.CELLc_STAT.DEAD c = false)
    (hp : (s.advance t).safePoint c = true ∨ (s.cells.cell.get c).remapAt + msec 1 ≤ max s.now t) :
    exec (.cellRemap t c) s = .next ((s.advance t).takeSpare c) := if_pos ⟨hr, by rw [State.advance_flag, hd]; rfl, hp⟩

end Spare

section Strand
variable {s : State} {n : Nat} (t : Nat) (hn : n < 128)
include hn

theorem exec_strandParityError (hs : s.reg CELL.STRANDs_STAT.STATE n ≠ 2) :
    let a := ((s.advance t).setReg CELL.STRANDs_STAT.STATE n 1).addReg CELL.STRANDs_STAT.RESTARTS n 1
    let b := ({ a with cells := { a.cells with strandRestart := a.cells.strandRestart.set n (a.now + 1) } }.occur 2 n (0x0B0 + n / 8)).note
      4 n []
    exec (.strandParityError t n) s = .next (if b.permanent 2 n then b.retireStrand n else b) :=
  if_neg (not_or.mpr ⟨Nat.not_le.mpr hn, hs⟩)

theorem exec_strandRestartDone (hs : s.reg CELL.STRANDs_STAT.STATE n = 1) :
    let a := s.advance t
    exec (.strandRestartDone t n) s = .next ({ a with cells := { a.cells with strandRestart := a.cells.strandRestart.set n 0 } }.setReg
      CELL.STRANDs_STAT.STATE n 0).resumeStrand := if_pos ⟨hn, hs⟩

theorem exec_strandMove (hm : s.cells.strandMoving.get n = true) :
    let a := { s.advance t with cells := { s.cells with strandMoving := s.cells.strandMoving.set n false } }
    exec (.strandMove t n) s = .next (if s.isRetired 2 (s.reg CELL.STRANDs_CFG.BACKUP n) then a.each (a.strandCells n) State.killCell
      else a.moveStrand n (s.reg CELL.STRANDs_CFG.BACKUP n)) := if_pos ⟨hn, hm⟩

end Strand

/-- Settles O20, command by command; a remapping by whether a spare of the strand is free. -/
theorem cellsAndStrandsAreReplaced : Obligations.CellsAndStrandsAreReplaced :=
  ⟨fun _ t _ hc hd => ⟨_, exec_selfCheckFail t hc hd, rfl⟩,
    fun _ _ _ hr hd hs hp => completes_of_exec (exec_cellRemap hr hd hp) (State.takeSpare_free hs) rfl,
    fun _ t _ hn hs => ⟨_, exec_strandParityError t hn hs, rfl⟩, fun _ t _ hn hs => ⟨_, exec_strandRestartDone t hn hs, rfl⟩,
    fun _ t _ hn hm => ⟨_, exec_strandMove t hn hm, rfl⟩, fun _ _ => State.takeSpare_none⟩

end Sys2Proof.Machine

/-! ## The refill and the output pool (05_kettle_budget.md) -/

namespace Sys2Proof.Machine

/-! ### The distribution of a class (R159)

An account first gets a share by its weight, then what is left fills the remaining needs in order. -/

/-- Pass 1 of R159: what the account of a need and a weight gets of `d`, where `w` is the sum of the weights. -/
def weightedShare (d w : Nat) (x : Nat × Nat × Nat) : Nat := if w = 0 then 0 else min x.2.1 (d * x.2.2 / w)

/-- Pass 2 of R159 on top of the shares `f` of pass 1: what each account gets when `d` is left for the remaining needs. -/
def payRest (f : Nat × Nat × Nat → Nat) : Nat → List (Nat × Nat × Nat) → List (Nat × Nat)
  | _, [] => []
  | d, x :: l => (x.1, f x + min d (x.2.1 - f x)) :: payRest f (d - min d (x.2.1 - f x)) l

theorem payRest_eq_fillNeeds (f : Nat × Nat × Nat → Nat) (d : Nat) (l : List (Nat × Nat × Nat)) :
    payRest f d l = ((l.map fun x => (x.1, x.2.1, f x)).zip (fillNeeds d (l.map fun x => (x.1, x.2.1 - f x)))).map
      fun p => (p.1.1, p.1.2.2 + p.2.2) := by
  induction l generalizing d with
  | nil => rfl
  | cons x l ih => simp [payRest, fillNeeds, ih]

/-- The needs that are not met already. -/
def liveNeeds (needs : List (Nat × Nat × Nat)) : List (Nat × Nat × Nat) := needs.filter fun x => x.2.1 != 0

/-- The sum of the weights of a list of needs. -/
def weightSum (l : List (Nat × Nat × Nat)) : Nat := (l.map fun x => x.2.2).sum

theorem distribute_eq_payRest (d : Nat) (needs : List (Nat × Nat × Nat)) :
    let f := weightedShare d (weightSum (liveNeeds needs))
    distribute d needs = payRest f (d - ((liveNeeds needs).map f).sum) (liveNeeds needs) := by
  simp only [payRest_eq_fillNeeds, distribute, List.map_map]
  rfl

theorem weightedShare_le_need (d w : Nat) (x : Nat × Nat × Nat) : weightedShare d w x ≤ x.2.1 := by
  unfold weightedShare
  split
  · exact Nat.zero_le _
  · exact Nat.min_le_left ..

theorem weightedShare_le_div (d w : Nat) (x : Nat × Nat × Nat) : weightedShare d w x ≤ d * x.2.2 / w := by
  unfold weightedShare
  split
  · exact Nat.zero_le _
  · exact Nat.min_le_right ..

theorem sum_weightedShare_le_div (d w : Nat) (l : List (Nat × Nat × Nat)) :
    (l.map (weightedShare d w)).sum ≤ d * weightSum l / w := by
  induction l with
  | nil => exact Nat.zero_le _
  | cons x l ih =>
    calc weightedShare d w x + (l.map (weightedShare d w)).sum
        ≤ d * x.2.2 / w + d * weightSum l / w := Nat.add_le_add (weightedShare_le_div d w x) ih
      _ ≤ (d * x.2.2 + d * weightSum l) / w := Nat.div_add_div_le_add_div ..
      _ = d * weightSum (x :: l) / w := by rw [← Nat.mul_add]; rfl

/-- The shares of pass 1, rounded down, are together no more than there is. -/
theorem sum_weightedShare_le (d : Nat) (l : List (Nat × Nat × Nat)) : (l.map (weightedShare d (weightSum l))).sum ≤ d :=
  (sum_weightedShare_le_div d _ l).trans (Nat.div_le_of_le_mul (Nat.mul_comm ..).le)

theorem sum_liveNeeds (needs : List (Nat × Nat × Nat)) :
    ((liveNeeds needs).map fun x => x.2.1).sum = (needs.map fun x => x.2.1).sum := by
  unfold liveNeeds
  induction needs with
  | nil => rfl
  | cons x l ih => by_cases h : x.2.1 = 0 <;> simp [h, ih]

section PayRest
variable {f : Nat × Nat × Nat → Nat} (d : Nat) (l : List (Nat × Nat × Nat))

theorem payRest_accounts : (payRest f d l).map Prod.fst = l.map Prod.fst := by
  induction l generalizing d with
  | nil => rfl
  | cons x l ih => exact congrArg (x.1 :: ·) (ih _)

variable (hf : ∀ x, f x ≤ x.2.1)
include hf

theorem payRest_le_need : ∀ p ∈ (payRest f d l).zip l, p.1.2 ≤ p.2.2.1 := by
  induction l generalizing d with
  | nil => exact fun p h => nomatch h
  | cons x l ih =>
    intro p h
    rcases List.mem_cons.mp h with rfl | h
    · have := hf x
      dsimp only
      omega
    · exact ih _ p h

theorem sum_shares_le_needs : (l.map f).sum ≤ (l.map fun x => x.2.1).sum := List.sum_le_sum fun x _ => hf x

theorem sum_payRest :
    ((payRest f d l).map Prod.snd).sum = min ((l.map f).sum + d) (l.map fun x => x.2.1).sum := by
  induction l generalizing d with
  | nil => simp [payRest]
  | cons x l ih =>
    have := hf x
    have := sum_shares_le_needs l hf
    simp only [payRest, List.map_cons, List.sum_cons, ih]
    omega

theorem payRest_full (h : (l.map fun x => x.2.1).sum ≤ (l.map f).sum + d) :
    (payRest f d l).map Prod.snd = l.map fun x => x.2.1 := by
  induction l generalizing d with
  | nil => rfl
  | cons x l ih =>
    have := hf x
    have := sum_shares_le_needs l hf
    simp only [List.map_cons, List.sum_cons] at h
    simp only [payRest, List.map_cons, List.cons.injEq]
    exact ⟨by omega, ih _ (by omega)⟩

end PayRest

section Distribute
variable (d : Nat) (needs : List (Nat × Nat × Nat))

/-- A class is paid what there is, or all it needs, whichever is less. -/
theorem sum_distribute : ((distribute d needs).map Prod.snd).sum = min d (needs.map fun x => x.2.1).sum := by
  have := sum_weightedShare_le d (liveNeeds needs)
  rw [distribute_eq_payRest, sum_payRest _ _ (weightedShare_le_need d _), sum_liveNeeds]
  omega

theorem distribute_accounts : (distribute d needs).map Prod.fst = (liveNeeds needs).map Prod.fst := by
  rw [distribute_eq_payRest, payRest_accounts]

theorem distribute_le_need : ∀ p ∈ (distribute d needs).zip (liveNeeds needs), p.1.2 ≤ p.2.2.1 := by
  rw [distribute_eq_payRest]
  exact payRest_le_need _ _ (weightedShare_le_need d _)

theorem distribute_full (h : (needs.map fun x => x.2.1).sum ≤ d) :
    (distribute d needs).map Prod.snd = (liveNeeds needs).map fun x => x.2.1 := by
  have := sum_weightedShare_le d (liveNeeds needs)
  rw [distribute_eq_payRest]
  refine payRest_full _ _ (weightedShare_le_need d _) ?_
  rw [sum_liveNeeds]
  omega

end Distribute

/-! ### Accounts (R161) -/

theorem toSigned_satSigned (v : Int) : toSigned 32 (satSigned 32 v) = max (-2 ^ 31) (min v (2 ^ 31 - 1)) := by
  unfold toSigned satSigned ofSigned wrap
  split <;> omega

theorem toSigned_lt (n : Nat) : toSigned 32 n < 2 ^ 31 := by
  unfold toSigned wrap
  split <;> omega

theorem toSigned_wrap (w n : Nat) : toSigned w (wrap w n) = toSigned w n := by simp only [toSigned, wrap_wrap]

/-- No block's account is that of SYSD. -/
theorem block_ne_sysd {b : Nat} (hb : b < 16) : b ≠ sysd := Nat.ne_of_lt hb

section Account
variable (s : State) (b : Nat) (v : Int)

theorem State.account_setAccount {b : Nat} (hb : b < 16) :
    (s.setAccount b v).account b = max (-2 ^ 31) (min v (2 ^ 31 - 1)) :=
  (congrArg (toSigned 32) (State.reg_setReg _ _ hb)).trans ((toSigned_wrap 32 _).trans (toSigned_satSigned v))

theorem State.account_setAccount_ne {c : Nat} (hc : c ≠ b) : (s.setAccount b v).account c = s.account c := by
  rw [State.account, State.setAccount, State.reg_setReg_ne _ _ _ hc, State.account]

theorem State.setAccount_kept : s.regsKeptBut (s.setAccount b v) [KETTLE.BLKb_ACCT.ACCT] :=
  State.setReg_kept _ _ _ _ _ (by simp) (by decide)

theorem State.debit_account {e : Nat} {b : Nat} (hb : b < 16) (h : -(2 : Int) ^ 31 ≤ s.account b - e) :
    (s.debit b e).account b = s.account b - e := by
  have : s.account b < 2 ^ 31 := toSigned_lt _
  rw [State.debit, State.account_setAccount _ _ hb]
  omega

theorem State.acct_setAcct_sysd : (s.setAcct sysd v).acct sysd = max (-2 ^ 31) (min v (2 ^ 31 - 1)) :=
  (congrArg (toSigned 32) (State.reg_setReg s (f := KETTLE.SYSD_ACCT.ACCT) (i := 0) _ (by decide))).trans
    ((toSigned_wrap 32 _).trans (toSigned_satSigned v))

theorem State.setAcct_block {b : Nat} (hb : b < 16) : s.setAcct b v = s.setAccount b v := if_neg (block_ne_sysd hb)

theorem State.account_setAcct_ne (x : Nat) {c : Nat} (hc : c < 16) (hx : c ≠ x) : (s.setAcct x v).account c = s.account c := by
  unfold State.setAcct
  split
  · exact congrArg (toSigned 32) (State.reg_setReg_other _ _ _ _ _ _ (by decide) (by decide) (by omega))
  · exact s.account_setAccount_ne x v hx

theorem State.quota_setAcct (x : Nat) {c : Nat} (hc : c < 16) : (s.setAcct x v).quota c = s.quota c := by
  unfold State.setAcct
  split
  · exact State.reg_setReg_other _ _ _ _ _ _ (by decide) (by decide) (by omega)
  · exact State.reg_setReg_other _ _ _ _ _ _ (by decide) (by decide) (by omega)

end Account

/-! ### The end of a refill (R159): every account is cut to its quota -/

/-- The account of a block is cut to the block's quota. -/
def State.clipAccount (s : State) (b : Nat) : State := s.setAcct b (min (s.acct b) (s.quota b))

/-- The account of SYSD is cut to its capacity (R158). -/
def State.clipSysd (s : State) : State := s.setAcct sysd (min (s.acct sysd) 10000)

theorem State.refill_clips (s : State) (n : Nat) : ∃ u : State, s.refill n = (u.each (List.range 16) State.clipAccount).clipSysd := ⟨_, rfl⟩

/-- What one operand of a fold establishes and every operand keeps holds after the fold. -/
theorem State.each_establishes {α : Type} {P : State → Prop} {l : List α} {f : State → α → State} {x : α} (hx : x ∈ l)
    (made : ∀ s, P (f s x)) (kept : ∀ s y, P s → P (f s y)) (s : State) : P (s.each l f) := by
  induction l generalizing s with
  | nil => exact nomatch hx
  | cons a l ih =>
    rcases List.mem_cons.mp hx with rfl | hx
    · exact State.each_induct l f (fun s y _ => kept s y) (made s)
    · exact ih hx _

section Clip
variable (s : State) {b : Nat} (hb : b < 16)
include hb

theorem State.clipAccount_within : (s.clipAccount b).account b ≤ (s.clipAccount b).quota b := by
  rw [State.clipAccount, State.quota_setAcct _ _ _ hb, State.setAcct_block _ _ hb, State.account_setAccount _ _ hb]
  omega

theorem State.clipAccount_keeps_within (x : Nat) (h : s.account b ≤ s.quota b) :
    (s.clipAccount x).account b ≤ (s.clipAccount x).quota b := by
  by_cases hx : b = x
  · exact hx ▸ s.clipAccount_within hb
  · rw [State.clipAccount, State.quota_setAcct _ _ _ hb, State.account_setAcct_ne _ _ _ hb hx]
    exact h

theorem State.refill_account_le_quota (n : Nat) : (s.refill n).account b ≤ (s.refill n).quota b := by
  obtain ⟨u, clips⟩ := s.refill_clips n
  rw [clips, State.clipSysd, State.quota_setAcct _ _ _ hb, State.account_setAcct_ne _ _ _ hb (block_ne_sysd hb)]
  exact State.each_establishes (P := fun s => s.account b ≤ s.quota b) (List.mem_range.mpr hb) (fun s => s.clipAccount_within hb)
    (fun s x => s.clipAccount_keeps_within hb x) u

end Clip

theorem State.refill_sysd_le (s : State) (n : Nat) : (s.refill n).acct sysd ≤ 10000 := by
  obtain ⟨u, clips⟩ := s.refill_clips n
  rw [clips, State.clipSysd, State.acct_setAcct_sysd]
  omega

/-- Settles O21: the two passes of a distribution, the clipping that ends a refill, and a debit above −2^31. -/
theorem energyIsDistributedFairly : Obligations.EnergyIsDistributedFairly := by
  refine ⟨fun d needs => ⟨?bounded, distribute_accounts d needs, distribute_le_need d needs, distribute_full d needs, fun h => ?spent⟩,
    fun s n b hb => s.refill_account_le_quota hb n, State.refill_sysd_le,
    fun s b e hb h => ⟨s.debit_account hb h, fun c _ hc => s.account_setAccount_ne b _ hc, s.setAccount_kept b _⟩⟩
  case bounded => exact (sum_distribute d needs).trans_le (min_le_left ..)
  case spent => exact (sum_distribute d needs).trans (min_eq_left h)

/-! ### The output pool (O22) -/

/-- The pool shows its measured values, in mA (R173, R174). -/
def State.showPool (s : State) (total safe : Nat) : State :=
  ((s.setReg KETTLE.POOL_I.TOTAL 0 (min total 4095)).setReg KETTLE.POOL_I.SAFE 0 (min safe 4095)).setFlag KETTLE.POOL_STAT.SAFE_HIGH 0 false

/-- The fields that show an episode of limiting, and those of the recorder. -/
def limitingFlds : List Fld := [KETTLE.POOL_STAT.LIMITING, KETTLE.STAT.POOL_LIMITING] ++ recorderFlds

/-- The energised outputs are counted by their DRIVE flags. -/
theorem State.energised_of_kept {s s' : State} {fs : List Fld} (h : s.regsKeptBut s' fs) (hf : ∀ g ∈ fs, g.id ≠ FPIN.PINp_STAT.DRIVE.id) :
    s'.energised = s.energised := by
  refine congrArg List.length (List.filter_congr fun p hp => ?_)
  have := List.mem_range.mp hp
  exact congrArg (· != 0) (h.reg FPIN.PINp_STAT.DRIVE p (by omega) hf)

theorem State.startLimiting_kept (s : State) (total safe : Nat) :
    s.regsKeptBut (s.startLimiting total safe) (KETTLE.POOL_EVENTS.COUNT :: limitingFlds) := by
  unfold State.startLimiting
  refine State.regsKeptBut.ite (s.regsKeptBut_refl _) (State.regsKeptBut.only ?_ (State.record_only ..)
    fun _ h => List.mem_cons_of_mem _ (List.mem_append_right _ h))
  exact State.regsKeptBut.same ((((s.regsKeptBut_refl _).setReg (by simp [limitingFlds]) (by decide)).setReg (by simp [limitingFlds])
    (by decide)).addReg (by simp) (by decide)) (State.lifeAdd_regs ..)

@[simp] theorem State.startLimiting_energised (s : State) (total safe : Nat) : (s.startLimiting total safe).energised = s.energised :=
  State.energised_of_kept (s.startLimiting_kept total safe) (by decide)

section PoolMeasure
variable {s : State} {total safe : Nat} (t : Nat) (hs : safe < 720)

section
include hs

theorem exec_poolMeasure_quiet (ht : total ≤ 750) : exec (.poolMeasure t total safe) s = .next ((s.advance t).showPool total safe) := by
  have low : decide (720 ≤ safe) = false := decide_eq_false (by omega)
  have within : ¬750 < total := by omega
  simp only [exec, execPoolMeasure, low, within, Bool.false_and, Bool.false_eq_true, or_self, if_false]
  rfl

theorem exec_poolMeasure_limits (ht : 750 < total) :
    let a := ((s.advance t).showPool total safe).startLimiting total safe
    exec (.poolMeasure t total safe) s = .next { a.setReg KETTLE.POOL_STAT.LIMIT 0 (poolLimit safe a.energised) with
      kettle := { a.kettle with limitSince := a.now, lastRise := 0 } } := by
  have low : decide (720 ≤ safe) = false := decide_eq_false (by omega)
  simp [exec, execPoolMeasure, State.when, State.showPool, low, ht]

end

variable (s total safe)

theorem State.showPool_total (ht : total < 4096) : (s.showPool total safe).reg KETTLE.POOL_I.TOTAL = total := by
  rw [State.showPool, State.reg_setFlag_other _ _ _ _ _ _ (by decide) (by decide) (by decide),
    State.reg_setReg_other _ _ _ _ _ _ (by decide) (by decide) (by decide), State.reg_setReg _ _ (by decide), Nat.min_eq_left (by omega)]
  exact Nat.mod_eq_of_lt ht

theorem State.showPool_safe (hs : safe < 4096) : (s.showPool total safe).reg KETTLE.POOL_I.SAFE = safe := by
  rw [State.showPool, State.reg_setFlag_other _ _ _ _ _ _ (by decide) (by decide) (by decide), State.reg_setReg _ _ (by decide),
    Nat.min_eq_left (by omega)]
  exact Nat.mod_eq_of_lt hs

theorem State.showPool_safeHigh : (s.showPool total safe).reg KETTLE.POOL_STAT.SAFE_HIGH = 0 := State.reg_setFlag _ _ (by decide)

theorem State.showPool_kept :
    s.regsKeptBut (s.showPool total safe) [KETTLE.POOL_I.TOTAL, KETTLE.POOL_I.SAFE, KETTLE.POOL_STAT.SAFE_HIGH] :=
  (((s.regsKeptBut_refl _).setReg (by simp) (by decide)).setReg (by simp) (by decide)).setReg (by simp) (by decide)

theorem State.showPool_kettle : (s.showPool total safe).kettle = s.kettle := by simp [State.showPool]

end PoolMeasure

/-! A rise of the limit (R173). -/

/-- The limit of the pool becomes `l`, and the next rise is 10 ms away. -/
def State.raiseLimit (s : State) (l : Nat) : State :=
  { s with kettle := { s.kettle with lastRise := s.now + 1 } }.setReg KETTLE.POOL_STAT.LIMIT 0 l

/-- The episode of limiting ends, and a record says so. -/
def State.endLimiting (s : State) : State :=
  let u := (s.setReg KETTLE.POOL_STAT.LIMITING 0 0).setReg KETTLE.STAT.POOL_LIMITING 0 0
  u.record 0xF0C 0 .warning [(1, 0), (2, u.reg KETTLE.POOL_I.TOTAL), (2, u.reg KETTLE.POOL_I.SAFE)]

section LimitRise
variable {s : State} {t : Nat} (hl : s.flag KETTLE.POOL_STAT.LIMITING = true) (hh : s.flag KETTLE.POOL_STAT.SAFE_HIGH = false)
  (hs : s.kettle.limitSince + msec 100 ≤ max s.now t) (hr : s.kettle.lastRise = 0 ∨ s.kettle.lastRise - 1 + msec 10 ≤ max s.now t)
include hl hh hs hr

/-- The limit is due to rise: a rise to 50 mA ends the episode. -/
theorem exec_poolLimitRise :
    let l := min 50 (s.reg KETTLE.POOL_STAT.LIMIT + 5)
    exec (.poolLimitRise t) s = .next (if l = 50 then ((s.advance t).raiseLimit l).endLimiting else (s.advance t).raiseLimit l) := by
  have due : (s.advance t).flag KETTLE.POOL_STAT.LIMITING ∧ !(s.advance t).flag KETTLE.POOL_STAT.SAFE_HIGH ∧
      (s.advance t).kettle.limitSince + msec 100 ≤ (s.advance t).now ∧
      ((s.advance t).kettle.lastRise = 0 ∨ (s.advance t).kettle.lastRise - 1 + msec 10 ≤ (s.advance t).now) :=
    ⟨hl, by rw [State.advance_flag, hh]; rfl, hs, hr⟩
  refine (if_pos due).trans ?_
  rw [apply_ite Host.Outcome.next]
  rfl

theorem exec_poolLimitRise_below (h : s.reg KETTLE.POOL_STAT.LIMIT < 45) :
    exec (.poolLimitRise t) s = .next ((s.advance t).raiseLimit (s.reg KETTLE.POOL_STAT.LIMIT + 5)) := by
  rw [exec_poolLimitRise hl hh hs hr, if_neg (by omega), Nat.min_eq_right (by omega)]

theorem exec_poolLimitRise_full (h : 45 ≤ s.reg KETTLE.POOL_STAT.LIMIT) :
    exec (.poolLimitRise t) s = .next ((s.advance t).raiseLimit 50).endLimiting := by
  rw [exec_poolLimitRise hl hh hs hr, Nat.min_eq_left (by omega), if_pos rfl]

end LimitRise

section RaiseLimit
variable (s : State) {l : Nat}

theorem State.raiseLimit_limit (hl : l < 64) : (s.raiseLimit l).reg KETTLE.POOL_STAT.LIMIT = l := by
  rw [State.raiseLimit, State.reg_setReg _ _ (by decide)]
  exact Nat.mod_eq_of_lt hl

variable (l)

theorem State.raiseLimit_kept : s.regsKeptBut (s.raiseLimit l) [KETTLE.POOL_STAT.LIMIT] :=
  State.regsKeptBut.setReg (State.regsKeptBut_of_regs _ rfl) (by simp) (by decide)

theorem State.raiseLimit_lastRise : (s.raiseLimit l).kettle.lastRise = s.now + 1 := by simp [State.raiseLimit]

end RaiseLimit

section EndLimiting
variable (s : State)

theorem State.endLimiting_limiting : s.endLimiting.reg KETTLE.POOL_STAT.LIMITING = 0 := by
  rw [State.endLimiting, State.record_reg _ _ _ _ _ _ _ _ (by decide) (by decide),
    State.reg_setReg_other _ _ _ _ _ _ (by decide) (by decide) (by decide), State.reg_setReg _ _ (by decide)]
  rfl

theorem State.endLimiting_stat : s.endLimiting.reg KETTLE.STAT.POOL_LIMITING = 0 := by
  rw [State.endLimiting, State.record_reg _ _ _ _ _ _ _ _ (by decide) (by decide), State.reg_setReg _ _ (by decide)]
  rfl

theorem State.endLimiting_kept : s.regsKeptBut s.endLimiting limitingFlds :=
  (((s.regsKeptBut_refl _).setReg (by simp [limitingFlds]) (by decide)).setReg (by simp [limitingFlds]) (by decide)).only
    (State.record_only ..) (fun _ => List.mem_append_right _)

end EndLimiting

/-- Settles O22, command by command; a measurement by the overload limit of 750 mA, a rise of the limit by whether it reaches 50 mA. -/
theorem refillAndPoolLimits : Obligations.RefillAndPoolLimits := by
  refine ⟨fun s t n u p b => ⟨_, rfl, rfl⟩, fun s t total safe ht hs => ?quiet,
    fun s t total safe ht hs => ⟨_, exec_poolMeasure_limits t hs ht, rfl⟩, fun s t hl hh hs hr h => ?rises, fun s t hl hh hs hr h => ?ends⟩
  case quiet =>
    let a := s.advance t
    exact ⟨_, exec_poolMeasure_quiet t hs ht, a.showPool_total total safe (by omega), a.showPool_safe total safe (by omega),
      a.showPool_safeHigh total safe, a.showPool_kept total safe, a.showPool_kettle total safe⟩
  case rises =>
    exact ⟨_, exec_poolLimitRise_below hl hh hs hr h, State.raiseLimit_limit _ (by omega), State.raiseLimit_kept (s.advance t) _,
      State.raiseLimit_lastRise _ _⟩
  case ends =>
    let u := (s.advance t).raiseLimit 50
    have limit : u.endLimiting.reg KETTLE.POOL_STAT.LIMIT = u.reg KETTLE.POOL_STAT.LIMIT :=
      u.endLimiting_kept.reg _ _ (by decide) (by decide)
    exact ⟨_, exec_poolLimitRise_full hl hh hs hr h, limit.trans (State.raiseLimit_limit _ (by decide)), u.endLimiting_limiting,
      u.endLimiting_stat, ((State.raiseLimit_kept (s.advance t) 50).mono (by simp)).trans
        (u.endLimiting_kept.mono (fun _ => List.mem_cons_of_mem _))⟩

end Sys2Proof.Machine

/-! ## The station rings (06_station_rings.md) -/

namespace Sys2Proof.Machine

/-! ### Period starts and their guards (R189, R191) -/

section Period
variable {s : State} {t r : Nat} (hr : r < 2) (ho : (s.advance t).originates r = true)
include hr ho

section Reached
variable (hp : (s.advance t).periodReached r = true)
include hp

theorem State.start_due : ¬(2 ≤ r ∨ (!(s.advance t).originates r) = true ∨ (!(s.advance t).periodReached r) = true) := by
  simp [hr, ho, hp]

theorem exec_periodStart_starts (he : (s.advance t).pastEarly r = true) :
    exec (.periodStart t r) s = .next ((s.advance t).startPeriod r (s.ring r).early).resignAtPeriod :=
  (if_neg (State.start_due hr ho hp)).trans (if_neg (by simp [he]))

theorem exec_periodStart_waits (he : (s.advance t).pastEarly r = false) :
    exec (.periodStart t r) s = .next ((s.advance t).updRing r (fun d => { d with early := true })) :=
  (if_neg (State.start_due hr ho hp)).trans (if_pos (by simp [he]))

theorem exec_periodEarlyGuard (he : (s.advance t).pastEarly r = true) :
    exec (.periodEarlyGuard t r) s = .next ((s.advance t).startPeriod r true).resignAtPeriod := if_pos ⟨hr, ho, hp, he⟩

end Reached

theorem exec_periodGuard (hs : (s.ring r).startAt ≠ 0)
    (hg : (s.ring r).startAt - 1 + 3 * (s.advance t).periodTime r / 2 ≤ (s.advance t).now) :
    exec (.periodGuard t r) s = .next ((s.advance t).startPeriod r true).resignAtPeriod := if_pos ⟨hr, ho, hs, hg⟩

end Period

/-! ### Frames of other sources on their way (R178, R179) -/

section Forward
variable (s : State) (r h : Nat) (rev : Bool)

/-- What an emission keeps, a forwarded frame keeps. -/
theorem State.forward_keeps {α : Type} (g : State → α) (hg : ∀ u o, g (State.emit u o) = g u) : g (s.forward r rev h) = g s :=
  State.when_keeps g (fun u => hg u _) s _

@[simp] theorem State.forward_mode : (s.forward r rev h).mode = s.mode := s.forward_keeps r h rev State.mode fun _ _ => rfl

@[simp] theorem State.forward_rings : (s.forward r rev h).rings = s.rings := s.forward_keeps r h rev State.rings fun _ _ => rfl

@[simp] theorem State.forward_reg (f : Fld) (i : Nat) : (s.forward r rev h).reg f i = s.reg f i :=
  s.forward_keeps r h rev (fun u => u.reg f i) fun _ _ => rfl

@[simp] theorem State.forward_flag (f : Fld) (i : Nat) : (s.forward r rev h).flag f i = s.flag f i :=
  s.forward_keeps r h rev (fun u => u.flag f i) fun _ _ => rfl

variable {s r h rev}

theorem State.forward_sends (hm : s.mode ≠ .off) (hh : 2 ≤ h) (hp : s.portSends (leavePort r rev) = true) :
    s.forward r rev h = s.emit (.forward r rev (h - 1)) := by
  have powered : (s.mode != .off) = true := bne_iff_ne.mpr hm
  simp [State.forward, powered, hh, hp]

theorem State.forward_stops (hp : s.portSends (leavePort r rev) = false) : s.forward r rev h = s := by
  simp [State.forward, hp]

end Forward

/-- The epoch a frame shows leaves the registers alone. -/
@[simp] theorem State.seeRing_reg (s : State) (e : Nat) (f : Fld) (i : Nat) : (s.seeRing e).reg f i = s.reg f i := rfl

@[simp] theorem State.seeRing_rings (s : State) (e : Nat) : (s.seeRing e).rings = s.rings := rfl

@[simp] theorem State.seeRing_mode (s : State) (e : Nat) : (s.seeRing e).mode = s.mode := rfl

/-! A retired port takes no frame (R468). -/

section Untaken
variable {s : State} {t r : Nat} {rev : Bool} (hf : s.takesFrame r rev = false)
include hf

theorem State.frame_untaken : 2 ≤ r ∨ (!(s.advance t).takesFrame r rev) = true := .inr (congrArg not hf)

theorem exec_inputSegmentRx_untaken (st ep pe seq seg first h : Nat) (vals : List (Nat × Nat)) :
    exec (.inputSegmentRx t r rev st ep pe seq seg first h vals) s = .next (s.advance t) := if_pos (State.frame_untaken hf)

theorem exec_identRx_untaken (st pe nin nout lay ver h : Nat) :
    exec (.identRx t r rev st pe nin nout lay ver h) s = .next (s.advance t) := if_pos (State.frame_untaken hf)

theorem exec_cycleRx_untaken (ep pe ps be bs h : Nat) :
    exec (.cycleRx t r rev ep pe ps be bs h) s = .next (s.advance t) := if_pos (State.frame_untaken hf)

end Untaken

section Taken
variable {s : State} {t r : Nat} {rev : Bool}

theorem State.frame_taken (hr : r < 2) (hf : s.takesFrame r rev = true) : ¬(2 ≤ r ∨ (!(s.advance t).takesFrame r rev) = true) :=
  not_or.mpr ⟨Nat.not_le.mpr hr, Bool.eq_false_iff.mp (congrArg not hf)⟩

theorem State.runs_forwarded (h : Nat) (hm : s.mode.runtimeRuns = true) :
    ¬(!((s.advance t).forward r rev h).mode.runtimeRuns) = true := by
  simp [hm]

end Taken

/-! ### Segments and IDENTs of stations (R195, R199) -/

section Segment
variable {s : State} {t r st ep pe seq seg first h : Nat} {rev : Bool} {vals : List (Nat × Nat)} (hr : r < 2)
  (hf : s.takesFrame r rev = true) (hm : s.mode.runtimeRuns = true) (hst : st < 128) (hseg : seg < 64) (hc : seg % 8 < bitField 3 3 seg + 1)
  (hp : s.flag STN.RINGr_STAa_CFG.PRESENT (staKey r st) = true)
  (hv : first + vals.length ≤ (s.rings.cfg.get (staKey r st)).inputs.length) (hl : vals.length ≤ 512)
include hr hf hm hst hseg hc hp hv hl

/-- A valid segment is judged by its epoch and its period (R195). -/
theorem exec_inputSegmentRx_valid :
    let a := ((s.advance t).forward r rev h).seeRing ep
    exec (.inputSegmentRx t r rev st ep pe seq seg first h vals) s =
      if wrap 32 ep ≠ a.ringEpoch r then .next (a.addReg STN.RINGr_OLDEP.COUNT r 1)
      else if !(a.ring r).counted ∨ wrap 32 pe ≠ a.reg STN.RINGr_PERIOD.NUM r then
        .next ((a.addReg STN.RINGr_LATE.COUNT r 1).addReg STN.RINGr_STAa_CNT.LATE (staKey r st) 1)
      else .next (a.collect r (staKey r st) rev (wrap 16 seq) (seg % 8) (bitField 3 3 seg + 1) first vals) := by
  have wellFormed : ¬(128 ≤ st ∨ 64 ≤ seg ∨ bitField 3 3 seg + 1 ≤ seg % 8 ∨
      (!((s.advance t).forward r rev h).flag STN.RINGr_STAa_CFG.PRESENT (staKey r st)) = true ∨
      (((s.advance t).forward r rev h).rings.cfg.get (staKey r st)).inputs.length < first + vals.length ∨ 512 < vals.length) := by
    simp only [State.forward_flag, State.forward_rings, State.advance_flag, State.advance_rings, hp]
    simp only [Bool.not_true, Bool.false_eq_true, false_or]
    omega
  exact (if_neg (State.frame_taken hr hf)).trans ((if_neg (State.runs_forwarded h hm)).trans (if_neg wellFormed))

theorem exec_inputSegmentRx_oldEpoch (he : wrap 32 ep ≠ (((s.advance t).forward r rev h).seeRing ep).ringEpoch r) :
    exec (.inputSegmentRx t r rev st ep pe seq seg first h vals) s =
      .next ((((s.advance t).forward r rev h).seeRing ep).addReg STN.RINGr_OLDEP.COUNT r 1) :=
  (exec_inputSegmentRx_valid hr hf hm hst hseg hc hp hv hl).trans (if_pos he)

section ThisEpoch
variable (he : wrap 32 ep = (((s.advance t).forward r rev h).seeRing ep).ringEpoch r)
include he

theorem exec_inputSegmentRx_late (hd : (s.ring r).counted = false ∨ wrap 32 pe ≠ s.reg STN.RINGr_PERIOD.NUM r) :
    exec (.inputSegmentRx t r rev st ep pe seq seg first h vals) s =
      .next (((((s.advance t).forward r rev h).seeRing ep).addReg STN.RINGr_LATE.COUNT r 1).addReg STN.RINGr_STAa_CNT.LATE (staKey r st) 1) := by
  refine (exec_inputSegmentRx_valid hr hf hm hst hseg hc hp hv hl).trans ((if_neg (not_not.mpr he)).trans (if_pos ?_))
  simpa [State.ring] using hd

theorem exec_inputSegmentRx_collects (hd : (s.ring r).counted = true) (hn : wrap 32 pe = s.reg STN.RINGr_PERIOD.NUM r) :
    exec (.inputSegmentRx t r rev st ep pe seq seg first h vals) s =
      .next ((((s.advance t).forward r rev h).seeRing ep).collect r (staKey r st) rev (wrap 16 seq) (seg % 8) (bitField 3 3 seg + 1) first
        vals) := by
  refine (exec_inputSegmentRx_valid hr hf hm hst hseg hc hp hv hl).trans ((if_neg (not_not.mpr he)).trans (if_neg ?_))
  simpa [State.ring, hn] using hd

end ThisEpoch

end Segment

/-- A station's admission begins: it is ADMITTING, with no valid period and no miss counted, and its sequence starts anew (R199). -/
def State.startAdmission (s : State) (k : Nat) : State :=
  (((s.setReg STN.RINGr_STAa_STAT.STATE k StaState.admitting).setReg STN.RINGr_STAa_STAT.ADMIT k 0).setReg STN.RINGr_STAa_STAT.MISS k
    0).resetSource k

theorem State.startAdmission_kept (s : State) (k : Nat) :
    s.regsKeptBut (s.startAdmission k) [STN.RINGr_STAa_STAT.STATE, STN.RINGr_STAa_STAT.ADMIT, STN.RINGr_STAa_STAT.MISS] :=
  ((((s.regsKeptBut_refl _).setReg (by simp) (by decide)).setReg (by simp) (by decide)).setReg (by simp) (by decide)).same rfl

/-- A station's IDENT for the period has arrived. -/
def State.noteIdent (s : State) (k pe : Nat) : State := s.updSta k (fun d => { d with ident := wrap 32 pe + 1 })

theorem State.noteIdent_cfg (s : State) (k pe : Nat) : (s.noteIdent k pe).rings.cfg = s.rings.cfg := rfl

theorem State.noteIdent_reg (s : State) (k pe : Nat) (f : Fld) (i : Nat) : (s.noteIdent k pe).reg f i = s.reg f i := State.updSta_reg ..

/-- The IDENT shows the inputs, outputs and layout configured for the station (R199). -/
def State.identFits (s : State) (k nin nout lay : Nat) : Bool :=
  decide (nin = (s.rings.cfg.get k).inputs.length ∧ nout = (s.rings.cfg.get k).outputs.length ∧
    wrap 32 lay = s.reg STN.RINGr_STAa_LAYOUT.LAYOUT k)

section Ident
variable {s : State} {t r st pe nin nout lay ver h : Nat} {rev : Bool} (hr : r < 2) (hf : s.takesFrame r rev = true) (hst : st < 128)
  (hm : s.mode.runtimeRuns = true) (hp : s.flag STN.RINGr_STAa_CFG.PRESENT (staKey r st) = true)
  (hi : (s.rings.sta.get (staKey r st)).ident ≠ wrap 32 pe + 1)

include hr hf hst hm hp hi

/-- The first IDENT of a configured station in a period is judged (R199). -/
theorem exec_identRx_first :
    let b := ((s.advance t).forward r rev h).noteIdent (staKey r st) pe
    exec (.identRx t r rev st pe nin nout lay ver h) s =
      if b.identFits (staKey r st) nin nout lay then
        if b.staState (staKey r st) = StaState.absent ∨ b.staState (staKey r st) = StaState.dropped ∨
            b.staState (staKey r st) = StaState.rejected then
          .next ((b.startAdmission (staKey r st)).updSta (staKey r st) (fun d => { d with
            admitK := (b.startAdmission (staKey r st)).reg STN.RINGr_PERIOD.NUM r + 1, valid := false }))
        else .next b
      else if b.staState (staKey r st) = StaState.good then
        .next (b.updSta (staKey r st) (fun d => { d with reject := wrap 32 lay + 1 }))
      else .next (b.rejectStation (staKey r st) (wrap 32 lay)) := by
  have known : ¬(128 ≤ st ∨ (!((s.advance t).forward r rev h).flag STN.RINGr_STAa_CFG.PRESENT (staKey r st)) = true) := by
    simp [hp, hst]
  have first : ¬(((s.advance t).forward r rev h).rings.sta.get (staKey r st)).ident = wrap 32 pe + 1 := by
    rw [State.forward_rings]
    exact hi
  exact (if_neg (State.frame_taken hr hf)).trans ((if_neg (State.runs_forwarded h hm)).trans ((if_neg known).trans (if_neg first)))

theorem exec_identRx_admits (hin : nin = (s.rings.cfg.get (staKey r st)).inputs.length)
    (hout : nout = (s.rings.cfg.get (staKey r st)).outputs.length) (hlay : wrap 32 lay = s.reg STN.RINGr_STAa_LAYOUT.LAYOUT (staKey r st))
    (ha : s.staState (staKey r st) = StaState.absent) :
    let b := ((s.advance t).forward r rev h).noteIdent (staKey r st) pe
    exec (.identRx t r rev st pe nin nout lay ver h) s = .next ((b.startAdmission (staKey r st)).updSta (staKey r st) (fun d => { d with
      admitK := b.reg STN.RINGr_PERIOD.NUM r + 1, valid := false })) := by
  intro b
  have fits : b.identFits (staKey r st) nin nout lay = true := by
    simp [b, State.identFits, State.noteIdent_cfg, State.noteIdent_reg, hin, hout, hlay]
  have absent : b.staState (staKey r st) = StaState.absent := (State.noteIdent_reg ..).trans ((State.forward_reg ..).trans ha)
  have num : (b.startAdmission (staKey r st)).reg STN.RINGr_PERIOD.NUM r = b.reg STN.RINGr_PERIOD.NUM r :=
    (b.startAdmission_kept _).reg _ _ (by omega) (by decide)
  rw [exec_identRx_first hr hf hst hm hp hi, if_pos fits, if_pos (.inl absent), num]

theorem exec_identRx_rejects (hin : nin ≠ (s.rings.cfg.get (staKey r st)).inputs.length) (hg : s.staState (staKey r st) ≠ StaState.good) :
    exec (.identRx t r rev st pe nin nout lay ver h) s =
      .next ((((s.advance t).forward r rev h).noteIdent (staKey r st) pe).rejectStation (staKey r st) (wrap 32 lay)) := by
  let b := ((s.advance t).forward r rev h).noteIdent (staKey r st) pe
  have differs : ¬b.identFits (staKey r st) nin nout lay = true := by
    simp [b, State.identFits, State.noteIdent_cfg, hin]
  have state : b.staState (staKey r st) = s.staState (staKey r st) := (State.noteIdent_reg ..).trans (State.forward_reg ..)
  rw [exec_identRx_first hr hf hst hm hp hi, if_neg differs, if_neg (state ▸ hg)]

end Ident

/-! ### A CYCLE of another source (R197, R205, R220) -/

/-- A unit that does not originate follows a CYCLE (R205): its period is closed, and the CYCLE's begins. -/
def State.followCycle (s : State) (r e pe ps be bs : Nat) : State :=
  let u := ((s.closePeriod r).takeStations r).setReg STN.RINGr_PERIOD.NUM r pe
  u.updRing r (fun d => { d with
    startAt := u.now + 1, next := if bs % 16 = u.ringBase r then some (wrap 64 (ps + u.plen r)) else none, epoch := wrap 16 be
    counted := true, rxEpoch := e, heard := true, inRing := u.reg STN.RINGr_STAT.STATE r == 1 })

theorem State.ring_updRing (s : State) (r : Nat) (f : RingDyn → RingDyn) : (s.updRing r f).ring r = f (s.ring r) := by
  simp [State.ring, State.updRing, Tab.get_upd]

theorem State.followCycle_ring (s : State) (r e pe ps be bs : Nat) :
    let d := (s.followCycle r e pe ps be bs).ring r
    d.heard = true ∧ d.rxEpoch = e ∧ d.counted = true := by
  simp only [State.followCycle, State.ring_updRing, and_self]

theorem State.followCycle_num (s : State) {r : Nat} (e pe ps be bs : Nat) (hr : r < 2) :
    (s.followCycle r e pe ps be bs).reg STN.RINGr_PERIOD.NUM r = wrap 32 pe := by
  rw [State.followCycle, State.updRing_reg]
  exact State.reg_setReg _ pe hr

section Cycle
variable {s : State} {t r ep pe ps be bs h : Nat} {rev : Bool} (hr : r < 2) (hf : s.takesFrame r rev = true)
  (hm : s.mode.runtimeRuns = true)
include hr hf hm

/-- A higher epoch silences a unit that originates, on both rings (R197). -/
theorem exec_cycleRx_silences (ho : (((s.advance t).forward r rev h).seeRing (wrap 32 ep)).originates r = true)
    (hl : laterMod 32 (wrap 32 ep) (s.reg PAIR.EPOCH.EPOCH) = true) :
    exec (.cycleRx t r rev ep pe ps be bs h) s =
      .next (((((s.advance t).forward r rev h).seeRing (wrap 32 ep)).setReg STN.RINGr_STAT.EPOCH_HIGH r 1).each [0, 1]
        (fun s q => s.updRing q (fun d => { d with silenced := true }))) := by
  have later : laterMod 32 (wrap 32 ep) ((((s.advance t).forward r rev h).seeRing (wrap 32 ep)).reg PAIR.EPOCH.EPOCH) = true := by
    simpa using hl
  exact (if_neg (State.frame_taken hr hf)).trans ((if_neg (State.runs_forwarded h hm)).trans ((if_pos (.inl ho)).trans (if_pos later)))

/-- A STANDBY that has heard no CYCLE on the ring follows the first (R205). -/
theorem exec_cycleRx_follows (ho : (((s.advance t).forward r rev h).seeRing (wrap 32 ep)).originates r = false) (hs : s.mode = .standby)
    (hh : (s.ring r).heard = false) :
    exec (.cycleRx t r rev ep pe ps be bs h) s =
      .next ((((s.advance t).forward r rev h).seeRing (wrap 32 ep)).followCycle r (wrap 32 ep) pe ps be bs) := by
  let a := ((s.advance t).forward r rev h).seeRing (wrap 32 ep)
  have mode : a.mode = .standby := by simp [a, hs]
  have inactive : a.isActive = false := congrArg Mode.isActiveRole mode
  have passive : ¬(a.originates r = true ∨ (a.isActive = true ∧ (a.ring r).silenced = true)) :=
    not_or.mpr ⟨Bool.eq_false_iff.mp ho, fun hn => Bool.eq_false_iff.mp inactive hn.1⟩
  have follows : ¬(a.mode ≠ .standby ∧ a.mode ≠ .sync) := fun hn => hn.1 mode
  have unheard : ¬((a.ring r).heard = true ∧ (a.ring r).rxEpoch = wrap 32 ep ∧ a.reg STN.RINGr_PERIOD.NUM r = wrap 32 pe) := by
    have heard : (a.ring r).heard = false := by simpa [a, State.ring] using hh
    simp [heard]
  exact (if_neg (State.frame_taken hr hf)).trans ((if_neg (State.runs_forwarded h hm)).trans
    ((if_neg passive).trans ((if_neg follows).trans (if_neg unheard))))

end Cycle

/-! ### Own frames and frames that do not count (R178, R180, R182, R194) -/

/-- An own frame has returned; `l` says that it was the period's last (R194). -/
def State.noteReturn (s : State) (r : Nat) (l : Bool) : State := s.updRing r (fun d => { d with returned := d.returned || l })

/-- RINGr_RETURN and the longest return of a ring take a frame's time on the ring, in 0.1 µs (R194). -/
def State.showReturn (s : State) (r time : Nat) : State :=
  (s.setReg STN.RINGr_RETURN.TIME r time).updRing r (fun d => { d with maxReturn := max d.maxReturn time })

section Return
variable {s : State} {r pe : Nat} (t : Nat) (l : Bool) (hr : r < 2) (hc : (s.ring r).counted = true)
  (hn : wrap 32 pe = s.reg STN.RINGr_PERIOD.NUM r)

/-- The time a frame that returns now has been on its ring, as RINGr_RETURN shows it (R194). -/
def State.returnTime (s : State) (r : Nat) : Nat := min ((s.now - ((s.ring r).startAt - 1)) / 400) 65535

include hr hc hn

theorem State.frame_own : ¬(2 ≤ r ∨ (!((s.advance t).ring r).counted) = true ∨ wrap 32 pe ≠ (s.advance t).reg STN.RINGr_PERIOD.NUM r) :=
  not_or.mpr ⟨Nat.not_le.mpr hr, not_or.mpr ⟨Bool.eq_false_iff.mp (congrArg not hc), not_not.mpr hn⟩⟩

theorem exec_moduleFrameReturn_line (hi : (s.ring r).inRing = false) :
    exec (.moduleFrameReturn t r pe l) s = .next ((s.advance t).noteReturn r l) :=
  (if_neg (State.frame_own t hr hc hn)).trans (if_neg (Bool.eq_false_iff.mp hi))

theorem exec_moduleFrameReturn_ring (hi : (s.ring r).inRing = true) :
    exec (.moduleFrameReturn t r pe l) s = .next (((s.advance t).noteReturn r l).showReturn r ((s.advance t).returnTime r)) :=
  (if_neg (State.frame_own t hr hc hn)).trans (if_pos hi)

end Return

theorem State.showReturn_time (s : State) {r time : Nat} (hr : r < 2) (ht : time ≤ 65535) :
    (s.showReturn r time).reg STN.RINGr_RETURN.TIME r = time :=
  (State.reg_setReg s time hr).trans (Nat.mod_eq_of_lt (Nat.lt_succ_of_le ht))

theorem State.showReturn_kept (s : State) (r time : Nat) : s.regsKeptBut (s.showReturn r time) [STN.RINGr_RETURN.TIME] :=
  ((s.regsKeptBut_refl _).setReg (by simp) (by decide)).same rfl

/-- A counter field rises by one, and no other field changes. -/
theorem State.addReg_counts (s : State) {f : Fld} {i : Nat} (hi : i < f.count) (hc : f.count ≤ 2 ^ 20) :
    (s.addReg f i 1).reg f i = satAdd f.width (s.reg f i) 1 ∧ s.regsKeptBut (s.addReg f i 1) [f] :=
  ⟨s.reg_addReg 1 hi, (s.regsKeptBut_refl _).addReg (List.mem_singleton_self f) hc⟩

section Discarded
variable {s : State} (t : Nat)

theorem exec_foreignFrameRx (hm : s.mode.runtimeRuns = true) :
    exec (.foreignFrameRx t) s = .next ((s.advance t).addReg STN.FOREIGN.COUNT 0 1) := by
  simp [exec, execForeignFrameRx, State.when, hm]

theorem exec_ringFrameInvalid_retired {p : Nat} (f : Bool) (h : Nat) (hp : s.flag STN.PORTp_STAT.RETIRED p = true) :
    exec (.ringFrameInvalid t p f h) s = .next (s.advance t) := if_pos (.inr hp)

section InService
variable {p : Nat} (h : Nat) (hp : p < 4) (hm : s.mode.runtimeRuns = true) (hd : s.flag STN.PORTp_STAT.RETIRED p = false)
include hp hd

theorem State.port_in_service : ¬(4 ≤ p ∨ (s.advance t).flag STN.PORTp_STAT.RETIRED p = true) :=
  not_or.mpr ⟨Nat.not_le.mpr hp, Bool.eq_false_iff.mp hd⟩

include hm

theorem exec_ringFrameInvalid_fcs : exec (.ringFrameInvalid t p false h) s = .next ((s.advance t).addReg STN.PORTp_STAT.FCS p 1) := by
  refine (if_neg (State.port_in_service t hp hd)).trans ?_
  simp [State.when, hm]

theorem exec_ringFrameInvalid_malformed : exec (.ringFrameInvalid t p true h) s =
    .next (((s.advance t).forward (p / 2) (p % 2 == 0) h).addReg STN.FRAMEERR.COUNT 0 1) := by
  refine (if_neg (State.port_in_service t hp hd)).trans ?_
  simp [State.when, hm]

end InService

end Discarded

/-! ### Links of the station ports (R179, R467, R468) -/

/-- A station port loses its link: the loss is noted and counts against the port's budget (R467). -/
def State.loseLink (s : State) (p : Nat) : State :=
  ((s.sense STN.PORTp_STAT.LINK p 0).note 8 (0x100 + p) []).occur 7 p (0x130 + p)

section Link
variable {s : State} {p : Nat} (t : Nat) (hp : p < 4)
include hp

theorem exec_stationPortLinkDown (hl : s.sensed STN.PORTp_STAT.LINK p = true) :
    let a := (s.advance t).loseLink p
    exec (.stationPortLinkDown t p) s =
      if a.permanent 7 p ∧ !a.flag STN.PORTp_STAT.RETIRED p then
        .next ((a.setReg STN.PORTp_STAT.RETIRED p 1).retireItem 7 p 8 (0x100 + p) 0x8E0)
      else .next a := by
  have up : (s.advance t).sensed STN.PORTp_STAT.LINK p = true := hl
  exact if_neg (by simp [hp, up])

theorem exec_stationPortLinkUp (hd : s.flag STN.PORTp_STAT.RETIRED p = false) :
    exec (.stationPortLinkUp t p) s = .next ((s.advance t).sense STN.PORTp_STAT.LINK p 1) := by
  simp [exec, execStationPortLinkUp, State.when, hp, hd]

end Link

/-- Settles O26, event by event. -/
theorem ringEvents : Obligations.RingEvents := by
  refine ⟨fun s t r hr ho hp => ⟨fun he => ⟨_, exec_periodStart_starts hr ho hp he, rfl⟩, fun he => ⟨_, exec_periodStart_waits hr ho hp he, rfl⟩,
      fun he => ⟨_, exec_periodEarlyGuard hr ho hp he, rfl⟩⟩,
    fun s t r hr ho hs hg => ⟨_, exec_periodGuard hr ho hs hg, rfl⟩, ?segment, ?ident, ?cycle, ?untaken, ?returns, ?foreign, ?invalid,
    fun s t p h f hp => ⟨_, exec_ringFrameInvalid_retired t f h hp, rfl⟩,
    fun s r h rev hm hh => ⟨State.forward_sends hm hh, State.forward_stops⟩, ?down, ?up⟩
  case segment =>
    exact fun s t r st ep pe seq seg first h rev vals hr hf hm hst hseg hc hp hv hl =>
      ⟨fun he => ⟨_, exec_inputSegmentRx_oldEpoch hr hf hm hst hseg hc hp hv hl he, rfl⟩,
        fun he hd => ⟨_, exec_inputSegmentRx_late hr hf hm hst hseg hc hp hv hl he hd, rfl⟩,
        fun he hd hn => ⟨_, exec_inputSegmentRx_collects hr hf hm hst hseg hc hp hv hl he hd hn, rfl⟩⟩
  case ident =>
    exact fun s t r st pe nin nout lay ver h rev hr hf hst hm hp hi =>
      ⟨fun hin hout hlay ha => ⟨_, exec_identRx_admits hr hf hst hm hp hi hin hout hlay ha, rfl⟩,
        fun hin hg => ⟨_, exec_identRx_rejects hr hf hst hm hp hi hin hg, rfl⟩⟩
  case cycle =>
    refine fun s t r ep pe ps be bs h rev hr hf hm => ⟨fun ho hl => ⟨_, exec_cycleRx_silences hr hf hm ho hl, rfl⟩, fun ho hs hh => ?_⟩
    obtain ⟨heard, epoch, counted⟩ := State.followCycle_ring (((s.advance t).forward r rev h).seeRing (wrap 32 ep)) r (wrap 32 ep) pe ps be bs
    exact ⟨_, exec_cycleRx_follows hr hf hm ho hs hh, heard, epoch, counted, State.followCycle_num _ _ pe ps be bs hr⟩
  case untaken =>
    exact fun s t r st ep pe x y z w h rev vals hf => ⟨⟨_, exec_inputSegmentRx_untaken hf st ep pe x y z h vals, rfl⟩,
      ⟨_, exec_identRx_untaken hf st pe x y z w h, rfl⟩, ⟨_, exec_cycleRx_untaken hf ep pe x y z h, rfl⟩⟩
  case returns =>
    exact fun s t r pe l hr hc hn => ⟨fun hi => ⟨_, exec_moduleFrameReturn_line t l hr hc hn hi, rfl⟩,
      fun hi => ⟨_, exec_moduleFrameReturn_ring t l hr hc hn hi, State.showReturn_time _ hr (Nat.min_le_right ..),
        State.showReturn_kept ((s.advance t).noteReturn r l) r _⟩⟩
  case foreign =>
    intro s t hm
    obtain ⟨count, kept⟩ := (s.advance t).addReg_counts (f := STN.FOREIGN.COUNT) (i := 0) (by decide) (by decide)
    exact ⟨_, exec_foreignFrameRx t hm, count, kept, State.addReg_out .., State.addReg_img ..⟩
  case invalid =>
    intro s t p h hp hm hd
    obtain ⟨count, kept⟩ := (s.advance t).addReg_counts (f := STN.PORTp_STAT.FCS) hp (by decide)
    exact ⟨⟨_, exec_ringFrameInvalid_fcs t h hp hm hd, count, kept, State.addReg_out ..⟩,
      ⟨_, exec_ringFrameInvalid_malformed t h hp hm hd, rfl⟩⟩
  case down =>
    refine fun s t p hp hl => ⟨fun hn => ⟨_, (exec_stationPortLinkDown t hp hl).trans (if_neg ?_), rfl⟩,
      fun hy hd => ⟨_, (exec_stationPortLinkDown t hp hl).trans (if_pos ⟨hy, congrArg not hd⟩), rfl⟩⟩
    exact fun hy => Bool.eq_false_iff.mp hn hy.1
  case up =>
    exact fun s t p hp hd => ⟨_, exec_stationPortLinkUp t hp hd, State.reg_sense _ 1 hp,
      (State.regsKeptBut_of_regs (s' := s.advance t) _ rfl).sense (by simp) (by decide)⟩

end Sys2Proof.Machine

/-! ## The pair and the takeover (07_pair_and_takeover.md) -/

namespace Sys2Proof.Machine

/-! ### Demotion (O32)

A unit that leaves BOOT shows what lies outside (R19), and the statement bounds neither the mode a unit is demoted from nor that list. -/

/-- A unit in BOOT, outside which the flag of the line is listed. -/
def State.bootWithLineOutside : State := { State.reset with outside := [(PAIR.STAT.AUTH.key 0, 1)] }

theorem State.bootWithLineOutside_demoted : (State.bootWithLineOutside.demote 1).reg PAIR.STAT.AUTH = 1 := by decide +kernel

/-- Refutes O32: the unit of `State.bootWithLineOutside` has given up the line when it enters HALT, and the way out of BOOT shows it again (R19). -/
theorem not_demotionHalts : ¬ Obligations.DemotionHalts := by
  intro h
  obtain ⟨_, line, _⟩ := h State.bootWithLineOutside 1
  rw [State.bootWithLineOutside_demoted] at line
  exact absurd line (by decide)

/-! ### What a record, a write and an update of the pair leave alone -/

section Record
variable (s : State) (code inst : Nat) (sev : Severity) (ps : List (Nat × Nat)) (inj : Bool)

@[simp] theorem State.record_mode : (s.record code inst sev ps inj).mode = s.mode := by rw [(s.record_only code inst sev ps inj).2.2]
@[simp] theorem State.record_pair : (s.record code inst sev ps inj).pair = s.pair := by rw [(s.record_only code inst sev ps inj).2.2]
@[simp] theorem State.record_img : (s.record code inst sev ps inj).img = s.img := by rw [(s.record_only code inst sev ps inj).2.2]

end Record

/-- A flag of another field is as before a write. -/
theorem State.flag_setReg_other (s : State) (f g : Fld) (i j v : Nat) (hid : f.id ≠ g.id) (hc : f.count ≤ 2 ^ 20) (hj : j < 2 ^ 20) :
    (s.setReg f i v).flag g j = s.flag g j := by
  unfold State.flag
  rw [State.reg_setReg_other s f g i j v hid hc hj]

/-- A flag that a frame does not list is as before. -/
theorem State.regsKeptBut.flag {s s' : State} {fs : List Fld} (h : s.regsKeptBut s' fs) (f : Fld) (i : Nat) (hi : i < 2 ^ 20)
    (hf : ∀ g ∈ fs, g.id ≠ f.id) : s'.flag f i = s.flag f i := by
  unfold State.flag
  rw [h.reg f i hi hf]

/-! ### Heartbeats, paths and the link (O30) -/

/-- A lane that fails shows in the register, and leaves a record (R218). -/
theorem State.laneDown_shown (s : State) :
    let a := (s.setReg PAIR.STAT.LANE_DOWN 0 1).record 0x903 0 .warning []
    a.reg PAIR.STAT.LANE_DOWN = 1 ∧ s.regsKeptBut a (PAIR.STAT.LANE_DOWN :: recorderFlds) ∧ a.pair = s.pair ∧ a.mode = s.mode := by
  intro a
  obtain ⟨kept, _⟩ := (s.setReg PAIR.STAT.LANE_DOWN 0 1).record_only 0x903 0 .warning [] false
  refine ⟨?_, (State.setReg_kept _ _ _ _ _ (by simp) (by decide)).trans (kept.mono fun f hf => List.mem_cons_of_mem _ hf), ?_, ?_⟩
  · exact (kept.reg _ 0 (by decide) (by decide)).trans (s.reg_setReg 1 (by decide))
  · simp [a]
  · simp [a]

/-- The unit without its link: it feeds no transfer (R218). -/
def State.loseVorvy (s : State) : State := s.updPair (fun p => { p with linkUp := false, linkDownAt := s.now, feeding := false })

/-- The unit with its link back, and both lanes (R218, R243). -/
def State.findVorvy (s : State) : State := (s.updPair (fun p => { p with linkUp := true })).setReg PAIR.STAT.LANE_DOWN 0 0

section Link
variable {s : State} (t : Nat)

theorem exec_vorvyLinkLoss_standby (hp : s.flag PAIR.STAT.PATH2_LOST = false) (hm : s.mode = .standby) :
    exec (.vorvyLinkLoss t) s = .next ((s.advance t).loseVorvy.catchUp 8) := by
  simp [exec, execVorvyLinkLoss, State.loseVorvy, hp, hm]

theorem exec_vorvyLinkLoss_active (hp : s.flag PAIR.STAT.PATH2_LOST = false) (hm : s.mode = .active) :
    exec (.vorvyLinkLoss t) s = .next (s.advance t).loseVorvy.dropStream.judgePair := by
  simp [exec, execVorvyLinkLoss, State.loseVorvy, State.isActive, Mode.isActiveRole, hp, hm]

theorem State.findVorvy_syncwhy (s : State) : s.findVorvy.reg PAIR.STAT.SYNCWHY = s.reg PAIR.STAT.SYNCWHY :=
  State.reg_setReg_other _ _ _ _ _ _ (by decide) (by decide) (by decide)

theorem State.findVorvy_mode (s : State) : s.findVorvy.mode = s.mode := State.setReg_mode ..

theorem exec_vorvyLinkReturn_sync (hm : s.mode = .sync) (hw : s.reg PAIR.STAT.SYNCWHY = 8) :
    exec (.vorvyLinkReturn t) s = .next ((s.advance t).findVorvy.catchUp 8) := by
  have why : (s.advance t).findVorvy.reg PAIR.STAT.SYNCWHY = 8 := (State.findVorvy_syncwhy _).trans hw
  have mode : (s.advance t).findVorvy.mode = .sync := (State.findVorvy_mode _).trans hm
  refine (if_pos ⟨mode, .inr why⟩).trans ?_
  rw [← why]
  rfl

theorem exec_vorvyLinkReturn_standby (hm : s.mode = .standby) :
    exec (.vorvyLinkReturn t) s = .next (s.advance t).findVorvy := by
  have mode : (s.advance t).findVorvy.mode = .standby := (State.findVorvy_mode _).trans hm
  have role : (s.advance t).findVorvy.isActive = false := congrArg Mode.isActiveRole mode
  refine (if_neg fun sync => ?_).trans ?_
  · exact absurd (mode.symm.trans sync.1) (by decide)
  · change Host.Outcome.next ((s.advance t).findVorvy.when ((s.advance t).findVorvy.isActive && _) _) = _
    rw [role, Bool.false_and, State.when_false]

end Link

/-- A record of an unknown type is counted, and the first one is recorded (R223). -/
def State.countUnknown (s : State) (ty : Nat) : State :=
  let a := s.updPair (fun p => { p with unknownSeen := true, unknownCount := p.unknownCount + 1 })
  if s.pair.unknownSeen then a else a.record 0x908 0 .warning [(1, ty)]

theorem State.countUnknown_kept (s : State) (ty : Nat) :
    (s.countUnknown ty).pair = { s.pair with unknownSeen := true, unknownCount := s.pair.unknownCount + 1 } ∧
      s.regsKeptBut (s.countUnknown ty) recorderFlds ∧ (s.countUnknown ty).img = s.img ∧
      (s.pair.unknownSeen = true → (s.countUnknown ty).recorder = s.recorder) := by
  unfold State.countUnknown
  dsimp only
  split
  · exact ⟨rfl, s.regsKeptBut_of_regs _ rfl, rfl, fun _ => rfl⟩
  · next first =>
    obtain ⟨kept, _⟩ := (s.updPair (fun p => { p with unknownSeen := true, unknownCount := p.unknownCount + 1 })).record_only
      0x908 0 .warning [(1, ty)] false
    exact ⟨State.record_pair .., kept, State.record_img .., fun seen => absurd seen first⟩

/-- Settles O30, command by command. -/
theorem partnerIsHeardAndLost : Obligations.PartnerIsHeardAndLost := by
  refine ⟨fun s t hb => ⟨_, if_neg (by simp [hb]), rfl⟩, fun s => rfl, fun s t k h => ⟨_, if_pos (by simpa using h), rfl⟩,
    fun s t b0 b1 b2 b3 hm hc hn => ⟨_, if_neg (by simp [hm, hc, hn]), rfl⟩, fun s t b0 b1 b2 b3 h => ⟨_, if_pos (.inr h), rfl⟩,
    fun s t b0 c e v pr b13 peer hm hl hn => ⟨_, if_neg (by simp [hm, hl, hn]), rfl⟩, ?path1, ?path2,
    fun s t hf => ⟨_, if_neg (by simp [hf]), (s.advance t).laneDown_shown⟩, ?loss, ?returns, ?unknown⟩
  case path1 =>
    intro s t a hm hf hp
    have due : s.pair.p1At + Config.pathLost ≤ (s.advance t).now := hp
    exact ⟨_, if_neg (by simp [hm, hf, due]), rfl⟩
  case path2 =>
    intro s t a hm hf hp
    have due : s.pair.p2At + Config.pathLost ≤ (s.advance t).now := hp
    exact ⟨_, if_neg (by simp [hm, hf, due]), rfl⟩
  case loss =>
    exact fun s t => ⟨fun silent => ⟨_, if_pos silent, rfl⟩, fun heard hm => ⟨_, exec_vorvyLinkLoss_standby t heard hm, rfl⟩,
      fun heard hm => ⟨_, exec_vorvyLinkLoss_active t heard hm, rfl⟩⟩
  case returns =>
    exact fun s t => ⟨fun hm hw => ⟨_, exec_vorvyLinkReturn_sync t hm hw, rfl⟩, fun hm => ⟨_, exec_vorvyLinkReturn_standby t hm, rfl⟩⟩
  case unknown => exact fun s t ty hl => ⟨_, if_neg (by simp [hl]), (s.advance t).countUnknown_kept ty⟩

/-! ### The latch and its claims (O31) -/

section Claims
variable {s : State} (t : Nat)

/-- The unit that has been granted its claim holds the line under the epoch of the latch (R219, R220). -/
def State.lineGranted (s : State) (e : Nat) : State :=
  ((s.updPair (fun p => { p with claimFor := 0, lastRefresh := s.now })).setReg PAIR.EPOCH.EPOCH 0 e).setReg PAIR.STAT.AUTH 0 1

theorem State.claimGranted_takeover {e : Nat} (h : s.pair.claimFor = Claim.takeover) : s.claimGranted e = (s.lineGranted e).takeOver :=
  if_pos h

theorem State.claimGranted_resignation {e : Nat} (h : s.pair.claimFor = Claim.resignation) :
    s.claimGranted e = (s.lineGranted e).takeFromPartner := by
  simp [State.claimGranted, State.lineGranted, h, Claim.takeover, Claim.resignation]

theorem State.claimGranted_load {e : Nat} (h : s.pair.claimFor = Claim.load) :
    s.claimGranted e = (((s.lineGranted e).startRings false).afterLoad true).endLoading := by
  simp [State.claimGranted, State.lineGranted, h, Claim.takeover, Claim.resignation, Claim.load]

theorem State.claimGranted_start {e : Nat} (ht : s.pair.claimFor ≠ Claim.takeover) (hr : s.pair.claimFor ≠ Claim.resignation)
    (hl : s.pair.claimFor ≠ Claim.load) : s.claimGranted e = ((s.lineGranted e).startRings false).afterLoad false := by
  simp [State.claimGranted, State.lineGranted, ht, hr, hl]

theorem State.endLoading_flag (s : State) {f : Fld} {i : Nat} (hf : STRUCT.STAT.STATE.id ≠ f.id) (hi : i < 2 ^ 20) :
    s.endLoading.flag f i = s.flag f i := by
  unfold State.endLoading State.when
  split
  · exact State.flag_setReg_other _ _ _ _ _ _ hf (by decide) hi
  · rfl

/-- The refusal is recorded, and the claim is over (R233). -/
def State.claimOver (s : State) : State :=
  ((s.record 0x90B 0 .fault [(4, s.pair.claimCand)]).updPair (fun p => { p with claimFor := 0, resignRx := 0 })).endLoading

theorem State.claimRefused_catchesUp (s : State) :
    s.claimRefused = s.claimOver.catchUp
      (if (s.pair.claimFor = Claim.start ∨ s.pair.claimFor = Claim.load) ∧ s.flag PAIR.PARTNER.VALID then 1 else 7) := by
  have valid : s.claimOver.flag PAIR.PARTNER.VALID = s.flag PAIR.PARTNER.VALID :=
    (State.endLoading_flag _ (by decide) (by decide)).trans
      ((s.record_only 0x90B 0 .fault [(4, s.pair.claimCand)] false).1.flag PAIR.PARTNER.VALID 0 (by decide) (by decide))
  rw [← valid]
  rfl

theorem exec_claimResult (g : Bool) (e : Nat) (h : s.pair.claimFor ≠ 0) :
    exec (.claimResult t g e) s = .next (if g then (s.advance t).claimGranted (wrap 32 e) else (s.advance t).claimRefused) := if_neg h

theorem exec_claimReleased_idle (r : Bool) (h : s.flag PAIR.STAT.AUTH = false) : exec (.claimReleased t r) s = .next (s.advance t) :=
  if_pos (congrArg not h)

variable (h : s.flag PAIR.STAT.AUTH = true)
include h

theorem exec_claimReleased : exec (.claimReleased t true) s = .next ((s.advance t).demote 1) :=
  (if_neg (by simp [h])).trans (if_pos rfl)

theorem exec_claimReleased_later (hr : s.pair.hiRing.any (fun e => laterMod 32 e (s.reg PAIR.EPOCH.EPOCH)) = true) :
    exec (.claimReleased t false) s = .next ((s.advance t).demote 2) :=
  (if_neg (by simp [h])).trans ((if_neg Bool.false_ne_true).trans (if_pos hr))

theorem exec_claimReleased_none (hr : s.pair.hiRing.any (fun e => laterMod 32 e (s.reg PAIR.EPOCH.EPOCH)) = false) :
    exec (.claimReleased t false) s = .next (s.advance t) :=
  (if_neg (by simp [h])).trans ((if_neg Bool.false_ne_true).trans (if_neg (Bool.eq_false_iff.mp hr)))

theorem exec_latchRefresh : exec (.latchRefresh t) s =
    .next (((s.advance t).updPair (fun p => { p with lastRefresh := max s.now t })).emit .latchRefresh) := by
  simp [exec, execLatchRefresh, h, State.advance_now]

end Claims

/-- Settles O31, by what the claim was for and by what the latch answers. -/
theorem latchGivesTheLine : Obligations.LatchGivesTheLine := by
  refine ⟨fun s t h => ⟨_, exec_latchRefresh t h, rfl, rfl, rfl⟩, fun s t h => ⟨_, by simp [exec, execLatchRefresh, h], rfl⟩,
    fun s t e hc => ⟨fun h => ?takeover, fun h => ?resignation, fun h => ?load, fun ht hr hl => ?start⟩,
    fun s t e hc => completes_of_exec (exec_claimResult t false e hc) (s.advance t).claimRefused_catchesUp rfl,
    fun s t h => ⟨⟨_, exec_claimReleased t h, rfl⟩,
      fun e he hl => ⟨_, exec_claimReleased_later t h ((Option.any_eq_true ..).mpr ⟨e, he, hl⟩), rfl⟩,
      fun hn => ⟨_, exec_claimReleased_none t h hn, rfl⟩⟩,
    fun s t r h => ⟨_, exec_claimReleased_idle t r h, rfl⟩⟩
  case takeover => exact completes_of_exec (exec_claimResult t true e hc) (State.claimGranted_takeover h) rfl
  case resignation => exact completes_of_exec (exec_claimResult t true e hc) (State.claimGranted_resignation h) rfl
  case load => exact completes_of_exec (exec_claimResult t true e hc) (State.claimGranted_load h) rfl
  case start => exact completes_of_exec (exec_claimResult t true e hc) (State.claimGranted_start ht hr hl) rfl

/-! ### Acknowledgements and the bumpless state (O33) -/

@[simp] theorem State.advance_isActive (s : State) (t : Nat) : (s.advance t).isActive = s.isActive := rfl
@[simp] theorem State.advance_streaming (s : State) (t : Nat) : (s.advance t).streaming = s.streaming := rfl
@[simp] theorem State.advance_partnerStandby (s : State) (t : Nat) : (s.advance t).partnerStandby = s.partnerStandby := rfl

/-- With the link up a record outside the queue leaves under the next number, and nothing else changes (R222, R223). -/
theorem State.sendPlain_linked {s : State} (b : MBody) (h : s.pair.linkUp = true) :
    s.sendPlain b = (s.setReg PAIR.MSEQ_SENT.MSEQ 0 (wrap 32 (s.reg PAIR.MSEQ_SENT.MSEQ + 1))).emit
      (.mirror { sync := false, last := true, bulk := false, mseq := wrap 32 (s.reg PAIR.MSEQ_SENT.MSEQ + 1), seq64 := 0, body := b }) := by
  simp [State.sendPlain, h]

theorem exec_standbyAckSend {s : State} (t : Nat) (h : s.mode = .standby ∨ s.mode = .sync) :
    exec (.standbyAckSend t) s = .next (s.advance t).sendAck := by
  rcases h with h | h <;> simp [exec, execStandbyAckSend, h]

/-- The pair shows that it is bumpless, and leaves a record (R228). -/
def State.showBumpless (s : State) : State :=
  ((s.setReg PAIR.STAT.BUMPLESS 0 1).setReg PAIR.STAT.NBWHY 0 0).record 0x904 0 .info [(1, 1), (1, 0)]

theorem State.showBumpless_shown (s : State) :
    s.showBumpless.reg PAIR.STAT.BUMPLESS = 1 ∧ s.showBumpless.reg PAIR.STAT.NBWHY = 0 ∧
      s.regsKeptBut s.showBumpless ([PAIR.STAT.BUMPLESS, PAIR.STAT.NBWHY] ++ recorderFlds) ∧ s.showBumpless.pair = s.pair := by
  obtain ⟨kept, _⟩ := ((s.setReg PAIR.STAT.BUMPLESS 0 1).setReg PAIR.STAT.NBWHY 0 0).record_only 0x904 0 .info [(1, 1), (1, 0)] false
  refine ⟨(kept.reg _ 0 (by decide) (by decide)).trans ?_, (kept.reg _ 0 (by decide) (by decide)).trans (State.reg_setReg _ _ (by decide)), ?_, ?_⟩
  · rw [State.reg_setReg_other _ _ _ _ _ _ (by decide) (by decide) (by decide)]
    exact s.reg_setReg 1 (by decide)
  · exact (((s.regsKeptBut_refl _).setReg (by simp) (by decide)).setReg (by simp) (by decide)).trans
      (kept.mono fun f hf => List.mem_append_right _ hf)
  · simp [State.showBumpless]

/-- Settles O33, command by command. -/
theorem streamIsKeptUp : Obligations.StreamIsKeptUp := by
  refine ⟨fun s t ap st h => ⟨_, if_pos (by simpa using h), rfl⟩, fun s t ap st ha hl => ⟨_, if_neg (by simp [ha, hl]), rfl⟩, ?ack,
    fun s t h => ⟨_, if_neg (by simp [h]), rfl⟩,
    fun s t ha hw hd => ⟨_, if_pos ⟨ha, hw, hd⟩, State.showBumpless_shown _⟩, fun s t => ⟨_, rfl, rfl⟩⟩
  case ack =>
    intro s t hm hl
    refine completes_of_exec (exec_standbyAckSend t hm) (State.sendPlain_linked _ hl) ⟨?_, ?_, ?_, ?_⟩
    · simp
    · exact (s.advance t).setReg_kept _ _ _ _ (by simp) (by decide)
    · simp
    · simp

/-! ### Resignation, removal and the end of a transfer (O34) -/

/-- A STANDBY answers a RESIGN with a claim (R239). -/
def State.answerResign (s : State) (m : Nat) : State :=
  ((s.setReg PAIR.MSEQ_APPLIED.MSEQ 0 m).updPair (fun p => { p with resignRx := s.now + 1, rxSet := [] })).claim Claim.resignation

theorem exec_resignRecord {s : State} {h : RecHead} (t e m : Nat) (hl : s.pair.linkUp = true) (hm : s.mode = .standby)
    (hc : s.pair.claimFor = 0) : exec (.resignRecord t h e m) s = .next ((s.advance t).answerResign h.mseq) := by
  simp [exec, execResignRecord, State.answerResign, hl, hm, hc]

theorem State.answerResign_claims (s : State) (m : Nat) :
    (s.answerResign m).reg PAIR.MSEQ_APPLIED.MSEQ = wrap 32 m ∧ (s.answerResign m).pair.claimFor = Claim.resignation ∧
      (s.answerResign m).pair.resignRx = s.now + 1 ∧ (s.answerResign m).mode = s.mode ∧
      s.regsKeptBut (s.answerResign m) [PAIR.MSEQ_APPLIED.MSEQ] ∧
      ∃ c, (s.answerResign m).out = .claim c :: s.out ∧ (s.answerResign m).pair.claimCand = c :=
  ⟨s.reg_setReg m (by decide), rfl, rfl, State.setReg_mode .., State.setReg_kept _ _ _ _ _ (by simp) (by decide),
    _, congrArg _ (State.setReg_out ..), rfl⟩

/-- The early-break contact has broken: the unit shows that it leaves (R241). -/
def State.leave (s : State) : State :=
  ({ s with power := { s.power with earlyBroke := true, earlyMade := false } }).setReg PAIR.STAT.LEAVING 0 1

section EarlyBreak
variable {s : State} (t : Nat) (hm : s.mode ≠ .off) (he : s.power.earlyMade = true)
include hm he

theorem exec_earlyBreak_other (ha : s.isActive = false) : exec (.earlyBreak t) s = .next (s.advance t).leave := by
  have role : (s.advance t).leave.isActive = false := (congrArg Mode.isActiveRole (State.setReg_mode ..)).trans ha
  exact (if_neg hm).trans ((if_neg (by simp [he])).trans (if_pos (.inl (congrArg not role))))

theorem exec_earlyBreak_resigns (ha : s.isActive = true) (hw : s.power.warned = false) (hp : (s.advance t).leave.partnerStandby = true) :
    exec (.earlyBreak t) s = .next ((s.advance t).leave.resignShort 3) := by
  have role : (s.advance t).leave.isActive = true := (congrArg Mode.isActiveRole (State.setReg_mode ..)).trans ha
  have unwarned : (s.advance t).leave.power.warned = false := (congrArg PowerSt.warned (State.setReg_power ..)).trans hw
  refine (if_neg hm).trans ((if_neg (by simp [he])).trans ((if_neg ?_).trans (if_pos hp)))
  rintro (other | warned)
  · exact absurd ((congrArg not role).symm.trans other) (by decide)
  · exact absurd (unwarned.symm.trans warned) (by decide)

end EarlyBreak

/-- A pin that stays energised shows, and leaves a record (R214). -/
def State.showShadow (s : State) (p : Nat) : State :=
  (((s.setReg PAIR.STAT.SHADOW_FAULT 0 1).setReg PAIR.SHADOW.PIN 0 p).setReg PAIR.SHADOW.VALID 0 1).record 0x909 0 .fault [(1, p)]

section ShadowFault
variable (s : State) (p : Nat)

theorem State.showShadow_mode : (s.showShadow p).mode = s.mode := by simp [State.showShadow]

theorem State.showShadow_isActive : (s.showShadow p).isActive = s.isActive := congrArg Mode.isActiveRole (s.showShadow_mode p)

theorem State.showShadow_kept :
    s.regsKeptBut (s.showShadow p) ([PAIR.STAT.SHADOW_FAULT, PAIR.SHADOW.PIN, PAIR.SHADOW.VALID] ++ recorderFlds) :=
  ((((s.regsKeptBut_refl _).setReg (by simp) (by decide)).setReg (by simp) (by decide)).setReg (by simp) (by decide)).only
    (State.record_only ..) fun _ hf => List.mem_append_right _ hf

theorem State.showShadow_partnerStandby : (s.showShadow p).partnerStandby = s.partnerStandby := by
  have kept := s.showShadow_kept p
  have pair : (s.showShadow p).pair = s.pair := by simp [State.showShadow]
  unfold State.partnerStandby State.partnerPresent
  rw [kept.flag PAIR.PARTNER.VALID 0 (by decide) (by decide), kept.flag PAIR.PARTNER.LEAVING 0 (by decide) (by decide),
    kept.reg PAIR.PARTNER.MODE 0 (by decide) (by decide), pair]

variable {s p} (t : Nat) (hp : p < 64) (hd : s.reg FPIN.PINp_CFG.DIR p = 2) (hc : s.pinCommand p = false) (hm : s.mode.drivesPins = true)
include hp hd hc hm

theorem exec_shadowFault :
    let a := (s.advance t).showShadow p
    let b := a.when (a.isActive && a.partnerStandby) (fun s => s.emit (.releasePin p))
    exec (.shadowFault t p) s = .next (if b.mode = .standby then (b.setReg FPIN.PINp_STAT.RELEASED p 1).showPin p else b) := by
  have off : (s.advance t).pinCommand p = false := hc
  exact if_neg (by simp [hp, hd, off, hm])

theorem exec_shadowFault_standby (hs : s.mode = .standby) :
    exec (.shadowFault t p) s = .next ((((s.advance t).showShadow p).setReg FPIN.PINp_STAT.RELEASED p 1).showPin p) := by
  have mode : ((s.advance t).showShadow p).mode = .standby := (State.showShadow_mode ..).trans hs
  have role : ((s.advance t).showShadow p).isActive = false := congrArg Mode.isActiveRole mode
  rw [exec_shadowFault t hp hd hc hm, role]
  exact congrArg _ (if_pos mode)

theorem exec_shadowFault_other (hs : s.mode ≠ .standby) :
    exec (.shadowFault t p) s = .next (if s.isActive && s.partnerStandby then ((s.advance t).showShadow p).emit (.releasePin p)
      else (s.advance t).showShadow p) := by
  have mode : ((s.advance t).showShadow p).mode ≠ .standby := fun h => hs (((s.advance t).showShadow_mode p).symm.trans h)
  rw [exec_shadowFault t hp hd hc hm, State.showShadow_isActive, State.showShadow_partnerStandby, State.advance_isActive,
    State.advance_partnerStandby]
  cases s.isActive && s.partnerStandby
  · exact congrArg _ (if_neg mode)
  · exact congrArg _ (if_neg mode)

end ShadowFault

/-- Settles O34, command by command. -/
theorem resignationAndRemoval : Obligations.ResignationAndRemoval := by
  refine ⟨fun s t m => ⟨_, rfl, rfl⟩, fun s t hw he => ⟨_, if_pos ⟨hw, he⟩, rfl, rfl⟩, fun s t ha hr hd hb => ⟨_, if_pos ?drained, rfl⟩,
    fun s t e m h hl hm hc => ⟨_, exec_resignRecord t e m hl hm hc, ?resign⟩,
    fun s t he hm => ⟨fun ha => ⟨_, exec_earlyBreak_other t hm he ha, rfl⟩,
      fun ha hw hp => ⟨_, exec_earlyBreak_resigns t hm he ha hw hp, rfl⟩⟩,
    fun s t ha hs hr hl hb => ⟨_, if_pos ⟨ha, hs, hr, hl, congrArg not hb⟩, rfl⟩,
    fun s t hw hm hc hl => ⟨_, if_pos ⟨hw, hm, hc, hl⟩, rfl⟩,
    fun s t hm hb hl hp => ⟨_, if_pos ⟨hm, hb, hl, hp⟩, rfl⟩,
    fun s t p hp hd hc hm => ⟨fun hs => ⟨_, exec_shadowFault_standby t hp hd hc hm hs, rfl⟩,
      fun hs => ⟨_, exec_shadowFault_other t hp hd hc hm hs, rfl⟩⟩⟩
  case drained =>
    refine ⟨ha, hr, hd, hb.imp_right ?_⟩
    rintro ⟨short, late⟩
    simp [short, late]
  case resign =>
    obtain ⟨applied, claimFor, heard, mode, kept, claim⟩ := (s.advance t).answerResign_claims h.mseq
    exact ⟨applied, claimFor, heard, mode.trans hm, kept, claim⟩

/-! ### Structures in the stream (O35) -/

section StructRecord
variable {s : State} {h : RecHead} {c : Container} (t : Nat) (hl : s.pair.linkUp = true) (hlast : h.last = true)

theorem exec_structRecord_unheard (ho : h.last = false ∨ s.pair.linkUp = false) : exec (.structRecord t h c) s = .next (s.advance t) :=
  if_pos (by simpa using ho.symm)

include hl hlast

theorem structRecord_heard : ¬((!(s.advance t).pair.linkUp) = true ∨ (!h.last) = true) := by simp [hl, hlast]

theorem exec_structRecord_delta (hm : s.mode = .standby) (hk : c.kind = 2) :
    exec (.structRecord t h c) s = .next (((s.advance t).takeDelta c).setReg PAIR.MSEQ_APPLIED.MSEQ 0 h.mseq) :=
  (if_neg (structRecord_heard t hl hlast)).trans (if_pos ⟨hm, hk⟩)

theorem exec_structRecord_whole (hn : s.mode ≠ .standby ∨ c.kind ≠ 2) :
    let a := (s.advance t).checkPartner
    exec (.structRecord t h c) s = if a.mode = .sync ∧ 2 ≤ a.reg PAIR.BULK.PHASE then
      .next ((a.takeStructure c).setReg PAIR.MSEQ_APPLIED.MSEQ 0 h.mseq) else .next a :=
  (if_neg (structRecord_heard t hl hlast)).trans (if_neg (not_and_or.mpr hn))

end StructRecord

/-- Settles O35, by the mode and by the phase of the transfer. -/
theorem streamedStructures : Obligations.StreamedStructures := by
  refine ⟨fun s t h c hl hlast hm hk => ⟨_, exec_structRecord_delta t hl hlast hm hk, rfl⟩,
    fun s t h c hl hlast hn => ⟨fun hm hp => ?takes, fun ho => ?waits⟩,
    fun s t h c ho => ⟨_, exec_structRecord_unheard t ho, rfl⟩⟩
  case takes => exact ⟨_, (exec_structRecord_whole t hl hlast hn).trans (if_pos ⟨hm, hp⟩), rfl⟩
  case waits => exact ⟨_, (exec_structRecord_whole t hl hlast hn).trans (if_neg (not_and_or.mpr (ho.imp_right Nat.not_le.mpr))), rfl⟩

end Sys2Proof.Machine

/-! ## Requests of the ports (14_ports_and_authority.md) -/

namespace Sys2Proof.Machine

/-! ### The arrival of a request (R412, R416, R420, R427)

Before it is judged a request changes counters of the ports, the table of clients, the rate of CELL, and the instant of the latest command traffic. -/

/-- What a request that goes on, and is counted, changes. -/
def State.arrivedOnly (s u : State) : Prop :=
  s.regsKeptBut u [PORT.CELL_CNT.RX, PORT.CMDCNT.COUNT] ∧
    u = { s with
      regs := u.regs, raced := u.raced, port := { s.port with clients := u.port.clients, cellFull := u.port.cellFull }
      struct := { s.struct with traffic := u.struct.traffic } }

theorem State.arrivedOnly.trans {s u v : State} (h : s.arrivedOnly u) (h' : u.arrivedOnly v) : s.arrivedOnly v := by
  refine ⟨h.1.trans h'.1, ?_⟩
  rw [h'.2, h.2]

theorem State.arrivedOnly_addReg (s : State) (f : Fld) (i n : Nat) (hf : f ∈ [PORT.CELL_CNT.RX, PORT.CMDCNT.COUNT]) :
    s.arrivedOnly (s.addReg f i n) := by
  refine ⟨(s.regsKeptBut_refl _).addReg hf ?_, ?_⟩
  · simp only [List.mem_cons, List.not_mem_nil, or_false] at hf
    rcases hf with rfl | rfl <;> decide
  · rw [State.addReg_frame]

theorem State.arrivedOnly_port (s : State) (l : List Client) (n : Nat) :
    s.arrivedOnly { s with port := { s.port with clients := l, cellFull := n } } := ⟨s.regsKeptBut_of_regs _ rfl, rfl⟩

theorem State.arrivedOnly_traffic (s : State) (n : Nat) : s.arrivedOnly (s.updStruct (fun x => { x with traffic := n })) :=
  ⟨s.regsKeptBut_of_regs _ rfl, rfl⟩

namespace State.arrivedOnly
variable {s u : State} (h : s.arrivedOnly u)
include h

theorem reg (f : Fld) (i : Nat) (hi : i < 2 ^ 20) (hf : ∀ g ∈ [PORT.CELL_CNT.RX, PORT.CMDCNT.COUNT], g.id ≠ f.id) : u.reg f i = s.reg f i :=
  h.1.reg f i hi hf

theorem flag (f : Fld) (i : Nat) (hi : i < 2 ^ 20) (hf : ∀ g ∈ [PORT.CELL_CNT.RX, PORT.CMDCNT.COUNT], g.id ≠ f.id) : u.flag f i = s.flag f i :=
  h.1.flag f i hi hf

theorem now : u.now = s.now := by rw [h.2]
theorem mode : u.mode = s.mode := by rw [h.2]
theorem pending : u.pending = s.pending := by rw [h.2]
theorem image : u.struct.image = s.struct.image := by rw [h.2]
theorem keys : u.struct.keys = s.struct.keys := by rw [h.2]
theorem loading : u.struct.loading = s.struct.loading := by rw [h.2]
theorem prepared : u.struct.prepared = s.struct.prepared := by rw [h.2]
theorem session : u.port.session = s.port.session := by rw [h.2]
theorem upd : u.upd = s.upd := by rw [h.2]

theorem isActive : u.isActive = s.isActive := congrArg Mode.isActiveRole h.mode

theorem admitsClass (p k : Nat) : u.admitsClass p k = s.admitsClass p k := by
  unfold State.admitsClass State.portClasses State.imageClasses
  rw [h.reg PORT.STAT.KEY 0 (by decide) (by decide), h.flag PORT.CFG.REMENG 0 (by decide) (by decide),
    h.reg PORT.IMGCEIL.WORD 0 (by decide) (by decide), h.image]

theorem listens (p : Nat) : u.listens p = s.listens p := by
  have up (v : State) : v.live PORT.STAT.CELL_UP 0 = bn (v.flag PORT.STAT.CELL_UP && v.isActive) := rfl
  unfold State.listens
  rw [up, up, h.mode, h.flag SYS.UNITS.MODEM 0 (by decide) (by decide), h.flag PORT.STAT.CELL_UP 0 (by decide) (by decide), h.isActive]

theorem waitsInSpan (g : Nat) (k : Instr → Req → Bool) : u.waitsInSpan g k = s.waitsInSpan g k := by
  unfold State.waitsInSpan
  rw [h.pending, h.now]

theorem openOutranked (p c : Nat) : u.openOutranked p c = s.openOutranked p c := by
  unfold State.openOutranked
  rw [h.waitsInSpan]
  simp only [h.listens, h.admitsClass]

theorem sessionBusy : u.sessionBusy = s.sessionBusy := by
  unfold State.sessionBusy
  rw [h.session, h.loading, h.prepared]

theorem preparedIs (n : Nat) : u.preparedIs n = s.preparedIs n := by
  unfold State.preparedIs
  rw [h.prepared, h.reg STRUCT.STAT.STATE 0 (by decide) (by decide), h.reg STRUCT.PEND_ID.ID 0 (by decide) (by decide)]

theorem modeAccepts (n : Nat) : u.modeAccepts n = s.modeAccepts n := by
  unfold State.modeAccepts State.checkOk
  rw [h.mode, h.image, h.reg STRUCT.STAT.STATE 0 (by decide) (by decide), h.flag PAIR.STAT.AUTH 0 (by decide) (by decide),
    h.flag SYS.UNITS.SAFE 0 (by decide) (by decide), h.flag SAFE.STAT.CONFIRMED 0 (by decide) (by decide)]

end State.arrivedOnly

/-- The check of the CELL port's rate lets the request through (R427). -/
theorem State.cellAdmits_within {s : State} (h : max s.now s.port.cellFull + msec 50 ≤ s.now + sec 2) :
    s.cellAdmits = (true, { s with port := { s.port with cellFull := max s.now s.port.cellFull + msec 50 } }) := by
  unfold State.cellAdmits
  dsimp only
  rw [if_pos h]

/-- Judging a request changes the table of clients alone (R420). -/
theorem State.judgeClient_only (s : State) (r : Req) : s.arrivedOnly (s.judgeClient r).2 := by
  fun_cases State.judgeClient s r
  case case1 => exact s.arrivedOnly_port _ s.port.cellFull
  case case2 => exact s.arrivedOnly_port _ s.port.cellFull

/-- How a request compares with the table of clients rests on the table alone (R420). -/
theorem State.judgeClient_congr {s u : State} (h : u.port.clients = s.port.clients) (r : Req) : (u.judgeClient r).1 = (s.judgeClient r).1 := by
  fun_cases State.judgeClient s r with
  | case1 put hs =>
    fun_cases State.judgeClient u r with
    | case1 put hu => rfl
    | case2 put c hu a d hj =>
      rw [h, hs] at hu
      cases hu
  | case2 put c hs a d hj =>
    fun_cases State.judgeClient u r with
    | case1 put hu =>
      rw [h, hs] at hu
      cases hu
    | case2 put c' hu a' d' hj' =>
      rw [h, hs] at hu
      cases hu
      rw [hj] at hj'
      cases hj'
      rfl

/-- The rate of the CELL port, which requests on other ports do not meet (R427). -/
def State.passRate (s : State) (r : Req) : Bool × State :=
  if r.port = 3 then (s.addReg PORT.CELL_CNT.RX 0 1).cellAdmits else (true, s)

theorem State.passRate_within {s v : State} {r : Req} {ok : Bool} (h : r.port = 3 → max s.now s.port.cellFull + msec 50 ≤ s.now + sec 2)
    (hp : s.passRate r = (ok, v)) : ok = true ∧ s.arrivedOnly v ∧ v.port.clients = s.port.clients := by
  unfold State.passRate at hp
  split at hp
  · next cell =>
    have counted := s.arrivedOnly_addReg PORT.CELL_CNT.RX 0 1 (by simp)
    rw [State.cellAdmits_within (by simpa using h cell)] at hp
    cases hp
    exact ⟨rfl, counted.trans (State.arrivedOnly_port _ _ _), by simp⟩
  · cases hp
    exact ⟨rfl, ⟨s.regsKeptBut_refl _, rfl⟩, rfl⟩

/-- A request that goes on is judged by its class next (R414). -/
theorem State.arrive_goesOn {s : State} {r : Req} (h : s.goesOn r) (op n : Nat) : ∃ u, s.arrive r op n = (true, u) ∧ s.arrivedOnly u := by
  obtain ⟨listens, client, rate, first, fresh⟩ := h
  have passes {ok : Bool} {v : State} (hp : (s.updStruct (fun x => { x with traffic := s.now })).passRate r = (ok, v)) :
      ok = true ∧ s.arrivedOnly v ∧ (v.judgeClient r).1 = .fresh := by
    obtain ⟨passed, only, clients⟩ := State.passRate_within (by simpa using rate) hp
    exact ⟨passed, (s.arrivedOnly_traffic s.now).trans only, (State.judgeClient_congr (s := s) clients r).trans fresh⟩
  fun_cases State.arrive s r op n with
  | case1 deaf => simp [listens] at deaf
  | case2 _ none => exact absurd none client
  | case3 _ _ _ ok v hp refused =>
    obtain ⟨passed, _⟩ := passes hp
    simp [passed] at refused
  | case4 _ _ _ ok v hp _ second =>
    obtain ⟨_, only, _⟩ := passes hp
    unfold State.outranked at first second
    simp only [only.waitsInSpan, only.listens, first] at second
    exact absurd second (by decide)
  | case5 _ _ _ ok v hp _ _ u judged =>
    obtain ⟨_, only, _⟩ := passes hp
    have table := v.judgeClient_only r
    rw [judged] at table
    exact ⟨u, rfl, only.trans table⟩
  | case6 _ _ _ ok v hp _ _ u judged =>
    obtain ⟨_, _, new⟩ := passes hp
    rw [judged] at new
    cases new
  | case7 _ _ _ ok v hp _ _ u judged =>
    obtain ⟨_, _, new⟩ := passes hp
    rw [judged] at new
    cases new

/-! ### A request that is taken up (R414, R418, R419) -/

section Admitted
variable {s : State} {r : Req} {row : CmdRow} {narrow n : Nat}

theorem State.taken_only (h : s.goesOn r) : s.arrivedOnly (s.taken r row n) := by
  obtain ⟨u, arrived, only⟩ := State.arrive_goesOn h row.op n
  unfold State.taken
  rw [arrived]
  exact only.trans (State.arrivedOnly_addReg _ _ _ _ (by simp))

theorem State.admitsRequest.goes (h : s.admitsRequest r row narrow n) : s.goesOn r := h.1

theorem State.admitsRequest.only (h : s.admitsRequest r row narrow n) : s.arrivedOnly (s.taken r row n) := State.taken_only h.goes

/-- What narrows a request that is taken up is OK. -/
theorem State.admitsRequest.free (h : s.admitsRequest r row narrow n) : narrow = Status.ok := by
  obtain ⟨_, _, _, free, _⟩ := h
  exact free

theorem State.admitsRequest.narrowed {k : Nat} (h : s.admitsRequest r row narrow n) (hk : k = Status.ok) : s.admitsRequest r row k n := by
  obtain ⟨goes, cls, recovery, _, role, items⟩ := h
  exact ⟨goes, cls, recovery, hk, role, items⟩

theorem State.wholeStatus_admits {u : State} (h : s.admitsRequest r row narrow n) (only : s.arrivedOnly u) :
    u.wholeStatus r row narrow n = none := by
  obtain ⟨-, cls, recovery, free, role, some, few⟩ := h
  have rom : ¬(u.mode = .recovery ∧ (!romOps.contains row.op) = true) := by
    rintro ⟨hm, hr⟩
    rw [recovery (only.mode.symm.trans hm)] at hr
    exact absurd hr (by decide)
  have active : ¬(1 ≤ row.cls ∧ row.cls ≤ 3 ∧ (!u.isActive) = true) := by
    rintro ⟨h1, h3, hn⟩
    rw [only.isActive, role h1 h3] at hn
    exact absurd hn (by decide)
  simp only [State.wholeStatus, only.admitsClass, cls, rom, free, active, Nat.ne_of_gt some, Nat.not_lt.mpr few, Bool.not_true,
    Bool.false_eq_true, ne_eq, not_true_eq_false, if_false]

variable {α : Type} {f : State → α → ItemResult × State} {finish : State → List ItemResult → State}

/-- An admitted request: its items meet the state `taken`, and their results are answered (R414, R419). -/
theorem State.serveWith_admitted {l : List α} (h : s.admitsRequest r row narrow l.length) :
    let d := (s.taken r row l.length).doItems f l
    s.serveWith r row narrow l f finish = finish d.2 d.1 := by
  obtain ⟨u, arrived, only⟩ := State.arrive_goesOn h.goes row.op l.length
  unfold State.serveWith State.taken
  simp only [arrived, State.wholeStatus_admits h only, Bool.not_true, Bool.false_eq_true, if_false]

theorem State.serve_admitted {l : List α} (h : s.admitsRequest r row narrow l.length) :
    let d := (s.taken r row l.length).doItems f l
    s.serve r row narrow l f = d.2.answer r row.op d.1 := State.serveWith_admitted h

variable {x : α} {a : ItemResult} {v : State} (h : s.admitsRequest r row narrow 1) (hf : f (s.taken r row 1) x = (a, v))
include h hf

theorem State.serveWith_one : s.serveWith r row narrow [x] f finish = finish v [a] := by
  refine (State.serveWith_admitted (l := [x]) h).trans ?_
  simp only [List.length_singleton, State.doItems, hf]

theorem State.serve_one : s.serve r row narrow [x] f = v.answer r row.op [a] := State.serveWith_one h hf

end Admitted

/-! ### ENGINEER and MAINTAIN requests (O51)

What the items of a request answer. -/

@[simp] theorem State.advance_trialBlocks (s : State) (t : Nat) : (s.advance t).trialBlocks = s.trialBlocks := rfl

/-- A session may open (R425, R439): none is open, and no other open goes first. -/
theorem State.arrivedOnly.mayOpen {s u : State} {p c : Nat} (h : s.arrivedOnly u) (hb : s.sessionBusy = false)
    (ho : s.openOutranked p c = false) : ¬(u.sessionBusy || u.openOutranked p c) = true := by
  rw [h.sessionBusy, h.openOutranked, hb, ho]
  decide

/-- A length of a structure transfer is neither 0 nor too large (R262). -/
theorem structLength_fits {n : Nat} (h0 : 0 < n) (hn : n ≤ structMax) : ¬(n = 0 ∨ structMax < n) := by omega

theorem not_isNone {α : Type} {o : Option α} (h : o.isSome = true) : ¬o.isNone = true :=
  fun none => Option.isSome_iff_ne_none.mp h (Option.isNone_iff_eq_none.mp none)

section Items
variable {s : State} {r : Req}

theorem State.fwOpen_opens {w n : Nat} (hm : ¬(s.sessionBusy || s.openOutranked r.port r.client) = true) (hw : w < 512) (h0 : 0 < n)
    (hn : n ≤ fwSlotSize (wrap 8 w)) (hs : s.upd.staged = 0 ∨ s.upd.staged = wrap 8 w) :
    s.fwOpen r (w, n) = ((s.openSession r 2 n w).1, (s.openSession r 2 n w).2.setUpdState UpdState.receiving (wrap 8 w - 1)) := by
  have fits : ¬(512 ≤ w ∨ n = 0 ∨ fwSlotSize (wrap 8 w) < n) := by omega
  have unstaged : ¬(s.upd.staged != 0 && s.upd.staged != wrap 8 w) = true := by
    rcases hs with h | h <;> simp [h]
  exact (if_neg hm).trans ((if_neg fits).trans (if_neg unstaged))

theorem State.xfer_takes {o : Nat} {data : List Nat} {z : Session} (hz : s.port.session = some z) (hd : data.length ≤ 1024)
    (ho : o + data.length ≤ z.total) :
    s.xfer (o, data) = plainItem Status.ok { s with port := { s.port with session := some { z with
      lastAt := s.now
      got := (data.zip (List.range data.length)).foldl (fun g (y : Nat × Nat) => g.set (o + y.2) (wrap 8 y.1 + 1)) z.got } } } := by
  simp [State.xfer, hz, Nat.not_lt.mpr hd, Nat.not_lt.mpr ho]

theorem State.regwin_read {a : Nat} (v : Nat) (ha : a % 4 = 0) (hp : inPage a = true) :
    s.regwin (a, 4, 0, v) = ((0, leBytes 4 (s.readRegister 36 a).1), (s.readRegister 36 a).2) := by
  simp [State.regwin, ha, hp, Status.ok]

theorem State.regwin_write {a : Nat} (v : Nat) (ha : a % 4 = 0) (hp : inPage a = true) :
    s.regwin (a, 4, 1, v) = (((s.writeRegister 36 a (wrap 32 v) 0).1, leBytes 4 0), (s.writeRegister 36 a (wrap 32 v) 0).2) := by
  simp [State.regwin, ha, hp]

theorem State.retireClear_marks {k i : Nat} {e : RetEntry} (hi : i < kindCount k)
    (he : s.life.retired.find? (fun e => e.kind == k && e.index == i) = some e) (hc : e.clearPending = false) :
    s.retireClear (k, i) = ((0, []), ({ s with life := { s.life with retired := s.life.retired.map (fun (y : RetEntry) =>
      if y.kind = k ∧ y.index = i then { y with clearPending := true } else y) } }).record ((itemSource k i).1 * 256 + 0xF2)
        (itemSource k i).2 .info [(1, k), (2, i)]) := by
  simp [State.retireClear, Nat.not_le.mpr hi, he, hc, plainItem, Status.ok]

end Items

/-- A MODE request that the unit accepts is answered with the new mode, and `after` follows (R484). -/
theorem State.modeRequest_accepted {s : State} {r : Req} {code : Nat} {f after : State → State} (h : s.admitsRequest r ⟨0x40B, 4, 1⟩ 0 1)
    (hc : s.modeAccepts code = true) :
    let d := f (s.taken r ⟨0x40B, 4, 1⟩ 1)
    s.modeRequest r code [code] f after = after (d.answer r 0x40B [(0, leBytes 4 d.mode.code)]) := by
  intro d
  have accepted : (s.taken r ⟨0x40B, 4, 1⟩ 1).modeAccepts code = true := (h.only.modeAccepts code).trans hc
  unfold State.modeRequest
  rw [State.serveWith_one (a := (Status.ok, leBytes 4 d.mode.code)) (v := d) h (by simp [accepted, d])]
  exact if_pos rfl

/-- A MODE request after which nothing is left to do: the new mode's effect and its answer are all (R484). -/
theorem State.modeRequest_answered {s : State} {r : Req} {code : Nat} {f : State → State} (h : s.admitsRequest r ⟨0x40B, 4, 1⟩ 0 1)
    (hc : s.modeAccepts code = true) :
    let d := f (s.taken r ⟨0x40B, 4, 1⟩ 1)
    s.modeRequest r code [code] f id = d.answer r 0x40B [(0, leBytes 4 d.mode.code)] := (State.modeRequest_accepted h hc).trans (id_eq _)

/-- A mailbox request of a command (R360): its response waits for the unit, unless the mailbox has answered at once. -/
theorem State.serveMailbox_asked {s : State} {r : Req} {row : CmdRow} {narrow v : Nat} (op : Nat) (allowed : State → Bool)
    (h : s.admitsRequest r row narrow 1) (hu : s.flag SYS.UNITS.SAFE = true) :
    let n := (s.taken r row 1).setReg SAFE.MBOX_ARG.ARG 0 v
    let d := n.mbox (allowed n) op (some (r, row.op))
    s.serveMailbox r row narrow op [v] allowed = if (d.safe.request.bind (·.reply)) = some (r, row.op) then d
      else d.answer r row.op [(0, leBytes 4 (d.reg SAFE.MBOX_STAT.RESULT))] := by
  have fitted : (s.taken r row 1).flag SYS.UNITS.SAFE = true := (h.only.flag _ 0 (by decide) (by decide)).trans hu
  exact State.serveWith_one h (if_pos fitted)

section XferEnd
variable {b : State} {z : Session} (r : Req) {crc : Nat} (k : Content) (peer : Option FwImage) (hz : b.port.session = some z)
  (hw : z.complete = true)

/-- The session has had traffic (R425). -/
def State.touchSession (b : State) (z : Session) : State := { b with port := { b.port with session := some { z with lastAt := b.now } } }

include hz hw

theorem State.xferEnd_bad (hc : wrap 32 crc ≠ crc32 (b.received z)) (hk : z.kind ≠ 2) :
    b.xferEnd r crc k peer = (b.touchSession z).answer r 0x405 [endWord 2 0xFF] := by
  simp [State.xferEnd, State.touchSession, hz, hw, hc, hk]

variable (hc : wrap 32 crc = crc32 (b.received z))
include hc

theorem State.xferEnd_struct (hk : z.kind = 1) :
    let d := (b.touchSession z).endStruct (b.readContent k (b.received z))
    b.xferEnd r crc k peer = d.2.answer r 0x405 [d.1] := by
  simp [State.xferEnd, State.touchSession, hz, hw, hc, hk]

theorem State.xferEnd_fw (hk : z.kind = 2) :
    let d := (b.touchSession z).endFw z.arg (b.readContent k (b.received z)) peer
    b.xferEnd r crc k peer = d.2.2 (d.2.1.answer r 0x405 [d.1]) := by
  simp [State.xferEnd, State.touchSession, hz, hw, hc, hk]

theorem State.xferEnd_key (hk : z.kind = 3) :
    let d := (b.touchSession z).endKey z.arg (b.received z)
    b.xferEnd r crc k peer = d.2.answer r 0x405 [d.1] := by
  simp [State.xferEnd, State.touchSession, hz, hw, hc, hk]

end XferEnd

/-- Settles O51, request by request: each meets the state `taken`. -/
theorem engineerAndMaintainRequests : Obligations.EngineerAndMaintainRequests := by
  refine ⟨?olcOpen, ?olcCommit, ?olcAbort, fun s t p c q x n ha => completes_of_exec rfl (State.serve_one ha rfl) rfl, ?structOpen, ?fwOpen, ?keyOpen,
    ?xfer, ?xferEnd, ?content, fun s t p c q x l ha => completes_of_exec rfl (State.serve_admitted ha) rfl,
    fun b a v ha hp => ⟨State.regwin_read v ha hp, State.regwin_write v ha hp⟩, ?safeConfirm, ?keyRemove, ?recClear,
    fun s t p c q x l ha => completes_of_exec rfl (State.serve_admitted ha) rfl, fun b k i e => State.retireClear_marks, ?modes, ?debug⟩
  case olcOpen =>
    intro s t p c q x n b hr ha hb ho h0 hn
    refine completes_of_exec rfl (State.serve_one (ha.narrowed ?_)
      ((if_neg (ha.only.mayOpen hb ho)).trans (if_neg (structLength_fits h0 hn)))) rfl
    simpa [hr] using ha.free
  case olcCommit =>
    intro s t p c q x n b ha hh hp hr
    have idle : ¬b.reg STRUCT.STAT.STATE = StructState.holding := fun h => hh ((ha.only.reg _ 0 (by decide) (by decide)).symm.trans h)
    have named : b.preparedIs n = true := (ha.only.preparedIs n).trans hp
    have runs : b.mode.runs = true := (congrArg Mode.runs ha.only.mode).trans hr
    have ready : ¬((!b.preparedIs n) = true ∨ (!b.mode.runs) = true) := by simp [named, runs]
    exact completes_of_exec rfl ((State.serveWith_one ha ((if_neg idle).trans (if_neg ready))).trans (if_pos rfl)) rfl
  case olcAbort =>
    intro s t p c q x n b ha hp
    exact completes_of_exec rfl (State.serve_one ha (if_pos ((ha.only.preparedIs n).trans hp))) rfl
  case structOpen =>
    intro s t p c q x n b hm ha hb ho h0 hn
    refine completes_of_exec rfl (State.serve_one (ha.narrowed ?_)
      ((if_neg (ha.only.mayOpen hb ho)).trans (if_neg (structLength_fits h0 hn)))) rfl
    rcases hm with h | h | h <;> simpa [h] using ha.free
  case fwOpen =>
    intro s t p c q x w n b held ha hb ho hw h0 hn hs
    have unstaged : b.upd.staged = 0 ∨ b.upd.staged = wrap 8 w := by rwa [ha.only.upd]
    exact completes_of_exec rfl (State.serve_one (ha.narrowed (if_neg (Bool.eq_false_iff.mp held)))
      (State.fwOpen_opens (ha.only.mayOpen hb ho) hw h0 hn unstaged)) rfl
  case keyOpen =>
    intro s t p c q x k b ha hb ho hk
    exact completes_of_exec rfl (State.serve_one ha ((if_neg (ha.only.mayOpen hb ho)).trans (if_neg (Nat.not_le.mpr hk)))) rfl
  case xfer =>
    intro s t p c q x o data z b own ha hz hd ho
    exact completes_of_exec rfl (State.serve_one (ha.narrowed (if_neg (not_isNone own))) (State.xfer_takes (ha.only.session.trans hz) hd ho)) rfl
  case xferEnd =>
    intro s t p c q x crc k peer b own ha
    exact completes_of_exec rfl (State.serveWith_one (ha.narrowed (if_neg (not_isNone own))) rfl) rfl
  case content =>
    exact fun b r crc k peer z hz hw => ⟨fun hc => ⟨State.xferEnd_struct r k peer hz hw hc, State.xferEnd_fw r k peer hz hw hc,
      State.xferEnd_key r k peer hz hw hc⟩, State.xferEnd_bad r k peer hz hw⟩
  case safeConfirm =>
    intro s t p c q x v b n d ha hu
    exact completes_of_exec rfl (State.serveMailbox_asked 3 _ ha hu) rfl
  case keyRemove =>
    intro s t p c q x k b ha hk hs
    have held : ¬(b.struct.keys.get k).isNone = true := not_isNone (by rwa [ha.only.keys])
    exact completes_of_exec rfl (State.serve_one ha ((if_neg (Nat.not_le.mpr hk)).trans (if_neg held))) rfl
  case recClear =>
    intro s t p c q x b ha hf
    have works : ¬b.flag REC.STAT.CADDY_FAIL = true :=
      Bool.eq_false_iff.mp ((ha.only.flag _ 0 (by decide) (by decide)).trans hf)
    exact completes_of_exec rfl (State.serve_one ha ((if_neg fun other => other rfl).trans (if_neg works))) rfl
  case modes =>
    intro s t p c q x b ha
    refine ⟨fun h => ?run, fun h => ?hold, fun h => ?service, fun h => ?halt, fun h => ?reset⟩
    case run => exact completes_of_exec rfl (State.modeRequest_answered ha h) rfl
    case hold => exact completes_of_exec rfl (State.modeRequest_answered ha h) rfl
    case service => exact completes_of_exec rfl (State.modeRequest_answered ha h) rfl
    case halt => exact completes_of_exec rfl (State.modeRequest_answered ha h) rfl
    case reset => exact completes_of_exec rfl (State.modeRequest_accepted ha h) rfl
  case debug =>
    intro s t c q x l b hk hm ha
    refine completes_of_exec rfl (State.serve_admitted (ha.narrowed ?_)) rfl
    simp [hk, hm, Status.ok]

end Sys2Proof.Machine

/-! ## The Leaf code (09_leaf_code_and_guards.md) -/

namespace Sys2Proof.Machine

/-! ### What a read delivers (R276) -/

theorem State.wordAt_clean {s : State} {m w : Nat} (h : s.synAt m w = 0) : s.wordAt m w = s.dataAt m w := by
  simp [State.wordAt, h, leafDecode]

theorem State.wordAt_corrected {s : State} {m w f : Nat} (h : leafDecode (s.synAt m w) = .corrected f) :
    s.wordAt m w = s.dataAt m w ^^^ f := by
  simp [State.wordAt, h]

/-! ### The words of a queued capture (O37, O38)

An entry of the capture queue keeps the fields of R73 and none of its reserved bits, and the statements exclude the image copies of the Tray but not
its capture queue. A bit put into a reserved place there is lost, while the syndrome becomes that of a word that holds it. -/

/-- In the third word of an entry (SIGNAL, EPOCH, BASE, EFLAGS) bit 20 is reserved. -/
theorem CapEntry.word_withWord_reserved (e : CapEntry) : (e.withWord 2 (2 ^ 20)).word 2 = 0 := by
  simp [CapEntry.word, CapEntry.withWord, wrap, bitField, bitOf, bn]

section Captured
variable {s : State} {w i : Nat} (hw : 2 * trayImageWords ≤ w) (hi : s.captureIndex w = some i)
include hw hi

theorem State.dataAt_captured : s.dataAt 1 w = (s.img.cq.getD i default).word (w % 4) := by
  simp [State.dataAt, Nat.not_lt.mpr hw, hi]

theorem State.putData_captured (v : Nat) :
    s.putData 1 w v = { s with img := { s.img with cq := s.img.cq.modify i (fun e => e.withWord (w % 4) (wrap 64 v)) } } := by
  simp [State.putData, Nat.not_lt.mpr hw, hi]

/-- What is put into a word of the queue reads back as the entry keeps it. -/
theorem State.dataAt_putData_captured (v : Nat) :
    (s.putData 1 w v).dataAt 1 w = ((s.img.cq.getD i default).withWord (w % 4) (wrap 64 v)).word (w % 4) := by
  have queued : i < s.img.cq.length := by
    simp only [State.captureIndex, Option.ite_none_right_eq_some, Option.some.injEq] at hi
    obtain ⟨⟨_, _, inside⟩, rfl⟩ := hi
    exact inside
  have place : (s.putData 1 w v).captureIndex w = some i := by
    rw [State.putData_captured hw hi, ← hi]
    simp [State.captureIndex]
  rw [State.dataAt_captured hw place, State.putData_captured hw hi]
  simp [queued]

variable (h2 : w % 4 = 2)
include h2

theorem State.dataAt_put_reserved : (s.putData 1 w (2 ^ 20)).dataAt 1 w = 0 := by
  rw [State.dataAt_putData_captured hw hi, h2]
  exact CapEntry.word_withWord_reserved _

/-- The reserved bit that a full write sets does not read back. -/
theorem State.wordAt_write_reserved (ha : s.flag LEAF.FLIPm_CTRL.ARM 1 = false) : (s.writeWord 1 w (2 ^ 20)).wordAt 1 w = 0 := by
  have unarmed : (s.putData 1 w (2 ^ 20)).flag LEAF.FLIPm_CTRL.ARM 1 = false := by
    rw [State.putData_captured hw hi]
    exact ha
  have syn : (s.writeWord 1 w (2 ^ 20)).synAt 1 w = 0 := by
    rw [State.writeWord, State.landWord, State.actFlip_unarmed (by exact unarmed)]
    simp [State.synAt, State.putSyn, Tab.get_set, wrap]
  have data : (s.writeWord 1 w (2 ^ 20)).dataAt 1 w = 0 := by
    rw [State.writeWord, State.landWord, State.actFlip_unarmed (by exact unarmed)]
    exact State.dataAt_put_reserved hw hi h2
  rw [State.wordAt_clean syn, data]

/-- The controller inverts the reserved bit that a strike on a clear word has not inverted. -/
theorem State.wordAt_strike_reserved (hs : s.synAt 1 w = 0) (hd : s.dataAt 1 w = 0) :
    (s.strike 1 w (2 ^ 20) 0 0).wordAt 1 w = 2 ^ 20 := by
  have decoded : leafDecode ((s.strike 1 w (2 ^ 20) 0 0).synAt 1 w) = .corrected (2 ^ 20) := by
    have column : (s.strike 1 w (2 ^ 20) 0 0).synAt 1 w = 0x43 := by
      simp only [State.strike, State.synAt, State.putSyn, Tab.get_set, if_true] at hs ⊢
      rw [hs]
      decide
    rw [column]
    decide
  have data : (s.strike 1 w (2 ^ 20) 0 0).dataAt 1 w = 0 := by
    rw [State.strike, hd]
    exact State.dataAt_put_reserved hw hi h2
  rw [State.wordAt_corrected decoded, data, Nat.zero_xor]

end Captured

/-- The unit after reset, once it has queued a capture. -/
def State.oneCapture : State := State.reset.pushCapture default

/-- The third word of that capture. -/
def firstSignalWord : Nat := captureWord 0 + 2

theorem firstSignalWord_outside_image : 2 * trayImageWords ≤ firstSignalWord := by decide

theorem State.oneCapture_captured : State.oneCapture.captureIndex firstSignalWord = some 0 := by decide +kernel

theorem State.oneCapture_clear : State.oneCapture.synAt 1 firstSignalWord = 0 ∧ State.oneCapture.dataAt 1 firstSignalWord = 0 := by
  decide +kernel

/-- Refutes O37: on a strike on the reserved bit 20 of the clear third word of a queued capture the controller delivers 2^20. -/
theorem not_leafCodeCorrectsOneBit : ¬ Obligations.LeafCodeCorrectsOneBit := by
  rintro ⟨_, _, _, strikes⟩
  obtain ⟨syn, data⟩ := State.oneCapture_clear
  obtain ⟨inverted, _⟩ := strikes State.oneCapture 1 firstSignalWord (.inr firstSignalWord_outside_image) syn (by rw [data]; decide)
  obtain ⟨word, _⟩ := inverted 20 (by decide)
  rw [State.wordAt_strike_reserved firstSignalWord_outside_image State.oneCapture_captured (by decide) syn data,
    State.wordAt_clean syn, data] at word
  exact absurd word (by decide)

/-- Refutes O38: the value 2^20, written to the third word of a queued capture, reads back as 0. -/
theorem not_wordsReadBack : ¬ Obligations.WordsReadBack := by
  intro h
  have unarmed : State.oneCapture.flag LEAF.FLIPm_CTRL.ARM 1 = false := by decide +kernel
  obtain ⟨readsBack, _⟩ := h State.oneCapture 1 firstSignalWord (2 ^ 20) (.inr firstSignalWord_outside_image) (by decide) unarmed
  rw [State.wordAt_write_reserved firstSignalWord_outside_image State.oneCapture_captured (by decide) unarmed] at readsBack
  exact absurd readsBack (by decide)

end Sys2Proof.Machine

/-! ## Loop channels, HART and the fast pins (10_loops_and_fast_pins.md) -/

namespace Sys2Proof.Machine

theorem not_bnot {b : Bool} (h : b = true) : ¬(!b) = true := by simp [h]

/-! ### A channel and its supply (R312, R320) -/

section Channel
variable (s : State) (c : Nat)

@[simp] theorem State.chan_updChan (f : LoopDyn → LoopDyn) : (s.updChan c f).chan c = f (s.chan c) :=
  (Tab.get_upd ..).trans (if_pos rfl)

theorem State.setLoopState_state {v : Nat} (hc : c < 32) (hv : v < 8) : (s.setReg LOOP.CHc_STAT.STATE c v).loopState c = v :=
  (s.reg_setReg v hc).trans (Nat.mod_eq_of_lt hv)

variable (v : Nat)

theorem State.setSupply_vsup (hc : c < 32) :
    (s.setSupply c v).reg LOOP.CHc_MEAS.VSUP c = wrap LOOP.CHc_MEAS.VSUP.width ((if s.power.shed then 0 else v) * 5) := State.reg_setReg _ _ hc

theorem State.setSupply_kept : s.regsKeptBut (s.setSupply c v) [LOOP.CHc_MEAS.VSUP] :=
  State.regsKeptBut.setReg (State.regsKeptBut_of_regs _ rfl) (by simp) (by decide)

theorem State.setSupply_out : (s.setSupply c v).out = s.out := State.setReg_out ..

theorem State.setSupply_now : (s.setSupply c v).now = s.now := State.setReg_now ..

end Channel

/-! ### Probes (R321, R322, R329) -/

section Probe
variable {s : State} {c : Nat} (hc : c < 32) (ha : s.isActive = true) (hl : s.loopsRun = true) (hm : s.reg LOOP.CHc_CFG.MODE c ≠ 0)
  (hd : s.reg LOOP.CHc_CFG.MODE c ≠ LoopMode.multidrop) (hr : s.loopState c = LoopState.run)
include hc ha hl hm hd hr

theorem State.startProbe_possible : ¬((!s.isActive) = true ∨ (!s.loopsRun) = true ∨ 32 ≤ c ∨ s.reg LOOP.CHc_CFG.MODE c = 0 ∨
    s.reg LOOP.CHc_CFG.MODE c = LoopMode.multidrop ∨ s.loopState c ≠ LoopState.run) := by
  simp [hc, ha, hl, hm, hd, hr]

theorem State.startProbe_waits (hb : s.hartBusy c = true) : s.startProbe c = s.updChan c (fun d => { d with probeDue := true }) :=
  (if_neg (State.startProbe_possible hc ha hl hm hd hr)).trans (if_pos hb)

theorem State.startProbe_probes (hb : s.hartBusy c = false) :
    s.startProbe c = ((s.mirrorReg (LOOP.CHc_CMD.OP.addrOf c) 2).setReg LOOP.CHc_STAT.STATE c LoopState.probing).updChan c (fun d => { d with
      probeX0 := d.x, probeSteps := 0, probeV := d.vsup, probeDue := false, probedAt := s.now }) := by
  obtain ⟨_, now, _⟩ := s.sendMirror_only .async (.regw (LOOP.CHc_CMD.OP.addrOf c) 2) false true 0 none false
  refine (if_neg (State.startProbe_possible hc ha hl hm hd hr)).trans ((if_neg (Bool.eq_false_iff.mp hb)).trans ?_)
  rw [← now]
  rfl

end Probe

/-! ### PARK, UNPARK and their time limit (R321, R328) -/

/-- The channel of a unit that is not ACTIVE gives way to the partner's probe. -/
def State.parkAtMin (s : State) (c : Nat) : State :=
  ((s.setReg LOOP.CHc_STAT.STATE c LoopState.parked).setSupply c supplyMin).updChan c (fun d => { d with parkedAt := s.now + 1 })

section Park
variable (s : State) (c : Nat)

theorem State.park_parks (hc : c < 32) (ha : s.isActive = false) (hl : s.loopsRun = true) (hr : s.loopState c = LoopState.run) :
    s.park c = s.parkAtMin c := by
  refine (if_neg (by simp [hc, ha, hl, hr])).trans ?_
  have now : ((s.setReg LOOP.CHc_STAT.STATE c LoopState.parked).setSupply c supplyMin).now = s.now :=
    (State.setSupply_now ..).trans (State.setReg_now ..)
  rw [State.parkAtMin, ← now]

theorem State.parkAtMin_state (hc : c < 32) : (s.parkAtMin c).loopState c = LoopState.parked :=
  ((State.setSupply_kept _ c supplyMin).reg LOOP.CHc_STAT.STATE c (by omega) (by decide)).trans (s.setLoopState_state c hc (by decide))

theorem State.parkAtMin_vsup (hc : c < 32) : (s.parkAtMin c).reg LOOP.CHc_MEAS.VSUP c = if s.power.shed then 0 else 800 := by
  refine (State.setSupply_vsup _ c supplyMin hc).trans ?_
  rw [State.setReg_power]
  split <;> rfl

theorem State.parkAtMin_parkedAt : ((s.parkAtMin c).chan c).parkedAt = s.now + 1 := by
  rw [State.parkAtMin, State.chan_updChan]

theorem State.parkAtMin_kept : s.regsKeptBut (s.parkAtMin c) [LOOP.CHc_STAT.STATE, LOOP.CHc_MEAS.VSUP] :=
  ((s.setReg_kept LOOP.CHc_STAT.STATE c LoopState.parked _ (by simp) (by decide)).trans ((State.setSupply_kept _ c supplyMin).mono (by simp))).same rfl

theorem State.parkAtMin_out : (s.parkAtMin c).out = s.out := (State.setSupply_out ..).trans (State.setReg_out ..)

end Park

section Unpark
variable {s : State} {c : Nat}

theorem State.unpark_unparked (h : s.loopState c ≠ LoopState.parked) : s.unpark c = s := if_pos (.inr h)

variable (hc : c < 32) (hp : s.loopState c = LoopState.parked)
include hc hp

theorem State.unpark_parked : s.unpark c =
    let a := s.updChan c (fun d => { d with parkedAt := 0 })
    if s.flag LOOP.STAT.FE_OK then (a.setReg LOOP.CHc_STAT.STATE c LoopState.run).capSupply c (a.ownTarget c (a.chan c).x) else a :=
  if_neg (not_or.mpr ⟨Nat.not_le.mpr hc, not_not.mpr hp⟩)

end Unpark

theorem State.parkOver_iff (s : State) (c : Nat) :
    s.parkOver c = true ↔ (s.chan c).parkedAt ≠ 0 ∧ (s.chan c).parkedAt - 1 + msec 1500 ≤ s.now := by
  simp [State.parkOver]

/-! ### Trips (R323) -/

/-- The pass element of a channel that does not probe opens. -/
def State.openQuietly (s : State) (c : Nat) : State :=
  (s.setReg LOOP.CHc_STAT.STATE c LoopState.thermalOff).updChan c (fun d => { d with openAt := s.now + 1, parkedAt := 0 })

section Trip
variable (s : State) (c : Nat)

theorem State.openElement_quiet (h : s.loopState c = LoopState.run ∨ s.loopState c = LoopState.parked) :
    s.openElement c = s.openQuietly c := by
  rcases h with h | h <;> simp [State.openElement, State.openQuietly, h, LoopState.run, LoopState.parked, LoopState.off, LoopState.retired,
    LoopState.probing]

/-- The pass element of a channel in service: its trip counts. -/
theorem State.element_in_service {s : State} {c : Nat} (hc : c < 32) (hu : s.flag SYS.UNITS.LOOP = true)
    (h : s.loopState c = LoopState.run ∨ s.loopState c = LoopState.probing ∨ s.loopState c = LoopState.parked) :
    ¬(32 ≤ c ∨ (!s.flag SYS.UNITS.LOOP) = true ∨ s.loopState c = LoopState.off ∨ s.loopState c = LoopState.retired ∨
      s.loopState c = LoopState.thermalOff) := by
  rcases h with h | h | h <;> simp [hc, hu, h, LoopState.run, LoopState.probing, LoopState.parked, LoopState.off, LoopState.retired,
    LoopState.thermalOff]

theorem State.openQuietly_state (hc : c < 32) : (s.openQuietly c).loopState c = LoopState.thermalOff :=
  s.setLoopState_state c hc (by decide)

theorem State.openQuietly_openAt : ((s.openQuietly c).chan c).openAt = s.now + 1 := by
  rw [State.openQuietly, State.chan_updChan]

theorem State.openQuietly_kept : s.regsKeptBut (s.openQuietly c) [LOOP.CHc_STAT.STATE] :=
  (s.setReg_kept LOOP.CHc_STAT.STATE c LoopState.thermalOff _ (by simp) (by decide)).same rfl

end Trip

/-! ### HART (R312, R325, R326) -/

section Listen
variable (s : State) (c k uid st : Nat) (vars : List Nat)

/-- A unit that follows takes the place of the active unit's polling from what it hears (R312). -/
def State.followPoll : State := { s with loops := { s.loops with poll := s.loops.poll.set (c / 8) (c * 8 + k + 1) } }

theorem State.followPoll_poll : (s.followPoll c k).loops.poll.get (c / 8) = c * 8 + k + 1 := by
  rw [State.followPoll, Tab.get_set, if_pos rfl]

/-- What a heard answer leaves of a device. -/
def HartDyn.heard (d : HartDyn) (uid st : Nat) (vars : List Nat) : HartDyn :=
  let d := { d with uid := uid, known := true, fails := 0 }
  if vars = [] then d else { d with noResponse := false, vars := vars, status := wrap 16 st + 2 ^ 17 * bn (bitOf 17 st) }

/-- What a missed answer leaves of a device. -/
def HartDyn.missed (d : HartDyn) : HartDyn :=
  if d.fails < 2 then { d with fails := d.fails + 1 } else { d with fails := 0, noResponse := true, known := false }

theorem HartDyn.heard_known (d : HartDyn) : (d.heard uid st vars).uid = uid ∧ (d.heard uid st vars).known = true := by
  unfold HartDyn.heard
  dsimp only
  split <;> exact ⟨rfl, rfl⟩

theorem State.dev_updHart (f : HartDyn → HartDyn) : (s.updHart c k f).loops.dev.get (5 * c + k) = f (s.loops.dev.get (5 * c + k)) :=
  (Tab.get_upd ..).trans (if_pos rfl)

variable (hm : s.mode = .standby ∨ s.mode = .sync) (hl : s.loopsRun = true) (hd : (s.hartDevices c).contains k = true)
include hm hl hd

theorem State.listens_to_device : ¬((s.mode ≠ .standby ∧ s.mode ≠ .sync) ∨ (!s.loopsRun) = true ∨ (!(s.hartDevices c).contains k) = true) := by
  rcases hm with h | h <;> simp [h, hl, List.contains_iff_mem.mp hd]

theorem State.hearHart_heard : s.hearHart c k uid st vars = (s.followPoll c k).updHart c k (fun d => d.heard uid st vars) :=
  if_neg (s.listens_to_device c k hm hl hd)

theorem State.missHart_missed : s.missHart c k = (s.followPoll c k).updHart c k HartDyn.missed :=
  if_neg (s.listens_to_device c k hm hl hd)

end Listen

section Turn
variable {s : State} {t c k : Nat} (ha : s.isActive = true) (hl : s.loopsRun = true) (ht : s.loops.turn.get (c / 8) = c * 8 + k + 1)
include ha hl ht

/-- The device's group awaits it on a front end that runs. -/
theorem State.turn_awaits : ¬(!(s.advance t).isActive) = true ∧
    ¬((!(s.advance t).loopsRun) = true ∨ (s.advance t).loops.turn.get (c / 8) ≠ c * 8 + k + 1) :=
  ⟨not_bnot ha, not_or.mpr ⟨not_bnot hl, not_not.mpr ht⟩⟩

section Response
variable (uid st : Nat) (vars : List Nat)

theorem exec_hartResponse_pass {p : HartPass} (hp : s.loops.passing.get (c / 8) = some p) :
    exec (.hartResponse t c k uid st vars) s =
      .next ((((s.advance t).addReg LOOP.CHc_HCNT.OK c 1).answerPass p 0 vars).endTurn (c / 8)) := by
  obtain ⟨active, awaited⟩ := State.turn_awaits (t := t) ha hl ht
  refine (if_neg active).trans ((if_neg awaited).trans ?_)
  simp only [State.addReg_loops, State.advance_loops, hp]

variable (hp : s.loops.passing.get (c / 8) = none)
include hp

theorem exec_hartResponse_variables (hk : (s.loops.dev.get (5 * c + k)).known = true) :
    exec (.hartResponse t c k uid st vars) s = .next (((((s.advance t).addReg LOOP.CHc_HCNT.OK c 1).updHart c k (fun d => { d with
      fails := 0, noResponse := false, vars := vars, status := wrap 16 st + 2 ^ 17 * bn (bitOf 17 st) })).deliverHart c k).endTurn (c / 8)) := by
  obtain ⟨active, awaited⟩ := State.turn_awaits (t := t) ha hl ht
  refine (if_neg active).trans ((if_neg awaited).trans ?_)
  simp only [State.addReg_loops, State.advance_loops, hp]
  exact if_neg (by simp [hk])

theorem exec_hartResponse_identity (hk : (s.loops.dev.get (5 * c + k)).known = false) :
    let a := (s.advance t).addReg LOOP.CHc_HCNT.OK c 1
    exec (.hartResponse t c k uid st vars) s = .next (((if (s.loops.dev.get (5 * c + k)).uid ≠ 0 ∧ (s.loops.dev.get (5 * c + k)).uid ≠ uid then
      a.noteLoop c else a).updHart c k (fun d => { d with uid := uid, known := true, fails := 0 })).endTurn (c / 8)) := by
  obtain ⟨active, awaited⟩ := State.turn_awaits (t := t) ha hl ht
  refine (if_neg active).trans ((if_neg awaited).trans ?_)
  simp only [State.addReg_loops, State.advance_loops, hp]
  exact if_pos (by simp [hk])

end Response

theorem exec_hartTimeout_again (hf : (s.loops.dev.get (5 * c + k)).fails < 2) :
    exec (.hartTimeout t c k) s = .next ((((s.advance t).addReg LOOP.CHc_HCNT.FAIL c 1).updHart c k (fun d => { d with
      fails := (s.loops.dev.get (5 * c + k)).fails + 1 })).hartAgain c k) := by
  obtain ⟨active, awaited⟩ := State.turn_awaits (t := t) ha hl ht
  have again : (s.loops.dev.get (5 * c + k)).fails + 1 < 3 := by omega
  refine (if_neg active).trans ((if_neg awaited).trans ?_)
  simp only [State.addReg_loops, State.advance_loops, again, if_true]

variable (hf : 2 ≤ (s.loops.dev.get (5 * c + k)).fails)
include hf

theorem exec_hartTimeout_passFails {p : HartPass} (hp : s.loops.passing.get (c / 8) = some p) :
    let a := ((s.advance t).addReg LOOP.CHc_HCNT.FAIL c 1).updHart c k (fun d => { d with fails := 0 })
    exec (.hartTimeout t c k) s = .next ((a.nextFree.answerPass p (a.freeVal 8) []).endTurn (c / 8)) := by
  obtain ⟨active, awaited⟩ := State.turn_awaits (t := t) ha hl ht
  have last : ¬(s.loops.dev.get (5 * c + k)).fails + 1 < 3 := by omega
  refine (if_neg active).trans ((if_neg awaited).trans ?_)
  simp only [State.addReg_loops, State.advance_loops, last, if_false, State.updHart, hp]

theorem exec_hartTimeout_noResponse (hp : s.loops.passing.get (c / 8) = none) :
    exec (.hartTimeout t c k) s = .next ((((((s.advance t).addReg LOOP.CHc_HCNT.FAIL c 1).updHart c k (fun d => { d with fails := 0 })).updHart
      c k (fun d => { d with noResponse := true, known := false })).deliverHart c k).endTurn (c / 8)) := by
  obtain ⟨active, awaited⟩ := State.turn_awaits (t := t) ha hl ht
  have last : ¬(s.loops.dev.get (5 * c + k)).fails + 1 < 3 := by omega
  refine (if_neg active).trans ((if_neg awaited).trans ?_)
  simp only [State.addReg_loops, State.advance_loops, last, if_false, State.updHart, hp]

end Turn

/-- Settles O41, command by command. -/
theorem loopChannelsAndPins : Obligations.LoopChannelsAndPins := by
  refine ⟨fun s t input xs temps hl hd => ⟨_, if_neg (not_or.mpr ⟨not_bnot hl, not_bnot hd⟩), rfl⟩,
    fun s t hl => ⟨fun hp hc hv => ?down, fun hp hc hv => ?up⟩,
    fun s t c hc ha hl hm hd hr => ⟨fun hb => completes_of_exec rfl (State.startProbe_waits hc ha hl hm hd hr hb) rfl,
      fun hb => completes_of_exec rfl (State.startProbe_probes hc ha hl hm hd hr hb) rfl⟩,
    ?park, ?unpark, fun s t c h => completes_of_exec rfl (State.unpark_unparked (s := s.advance t) h) rfl, ?parkTimeout, ?trip, ?thermalTrip,
    fun s t c h ho hd => ⟨_, if_pos ⟨h, ho, hd⟩, rfl⟩,
    fun s t c k uid st vars ha hl ht => ⟨fun p hp => ⟨_, exec_hartResponse_pass ha hl ht uid st vars hp, rfl⟩,
      fun hp hk => ⟨_, exec_hartResponse_variables ha hl ht uid st vars hp hk, rfl⟩,
      fun hp hk => ⟨_, exec_hartResponse_identity ha hl ht uid st vars hp hk, rfl⟩⟩,
    fun s t c k uid st vars ha => ⟨⟨_, if_pos (by simp [ha]), rfl⟩, ⟨_, if_pos (by simp [ha]), rfl⟩⟩, ?listen,
    fun s t c k ha hl ht => ⟨fun hf => ⟨_, exec_hartTimeout_again ha hl ht hf, rfl⟩,
      fun hf p hp => ⟨_, exec_hartTimeout_passFails ha hl ht hf hp, rfl⟩, fun hf hp => ⟨_, exec_hartTimeout_noResponse ha hl ht hf hp, rfl⟩⟩,
    ?burst, fun s t hl => ⟨_, if_neg (not_bnot hl), rfl⟩, ?restart, ?short,
    fun s t p hp ho hd => ⟨_, if_pos ⟨hp, ho, hd⟩, rfl⟩, ?overvoltage⟩
  case down => exact ⟨_, (if_neg (not_bnot hl)).trans (if_pos ⟨hp, hc, hv⟩), rfl⟩
  case up =>
    have low : ¬10800 < (s.advance t).loopPower := by omega
    exact ⟨_, (if_neg (not_bnot hl)).trans ((if_neg fun high => low high.1).trans (if_pos ⟨hp, hc, hv⟩)), rfl⟩
  case park =>
    intro s t c hc ha hl hr
    let a := s.advance t
    exact completes_of_exec rfl (a.park_parks c hc ha hl hr) ⟨a.parkAtMin_state c hc, a.parkAtMin_vsup c hc, a.parkAtMin_parkedAt c,
      a.parkAtMin_kept c, a.parkAtMin_out c⟩
  case unpark =>
    intro s t c a hc hp
    have unparked := State.unpark_parked (s := s.advance t) hc hp
    exact ⟨fun hf => completes_of_exec rfl (unparked.trans (if_pos hf)) rfl,
      fun hf => completes_of_exec rfl (unparked.trans (if_neg (Bool.eq_false_iff.mp hf))) rfl⟩
  case parkTimeout =>
    intro s t c a
    refine ⟨fun hp hd => completes_of_exec rfl (if_pos ((a.parkOver_iff c).mpr ⟨hp, hd⟩)) rfl,
      fun hd => completes_of_exec rfl (if_neg fun ended => ?_) rfl⟩
    obtain ⟨_, due⟩ := (a.parkOver_iff c).mp ended
    exact absurd due (Nat.not_le.mpr hd)
  case trip =>
    intro s t c hc ha hr
    let a := s.advance t
    have follows : ¬(32 ≤ c ∨ a.isActive = true) := not_or.mpr ⟨Nat.not_le.mpr hc, Bool.eq_false_iff.mp ha⟩
    exact completes_of_exec rfl ((if_neg follows).trans (a.openElement_quiet c hr)) ⟨a.openQuietly_state c hc, a.openQuietly_openAt c,
      a.openQuietly_kept c, State.setReg_out .., State.setReg_recorder ..⟩
  case thermalTrip =>
    intro s t c a b d e hc hu hr
    exact ⟨_, (if_neg (State.element_in_service hc hu hr)).trans (apply_ite Host.Outcome.next _ _ _).symm, rfl⟩
  case listen =>
    intro s c k uid st vars hm hl hd
    rw [s.hearHart_heard c k uid st vars hm hl hd, s.missHart_missed c k hm hl hd, State.dev_updHart]
    obtain ⟨uid, known⟩ := HartDyn.heard_known uid st vars (s.loops.dev.get (5 * c + k))
    exact ⟨s.followPoll_poll c k, uid, known, s.followPoll_poll c k, rfl, rfl⟩
  case burst =>
    intro s t c hc hl
    have kept := (State.regsKeptBut_of_regs [LOOP.CHc_HCNT.FAIL] (s.advance_regs t)).addReg (i := c) (n := 1) (List.mem_singleton_self _)
      (by decide)
    exact completes_of_exec rfl (if_pos hl) ⟨State.reg_addReg _ _ hc, kept, State.addReg_loops .., State.addReg_out ..⟩
  case restart =>
    intro s t hu hm hs a
    have runs : (s.flag SYS.UNITS.LOOP && s.mode.runtimeRuns && !s.flag UPD.PARTp_STAT.STOPPED 2) = true := by simp [hu, hm, hs]
    exact completes_of_exec rfl (if_pos runs) rfl
  case short =>
    intro s t p a b hp ho
    have drives : ¬(64 ≤ p ∨ (!(s.advance t).pinCommand p) = true) := by simp [hp, ho]
    exact ⟨fun hb => ⟨_, (if_neg drives).trans (if_neg (Bool.eq_false_iff.mp hb)), rfl⟩,
      fun hb => ⟨_, (if_neg drives).trans (if_pos hb), rfl⟩⟩
  case overvoltage =>
    intro s t m b hm hu
    have fitted : (s.flag SYS.UNITS.ACS && decide (m < 2)) = true := by
      rw [hu, decide_eq_true (show m < 2 from hm)]
      rfl
    refine completes_of_exec rfl (if_pos fitted) ⟨(State.reg_sense _ _ hm).trans ?_, ?_, State.sense_img .., State.sense_out ..⟩
    · cases b <;> rfl
    · exact State.sense_kept _ _ _ _ _ (List.mem_singleton_self _) (by decide)

end Sys2Proof.Machine

/-! ## READ, OPERATE and TUNE requests (14_ports_and_authority.md) -/

namespace Sys2Proof.Machine

/-! ### The items of a request (O50)

What one item answers, and the state it leaves. -/

/-- A used signal is poisoned in one of its words (R282). -/
theorem poisoned_iff (used : Bool) (p : Bool × Bool) : (used && (p.1 || p.2)) = true ↔ used = true ∧ p ≠ (false, false) := by
  revert used p
  decide

section ReadSig
variable {b : State} {sig : Nat} (hs : sig < 2 ^ 17)
include hs

theorem State.readSig_denied (h : b.readsSlot portBridge 256 sig = false) :
    b.readSig sig = ((Status.denied, []), b.noteDmaSlot portBridge 256 sig) :=
  (if_neg (Nat.not_le.mpr hs)).trans (if_pos (by simp [h]))

variable (h : b.readsSlot portBridge 256 sig = true)
include h

theorem State.readSig_poisoned (hu : (b.img.dir.get sig).isSome = true) (hp : b.slotPoison sig ≠ (false, false)) :
    b.readSig sig = ((Status.errPoison, []), b.noteDmaSlot portBridge 256 sig) :=
  (if_neg (Nat.not_le.mpr hs)).trans ((if_neg (by simp [h])).trans (if_pos ((poisoned_iff _ _).mpr ⟨hu, hp⟩)))

theorem State.readSig_read (hp : (b.img.dir.get sig).isSome = true → b.slotPoison sig = (false, false)) :
    b.readSig sig = ((0, leBytes 4 sig ++ leBytes 8 (b.slotOf sig).value ++ leBytes 8 (b.slotOf sig).word1),
      b.noteDmaSlot portBridge 256 sig) := by
  refine (if_neg (Nat.not_le.mpr hs)).trans ((if_neg (by simp [h])).trans (if_neg fun bad => ?_))
  obtain ⟨used, poison⟩ := (poisoned_iff _ _).mp bad
  exact poison (hp used)

end ReadSig

section Writes
variable {b : State} {p sig : Nat} {d : DirEntry}

theorem State.writeSig_command (v : Nat) (hp : p ≠ 3) (hd : b.img.dir.get sig = some d) (ho : d.owner / 4096 = 7) :
    State.writeSig p b (sig, v) = ((0, []), b.commandWrite sig p v) := by
  simp [State.writeSig, hp, hd, ho, plainItem, Status.ok]

theorem State.writeSig_stranger (v : Nat) (hp : p ≠ 3) (hd : b.img.dir.get sig = some d) (ho : d.owner / 4096 ≠ 7) :
    State.writeSig p b (sig, v) = ((Status.notOwner, []), b.ownerRefused sig (0x7000 + p)) := by
  simp [State.writeSig, hp, hd, ho, plainItem]

theorem State.ackAlarm_raises {k : Nat} {im : Image} (hk : k < 64) (hi : b.struct.image = some im) (ha : im.acks[k]? = some sig)
    (hd : (b.img.dir.get sig).isSome = true) :
    State.ackAlarm p b k = ((0, []), b.commandWrite sig p (wrap 64 (b.ownerValue sig + 1))) := by
  simp [State.ackAlarm, Nat.not_le.mpr hk, hi, ha, not_isNone hd, plainItem, Status.ok]

theorem State.forceSet_safety (v : Nat) (hd : b.img.dir.get sig = some d) (hs : d.safety = true) :
    State.forceSet p b (sig, v) = ((Status.forceSafety, []), b) := by
  simp [State.forceSet, hd, hs, plainItem]

theorem State.forceSet_forces (v : Nat) (hd : b.img.dir.get sig = some d) (hs : d.safety = false)
    (hr : (b.img.forces.get sig).isSome = true ∨ b.img.forces.length < Config.forceMax) :
    State.forceSet p b (sig, v) = ((0, []), (((b.grantSeq 1).2.placeForce sig v p (b.grantSeq 1).1).copyToPins sig).sendMirror .async
      (.force sig true (normalise d.type v) p) (seq64 := (b.grantSeq 1).1)) := by
  have room : ¬((b.img.forces.get sig).isNone ∧ Config.forceMax ≤ b.img.forces.length) := by
    rintro ⟨unforced, full⟩
    exact hr.elim (fun forced => not_isNone forced unforced) (Nat.not_lt.mpr full)
  unfold State.forceSet
  simp only [hd, hs, room, Bool.false_eq_true, if_false]
  rfl

theorem State.forceClear_lifts (hd : (b.img.dir.get sig).isSome = true) (hf : (b.img.forces.get sig).isSome = true) :
    State.forceClear p b sig = ((0, []), (((b.grantSeq 1).2.liftForce sig (b.grantSeq 1).1).copyToPins sig).sendMirror .async
      (.force sig false 0 p) (seq64 := (b.grantSeq 1).1)) :=
  (if_neg (not_isNone hd)).trans (if_neg (not_isNone hf))

end Writes

theorem State.readRec_answers {b : State} {first n : Nat} (hn : n ≠ 0) :
    let f := max first (b.reg REC.OLDEST.RECNO)
    let m := min (min n 44) (b.reg REC.NEWEST.RECNO + 1 - f)
    b.readRec (first, n) = ((0, leBytes 4 f ++ leBytes 4 m ++
      ((List.range m).map (fun k => (((b.windowAt (f + k)).words).map (leBytes 4)).flatten)).flatten), b.startFlush) := if_neg hn

/-- A pass-through request waits for the modem of its group (R325). -/
def State.queuePass (s : State) (r : Req) (ch : Nat) (data : List Nat) : State :=
  { s with loops := { s.loops with waiting := s.loops.waiting ++ [{ channel := ch, req := r, data := data }] } }

theorem State.hartPass_queues {b : State} {r : Req} {ch : Nat} {data : List Nat} (hc : ch < 32) (h2 : 2 ≤ data.length)
    (hd : data.length ≤ 257) (hl : b.loopsRun = true) (hh : b.hartDevices ch ≠ []) (hs : b.loopState ch = LoopState.run) :
    let d := b.queuePass r ch data
    b.hartPass r (ch, data) = ((0, []), if b.loops.turn.get (ch / 8) = 0 then d.nextTurn (ch / 8) else d) := by
  have whole : ¬(32 ≤ ch ∨ 257 < data.length ∨ data.length < 2) := by omega
  have runs : ¬((!b.loopsRun) = true ∨ b.hartDevices ch = [] ∨ b.loopState ch ≠ LoopState.run) := by simp [hl, hh, hs]
  exact (if_neg whole).trans (if_neg runs)

/-! ### What the arrival of a request leaves alone -/

namespace State.arrivedOnly
variable {s u : State} (h : s.arrivedOnly u)
include h

theorem attest : u.port.attest = s.port.attest := by rw [h.2]

theorem isRunTime (a : Nat) : u.isRunTime a = s.isRunTime a := by
  unfold State.isRunTime
  refine ite_congr rfl (fun cell => ?_) fun _ => rfl
  have index : (a - cellAddr 0 0) / 0x20 < 2 ^ 20 := by
    unfold cellAddr at cell ⊢
    omega
  dsimp only
  rw [h.flag CELL.CELLc_STAT.RTW _ index (by decide)]

theorem loopsRun : u.loopsRun = s.loopsRun := by
  unfold State.loopsRun
  rw [h.flag SYS.UNITS.LOOP 0 (by decide) (by decide), h.flag LOOP.STAT.FE_OK 0 (by decide) (by decide), h.mode]

variable {c : Nat} (hc : c < 32)
include hc

theorem loopState : u.loopState c = s.loopState c := h.reg _ c (by omega) (by decide)

theorem hartDevices : u.hartDevices c = s.hartDevices c := by
  unfold State.hartDevices
  rw [h.reg LOOP.CHc_CFG.MODE c (by omega) (by decide), h.reg LOOP.CHc_HADDR.ADDR c (by omega) (by decide)]

end State.arrivedOnly

/-- Settles O50, request by request: each meets the state `taken`. -/
theorem readOperateAndTuneRequests : Obligations.ReadOperateAndTuneRequests := by
  refine ⟨fun s t p c q x l ha => completes_of_exec rfl (State.serve_admitted ha) rfl,
    fun b sig hs => ⟨State.readSig_denied hs, State.readSig_poisoned hs, State.readSig_read hs⟩,
    fun s t p c q x ha => completes_of_exec rfl (State.serve_one ha (if_pos rfl)) rfl, ?readRec, ?attest, ?signed, ?idkey,
    fun s t p c q x l ha => completes_of_exec rfl (State.serve_admitted ha) rfl,
    fun b p sig v d hp hd => ⟨State.writeSig_command v hp hd, State.writeSig_stranger v hp hd⟩,
    fun s t p c q x l ha => completes_of_exec rfl (State.serve_admitted ha) rfl,
    fun b p k sig im => State.ackAlarm_raises, ?safeRestart,
    fun s t p c q x l ha => completes_of_exec rfl (State.serveWith_admitted ha) rfl,
    fun b p sig v d hd => ⟨State.forceSet_safety v hd, State.forceSet_forces v hd⟩,
    fun s t p c q x l ha => completes_of_exec rfl (State.serveWith_admitted ha) rfl,
    fun b p sig => State.forceClear_lifts, ?writeRt,
    fun s t p c q x m ha hu => completes_of_exec rfl (State.serveMailbox_asked 2 _ ha hu) rfl, ?hartPass⟩
  case readRec =>
    rintro s t p c q x first n f b ha hn rfl
    exact completes_of_exec rfl (State.serve_one ha (State.readRec_answers hn)) rfl
  case attest =>
    intro s t p c q x n b ha hn
    have room : ¬4 ≤ b.port.attest.length := by
      rw [ha.only.attest]
      exact Nat.not_le.mpr hn
    exact completes_of_exec rfl ((State.serveWith_one ha (if_neg room)).trans (if_pos rfl)) rfl
  case signed =>
    intro s t n r l b hq
    refine ⟨_, ?_, rfl⟩
    simp only [exec, execAttestSigned, State.advance_port, hq]
    rfl
  case idkey =>
    intro s t p c q x o n b ha hn ho
    have within : ¬(1024 < n ∨ 1793 < o + n) := by omega
    exact completes_of_exec rfl (State.serve_one ha (if_neg within)) rfl
  case safeRestart =>
    intro s t p c q x m b n d hp ha hu
    exact completes_of_exec rfl (State.serveMailbox_asked 1 _ (ha.narrowed (if_neg hp)) hu) rfl
  case writeRt =>
    intro s t p c q x a v b ha
    have same : b.isRunTime a = s.isRunTime a := ha.only.isRunTime a
    exact ⟨fun hr => completes_of_exec rfl (State.serve_one ha (if_neg (not_bnot (same.trans hr)))) rfl,
      fun hr => completes_of_exec rfl (State.serve_one ha (if_pos (congrArg not (same.trans hr)))) rfl⟩
  case hartPass =>
    intro s t p c q x ch data b d ha hc h2 hd hl hh hs
    have queued := State.hartPass_queues (r := ⟨p, c, q, x⟩) hc h2 hd (ha.only.loopsRun.trans hl)
      (by rwa [ha.only.hartDevices hc]) ((ha.only.loopState hc).trans hs)
    exact completes_of_exec rfl ((State.serveWith_one ha queued).trans (if_pos rfl)) rfl

end Sys2Proof.Machine

/-! ## The safety unit (11_safety_unit.md) -/

namespace Sys2Proof.Machine

/-! ### Status signals (R361, O42)

A delivery writes the state bytes of its own instant, and the byte of an energised output shows an off-pulse from the instant at which the pulse
begins (R351, R366). The statement names the bytes of the state before the clock advances to the command. -/

theorem exec_safeStatusDelivery_due {s : State} {t : Nat} (hu : s.flag SYS.UNITS.SAFE = true) (he : s.safe.params.statusEn = true)
    (hi : s.ingressOn = true) (hd : s.safe.due = true) :
    exec (.safeStatusDelivery t) s = .next (((s.advance t).updSafe (fun x => { x with due := false, shownAt := (s.advance t).now })).deliver
      0x8000 (((List.range 16).zip (s.advance t).safeBytes).map (fun x => (s.safe.params.status + x.1, x.2, 0))) (s.advance t).now) :=
  if_neg (by
    rintro (unfitted | off | closed | idle)
    · exact not_bnot hu unfitted
    · exact not_bnot he off
    · exact not_bnot hi closed
    · exact not_bnot (decide_eq_true (.inl hd)) idle)

/-- An ACTIVE unit that owes a delivery of its status signals, from signal 0x100 on. Output 0 is energised; its first off-pulse begins in 1 ms. -/
def State.beforeOffPulse : State :=
  { State.reset with
    mode := .active
    safe := { (default : SafeSt) with
      params := { (default : SafeParams) with statusEn := true, status := 0x100, outs := [(0, { (default : SafeOut) with use := 1, tpp := 1 })] }
      out := [(0, { (default : OutDyn) with st := OutState.armed, req := true, on := true, pulseAt := msec 1 })]
      due := true }
    img := { State.reset.img with dir := [(0x100, some { (default : DirEntry) with type := 1, owner := 0x8000 })] } }

/-- The delivery of the state bytes `l` when the pulse begins. -/
def State.deliverAtOffPulse (l : List Nat) : State :=
  let a := State.beforeOffPulse.advance (msec 1)
  (a.updSafe (fun x => { x with due := false, shownAt := a.now })).deliver 0x8000 (((List.range 16).zip l).map (fun x =>
    (State.beforeOffPulse.safe.params.status + x.1, x.2, 0))) a.now

theorem State.beforeOffPulse_delivers :
    exec (.safeStatusDelivery (msec 1)) State.beforeOffPulse =
      .next (State.deliverAtOffPulse (State.beforeOffPulse.advance (msec 1)).safeBytes) :=
  exec_safeStatusDelivery_due (by decide +kernel) rfl rfl rfl

/-- Output 0 shows ARMED, ON, REQ and PULSE. -/
theorem State.offPulse_delivered :
    ((State.deliverAtOffPulse (State.beforeOffPulse.advance (msec 1)).safeBytes).img.slots.get 0x100).value = 0x3E := by decide +kernel

/-- The byte from before the pulse has no PULSE bit. -/
theorem State.offPulse_missing : ((State.deliverAtOffPulse State.beforeOffPulse.safeBytes).img.slots.get 0x100).value = 0x1E := by
  decide +kernel

/-- Refutes O42: the delivery at the instant at which an off-pulse of output 0 begins shows the PULSE bit of the output's byte, which the bytes
from before the command lack. -/
theorem not_safetyUnitActs : ¬ Obligations.SafetyUnitActs := by
  rintro ⟨_, _, _, _, _, _, _, _, _, _, delivers⟩
  obtain ⟨s', delivered, claimed⟩ := delivers State.beforeOffPulse (msec 1) (by decide +kernel) rfl rfl (.inl rfl)
  have same : State.deliverAtOffPulse (State.beforeOffPulse.advance (msec 1)).safeBytes = State.deliverAtOffPulse State.beforeOffPulse.safeBytes :=
    (Host.Outcome.next.inj (State.beforeOffPulse_delivers.symm.trans delivered)).trans claimed
  have value := State.offPulse_delivered
  rw [same, State.offPulse_missing] at value
  exact absurd value (by decide)

/-! ### Requests of the mailbox (R349, R358, R360, O43) -/

/-- Who may ask for RESTART: a core, or the port bridge with an OPERATE command (R349). -/
theorem mayRestart_iff (m cls port : Nat) :
    mayRestart m cls port = true ↔ (m < 16 ∧ cls = 0) ∨ (m = 36 ∧ cls = 1 ∧ port < 3) := by
  simp [mayRestart, and_assoc]

theorem State.mayClear_iff (s : State) (m cls port : Nat) :
    s.mayClear m cls port = true ↔ m = 36 ∧ cls = 2 ∧ port = 0 ∧ 1 ≤ s.reg PORT.STAT.KEY := by
  simp [State.mayClear, and_assoc]

theorem State.mayConfirm_iff (s : State) (m cls port : Nat) :
    s.mayConfirm m cls port = true ↔ m = 36 ∧ cls = 3 ∧ port = 0 ∧ s.reg PORT.STAT.KEY = 2 ∧ s.mode = .commission := by
  simp [State.mayConfirm, and_assoc]

section Mailbox
variable {s : State} {op : Nat} {r : Option (Req × Nat)}

/-- A unit that is not fitted takes no request (R5). -/
theorem State.mbox_unfitted (b : Bool) (h : s.flag SYS.UNITS.SAFE = false) : s.mbox b op r = s := if_pos (by simp [h])

variable (hu : s.flag SYS.UNITS.SAFE = true)
include hu

theorem State.mbox_denied : s.mbox false op r = s.setReg SAFE.MBOX_STAT.RESULT 0 MboxResult.denied :=
  (if_neg (not_bnot hu)).trans (if_pos rfl)

theorem State.mbox_busy (h : s.safe.request.isSome = true) : s.mbox true op r = s.setReg SAFE.MBOX_STAT.RESULT 0 MboxResult.busy :=
  (if_neg (not_bnot hu)).trans ((if_neg (not_bnot rfl)).trans (if_pos h))

theorem State.mbox_taken (h : s.safe.request = none) :
    s.mbox true op r = (s.updSafe (fun x => { x with request := some { op := op, arg := s.reg SAFE.MBOX_ARG.ARG, reply := r } })).setReg
      SAFE.MBOX_STAT.BUSY 0 1 :=
  (if_neg (not_bnot hu)).trans ((if_neg (not_bnot rfl)).trans (if_neg (by simp [h])))

end Mailbox

/-- A result of the mailbox is shown, and nothing else changes. -/
theorem State.mboxResult_only (s : State) {v : Nat} (hv : v < 8) :
    let a := s.setReg SAFE.MBOX_STAT.RESULT 0 v
    a.reg SAFE.MBOX_STAT.RESULT = v ∧ s.regsKeptBut a [SAFE.MBOX_STAT.RESULT] ∧ a.safe = s.safe :=
  ⟨(s.reg_setReg v (by decide)).trans (Nat.mod_eq_of_lt hv), s.setReg_kept _ _ _ _ (by simp) (by decide), State.setReg_safe ..⟩

/-! #### A request is completed -/

/-- What the operation of a request answers, and the state it leaves. -/
def State.judgeRequest (s : State) (q : MboxReq) : Nat × State :=
  if q.op = 1 then s.safeRestart q.arg else if q.op = 2 then s.safeClear q.arg else s.safeConfirm q.arg

/-- The mailbox is free, and shows the result. -/
def State.freeMailbox (s : State) (result : Nat) : State :=
  ((s.updSafe (fun y => { y with request := none })).setReg SAFE.MBOX_STAT.BUSY 0 0).setReg SAFE.MBOX_STAT.RESULT 0 result

section EndRequest
variable {s : State} {q : MboxReq} (hq : s.safe.request = some q)
include hq

theorem State.endRequest_silent (hr : q.reply = none) : s.endRequest = (s.judgeRequest q).2.freeMailbox (s.judgeRequest q).1 := by
  cases q
  cases hr
  unfold State.endRequest
  rw [hq]
  rfl

theorem State.endRequest_answers {r : Req} {op : Nat} (hr : q.reply = some (r, op)) :
    s.endRequest = ((s.judgeRequest q).2.freeMailbox (s.judgeRequest q).1).respond r op 0 [(0, leBytes 4 (s.judgeRequest q).1)] := by
  cases q
  cases hr
  unfold State.endRequest
  rw [hq]
  rfl

end EndRequest

/-! #### RESTART (R349, R365) -/

/-- Output `j` waits for a restart, and nothing else holds it. -/
def State.outWaits (s : State) (j : Nat) : Bool := (s.safe.out.get j).st == OutState.waitRestart && s.outJudge j == OutState.waitRestart

/-- An output that waits no longer. -/
def OutDyn.restarted (o : OutDyn) : OutDyn := { o with wait := false, released := true }

def State.restartOut (s : State) (j : Nat) : State := s.updOut j OutDyn.restarted

theorem State.restartOut_out (s : State) (j k : Nat) :
    (s.restartOut j).safe.out.get k = if k = j then (s.safe.out.get j).restarted else s.safe.out.get k := Tab.get_upd ..

/-- The outputs that RESTART names. -/
def namedOuts (mask : Nat) : List Nat := [0, 1, 2, 3].filter (fun j => bitOf j mask)

section Restart
variable (s : State) (mask : Nat)

theorem State.safeRestart_eq : s.safeRestart mask = (if (namedOuts mask).all s.outWaits then MboxResult.done else MboxResult.notWaiting,
    s.each ((namedOuts mask).filter s.outWaits) State.restartOut) := rfl

variable {s mask} {j : Nat}

theorem State.safeRestart_releases (hn : j ∈ namedOuts mask) (hw : s.outWaits j = true) :
    ((s.safeRestart mask).2.safe.out.get j).wait = false ∧ ((s.safeRestart mask).2.safe.out.get j).released = true := by
  rw [State.safeRestart_eq]
  refine State.each_establishes (P := fun s => (s.safe.out.get j).wait = false ∧ (s.safe.out.get j).released = true)
    (f := State.restartOut) (List.mem_filter.mpr ⟨hn, hw⟩) (fun s => ?_) (fun s k h => ?_) s
  · rw [State.restartOut_out, if_pos rfl]
    exact ⟨rfl, rfl⟩
  · rw [State.restartOut_out]
    split
    · exact ⟨rfl, rfl⟩
    · exact h

theorem State.safeRestart_keeps (h : j ∉ namedOuts mask ∨ s.outWaits j = false) : (s.safeRestart mask).2.safe.out.get j = s.safe.out.get j := by
  rw [State.safeRestart_eq]
  refine State.each_induct (P := fun u => u.safe.out.get j = s.safe.out.get j) _ State.restartOut (fun u k hk kept => ?_) rfl
  obtain ⟨named, waits⟩ := List.mem_filter.mp hk
  have other : j ≠ k := by
    rintro rfl
    exact h.elim (fun unnamed => unnamed named) (fun held => absurd (held.symm.trans waits) (by decide))
  rw [State.restartOut_out, if_neg other, kept]

end Restart

/-! #### CONFIRM (R358) -/

theorem State.flag_setReg_one (s : State) {f : Fld} (hw : f.width = 1) (hi : 0 < f.count) : (s.setReg f 0 1).flag f = true := by
  rw [State.flag, State.reg_setReg _ _ hi, hw]
  rfl

theorem State.flag_setReg_zero (s : State) {f : Fld} (hi : 0 < f.count) : (s.setReg f 0 0).flag f = false := by
  rw [State.flag, State.reg_setReg _ _ hi, wrap, Nat.zero_mod]
  rfl

section Confirm
variable {s : State} {v : Nat}

theorem State.safeConfirm_locked (h : s.flag SAFE.STAT.LOCKED = true) : s.safeConfirm v = (MboxResult.locked, s) := if_pos h

theorem State.safeConfirm_matches (hl : s.flag SAFE.STAT.LOCKED = false) (hv : wrap 32 v = s.reg SAFE.CHECK.VALUE) :
    s.safeConfirm v = (MboxResult.done, (s.setReg SAFE.CONFIRMED.VALUE 0 v).setReg SAFE.STAT.CONFIRMED 0 1) :=
  (if_neg (Bool.eq_false_iff.mp hl)).trans (if_pos hv)

variable (s v)

theorem State.confirmed_value :
    ((s.setReg SAFE.CONFIRMED.VALUE 0 v).setReg SAFE.STAT.CONFIRMED 0 1).reg SAFE.CONFIRMED.VALUE = wrap 32 v :=
  (State.reg_setReg_other _ _ _ _ _ _ (by decide) (by decide) (by decide)).trans (s.reg_setReg v (by decide))

end Confirm

theorem exec_confirmLockEnd_due {s : State} {t : Nat} (hl : s.flag SAFE.STAT.LOCKED = true)
    (hd : s.safe.lockedAt + sec 600 ≤ (s.advance t).now) :
    exec (.confirmLockEnd t) s = .next ((s.advance t).setReg SAFE.STAT.LOCKED 0 0) :=
  congrArg Host.Outcome.next (if_pos (Bool.and_eq_true_iff.mpr ⟨hl, decide_eq_true hd⟩))

/-- Settles O43: who may ask, what the mailbox answers, what completes a request, RESTART, CONFIRM and the end of the lockout. -/
theorem safetyRequestsAreJudged : Obligations.SafetyRequestsAreJudged := by
  refine ⟨fun s t m cls port => ⟨⟨_, rfl, rfl⟩, ⟨_, rfl, rfl⟩, ⟨_, rfl, rfl⟩⟩,
    fun s m cls port => ⟨mayRestart_iff m cls port, s.mayClear_iff m cls port, s.mayConfirm_iff m cls port⟩,
    fun s op r hu => ⟨?denied, fun hb => ?busy, fun hn => ?taken⟩, fun s op b r => State.mbox_unfitted b,
    fun s q => State.endRequest_silent, fun s q r op hq => State.endRequest_answers hq,
    fun s mask => ⟨fun h => ?notWaiting, fun h => ?done, fun j => State.safeRestart_releases, fun j => State.safeRestart_keeps⟩,
    fun s v hl hv => ?confirm, fun s v => State.safeConfirm_locked, fun s t hl hd => ?lockEnd⟩
  case denied => exact State.mbox_denied (op := op) (r := r) hu ▸ s.mboxResult_only (by decide)
  case busy => exact State.mbox_busy (op := op) (r := r) hu hb ▸ s.mboxResult_only (by decide)
  case taken =>
    rw [State.mbox_taken hu hn]
    exact ⟨State.reg_setReg _ 1 (by decide), (State.regsKeptBut_of_regs _ (s.updSafe_regs _)).setReg (by simp) (by decide), State.setReg_safe ..⟩
  case notWaiting =>
    rw [State.safeRestart_eq]
    exact if_neg (Bool.eq_false_iff.mp h)
  case done =>
    rw [State.safeRestart_eq]
    exact if_pos h
  case confirm =>
    rw [State.safeConfirm_matches hl hv]
    exact ⟨rfl, s.confirmed_value v, State.flag_setReg_one _ rfl (by decide)⟩
  case lockEnd =>
    exact ⟨_, exec_confirmLockEnd_due hl hd, State.flag_setReg_zero _ (by decide),
      (State.regsKeptBut_of_regs _ (s.advance_regs t)).setReg (by simp) (by decide), State.setReg_safe ..⟩

end Sys2Proof.Machine

/-! ## CAN ports (12_can_fd_ports.md) -/

namespace Sys2Proof.Machine

/-! ### What leaves the ports alone

The engines' buffers, queues and FIFOs are no memory words: a record, a guard's refusal and a write of the Tray change none of them. -/

section CanKept
variable (s : State)

@[simp] theorem State.record_can (code inst : Nat) (sev : Severity) (ps : List (Nat × Nat)) (inj : Bool) :
    (s.record code inst sev ps inj).can = s.can := by rw [(s.record_only code inst sev ps inj).2.2]

@[simp] theorem State.note_can (cls inst : Nat) (ps : List (Nat × Nat)) : (s.note cls inst ps).can = s.can := s.record_can ..

@[simp] theorem State.putData_can (m w v : Nat) : (s.putData m w v).can = s.can := by rw [State.putData_frame]

@[simp] theorem State.strike_can (m w d c a : Nat) : (s.strike m w d c a).can = s.can := s.putData_can ..

@[simp] theorem State.actFlip_can (m w : Nat) : (s.actFlip m w).can = s.can := by
  unfold State.actFlip
  split
  · simp
  · rfl

@[simp] theorem State.writeMarked_can (m w v : Nat) : (s.writeMarked m w v).can = s.can :=
  (State.actFlip_can ..).trans (s.putData_can ..)

@[simp] theorem State.writeWords_can (m w : Nat) (l : List Nat) : (s.writeWords m w l).can = s.can :=
  State.each_induct (P := fun s' => s'.can = s.can) _ _ (fun _ _ _ h => (State.writeMarked_can ..).trans h) rfl

@[simp] theorem State.guardRefuse_can (m k c a : Nat) (p : Bool) : (s.guardRefuse m k c a p).can = s.can := by
  simp [State.guardRefuse]

@[simp] theorem State.dmaWrite_can (m sv mem w : Nat) (l : List Nat) : (s.dmaWrite m sv mem w l).can = s.can := by
  unfold State.dmaWrite
  split <;> simp

theorem State.canPort_of_can {s s' : State} (h : s'.can = s.can) (n : Nat) : s'.canPort n = s.canPort n := by
  rw [State.canPort, h, State.canPort]

@[simp] theorem State.canPort_updCan (n : Nat) (f : CanPort → CanPort) : (s.updCan n f).canPort n = f (s.canPort n) :=
  (Tab.get_upd ..).trans (if_pos rfl)

end CanKept

/-! ### FIFOs (R376) -/

/-- A FIFO after frame `e` was stored: a full one gives up its oldest frame. -/
def fifoWith (l : List CanEntry) (e : CanEntry) : List CanEntry := if 64 ≤ l.length then l.drop 1 ++ [e] else l ++ [e]

theorem fifoWith_length {l : List CanEntry} (e : CanEntry) (h : l.length ≤ 64) : (fifoWith l e).length ≤ 64 := by
  unfold fifoWith
  split <;> simp <;> omega

/-- A frame is lost, or enters its FIFO. -/
theorem State.storeFifo_canPort (s : State) (n k : Nat) (e : CanEntry) :
    (s.storeFifo n k e).canPort n = s.canPort n ∨
      ∃ i, (s.storeFifo n k e).canPort n = (s.canPort n).setFifo k i (fifoWith ((s.canPort n).fifo k) e) := by
  have full (b : Bool) : (s.when b (fun s => (s.addReg CAN.LOST.FIFO n 1).setReg CAN.FIFOk_STAT.FULL (n * 2 + k) 1)).can = s.can := by
    cases b <;> simp
  unfold State.storeFifo
  dsimp only
  generalize (if k = 0 then s.flag CAN.CFG.FIFOPOL0 n else s.flag CAN.CFG.FIFOPOL1 n) = overwrite
  split
  · exact .inl (State.canPort_of_can (full _) n)
  · refine .inr ⟨if decide (64 ≤ ((s.canPort n).fifo k).length) then (s.canPort n).first k + 1 else (s.canPort n).first k, ?_⟩
    rw [State.canPort_of_can ((State.setReg_can ..).trans (State.dmaWrite_can ..)), State.canPort_updCan, State.canPort_of_can (full _)]
    simp [fifoWith]

theorem CanPort.setFifo_bounded {p : CanPort} (k i : Nat) {l : List CanEntry} (h0 : p.fifo0.length ≤ 64) (h1 : p.fifo1.length ≤ 64)
    (hl : l.length ≤ 64) : (p.setFifo k i l).fifo0.length ≤ 64 ∧ (p.setFifo k i l).fifo1.length ≤ 64 := by
  unfold CanPort.setFifo
  split
  · exact ⟨hl, h1⟩
  · exact ⟨h0, hl⟩

theorem CanPort.fifo_bounded {p : CanPort} (k : Nat) (h0 : p.fifo0.length ≤ 64) (h1 : p.fifo1.length ≤ 64) : (p.fifo k).length ≤ 64 := by
  unfold CanPort.fifo
  split <;> assumption

/-- Storing a frame keeps the bound of both FIFOs. -/
theorem State.storeFifo_bounded {s : State} {n : Nat} (k : Nat) (e : CanEntry) (h0 : (s.canPort n).fifo0.length ≤ 64)
    (h1 : (s.canPort n).fifo1.length ≤ 64) :
    ((s.storeFifo n k e).canPort n).fifo0.length ≤ 64 ∧ ((s.storeFifo n k e).canPort n).fifo1.length ≤ 64 := by
  rcases s.storeFifo_canPort n k e with h | ⟨i, h⟩ <;> rw [h]
  · exact ⟨h0, h1⟩
  · exact CanPort.setFifo_bounded k i h0 h1 (fifoWith_length e (CanPort.fifo_bounded k h0 h1))

/-! ### The queue, the error state and requests (R380, R383) -/

section CanRequests
variable {s : State} {n : Nat} {f : CanFrame}

theorem State.pushTx_full (hf : s.mayNotSend n f = false) (hq : 16 ≤ (s.canPort n).queue.length) :
    s.pushTx n f = s.setReg CAN.TXQSTAT.FULL n 1 :=
  (if_neg (Bool.eq_false_iff.mp hf)).trans (if_pos hq)

theorem State.requestTx_active {b : Nat} (hf : s.mayNotSend n f = false) (ha : s.txStatus n b = TxStatus.active) :
    s.requestTx n b f = s.updCan n (fun p => { p with again := p.again.set b (some f) }) :=
  (if_neg (Bool.eq_false_iff.mp hf)).trans (if_pos ha)

theorem State.judgeCan_busOff (h : s.reg CAN.STAT.STATE n = 3) : s.judgeCan n = s := if_pos h

theorem State.judgeCan_onBus (h : s.reg CAN.STAT.STATE n ≠ 3) :
    s.judgeCan n = s.setReg CAN.STAT.STATE n (if 127 < s.reg CAN.ERR.TEC n || s.flag CAN.ERR.RP n then 2 else 1) := if_neg h

/-- A port that is not bus-off is error-passive or error-active. -/
theorem State.judgeCan_state (hn : n < 4) (h : s.reg CAN.STAT.STATE n ≠ 3) :
    (s.judgeCan n).reg CAN.STAT.STATE n = if 127 < s.reg CAN.ERR.TEC n ∨ s.flag CAN.ERR.RP n = true then 2 else 1 := by
  rw [State.judgeCan_onBus h, State.reg_setReg _ _ hn]
  by_cases hp : 127 < s.reg CAN.ERR.TEC n ∨ s.flag CAN.ERR.RP n = true <;> simp [hp] <;> rfl

end CanRequests

/-- Settles O47: the bound of the FIFOs, a push into a full queue, the error states, and a request on an ACTIVE buffer. -/
theorem canBoundsAndStates : Obligations.CanBoundsAndStates := by
  refine ⟨fun s n k e _ h0 h1 => State.storeFifo_bounded k e h0 h1, fun s n f hq hf => State.pushTx_full hf hq,
    fun s n hn h => ?states, fun s n => State.judgeCan_busOff, fun s n b f hf ha => ?active⟩
  case states =>
    rw [State.judgeCan_state hn h]
    by_cases hp : 127 < s.reg CAN.ERR.TEC n ∨ s.flag CAN.ERR.RP n = true <;> simp [hp]
  case active =>
    rw [State.requestTx_active hf ha, State.canPort_updCan]
    exact ⟨rfl, by simp [Tab.get_set], rfl⟩

end Sys2Proof.Machine

/-! ## Frames, requests and errors of a CAN port (12_can_fd_ports.md) -/

namespace Sys2Proof.Machine

/-! ### Reception (R373 to R375, R383) -/

section Receives
variable {s : State} {n : Nat} (hn : n < 4) (hc : s.canOn n = true) (hs : s.reg CAN.STAT.STATE n ≠ 3)
include hn hc

theorem can_in_use : ¬(4 ≤ n ∨ (!s.canOn n) = true) := not_or.mpr ⟨Nat.not_le.mpr hn, not_bnot hc⟩

include hs

theorem can_receives : ¬(4 ≤ n ∨ (!s.canOn n) = true ∨ s.reg CAN.STAT.STATE n = 3) :=
  not_or.mpr ⟨Nat.not_le.mpr hn, not_or.mpr ⟨not_bnot hc, hs⟩⟩

variable (t sof idw dlc : Nat) (data : List Nat)

theorem exec_canFrameRx_remote :
    exec (.canFrameRx t n sof idw dlc true data) s = .next ((((s.advance t).goodRx n).judgeCan n).addReg CAN.RXCNT.REMOTE n 1) :=
  if_neg (can_receives (s := s.advance t) hn hc hs)

theorem exec_canFrameRx_unmatched (h : ((((s.advance t).goodRx n).judgeCan n).elements sof).strain n idw = none) :
    exec (.canFrameRx t n sof idw dlc false data) s = .next ((((s.advance t).goodRx n).judgeCan n).addReg CAN.RXCNT.NOMATCH n 1) := by
  refine (if_neg (can_receives (s := s.advance t) hn hc hs)).trans ?_
  simp only [Bool.false_eq_true, if_false, h]

theorem exec_canFrameRx_matched {e : Nat} (h : ((((s.advance t).goodRx n).judgeCan n).elements sof).strain n idw = some e) :
    let a := ((s.advance t).goodRx n).judgeCan n
    let x := (a.elements sof).elemAction n e
    exec (.canFrameRx t n sof idw dlc false data) s =
      .next (if x.2.1 then (a.keepFrame n x.1 e sof idw dlc data).deliverMap n e x.2.2 sof data
        else a.keepFrame n x.1 e sof idw dlc data) := by
  refine (if_neg (can_receives (s := s.advance t) hn hc hs)).trans ?_
  simp only [Bool.false_eq_true, if_false, h]

theorem exec_canRxError (lec : Nat) (p : Bool) :
    let a := ((s.advance t).setReg CAN.ERR.LEC n (min lec 6)).raiseRec n (if p then 8 else 1)
    exec (.canRxError t n lec p) s = .next ((a.when a.isActive (fun s => s.addReg CAN.ERRCNT.FRAMES n 1)).judgeCan n) :=
  if_neg (can_receives (s := s.advance t) hn hc hs)

end Receives

/-! ### Requests, pushes and cancels (R378 to R380, R382) -/

/-- The owner's task stages requests on its DIRECT buffers among those of a mask. -/
def State.stageRequests (s : State) (n x mask : Nat) (areas : List (Option CanFrame)) : State :=
  let bits := (List.range 32).filter (fun i => bitOf i mask)
  let l := bits.filter (fun i => !s.flag CAN.TXBb_CFG.MAPPED (txKey n i))
  let w := s.each ((bits.zip areas).filter (fun y => l.contains y.1)) (fun s y => s.writeArea (canWord n (txPlace y.1)) y.2)
  (w.setReg CAN.TXREQ.REQ n (w.reg CAN.TXREQ.REQ n ||| wrap 32 (l.map (fun i => 2 ^ i)).sum)).updTask x (fun d => { d with
    canStaged := d.canStaged.filter (fun y => !(y.1 == n && l.contains y.2)) ++ l.map (fun i => (n, i)) })

/-- The owner's task stages a push behind those it has staged before. -/
def State.stagePush (s : State) (n x : Nat) (area : Option CanFrame) : State :=
  let ahead := ((s.task x).canStaged.filter (fun y => y == (n, 32))).length
  ((s.writeArea (canWord n (queuePlace ((s.canPort n).queueAt + (s.canPort n).queue.length + ahead))) area).setReg CAN.TXQSTAT.PUSH n 1).updTask x
    (fun d => { d with canStaged := d.canStaged ++ [(n, 32)] })

section Requests
variable {s : State} {b n x : Nat} (hx : s.cycleTask b = some x) (hn : n < 4) (hc : s.canOn n = true) (t mask pc e : Nat)
include hx hn hc

theorem exec_txreqWrite (areas : List (Option CanFrame)) :
    exec (.txreqWrite t b n mask pc e areas) s =
      .next (if ((List.range 32).filter (fun i => bitOf i mask)).any (fun i => s.reg CAN.TXBb_CFG.OWNER (txKey n i) != x)
        then (s.advance t).canFault b x pc (CAN.TXREQ.REQ.addrOf n) e else (s.advance t).stageRequests n x mask areas) := by
  change execTxreqWrite t b n mask pc e areas s = _
  unfold execTxreqWrite
  have task : (s.advance t).cycleTask b = some x := hx
  simp only [task, if_neg (can_in_use (s := s.advance t) hn hc)]
  exact (apply_ite Host.Outcome.next _ _ _).symm

theorem exec_txqPush (area : Option CanFrame) :
    exec (.txqPush t b n pc e area) s =
      .next (if s.reg CAN.CFG.TXQTASK n ≠ x then (s.advance t).canFault b x pc (CAN.TXQSTAT.PUSH.addrOf n) e
        else (s.advance t).stagePush n x area) := by
  change execTxqPush t b n pc e area s = _
  unfold execTxqPush
  have task : (s.advance t).cycleTask b = some x := hx
  simp only [task, if_neg (can_in_use (s := s.advance t) hn hc)]
  exact (apply_ite Host.Outcome.next _ _ _).symm

end Requests

theorem exec_txcancelWrite {s : State} {n : Nat} (t m mask : Nat) (hn : n < 4) (ha : s.absentAt (CAN.TXCANCEL.CAN.addrOf n) = false) :
    exec (.txcancelWrite t m n mask) s =
      .next ((s.advance t).each ((List.range 32).filter (fun b => bitOf b mask)) (fun s b => s.cancelTx n b)) :=
  if_neg (not_or.mpr ⟨Nat.not_le.mpr hn, Bool.eq_false_iff.mp ha⟩)

/-! ### Frames that end (R372, R381, R383, R385) -/

section FrameEnds
variable {s : State} {n : Nat} (t : Nat)

/-- What an acknowledged frame does to the counters and the error state of its port. -/
def State.sentOn (s : State) (n i tdcv : Nat) : State :=
  let a := ((((s.addReg CAN.TXCNT.COUNT n 1).setReg CAN.ERR.LEC n 0).dropReg CAN.ERR.TEC n).setReg CAN.STAT.NO_PARTNER n 0).updCan n
    (fun p => { p with ackErrs := 0 })
  (a.noteTdcv n (s.txFrame n i).idw tdcv).judgeCan n

/-- Below buffer 31, which carries reference messages (R388), nothing else follows a frame that was sent. -/
theorem exec_txSuccess_buffer {i : Nat} (sof tdcv : Nat) (ha : (s.canPort n).active = some i) (hi : i < 31) :
    let b := (s.advance t).sentOn n i tdcv
    exec (.txSuccess t n sof tdcv) s =
      .next ((((b.updCan n (fun p => { p with buf := p.buf.upd i (fun f => { f with stamp := wrap 64 (sof / 4) }) })).dmaWrite canDma 256 1
        (canWord n (txPlace i) + 1) [wrap 64 (sof / 4)]).leaveBus n i TxStatus.sent).startTx n) := by
  change execTxSuccess t n sof tdcv s = _
  unfold execTxSuccess
  have active : ((s.advance t).canPort n).active = some i := ha
  have h32 : i ≠ 32 := by omega
  have h31 : i ≠ 31 := by omega
  simp only [active, h32, h31, if_false, false_and]
  rfl

theorem exec_txError_idle (f : TxFault) (p : Bool) (ha : (s.canPort n).active = none) : exec (.txError t n f p) s = .next (s.advance t) := by
  change execTxError t n f p s = _
  unfold execTxError
  have active : ((s.advance t).canPort n).active = none := ha
  simp only [active]

/-- The measured loop delay, where the faulty frame gave one. -/
def State.noteFault (s : State) (n i : Nat) (f : TxFault) : State := f.tdcv.elim s (fun v => s.noteTdcv n (s.txFrame n i).idw v)

/-- What a transmission error does to the counters and the error state. -/
def State.failedOn (s : State) (n : Nat) (f : TxFault) (p : Bool) : State :=
  let b := (s.setReg CAN.ERR.LEC n (min f.lec 6)).addReg CAN.ERRCNT.FRAMES n 1
  let c := if p = true ∧ f.lec = 3 ∧ b.reg CAN.STAT.STATE n = 2 then b else b.setReg CAN.ERR.TEC n (min (b.reg CAN.ERR.TEC n + 8) 511)
  (if f.lec = 3 then c.ackError n else c.updCan n (fun q => { q with ackErrs := 0 })).judgeCan n

/-- A SINGLE buffer is not tried again (R381). -/
def State.retryStatus (s : State) (n i : Nat) : Nat :=
  if s.flag CAN.TXBb_CFG.SINGLE (txKey n i) then TxStatus.failed else TxStatus.pending

variable {i : Nat} (f : TxFault) (p : Bool) (ha : (s.canPort n).active = some i) (hi : i < 32)
include ha hi

theorem exec_txError_buffer :
    let a := (s.advance t).noteFault n i f
    let d := if f.lec = 0 then a else a.failedOn n f p
    exec (.txError t n f p) s = .next ((d.leaveBus n i (d.retryStatus n i)).startTx n) := by
  change execTxError t n f p s = _
  unfold execTxError
  have active : ((s.advance t).canPort n).active = some i := ha
  have h32 : i ≠ 32 := by omega
  obtain ⟨lec, tdcv⟩ := f
  cases tdcv <;> simp only [active, h32, if_false, State.failedOn, State.noteFault, Bool.and_eq_true, beq_iff_eq, and_assoc] <;> rfl

end FrameEnds

/-! ### The pause without a partner, bus-off and recovery (R384, R385) -/

section BusOff
variable {s : State} {n : Nat} (t : Nat)

theorem exec_noPartnerPauseEnd_due (hp : s.flag CAN.STAT.PAUSED n = true)
    (hd : (s.canPort n).pauseAt - 1 + msec (s.reg CAN.NPCFG.PAUSE n) ≤ (s.advance t).now) :
    exec (.noPartnerPauseEnd t n) s =
      .next ((((s.advance t).setReg CAN.STAT.PAUSED n 0).updCan n (fun p => { p with ackErrs := 0, pauseAt := 0 })).startTx n) :=
  if_pos ⟨hp, hd⟩

/-- The record and the count of a bus-off. -/
def State.noteBusOff (s : State) (n : Nat) : State :=
  ((s.record 0xB01 n .warning [(1, s.reg CAN.ERR.LEC n)]).addReg CAN.ERRCNT.BUSOFF n 1).occur 8 n (0x134 + n)

theorem State.noteBusOff_can (s : State) : (s.noteBusOff n).can = s.can := (State.addReg_can ..).trans (s.record_can ..)

theorem exec_busOff_silent (hn : n < 4) (hc : s.canOn n = true) (ha : s.isActive = true) (hs : s.reg CAN.STAT.STATE n ≠ 3)
    (hq : (s.canPort n).active = none) (ht : 255 < s.reg CAN.ERR.TEC n) :
    let a := (s.advance t).noteBusOff n
    let b := (a.setReg CAN.STAT.STATE n 3).updCan n (fun p => { p with busOffAt := a.now + 1, prevOk := false })
    exec (.busOff t n) s =
      .next (if b.permanent 8 n then (b.retireItem 8 n 0xB n 0xB01).setReg CAN.STAT.RETIRED n 1 else b) := by
  have goes : ¬(4 ≤ n ∨ (!(s.advance t).canOn n) = true ∨ (!(s.advance t).isActive) = true ∨ (s.advance t).reg CAN.STAT.STATE n = 3 ∨
      (s.advance t).reg CAN.ERR.TEC n ≤ 255) :=
    not_or.mpr ⟨Nat.not_le.mpr hn, not_or.mpr ⟨not_bnot hc, not_or.mpr ⟨not_bnot ha, not_or.mpr ⟨hs, Nat.not_le.mpr ht⟩⟩⟩⟩
  have quiet : (((s.advance t).noteBusOff n).canPort n).active = none :=
    (congrArg CanPort.active (State.canPort_of_can (State.noteBusOff_can _) n)).trans hq
  change execBusOff t n s = _
  unfold State.noteBusOff at quiet ⊢
  unfold execBusOff
  simp only [if_neg goes, quiet]
  exact (apply_ite Host.Outcome.next _ _ _).symm

theorem exec_recover (m : Nat) (h : s.busOffHere n = true) :
    exec (.recover t m n) s = .next ((s.advance t).setReg CAN.STAT.RECOVERING n 1) := if_pos h

theorem exec_busOffDelayEnd_due (h : s.busOffHere n = true) (ha : s.flag CAN.BOCFG.AUTO n = true)
    (hd : (s.canPort n).busOffAt - 1 + msec (s.reg CAN.BOCFG.DELAY n) ≤ (s.advance t).now) :
    exec (.busOffDelayEnd t n) s = .next ((s.advance t).setReg CAN.STAT.RECOVERING n 1) := if_pos ⟨h, ha, hd⟩

/-- The port begins its recovery, and nothing else happens. -/
theorem completes_recovering {c : Instr} (hn : n < 4) (h : exec c s = .next ((s.advance t).setReg CAN.STAT.RECOVERING n 1)) :
    completes c s fun s' =>
      s'.flag CAN.STAT.RECOVERING n = true ∧ s.regsKeptBut s' [CAN.STAT.RECOVERING] ∧ s'.can = s.can ∧ s'.out = s.out := by
  refine ⟨_, h, ?_, (s.regsKeptBut_of_regs _ (s.advance_regs t)).setReg (by simp) (by decide), State.setReg_can .., State.setReg_out ..⟩
  rw [State.flag, State.reg_setReg _ _ hn]
  rfl

theorem exec_recoveryDone (hc : s.canOn n = true) (hs : s.reg CAN.STAT.STATE n = 3) (hr : s.flag CAN.STAT.RECOVERING n = true) :
    exec (.recoveryDone t n) s =
      .next ((((s.advance t).freshPort n).updCan n (fun p => { p with busOffAt := 0, ackErrs := 0 })).startTx n) := if_pos ⟨hc, hs, hr⟩

end BusOff

/-- Settles O45: reception, requests, what ends a frame, the pause, bus-off and recovery. -/
theorem canFramesAndErrors : Obligations.CanFramesAndErrors := by
  refine ⟨fun s t n sof idw dlc data hn hc hs => ⟨⟨_, exec_canFrameRx_remote hn hc hs t sof idw dlc data, rfl⟩,
      fun h => ⟨_, exec_canFrameRx_unmatched hn hc hs t sof idw dlc data h, rfl⟩, fun e h => ⟨fun hx => ?keeps, fun hx => ?delivers⟩⟩,
    fun s t n lec p hn hc hs => ⟨_, exec_canRxError hn hc hs t lec p, rfl⟩,
    fun s t b n mask pc e x areas hx hn hc => ⟨fun ho => ⟨_, exec_txreqWrite hx hn hc t mask pc e areas, if_pos ho⟩,
      fun ho => ⟨_, exec_txreqWrite hx hn hc t mask pc e areas, if_neg (Bool.eq_false_iff.mp ho)⟩⟩,
    fun s t b n pc e x area hx hn hc => ⟨fun ho => ⟨_, exec_txqPush hx hn hc t pc e area, if_neg (not_not.mpr ho)⟩,
      fun ho => ⟨_, exec_txqPush hx hn hc t pc e area, if_pos ho⟩⟩,
    fun s t m n mask hn ha => ⟨_, exec_txcancelWrite t m mask hn ha, rfl⟩,
    fun s t n sof tdcv i ha hi => ⟨_, exec_txSuccess_buffer t sof tdcv ha hi, rfl⟩,
    fun s t n i f p ha hi => ⟨fun hl => ?lost, fun hl => ?failed⟩,
    fun s t n f p ha => ⟨_, exec_txError_idle t f p ha, rfl⟩,
    fun s t n hp hd => ⟨_, exec_noPartnerPauseEnd_due t hp hd, rfl⟩,
    fun s t n hn hc ha hs hq ht => ⟨_, exec_busOff_silent t hn hc ha hs hq ht, rfl⟩,
    fun s t m n hn h => ⟨completes_recovering t hn (exec_recover t m h),
      fun ha hd => completes_recovering t hn (exec_busOffDelayEnd_due t h ha hd)⟩,
    fun s t n hc hs hr => ⟨_, exec_recoveryDone t hc hs hr, rfl⟩⟩
  case keeps => exact ⟨_, exec_canFrameRx_matched hn hc hs t sof idw dlc data h, if_neg (Bool.eq_false_iff.mp hx)⟩
  case delivers => exact ⟨_, exec_canFrameRx_matched hn hc hs t sof idw dlc data h, if_pos hx⟩
  case lost =>
    refine ⟨_, exec_txError_buffer t f p ha hi, ?_⟩
    rw [if_pos hl]
    rfl
  case failed =>
    refine ⟨_, exec_txError_buffer t f p ha hi, ?_⟩
    rw [if_neg hl]
    rfl

end Sys2Proof.Machine

/-! ## The CAN time service (12_can_fd_ports.md) -/

namespace Sys2Proof.Machine

/-! ### Reference messages (R387 to R389) -/

section ReferenceSend
variable {s : State} {n : Nat} (t : Nat) (hn : n < 4) (hc : s.canOn n = true) (ha : s.isActive = true) (hr : s.reg CAN.CTS_CFG.ROLE n = 1)
  (hd : (s.advance t).referenceDue n = true)

/-- The port notes the instant and the base of a reference message that is due. -/
def State.noteReference (s : State) (n : Nat) : State :=
  let b := if (s.canPort n).prevOk then s else s.nextFree
  b.updCan n (fun p => { p with
    prevOk := false, sending := s.canSends n, sentAt := b.now, sentVal := b.baseVal (min 5 (s.reg CAN.CTS_CFG.BASE n))
    sentEpoch := b.baseEpoch (min 5 (s.reg CAN.CTS_CFG.BASE n)) })

include hn hc ha hr hd

theorem reference_sends : ¬(4 ≤ n ∨ (!(s.advance t).canOn n) = true ∨ (!(s.advance t).isActive) = true ∨
    (s.advance t).reg CAN.CTS_CFG.ROLE n ≠ 1 ∨ (!(s.advance t).referenceDue n) = true) :=
  not_or.mpr ⟨Nat.not_le.mpr hn, not_or.mpr ⟨not_bnot hc, not_or.mpr ⟨not_bnot ha, not_or.mpr ⟨not_not.mpr hr, not_bnot hd⟩⟩⟩⟩

theorem exec_ctsReferenceSend_sends (h : s.canSends n = true) :
    let m := wrap 16 (s.reg CAN.CTS_STAT.MSEQ n + 1)
    exec (.ctsReferenceSend t n) s = .next ((((s.advance t).noteReference n).setReg CAN.CTS_STAT.MSEQ n m).requestTx n 31
      { idw := s.reg CAN.CTS_ID.ID n + bn (s.flag CAN.CTS_ID.IDE n) * 2 ^ 29 + 2 ^ 30 + bn (s.flag CAN.CFG.BRSEN n) * 2 ^ 31
        dlc := 10, data := (s.advance t).referenceData n m, stamp := 0 }) :=
  (if_neg (reference_sends t hn hc ha hr hd)).trans (if_pos h)

theorem exec_ctsReferenceSend_silent (h : s.canSends n = false) :
    exec (.ctsReferenceSend t n) s = .next ((s.advance t).noteReference n) :=
  (if_neg (reference_sends t hn hc ha hr hd)).trans (if_neg (Bool.eq_false_iff.mp h))

end ReferenceSend

section ReferenceRx
variable {s : State} {n : Nat} (t sof mseq v e b f : Nat) (hn : n < 4) (hc : s.canOn n = true) (hs : s.reg CAN.STAT.STATE n ≠ 3)
  (hr : s.reg CAN.CTS_CFG.ROLE n = 2)

/-- The receiver's capture of a reference message. -/
def State.captureReference (s : State) (n sof mseq : Nat) : State :=
  (s.updCan n (fun p => { p with
    captures := ((wrap 16 mseq, sof) :: (s.canPort n).captures.filter (fun x => x.1 != wrap 16 mseq)).take 4 })).setReg
      CAN.CTS_STAT.MSEQ n (wrap 16 mseq)

theorem State.captureReference_mode (s : State) (n sof mseq : Nat) : (s.captureReference n sof mseq).mode = s.mode := State.setReg_mode ..

theorem State.captureReference_pdly (s : State) (n sof mseq : Nat) (hn : n < 4) :
    ((s.captureReference n sof mseq).setReg CAN.CTS_STAT.PAIRED n 1).reg CAN.CTS_PDLY.NS n = s.reg CAN.CTS_PDLY.NS n := by
  rw [State.reg_setReg_other _ _ _ _ _ _ (by decide) (by decide) (by omega), State.captureReference,
    State.reg_setReg_other _ _ _ _ _ _ (by decide) (by decide) (by omega), State.updCan_reg]

include hn hc hs hr

theorem reference_received : ¬(4 ≤ n ∨ (!(s.advance t).canOn n) = true ∨ (s.advance t).reg CAN.STAT.STATE n = 3 ∨
    (s.advance t).reg CAN.CTS_CFG.ROLE n ≠ 2) :=
  not_or.mpr ⟨Nat.not_le.mpr hn, not_or.mpr ⟨not_bnot hc, not_or.mpr ⟨hs, not_not.mpr hr⟩⟩⟩

/-- A message that carries NOPREV pairs with no capture. -/
theorem exec_ctsReferenceRx_noPrevious (hf : bitOf 0 f = true) :
    exec (.ctsReferenceRx t n sof mseq v e b f) s =
      .next (((s.advance t).captureReference n sof mseq).setReg CAN.CTS_STAT.PAIRED n 0) := by
  refine (if_neg (reference_received t hn hc hs hr)).trans ?_
  simp only [hf, if_true]
  rfl

theorem exec_ctsReferenceRx_paired {c : Nat × Nat} (hf : bitOf 0 f = false)
    (hp : (s.canPort n).captures.find? (fun x => x.1 == diffMod 16 (wrap 16 mseq) 1) = some c) (h1 : s.mode ≠ .standby) (h2 : s.mode ≠ .sync) :
    exec (.ctsReferenceRx t n sof mseq v e b f) s =
      .next (((((s.advance t).captureReference n sof mseq).setReg CAN.CTS_STAT.PAIRED n 1).disciplineCan n (wrap 16 mseq) (wrap 64 v)
        (c.2 - ns (s.reg CAN.CTS_PDLY.NS n))).steerRef 12) := by
  refine (if_neg (reference_received t hn hc hs hr)).trans ?_
  have found : ((s.advance t).canPort n).captures.find? (fun x => x.1 == diffMod 16 (wrap 16 mseq) 1) = some c := hp
  have own : ¬((((s.advance t).captureReference n sof mseq).setReg CAN.CTS_STAT.PAIRED n 1).mode = .standby ∨
      (((s.advance t).captureReference n sof mseq).setReg CAN.CTS_STAT.PAIRED n 1).mode = .sync) := by
    rw [State.setReg_mode, State.captureReference_mode]
    exact not_or.mpr ⟨h1, h2⟩
  simp only [hf, Bool.false_eq_true, if_false, found]
  refine (if_neg own).trans ?_
  have delay : (((s.advance t).captureReference n sof mseq).setReg CAN.CTS_STAT.PAIRED n 1).reg CAN.CTS_PDLY.NS n =
      s.reg CAN.CTS_PDLY.NS n := State.captureReference_pdly _ n sof mseq hn
  rw [← delay]
  rfl

end ReferenceRx

/-! ### The holdover of PB12 (R389) -/

section CanHoldover
variable {s : State} {n : Nat} (t : Nat) (hn : n < 4) (hr : s.reg CAN.CTS_CFG.ROLE n = 2) (h1 : s.mode ≠ .standby) (h2 : s.mode ≠ .sync)
include hn hr h1 h2

theorem canTime_follows : ¬(4 ≤ n ∨ (s.advance t).reg CAN.CTS_CFG.ROLE n ≠ 2 ∨ (s.advance t).mode = .standby ∨ (s.advance t).mode = .sync) :=
  not_or.mpr ⟨Nat.not_le.mpr hn, not_or.mpr ⟨not_not.mpr hr, not_or.mpr ⟨h1, h2⟩⟩⟩

theorem exec_ctsHoldover_locked (hl : s.reg PHASE.BASEn_STATUS.STATE 12 = BaseState.locked)
    (hd : (s.canPort n).pairAt - 1 + 12 * s.ctsPeriod n ≤ (s.advance t).now) :
    exec (.ctsHoldover t n) s = .next (((s.advance t).setBaseState 12 BaseState.holdover).updBase 12
      (fun d => { d with holdAt := (s.advance t).now })) :=
  (if_neg (canTime_follows t hn hr h1 h2)).trans (if_pos ⟨hl, hd⟩)

theorem exec_ctsHoldover_expired (hh : s.reg PHASE.BASEn_STATUS.STATE 12 = BaseState.holdover)
    (hd : (s.phase.base.get 12).holdAt + sec (s.reg CAN.CTS_CFG.HOLDTO n) ≤ (s.advance t).now) :
    exec (.ctsHoldover t n) s = .next ((s.advance t).setBaseState 12 BaseState.unlocked) := by
  refine (if_neg (canTime_follows t hn hr h1 h2)).trans ((if_neg (fun h => ?_)).trans (if_pos ⟨hh, hd⟩))
  exact absurd (hh.symm.trans h.1) (by decide)

end CanHoldover

/-- A base takes a state, and no other register changes. -/
theorem State.setBaseState_shows (s : State) {b st : Nat} (hb : b < 16) (hst : st < 2 ^ PHASE.BASEn_STATUS.STATE.width) :
    (s.setBaseState b st).reg PHASE.BASEn_STATUS.STATE b = st ∧ s.regsKeptBut (s.setBaseState b st) [PHASE.BASEn_STATUS.STATE] :=
  ⟨(s.reg_setReg _ hb).trans (Nat.mod_eq_of_lt hst), s.setReg_kept _ _ _ _ (by simp) (by decide)⟩

/-- Settles O46: reference messages at the master and at the receiver, and the two steps of the holdover. -/
theorem canTimeService : Obligations.CanTimeService := by
  refine ⟨fun s t n hn hc ha hr hd => ⟨fun h => ?sends, fun h => ?silent⟩,
    fun s t n sof mseq v e b f hn hc hs hr => ⟨fun hf => ⟨_, exec_ctsReferenceRx_noPrevious t sof mseq v e b f hn hc hs hr hf, rfl⟩,
      fun c hf hp h1 h2 => ⟨_, exec_ctsReferenceRx_paired t sof mseq v e b f hn hc hs hr hf hp h1 h2, rfl⟩⟩,
    fun s t n hn hr h1 h2 => ⟨fun hl hd => ?holdover, fun hh hd => ?unlocked⟩⟩
  case sends => exact ⟨_, exec_ctsReferenceSend_sends t hn hc ha hr hd h, rfl⟩
  case silent => exact ⟨_, exec_ctsReferenceSend_silent t hn hc ha hr hd h, rfl⟩
  case holdover =>
    obtain ⟨state, kept⟩ := (s.advance t).setBaseState_shows (b := 12) (st := BaseState.holdover) (by decide) (by decide)
    exact ⟨_, exec_ctsHoldover_locked t hn hr h1 h2 hl hd, state, kept, State.setReg_out ..⟩
  case unlocked =>
    obtain ⟨state, kept⟩ := (s.advance t).setBaseState_shows (b := 12) (st := BaseState.unlocked) (by decide) (by decide)
    exact ⟨_, exec_ctsHoldover_expired t hn hr h1 h2 hh hd, state, kept, State.setReg_out ..⟩

end Sys2Proof.Machine

/-! ## Domain tracks (13_network_time.md) -/

namespace Sys2Proof.Machine

/-! ### Announces (R394 to R397) -/

@[simp] theorem State.trk_updTrk (s : State) (k : Nat) (f : TrackSt → TrackSt) : (s.updTrk k f).trk k = f (s.trk k) :=
  (Tab.get_upd ..).trans (if_pos rfl)

/-- Only what an update makes of the track at hand counts. -/
theorem State.updTrk_congr {s : State} {k : Nat} {f g : TrackSt → TrackSt} (h : f (s.trk k) = g (s.trk k)) : s.updTrk k f = s.updTrk k g := by
  unfold State.trk at h
  simp only [State.updTrk, Tab.upd, h]

theorem exec_announceRx {s : State} {port tr dom k : Nat} {x : Ann} (t : Nat) (hp : s.ptpOn port = true) (hs : x.steps < 255)
    (hk : s.trackFor port tr dom = some k) :
    let a := s.advance t
    exec (.announceRx t port tr dom x) s = .next (((a.updTrk k (fun d => { d with
      anns := { x with port := port, at_ := a.now, gm := wrap 64 x.gm } :: (d.anns.filter (fun b =>
        a.annFresh k b && !(b.port == port && b.sender == x.sender))) })).rechoose k).settlePtp) := by
  change execAnnounceRx t port tr dom x s = _
  unfold execAnnounceRx
  have on : (s.advance t).ptpOn port = true ∧ x.steps < 255 := ⟨hp, hs⟩
  have track : (s.advance t).trackFor port tr dom = some k := hk
  simp only [on, and_self, if_true, track]

theorem exec_announceTimeout_alone {s : State} {t k : Nat} (hk : k < 4) (he : s.flag PTP.DOMk_CFG.EN k = true)
    (hc : (s.trk k).chosen ≠ none) (ha : (s.trk k).anns.filter ((s.advance t).annFresh k) = []) :
    exec (.announceTimeout t k) s =
      .next ((((((s.advance t).updTrk k (fun d => { d with anns := [] })).reanchor (2 + k)).setBaseState (2 + k) BaseState.invalid).updTrk k
        (fun d => { d with chosen := none, waiting := none, asked := false, good := 0, outlier := false })).settlePtp) := by
  have goes : ¬(4 ≤ k ∨ (!(s.advance t).flag PTP.DOMk_CFG.EN k) = true ∨ ((s.advance t).trk k).chosen = none) :=
    not_or.mpr ⟨Nat.not_le.mpr hk, not_or.mpr ⟨not_bnot he, hc⟩⟩
  have none_left : (s.advance t).updTrk k (fun d => { d with anns := d.anns.filter ((s.advance t).annFresh k) }) =
      (s.advance t).updTrk k (fun d => { d with anns := [] }) :=
    State.updTrk_congr (congrArg (fun l => { s.trk k with anns := l }) ha)
  change execAnnounceTimeout t k s = _
  unfold execAnnounceTimeout
  simp only [if_neg goes, none_left, State.trk_updTrk, ne_eq, not_true_eq_false, if_false]

/-! ### Sync and its timeouts (R393, R396) -/

section Sync
variable {s : State} {port tr dom snd k : Nat} (t seq rx origin : Nat) (corr li acq : Int)

theorem exec_syncRx (h1 : li ≤ 1) (h7 : -7 ≤ li) (hk : s.trackOfMaster port tr dom snd = some k) (two : Bool) :
    let a := ((s.advance t).updTrk k (fun d => { d with logSync := li })).setReg PTP.DOMk_STAT.LOGSYNC k (ofSigned 4 li)
    exec (.syncRx t port tr dom snd seq rx two origin corr li acq) s =
      .next (if two then a.updTrk k (fun d => { d with waiting := some (seq, min rx (s.advance t).now, corr) })
        else a.completeSync k port (min rx (s.advance t).now) origin corr acq) := by
  change execSyncRx t port tr dom snd seq rx two origin corr li acq s = _
  unfold execSyncRx
  have supported : -7 ≤ li ∧ li ≤ 1 := ⟨h7, h1⟩
  have track : (s.advance t).trackOfMaster port tr dom snd = some k := hk
  simp only [supported, and_self, if_true, track]
  exact (apply_ite Host.Outcome.next _ _ _).symm

theorem exec_followUpRx {c : Int} (hk : s.trackOfMaster port tr dom snd = some k) (hw : (s.trk k).waiting = some (seq, rx, c)) :
    exec (.followUpRx t port tr dom snd seq origin corr acq) s = .next ((s.advance t).completeSync k port rx origin (c + corr) acq) := by
  change execFollowUpRx t port tr dom snd seq origin corr acq s = _
  unfold execFollowUpRx
  have track : (s.advance t).trackOfMaster port tr dom snd = some k := hk
  have waits : ((s.advance t).trk k).waiting = some (seq, rx, c) := hw
  simp only [track, waits, if_true]

variable (hk : k < 4)
include hk

theorem exec_syncTimeout_due (he : s.flag PTP.DOMk_CFG.EN k = true) (hl : s.reg PHASE.BASEn_STATUS.STATE (2 + k) = BaseState.locked)
    (hd : (s.trk k).syncAt - 1 + 3 * logSeconds (s.trk k).logSync ≤ (s.advance t).now) :
    let a := s.advance t
    exec (.syncTimeout t k) s = .next ((((a.setBaseState (2 + k) BaseState.holdover).updBase (2 + k)
      (fun d => { d with holdAt := a.now })).updTrk k (fun d => { d with good := 0 })).settlePtp) := if_pos ⟨hk, he, hl, hd⟩

theorem exec_domainHoldoverTimeout_due (hh : s.reg PHASE.BASEn_STATUS.STATE (2 + k) = BaseState.holdover)
    (hd : (s.phase.base.get (2 + k)).holdAt + sec 10 ≤ (s.advance t).now) :
    exec (.domainHoldoverTimeout t k) s = .next (((s.advance t).setBaseState (2 + k) BaseState.unlocked).settlePtp) := if_pos ⟨hk, hh, hd⟩

end Sync

/-! ### Delay (R393) -/

section Delay
variable {s : State} {k : Nat} (t : Nat)

/-- The first delay request to a master waits for no interval. -/
theorem exec_delayReqSend_first (hk : k < 4) (he : s.flag PTP.DOMk_CFG.EN k = true) (hr : s.mode.runtimeRuns = true)
    (hc : (s.trk k).chosen ≠ none) (h0 : (s.trk k).reqAt = 0) :
    exec (.delayReqSend t k) s = .next (((s.advance t).updTrk k (fun d => { d with reqAt := (s.advance t).now + 1, asked := true })).emit
      (.ptp k (if s.flag PTP.DOMk_CFG.DELAY k then 2 else 1) [s.reg PTP.DOMk_STAT.PORT k])) :=
  if_neg (not_or.mpr ⟨Nat.not_le.mpr hk, not_or.mpr ⟨not_bnot he, not_or.mpr ⟨not_bnot hr, not_or.mpr ⟨hc, fun h => h.1 h0⟩⟩⟩⟩)

/-- The mean path delay of a peer delay exchange, in 0.01 ns: half of what passed between request and response, less the responder's
turnaround and the corrections. -/
def TrackSt.peerDelay (d : TrackSt) (rx stamp : Nat) (corr : Int) : Nat :=
  min (max 0 ((((rx - (d.reqAt - 1) : Nat) : Int) * 2 ^ 30 - (stamp : Int) * 2 ^ 32 - corr * 2 ^ 16) * 100 / 2 ^ 33)).toNat (2 ^ 32 - 1)

theorem TrackSt.peerDelay_lt (d : TrackSt) (rx stamp : Nat) (corr : Int) : d.peerDelay rx stamp corr < 2 ^ 32 :=
  lt_of_le_of_lt (Nat.min_le_right ..) (by decide)

theorem exec_delayRespRx_peer {port tr dom snd : Nat} (rx stamp : Nat) (corr ml : Int) (hk : s.trackOfResponder port tr dom snd = some k)
    (ha : (s.trk k).asked = true) (hp : s.flag PTP.DOMk_CFG.DELAY k = true) :
    exec (.delayRespRx t port tr dom snd rx stamp corr ml) s =
      .next (((s.advance t).updTrk k (fun d => { d with asked := false, minReq := 0 })).setReg PTP.DOMk_DELAY.NS k
        ((s.trk k).peerDelay rx stamp corr)) := by
  change execDelayRespRx t port tr dom snd rx stamp corr ml s = _
  unfold execDelayRespRx
  have track : (s.advance t).trackOfResponder port tr dom snd = some k := hk
  have asked : ((s.advance t).trk k).asked = true := ha
  have peer : (s.advance t).flag PTP.DOMk_CFG.DELAY k = true := hp
  simp only [track, asked, peer, Bool.not_true, Bool.false_eq_true, if_true, if_false]
  rfl

theorem exec_pdelayReqRx_peer {port tr dom : Nat} (seq : Nat) (ho : s.ptpOn port = true) (hk : s.trackFor port tr dom = some k)
    (hp : s.flag PTP.DOMk_CFG.DELAY k = true) :
    exec (.pdelayReqRx t port tr dom seq) s = .next (((s.advance t).emit (.ptp k 3 [port, seq])).emit (.ptp k 10 [port, seq])) := by
  change execPdelayReqRx t port tr dom seq s = _
  unfold execPdelayReqRx
  have on : (s.advance t).ptpOn port = true := ho
  have track : (s.advance t).trackFor port tr dom = some k := hk
  have peer : (s.advance t).flag PTP.DOMk_CFG.DELAY k = true := hp
  simp only [on, track, peer, if_true]

end Delay

/-! ### Links (R409, R432) -/

@[simp] theorem State.sense_ptp (s : State) (f : Fld) (i v : Nat) : (s.sense f i v).ptp = s.ptp := by rw [State.sense_frame]

/-- A port's link is sensed: no other register and nothing of network time changes. -/
theorem completes_linkSensed {c : Instr} {s : State} {t : Nat} (f : Fld) (b : Bool) (h : exec c s = .next ((s.advance t).senseFlag f 0 b))
    (hc : f.count ≤ 2 ^ 20) (hi : 0 < f.count) (hw : f.width = 1) :
    completes c s fun s' => s'.flag f = b ∧ s.regsKeptBut s' [f] ∧ s'.ptp = s.ptp := by
  refine ⟨_, h, ?_, (s.regsKeptBut_of_regs _ (s.advance_regs t)).sense (by simp) hc, State.sense_ptp ..⟩
  rw [State.flag, State.senseFlag, State.reg_sense _ _ hi, hw]
  cases b <;> rfl

/-- When a plant port loses its link, a track that hears masters on the other plant port goes on with those. -/
theorem exec_portLinkDown_plant {s : State} {p : Nat} (t : Nat) (hp : p = 1 ∨ p = 2) :
    exec (.portLinkDown t p) s = .next ((((s.advance t).setLink p false).each (List.range 4) (fun s k =>
      if (s.trk k).anns.filter (fun x => x.port != p - 1 && s.annFresh k x) = [] then s
      else (s.updTrk k (fun d => { d with anns := (s.trk k).anns.filter (fun x => x.port != p - 1 && s.annFresh k x) })).rechoose k)).settlePtp) :=
  if_neg (by omega)

/-- Settles O48: Announce, Sync and Follow_Up, their timeouts, the delay mechanism, and the links. -/
theorem domainTracksFollowTheirMasters : Obligations.DomainTracksFollowTheirMasters := by
  refine ⟨fun s t port tr dom k x hp hs hk => ⟨_, exec_announceRx t hp hs hk, rfl⟩,
    fun s t k hk he hc ha => ⟨_, exec_announceTimeout_alone hk he hc ha, rfl⟩,
    fun s t port tr dom snd seq rx origin k corr li acq h1 h7 hk => ⟨⟨_, exec_syncRx t seq rx origin corr li acq h1 h7 hk true, if_pos rfl⟩,
      ⟨_, exec_syncRx t seq rx origin corr li acq h1 h7 hk false, if_neg (by decide)⟩⟩,
    fun s t port tr dom snd seq rx origin k corr acq c hk hw => ⟨_, exec_followUpRx t seq rx origin corr acq hk hw, rfl⟩,
    fun s t k hk he hl hd => ⟨_, exec_syncTimeout_due t hk he hl hd, rfl⟩,
    fun s t k hk hh hd => ⟨_, exec_domainHoldoverTimeout_due t hk hh hd, rfl⟩,
    fun s t k hk he hr hc h0 => ⟨_, exec_delayReqSend_first t hk he hr hc h0, rfl⟩,
    fun s t port tr dom snd rx stamp k corr ml hk h4 ha hp => ?response,
    fun s t port tr dom seq k ho hk hp => ⟨_, exec_pdelayReqRx_peer t seq ho hk hp, rfl⟩,
    fun s t => completes_linkSensed (t := t) PORT.STAT.ENG_LINK true rfl (by decide) (by decide) rfl,
    fun s t => completes_linkSensed (t := t) PORT.STAT.PLA_LINK true rfl (by decide) (by decide) rfl,
    fun s t => completes_linkSensed (t := t) PORT.STAT.ENG_LINK false rfl (by decide) (by decide) rfl,
    fun s t p hp => ⟨_, exec_portLinkDown_plant t hp, rfl⟩⟩
  case response =>
    refine ⟨_, exec_delayRespRx_peer t rx stamp corr ml hk ha hp, ?_, ?_,
      ((s.regsKeptBut_of_regs _ (s.advance_regs t)).same (State.updTrk_regs ..)).setReg (by simp) (by decide), State.setReg_out ..⟩
    · exact (State.reg_setReg _ _ h4).trans (Nat.mod_eq_of_lt ((s.trk k).peerDelay_lt rx stamp corr))
    · rw [State.trk, State.setReg_ptp]
      exact congrArg TrackSt.asked (State.trk_updTrk ..)

end Sys2Proof.Machine

/-! ## Trials of firmware images (15_image_update.md) -/

namespace Sys2Proof.Machine

/-! ### START and ABANDON (R441, R444, R447) -/

/-- A write of one field leaves another field of the same number as it is, whether or not the map goes up to that number. -/
theorem State.reg_setReg_otherField (s : State) {f g : Fld} {i : Nat} (v : Nat) (hid : f.id ≠ g.id) (hc : f.count ≤ 2 ^ 20) :
    (s.setReg f i v).reg g i = s.reg g i := by
  by_cases hi : i < f.count
  · exact s.reg_setReg_other f g i i v hid hc (by omega)
  · rw [State.setReg, if_neg hi]

/-- Marking a slot valid or invalid does not change which slot is active. -/
theorem State.setFwValid_fwOther (s : State) (p sl : Nat) (b : Bool) : (s.setFwValid p sl b).fwOther p = s.fwOther p := by
  have active : (s.setFwValid p sl b).reg UPD.PARTp_STAT.ACTIVE p = s.reg UPD.PARTp_STAT.ACTIVE p := by
    unfold State.setFwValid State.setFlag
    by_cases h : sl = 0 <;> simp (disch := decide) only [h, if_true, if_false, State.reg_setReg_otherField]
  rw [State.fwOther, State.fwActive, active, State.fwOther, State.fwActive]

section Staged
variable {s : State} (hs : s.upd.staged ≠ 0) (hst : s.reg UPD.STAT.STATE = UpdState.staged)
include hs hst

theorem updStart_possible : ¬(s.upd.staged = 0 ∨ s.reg UPD.STAT.STATE ≠ UpdState.staged) := not_or.mpr ⟨hs, not_not.mpr hst⟩

theorem State.updStart_starts (h : s.trialAllowed (s.upd.staged - 1) = true) : s.updStart.2 = s.startTrial (s.upd.staged - 1) := by
  rw [State.updStart, if_neg (updStart_possible hs hst), if_pos h]

theorem State.updStart_waits (h : s.trialAllowed (s.upd.staged - 1) = false) : s.updStart.2 = s := by
  rw [State.updStart, if_neg (updStart_possible hs hst), if_neg (Bool.eq_false_iff.mp h)]

theorem State.updAbandon_staged {p : Nat} (hp : s.reg UPD.STAT.PART = p) :
    let a := s.setFwValid p (s.fwOther p) false
    s.updAbandon = (a.updUpd (fun u => { u with staged := 0, slots := u.slots.set (2 * p + a.fwOther p) none })).setUpdState UpdState.idle 0 := by
  subst hp
  dsimp only
  rw [State.setFwValid_fwOther]
  exact if_pos ⟨hst, hs⟩

end Staged

theorem State.updAbandon_trial {s : State} (hst : s.reg UPD.STAT.STATE = UpdState.trial) (hf : s.flag UPD.STAT.FAILED = false) :
    s.updAbandon = s.failTrial (s.reg UPD.STAT.PART) := by
  refine (if_neg (fun h => absurd (hst.symm.trans h.1) (by decide))).trans (if_pos ⟨hst, ?_⟩)
  rw [hf]
  rfl

/-! ### The end of a trial (R445 to R447, R454) -/

section TrialEnds
variable {s : State} {t : Nat}

theorem exec_trialConfirm_due (hc : (s.advance t).confirmable = true) : exec (.trialConfirm t) s = .next (s.advance t).confirm := if_pos hc

theorem exec_migrationFail (hm : s.mode = .boot) (ht : s.flag UPD.PARTp_STAT.TRIAL 0 = true) (ha : s.upd.attempted.get 0 = true) :
    exec (.migrationFail t) s = .next (s.advance t).migrationFailed := if_pos ⟨hm, ht, ha⟩

variable (hw : s.upd.windowAt ≠ 0) (he : (s.advance t).windowEnd ≤ (s.advance t).now)
include hw he

theorem window_ends : ¬((s.advance t).upd.windowAt = 0 ∨ (s.advance t).now < (s.advance t).windowEnd) :=
  not_or.mpr ⟨hw, Nat.not_lt.mpr he⟩

theorem exec_trialWindowEnd_confirms (hc : (s.advance t).confirmable = true) :
    exec (.trialWindowEnd t) s = .next (s.advance t).confirm := (if_neg (window_ends hw he)).trans (if_pos hc)

theorem exec_trialWindowEnd_fails (hc : (s.advance t).confirmable = false) (hst : s.reg UPD.STAT.STATE = UpdState.trial)
    (hf : s.flag UPD.STAT.FAILED = false) :
    exec (.trialWindowEnd t) s = .next ((s.advance t).failTrial (s.reg UPD.STAT.PART)) := by
  refine (if_neg (window_ends hw he)).trans ((if_neg (Bool.eq_false_iff.mp hc)).trans (if_pos ⟨hst, ?_⟩))
  rw [State.advance_flag, hf]
  rfl

end TrialEnds

/-! ### Checks and rejections (R440) -/

/-- An image without a reason to reject it has passed the checks of layout, signature, part and compatibility. -/
theorem State.fwReason_none {s : State} {x : FwImage} {p : Nat} {peer : Option FwImage} (h : s.fwReason x p peer = none) :
    x.layoutOk = true ∧ x.rootOk = true ∧ x.signed = true ∧ x.part = p + 1 ∧ s.flag UPD.PARTp_STAT.PRESENT p = true ∧ s.fwFits x p = true := by
  have passed {b : Bool} {c : Nat} {o : Option Nat} (h : (if (!b) = true then some c else o) = none) : b = true ∧ o = none := by
    cases b with
    | false => exact absurd h (by simp)
    | true => exact ⟨rfl, h⟩
  unfold State.fwReason at h
  obtain ⟨layout, h⟩ := passed h
  obtain ⟨root, h⟩ := passed h
  obtain ⟨signed, h⟩ := passed h
  by_cases hp : x.part ≠ p + 1 ∨ 4 ≤ p ∨ (!s.flag UPD.PARTp_STAT.PRESENT p) = true
  · rw [if_pos hp] at h
    exact absurd h (by simp)
  · obtain ⟨part, -, present⟩ : x.part = p + 1 ∧ p < 4 ∧ s.flag UPD.PARTp_STAT.PRESENT p = true := by simpa [not_or] using hp
    rw [if_neg hp] at h
    exact ⟨layout, root, signed, part, present, (passed h).1⟩

/-- A rejection shows its reason, and beside UPD.REJECT only the recorder changes. -/
theorem State.fwReject_shows (s : State) (reason code : Nat) :
    (s.fwReject reason code).upd = s.upd ∧ (s.fwReject reason code).reg UPD.REJECT.REASON = wrap UPD.REJECT.REASON.width reason ∧
      s.regsKeptBut (s.fwReject reason code) ([UPD.REJECT.REASON, UPD.REJECT.PART] ++ recorderFlds) := by
  have only := s.record_only 0xE02 0 .warning [(1, reason), (1, code)] false
  refine ⟨?_, ?_, ?_⟩
  · rw [State.fwReject, State.setReg_upd, State.setReg_upd, only.2.2]
  · rw [State.fwReject, State.reg_setReg_other _ _ _ _ _ _ (by decide) (by decide) (by decide), State.reg_setReg _ _ (by decide)]
  · exact ((only.1.mono (fun _ => List.mem_append_right _)).setReg (by simp) (by decide)).setReg (by simp) (by decide)

/-- Settles O54: START, ABANDON, the confirmation and the end of a window, a failed migration, and what a check or a rejection means. -/
theorem trialsOfImages : Obligations.TrialsOfImages := by
  refine ⟨fun s t m hs hst h => ⟨_, rfl, State.updStart_starts (s := s.advance t) hs hst h⟩,
    fun s t m hs hst h => ⟨_, rfl, State.updStart_waits (s := s.advance t) hs hst h⟩,
    fun s t m p hs hst hp => ⟨_, rfl, State.updAbandon_staged (s := s.advance t) hs hst hp⟩,
    fun s t m hst hf => ⟨_, rfl, State.updAbandon_trial (s := s.advance t) hst hf⟩,
    fun s t hc => ⟨⟨_, exec_trialConfirm_due hc, rfl⟩, fun hw he => ⟨_, exec_trialWindowEnd_confirms hw he hc, rfl⟩⟩,
    fun s t hc hw he hst hf => ⟨_, exec_trialWindowEnd_fails hw he hc hst hf, rfl⟩,
    fun s t hm ht ha => ⟨_, exec_migrationFail hm ht ha, rfl⟩,
    fun s x p peer => State.fwReason_none, fun s reason code _ _ => s.fwReject_shows reason code⟩

end Sys2Proof.Machine

/-! ## The recorder and the lifetime evidence (16_recorder_and_lifetime.md) -/

namespace Sys2Proof.Machine

/-! ### Flushes (R463, R464) -/

section Flush
variable (s : State)

theorem State.startFlush_begins {s : State} (hf : s.flag REC.STAT.FLUSHING = false) (hb : s.recorder.buffer ≠ []) :
    s.startFlush = ({ s with recorder := { s.recorder with flushCount := s.recorder.buffer.length } }).setReg REC.STAT.FLUSHING 0 1 :=
  (if_neg (Bool.eq_false_iff.mp hf)).trans (if_neg (fun h => hb h.1))

/-- A start of a flush touches FLUSHING and what the recorder keeps of flushes. -/
theorem State.startFlush_frame : s.startFlush = { s with
    regs := s.startFlush.regs
    recorder := { s.recorder with flushAgain := s.startFlush.recorder.flushAgain, flushCount := s.startFlush.recorder.flushCount } } := by
  unfold State.startFlush
  split
  · rfl
  · split
    · rfl
    · unfold State.setReg
      split <;> rfl

theorem State.startFlush_kept : s.regsKeptBut s.startFlush [REC.STAT.FLUSHING] := by
  unfold State.startFlush
  split
  · exact s.regsKeptBut_of_regs _ rfl
  · split
    · exact s.regsKeptBut_refl _
    · exact State.setReg_kept _ _ _ _ _ (by simp) (by decide)

variable {s} {t : Nat} (hf : s.flag REC.STAT.FLUSHING = true)
include hf

theorem flush_under_way : ¬(!(s.advance t).flag REC.STAT.FLUSHING) = true := not_bnot hf

theorem exec_flushDone_written : exec (.flushDone t true) s = .next ((s.advance t).setReg REC.STAT.CADDY_FAIL 0 0).finishFlush :=
  (if_neg (flush_under_way hf)).trans (if_pos rfl)

theorem exec_flushDone_refused : exec (.flushDone t false) s = .next ((s.advance t).setReg REC.STAT.CADDY_FAIL 0 1) :=
  (if_neg (flush_under_way hf)).trans (if_neg (by decide))

end Flush

/-! ### The record window (R465) -/

section Window
variable (s : State) (m n : Nat)

/-- A window is loaded: the master's cursor and window, and a flush where the record is still buffered. -/
theorem State.loadWindow_frame : s.loadWindow m n = { s with
    regs := (s.loadWindow m n).regs
    recorder := { s.recorder with
      cursor := s.recorder.cursor.set m n, window := s.recorder.window.set m (some (s.windowAt n))
      flushAgain := (s.loadWindow m n).recorder.flushAgain, flushCount := (s.loadWindow m n).recorder.flushCount } } := by
  unfold State.loadWindow
  dsimp only
  split
  · exact State.startFlush_frame _
  · rfl

theorem State.loadWindow_kept : s.regsKeptBut (s.loadWindow m n) [REC.STAT.FLUSHING] := by
  unfold State.loadWindow
  dsimp only
  split
  · exact (s.regsKeptBut_of_regs _ rfl).trans (State.startFlush_kept _)
  · exact s.regsKeptBut_of_regs _ rfl

theorem State.loadWindow_cursor : (s.loadWindow m n).recorder.cursor = s.recorder.cursor.set m n := by rw [State.loadWindow_frame]

theorem State.loadWindow_window : (s.loadWindow m n).recorder.window = s.recorder.window.set m (some (s.windowAt n)) := by
  rw [State.loadWindow_frame]

theorem State.loadWindow_out : (s.loadWindow m n).out = s.out := by rw [State.loadWindow_frame]

end Window

/-! ### Selections (R475) -/

section Selections
variable (s : State) (t m v : Nat)

/-- The master's latch takes a selection and the word it selects. -/
def State.latchSelected (s : State) (m sel v word w : Nat) : State := (s.setLatch m sel v).setLatch m word w

/-- The same, with the word that follows. -/
def State.latchSelectedPair (s : State) (m sel v lo hi w : Nat) : State := (s.latchSelected m sel v lo (wrap 32 w)).setLatch m hi (w / 2 ^ 32)

theorem State.latchSelectedPair_high (sel lo hi w : Nat) : (s.latchSelectedPair m sel v lo hi w).latched m hi = some (w / 2 ^ 32) :=
  (State.latched_setLatch ..).trans (if_pos rfl)

theorem State.latchSelected_word (sel word w : Nat) : (s.latchSelected m sel v word w).latched m word = some w :=
  (State.latched_setLatch ..).trans (if_pos rfl)

theorem State.latchSelectedPair_low {sel lo hi : Nat} (w : Nat) (h : lo ≠ hi) :
    (s.latchSelectedPair m sel v lo hi w).latched m lo = some (wrap 32 w) :=
  ((State.latched_setLatch ..).trans (if_neg (by omega))).trans (s.latchSelected_word m v sel lo _)

theorem exec_lifeSelectWrite_counter : exec (.lifeSelectWrite t m 0 v) s =
    .next ((s.advance t).latchSelectedPair m (LIFE.CSEL.INDEX.addrOf 0) (wrap 9 v) (LIFE.CVAL_LO.VAL.addrOf 0) (LIFE.CVAL_HI.VAL.addrOf 0)
      ((s.advance t).lifeCounter (wrap 9 v))) := rfl

theorem exec_lifeSelectWrite_bin {v : Nat} (hv : wrap 5 v < 24) : exec (.lifeSelectWrite t m 1 v) s =
    .next ((s.advance t).latchSelectedPair m (LIFE.HSEL.HIST.addrOf 0) (wrap 10 v) (LIFE.HVAL_LO.VAL.addrOf 0) (LIFE.HVAL_HI.VAL.addrOf 0)
      (s.life.hist.get (32 * wrap 5 v + bitField 5 5 v))) := by
  change execLifeSelectWrite t m 1 v s = _
  simp only [execLifeSelectWrite, hv, if_true, Nat.one_ne_zero, if_false]
  rfl

theorem exec_lifeSelectWrite_item : exec (.lifeSelectWrite t m 2 v) s =
    .next ((s.advance t).latchSelected m (LIFE.RSEL.KIND.addrOf 0) (wrap 16 v) (LIFE.RSTAT.RETIRED.addrOf 0)
      ((s.advance t).itemStat (wrap 4 v) (bitField 4 12 v))) := rfl

end Selections

/-! ### The periodic save and the samples of a second (R470, R472) -/

section Evidence
variable {s : State} {t : Nat}

theorem exec_lifetimeSave_due (hm : s.mode ≠ .off) (hd : s.life.savedAt + 600000 ≤ (s.advance t).opTime) (ok : Bool) :
    let a := { s.advance t with life := { s.life with savedAt := (s.advance t).opTime } }
    exec (.lifetimeSave t ok) s = .next (if ok then a.saveEvidence else a.setReg LIFE.STAT.SAVE_FAIL 0 1) :=
  if_neg (not_or.mpr ⟨hm, Nat.not_lt.mpr hd⟩)

variable (hr : s.mode.runtimeRuns = true) (v i b e : Nat)
include hr

theorem exec_histogramSample_second : exec (.histogramSample t false v i b e) s = .next ((s.advance t).sampleSecond v i b e) :=
  (if_neg (not_bnot hr)).trans (if_neg (by decide))

theorem exec_histogramSample_lag (hs : s.streaming = true) : exec (.histogramSample t true v i b e) s =
    .next (((s.advance t).histAdd 16 (log2Bin (max s.pair.lagMax100 ((s.advance t).streamAge / us 1)))).updPair
      (fun p => { p with lagMax100 := 0 })) :=
  (if_neg (not_bnot hr)).trans ((if_pos rfl).trans (if_pos hs))

end Evidence

/-- Settles O55: flushes, the record window, the selections, the periodic save and the samples of a second. -/
theorem recorderAndLifetime : Obligations.RecorderAndLifetime := by
  refine ⟨fun s t m hf hb => ?flush, fun s t hf => ⟨⟨_, exec_flushDone_written hf, rfl⟩, ?refused⟩, fun s t m v => ?cursor, fun s t m => ?window,
    fun s t m v => ?counter, fun s t m v hv => ?bin, fun s t m v => ?item,
    fun s t hm hd => ⟨⟨_, exec_lifetimeSave_due hm hd true, if_pos rfl⟩, ⟨_, exec_lifetimeSave_due hm hd false, if_neg (by decide)⟩⟩,
    fun s t v i b e hr => ⟨⟨_, exec_histogramSample_second hr v i b e, rfl⟩, fun hs => ⟨_, exec_histogramSample_lag hr v i b e hs, rfl⟩⟩⟩
  case flush =>
    refine completes_of_exec rfl (State.startFlush_begins (s := s.advance t) hf hb) ⟨State.flag_setReg_one _ rfl (by decide), ?_, ?_,
      State.setReg_kept _ _ _ _ _ (by simp) (by decide)⟩ <;> rw [State.setReg_recorder] <;> rfl
  case refused =>
    exact ⟨_, exec_flushDone_refused hf, State.flag_setReg_one _ rfl (by decide),
      (s.regsKeptBut_of_regs _ (s.advance_regs t)).setReg (by simp) (by decide), State.setReg_recorder ..⟩
  case cursor =>
    refine ⟨_, rfl, ?_, ?_, State.loadWindow_kept _ _ _, fun k hk => ?_⟩
    · rw [State.loadWindow_cursor, Tab.get_set, if_pos rfl]
    · rw [State.loadWindow_window, Tab.get_set, if_pos rfl]
    · rw [State.loadWindow_cursor, Tab.get_set_ne _ _ hk, State.advance_recorder]
  case window =>
    refine ⟨_, rfl, ?_, State.loadWindow_out .., State.loadWindow_kept _ _ _⟩
    rw [State.loadWindow_cursor, Tab.get_set, if_pos rfl]
    rfl
  case counter =>
    exact ⟨_, exec_lifeSelectWrite_counter s t m v, State.latchSelectedPair_low _ _ _ _ (by decide), State.latchSelectedPair_high .., rfl, rfl⟩
  case bin => exact ⟨_, exec_lifeSelectWrite_bin s t m hv, State.latchSelectedPair_low _ _ _ _ (by decide), rfl, rfl⟩
  case item => exact ⟨_, exec_lifeSelectWrite_item s t m v, State.latchSelected_word .., rfl, rfl⟩

end Sys2Proof.Machine

/-! ## Power, resets and the hot swap (17_modes_resets_power_fail.md, 18_supply_and_carrier.md) -/

namespace Sys2Proof.Machine

/-! ### Power-up and the end of BOOT (R482, R483, R494) -/

section Boot
variable {s : State} {t : Nat}

theorem exec_powerUp_supplied (hm : s.mode = .off) (ho : s.power.swapOpen = false) (he : s.power.earlyMade = true) :
    exec (.powerUp t) s = .next ((s.advance t).powerUp ResetKind.power) :=
  if_pos ⟨hm, congrArg not ho, he⟩

theorem State.bootEnd_partner (hf : s.flag UPD.STAT.MIGFAIL = false) (hp : (s.flag PAIR.PARTNER.VALID && s.pair.partnerAuth) = true) :
    s.bootEnd = s.catchUp 1 := (if_neg (Bool.eq_false_iff.mp hf)).trans (if_pos hp)

theorem State.bootEnd_alone (hf : s.flag UPD.STAT.MIGFAIL = false) (hp : (s.flag PAIR.PARTNER.VALID && s.pair.partnerAuth) = false) :
    s.bootEnd = if s.imageStored then (((s.enterMode .load).startImage.2).showPins).claim Claim.start
      else (s.startImage.2.enterMode .service).showPins :=
  (if_neg (Bool.eq_false_iff.mp hf)).trans (if_neg (Bool.eq_false_iff.mp hp))

theorem exec_holdupCharged (hm : s.mode ≠ .off) (ok : Bool) : exec (.holdupCharged t ok) s =
    .next (if ok then { s.advance t with power := { s.power with charged := true } } else (s.advance t).note 0xF 0 []) :=
  (if_neg hm).trans (apply_ite Host.Outcome.next _ _ _).symm

end Boot

/-! ### Resets (R485 to R487) -/

section Resets
variable {s : State} {t : Nat} (hr : s.resettable = true)

/-- A unit in HALT on its supply can be reset. -/
theorem State.resettable_of_halt {s : State} (hm : s.mode = .halt) (hw : s.power.warned = false) : s.resettable = true := by
  simp [State.resettable, hm, hw]

theorem exec_haltSelfReset_spent (h : 3 ≤ s.reg SYS.HALTWHY.SELFRST) : exec (.haltSelfReset t) s = .next (s.advance t) :=
  if_neg (fun ⟨_, _, _, _, spent, _⟩ => absurd spent (Nat.not_lt.mpr h))

theorem exec_haltSelfReset_due (hm : s.mode = .halt) (hy : s.reg SYS.HALTWHY.WHY = 1) (hb : s.power.haltBeats ≠ 0)
    (hd : s.power.haltBeats - 1 + sec 60 ≤ (s.advance t).now) (hn : s.reg SYS.HALTWHY.SELFRST < 3) (hw : s.power.warned = false) :
    exec (.haltSelfReset t) s = .next (((s.advance t).addReg SYS.HALTWHY.SELFRST 0 1).moduleReset ResetCause.fromHalt) :=
  if_pos ⟨hm, hy, hb, hd, hn, State.resettable_of_halt hm hw⟩

include hr

theorem exec_carrierReset : exec (.carrierReset t) s = .next ((s.advance t).resetUnit ResetKind.carrier 0) := if_pos hr

theorem exec_moduleReset {c : Nat} (hm : s.mode ≠ .boot) (h1 : 1 ≤ c) (h6 : c ≤ 6) (hh : s.mode = .halt → c = ResetCause.modeReset) :
    exec (.moduleReset t c) s = .next ((s.advance t).moduleReset c) := if_pos ⟨hr, hm, h1, h6, hh⟩

theorem exec_watchdogExpiry_module (hm : s.mode ≠ .boot) :
    exec (.moduleWatchdogExpiry t false) s = .next ((s.advance t).watchdogReset 1) :=
  (if_neg (not_bnot hr)).trans ((if_neg (by decide)).trans (if_neg hm))

theorem exec_watchdogExpiry_rom (hm : s.mode = .boot) (hd : s.power.bootAt + sec 10 ≤ (s.advance t).now) :
    exec (.moduleWatchdogExpiry t true) s = .next ((s.advance t).watchdogReset 2) :=
  (if_neg (not_bnot hr)).trans ((if_pos rfl).trans (if_pos ⟨hm, hd⟩))

theorem exec_reinserted_due (hm : s.mode ≠ .boot) (hb : s.power.earlyBroke = true) (he : s.power.earlyMade = true) (h0 : s.power.earlyAt ≠ 0)
    (hd : s.power.earlyAt - 1 + sec 10 ≤ (s.advance t).now) :
    exec (.reinserted t) s = .next (((s.advance t).record 0xF10 0 .info []).moduleReset ResetCause.reinserted) :=
  if_pos ⟨hr, hm, hb, he, h0, hd⟩

end Resets

/-! ### Power failure (R491 to R493) -/

section PowerFail
variable {s : State} {t : Nat}

theorem exec_powerFailWarning_first (hm : s.mode ≠ .off) (hw : s.power.warned = false) :
    exec (.powerFailWarning t) s = .next (s.advance t).powerFail := if_neg (not_or.mpr ⟨hm, Bool.eq_false_iff.mp hw⟩)

theorem exec_supplyReturn_back (hw : s.power.warned = true) (ho : s.power.swapOpen = false)
    (hd : s.power.warnAt + msec 100 ≤ (s.advance t).now) :
    exec (.supplyReturn t) s = .next ((s.advance t).endSequence.powerUp ResetKind.brownout) := if_pos ⟨hw, congrArg not ho, hd⟩

theorem exec_holdupExhausted_warned (hm : s.mode ≠ .off) (hw : s.power.warned = true) :
    exec (.holdupExhausted t) s = .next (s.advance t).sampleHoldup.endSequence.powerOff := if_pos ⟨hm, hw⟩

end PowerFail

/-! ### The hot-swap switch and the early contact (R498, R501, R502) -/

@[simp] theorem State.record_power (s : State) (code inst : Nat) (sev : Severity) (ps : List (Nat × Nat)) (inj : Bool) :
    (s.record code inst sev ps inj).power = s.power := by rw [(s.record_only code inst sev ps inj).2.2]

/-- The record of a trip. -/
def State.noteTrip (s : State) (c v : Nat) : State := (s.openSwitch c).record 0xF0F 0 .fault [(1, c), (2, v)]

theorem State.noteTrip_power (s : State) (c v : Nat) : (s.noteTrip c v).power = (s.openSwitch c).power := State.record_power ..

section HotSwap
variable {s : State} {t c : Nat} (v : Nat) (hc : c = 1 ∨ c = 2) (ho : s.power.swapOpen = false)
include hc ho

theorem switch_opens : ¬((s.advance t).power.swapOpen = true ∨ ¬(c = 1 ∨ c = 2)) := not_or.mpr ⟨Bool.eq_false_iff.mp ho, not_not.mpr hc⟩

theorem exec_hotswapTrip_off (hm : s.mode = .off) : exec (.hotswapTrip t c v) s = .next ((s.advance t).openSwitch c) :=
  (if_neg (switch_opens hc ho)).trans (if_pos hm)

variable (hm : s.mode ≠ .off)
include hm

/-- An empty hold-up bank lets the unit go out at once. -/
theorem exec_hotswapTrip_empty (hb : s.power.charged = false) :
    exec (.hotswapTrip t c v) s = .next ((s.advance t).noteTrip c v).powerOff := by
  have empty : ((s.advance t).noteTrip c v).power.charged = false := (congrArg PowerSt.charged (State.noteTrip_power _ c v)).trans hb
  exact (if_neg (switch_opens hc ho)).trans ((if_neg hm).trans (if_pos (congrArg not empty)))

/-- A charged hold-up bank carries the power-fail sequence. -/
theorem exec_hotswapTrip_charged (hb : s.power.charged = true) (hw : s.power.warned = false) :
    exec (.hotswapTrip t c v) s = .next ((s.advance t).noteTrip c v).powerFail := by
  have charged : ((s.advance t).noteTrip c v).power.charged = true := (congrArg PowerSt.charged (State.noteTrip_power _ c v)).trans hb
  have unwarned : ((s.advance t).noteTrip c v).power.warned = false := (congrArg PowerSt.warned (State.noteTrip_power _ c v)).trans hw
  exact (if_neg (switch_opens hc ho)).trans ((if_neg hm).trans ((if_neg (not_bnot charged)).trans (if_neg (Bool.eq_false_iff.mp unwarned))))

end HotSwap

section Reclose
variable {s : State} {t : Nat} {low : Bool}

theorem exec_hotswapReclose_closes (hm : s.mode = .off) (ho : s.power.swapOpen = true)
    (hd : s.power.swapAt + (if s.power.swapCase = 1 then msec 100 else sec 1) ≤ (s.advance t).wallNow)
    (hl : s.power.swapHeld = false ∨ low = true) :
    exec (.hotswapReclose t low) s = .next { s.advance t with power := { s.power with
      swapOpen := false, swapHeld := false, trips := if s.power.swapHeld then [] else s.power.trips } } :=
  if_pos ⟨hm, ho, hd, hl.imp_left (congrArg not)⟩

theorem exec_hotswapReclose_held (hh : s.power.swapHeld = true) (hl : low = false) :
    exec (.hotswapReclose t low) s = .next (s.advance t) :=
  if_neg (fun ⟨_, _, _, h⟩ => h.elim (not_bnot hh) (Bool.eq_false_iff.mp hl))

/-- EARLY has made. -/
def State.makeEarly (s : State) : State := { s with power := { s.power with earlyMade := true, earlyAt := s.now + 1 } }

/-- The switch ramps up, whatever held it open. -/
def State.rampUp (s : State) : State := { s with power := { s.power with swapOpen := false, swapHeld := false, trips := [] } }

theorem exec_earlyMake_off (he : s.power.earlyMade = false) (hm : s.mode = .off) :
    exec (.earlyMake t) s = .next (s.advance t).makeEarly.rampUp := by
  refine (if_neg (Bool.eq_false_iff.mp he)).trans ?_
  rw [if_pos (show (s.advance t).mode = .off from hm)]
  rfl

theorem exec_earlyMake_on (he : s.power.earlyMade = false) (hm : s.mode ≠ .off) :
    exec (.earlyMake t) s = .next (s.advance t).makeEarly := by
  refine (if_neg (Bool.eq_false_iff.mp he)).trans ?_
  rw [if_neg (show (s.advance t).mode ≠ .off from hm)]
  rfl

end Reclose

/-! ### The SIM (R427, R511) -/

section Sim
variable {s : State} {t : Nat} (hu : s.flag SYS.UNITS.MODEM = true) (hm : s.mode ≠ .off)

/-- The unit without its SIM: not registered, no bearer. -/
def State.withoutSim (s : State) : State :=
  (({ s with power := { s.power with sim := false } }).sense PORT.CELL_STAT.REG 0 0).sense PORT.STAT.CELL_UP 0 0

/-- The unit with a SIM, which registers again. -/
def State.withSim (s : State) : State := ({ s with power := { s.power with sim := true } }).sense PORT.CELL_STAT.REG 0 1

@[simp] theorem State.sense_power (s : State) (f : Fld) (i v : Nat) : (s.sense f i v).power = s.power := by rw [State.sense_frame]
@[simp] theorem State.sense_recorder (s : State) (f : Fld) (i v : Nat) : (s.sense f i v).recorder = s.recorder := by rw [State.sense_frame]

theorem State.withoutSim_shows (s : State) : s.withoutSim.reg PORT.CELL_STAT.REG = 0 ∧ s.withoutSim.reg PORT.STAT.CELL_UP = 0 := by
  unfold State.withoutSim
  constructor
  · rw [State.reg_sense_other _ _ _ _ _ _ (by decide) (by decide) (by decide), State.reg_sense _ _ (by decide)]
    rfl
  · rw [State.reg_sense _ _ (by decide)]
    rfl

theorem State.withoutSim_kept (s : State) : s.regsKeptBut s.withoutSim [PORT.CELL_STAT.REG, PORT.STAT.CELL_UP] :=
  ((s.regsKeptBut_of_regs (s' := { s with power := { s.power with sim := false } }) _ rfl).sense (by simp) (by decide)).sense (by simp) (by decide)

theorem State.withoutSim_sim (s : State) : s.withoutSim.power.sim = false := by simp [State.withoutSim]

include hu hm

theorem sim_heeded : ¬((!(s.advance t).flag SYS.UNITS.MODEM) = true ∨ (s.advance t).mode = .off) := not_or.mpr ⟨not_bnot hu, hm⟩

theorem exec_simRemoved : exec (.simRemoved t) s = .next ((s.advance t).withoutSim.note 0xD 3 []) := if_neg (sim_heeded hu hm)

theorem exec_simInserted : exec (.simInserted t) s = .next (s.advance t).withSim := if_neg (sim_heeded hu hm)

end Sim

/-- Settles O57: the supply, BOOT, resets, the power-fail sequence, the hot-swap switch, the early contact and the SIM. -/
theorem powerAndResets : Obligations.PowerAndResets := by
  refine ⟨fun s t hm ho he => ⟨_, exec_powerUp_supplied hm ho he, rfl⟩, fun s t hm hc hd hf => ⟨fun hp => ?partner, fun hp => ?alone⟩,
    fun s t hm => ⟨?charged, ?uncharged⟩, fun s t c hr hm h1 h6 hh => ⟨_, exec_moduleReset hr hm h1 h6 hh, rfl⟩,
    fun s t hr hm => ⟨_, exec_watchdogExpiry_module hr hm, rfl⟩, fun s t hr hm hd => ⟨_, exec_watchdogExpiry_rom hr hm hd, rfl⟩,
    fun s t hr => ⟨_, exec_carrierReset hr, rfl⟩, fun s t hm hy hb hd hn hw => ⟨_, exec_haltSelfReset_due hm hy hb hd hn hw, rfl⟩,
    fun s t _ h => ⟨_, exec_haltSelfReset_spent h, rfl⟩, fun s t hm hw => ⟨_, exec_powerFailWarning_first hm hw, rfl⟩,
    fun s t hw ho hd => ⟨_, exec_supplyReturn_back hw ho hd, rfl⟩, fun s t hm hw => ⟨_, exec_holdupExhausted_warned hm hw, rfl⟩,
    fun s t c v hc ho => ⟨fun hm => ⟨_, exec_hotswapTrip_off v hc ho hm, rfl⟩, fun hm hb => ⟨_, exec_hotswapTrip_empty v hc ho hm hb, rfl⟩,
      fun hm hb hw => ⟨_, exec_hotswapTrip_charged v hc ho hm hb hw, rfl⟩⟩,
    fun s t low hm ho hd => ⟨fun hl => ⟨_, exec_hotswapReclose_closes hm ho hd hl, rfl, rfl, rfl, hm⟩,
      fun hh hl => ⟨_, exec_hotswapReclose_held hh hl, rfl⟩⟩,
    fun s t he => ⟨fun hm => ⟨_, exec_earlyMake_off he hm, rfl, rfl, rfl, rfl⟩, fun hm => ⟨_, exec_earlyMake_on he hm, rfl, rfl, rfl, rfl⟩⟩,
    fun s t hr hm hb he h0 hd => ⟨_, exec_reinserted_due hr hm hb he h0 hd, rfl⟩, fun s t hu hm => ⟨?removed, ?inserted⟩⟩
  case partner => exact ⟨_, exec_bootEnd hm hc hd, State.bootEnd_partner (s := s.advance t) hf hp⟩
  case alone => exact ⟨_, exec_bootEnd hm hc hd, State.bootEnd_alone (s := s.advance t) hf hp⟩
  case charged => exact completes_of_exec (exec_holdupCharged hm true) (if_pos rfl) ⟨rfl, rfl, rfl, rfl⟩
  case uncharged =>
    exact completes_of_exec (exec_holdupCharged hm false) (if_neg (by decide))
      ⟨((s.advance t).note_only 0xF 0 []).1, State.record_power .., State.record_mode ..⟩
  case removed =>
    have only := (s.advance t).withoutSim.note_only 0xD 3 []
    obtain ⟨registered, bearer⟩ := (s.advance t).withoutSim_shows
    refine ⟨_, exec_simRemoved hu hm, (congrArg PowerSt.sim (State.record_power ..)).trans (State.withoutSim_sim _), ?_, ?_,
      (((s.advance t).withoutSim_kept).mono (fun _ => List.mem_append_left _)).only only (fun _ => List.mem_append_right _)⟩
    · exact (State.note_reg _ _ _ _ _ _ (by decide) (by decide)).trans registered
    · rw [State.flag, State.note_reg _ _ _ _ _ _ (by decide) (by decide), bearer]
      rfl
  case inserted =>
    refine ⟨_, exec_simInserted hu hm, congrArg PowerSt.sim (State.sense_power ..), State.reg_sense _ _ (by decide), ?_, State.sense_recorder ..⟩
    exact (s.regsKeptBut_of_regs (s' := { s.advance t with power := { s.power with sim := true } }) _ rfl).sense (by simp) (by decide)

end Sys2Proof.Machine
